-- ==== Sys2Proof/Word.lean ====
section
/-! DEFINITION. The word types of the model, and the two shapes that every sparse table of the state shares. -/

namespace Sys2Proof

abbrev Byte := BitVec 8
abbrev W16 := BitVec 16
abbrev W32 := BitVec 32
abbrev W64 := BitVec 64

/-- A byte string, first byte at the lowest address (R15). -/
abbrev Bytes := List Byte

end Sys2Proof
end

