-- ==== Sys2Proof/Syntax.lean ====
section
/-! DEFINITION. The commands of the block: one constructor of Instr for each row of the table of operations and events,
with the operands the rules give it. What the rules leave to the physical world (an upset, a late beat, a reading
of a sensor, bytes that the host or another seat sends) comes in as an operand of the command that meets it. -/

namespace Sys2Proof

/-! ## Operands shared by several rows -/

/-- What a SECDED or symbol check reports of one read (R77, R118, R151, R228). -/
inductive Ecc where
  | ok
  | corrected
  | double
  deriving DecidableEq, Repr

/-- Who makes an access (R554): the host through PCIE_A, the supervisor, the management controller, the debug port. -/
inductive Agent where
  | host
  | supervisor
  | mgmt
  | tap
  deriving DecidableEq, Repr

/-- A transport of the management interface (R489). -/
inductive Transport where
  | i3c
  | ethernet
  | doe
  deriving DecidableEq, Repr

/-- Where one instruction is decoded: the tile, the context, what the instruction memory's ECC reports (R151), and the
beats for which the tile held its issue before it (R86, R148). -/
structure Site where
  tile : Nat
  side : Bool
  fetch : Ecc
  late : Nat
  deriving DecidableEq, Repr

/-- The operand bits [53:0] of a scalar or control word (R156): GD, GA, GB, the reserved bits [38:32], and IMM, whose
bits [13:0] are the target of a branch. -/
structure SFmt where
  gd : BitVec 5
  ga : BitVec 5
  gb : BitVec 5
  rsv : BitVec 7
  imm : BitVec 32
  deriving DecidableEq, Repr

/-- The operand bits [53:0] of MRUN (R157). -/
structure MRunF where
  dt : BitVec 8
  fmt : BitVec 5
  buf : BitVec 1
  bank : BitVec 3
  entry : BitVec 6
  first : BitVec 1
  last : BitVec 1
  dst : BitVec 1
  zfill : BitVec 1
  bub : BitVec 1
  nm1 : BitVec 9
  ga : BitVec 5
  gs : BitVec 5
  rsv : BitVec 7
  deriving DecidableEq, Repr

/-- The operand bits [53:0] of MFILL (R157). -/
structure MFillF where
  dt : BitVec 8
  fmt : BitVec 5
  buf : BitVec 1
  src : BitVec 3
  mm : BitVec 3
  rsvA : BitVec 17
  ga : BitVec 5
  rsvB : BitVec 12
  deriving DecidableEq, Repr

/-- The operand bits [53:0] of MOWN (R157). -/
structure MOwnF where
  dt : BitVec 8
  rsvA : BitVec 5
  buf : BitVec 1
  rsvB : BitVec 40
  deriving DecidableEq, Repr

/-- The operand bits [53:0] of a vector word (R160). In the conversion format vb is VS, vc is SRCF, vx is DSTF and vy
is CTL. -/
structure VFmt where
  dt : BitVec 8
  vd : BitVec 5
  va : BitVec 5
  vb : BitVec 5
  vc : BitVec 5
  vx : BitVec 5
  msk : BitVec 3
  z : BitVec 1
  vy : BitVec 8
  slot : BitVec 4
  part : BitVec 3
  low : BitVec 2
  deriving DecidableEq, Repr

/-- The operand bits [53:0] of LD and ST (R162). -/
structure LFmt where
  dt : BitVec 8
  v : BitVec 5
  ga : BitVec 5
  off : BitVec 20
  rsv : BitVec 16
  deriving DecidableEq, Repr

/-- The operand bits [53:0] of SEND, RECV and POTS (R162); mode and gl are reserved in SEND and RECV. -/
structure XFmt where
  dt : BitVec 8
  ga : BitVec 5
  off : BitVec 20
  nfm1 : BitVec 10
  mode : BitVec 1
  gl : BitVec 5
  low : BitVec 5
  deriving DecidableEq, Repr

/-- The operand bits [53:0] of TRICK (R162). -/
structure TFmt where
  dt : BitVec 8
  ga : BitVec 5
  gd : BitVec 5
  fn : BitVec 4
  tree : BitVec 8
  rsv : BitVec 24
  deriving DecidableEq, Repr

/-- A hardware upset that meets one step or operation, in the shape of FB_TILE_INJ (R128). -/
structure Upset where
  target : BitVec 2
  lane : BitVec 7
  bit : BitVec 5
  persist : Bool
  deriving DecidableEq, Repr

/-- How a packet of the trump network comes to a node: the node, how often in a row it found a parity error in one word of it (R200), and the KIND
that word 0 shows it (R201). -/
structure Hop where
  node : Nat
  perr : Nat
  kind : BitVec 4
  deriving DecidableEq, Repr

/-- A packet of the trump network as it comes: its value (a tick, a cause, a count of beats) and how it came. -/
structure TrumpPkt where
  arg : Nat
  hop : Hop
  deriving DecidableEq, Repr

/-- A 512-bit flit with its sideband fields (R169). -/
structure Flit where
  data : BitVec 512
  poison : Bool
  crc : BitVec 16
  deriving DecidableEq, Repr

/-- What the host's memory answers to a read by the module (R394, R399). -/
inductive HostErr where
  | none
  | timeout
  | unsupported
  | abort
  | poisoned
  | reset
  deriving DecidableEq, Repr

/-- Bytes that the host supplies for one descriptor. `dirty` names the byte offsets of poisoned host data. -/
structure HostIn where
  bytes : Bytes
  err : HostErr
  dirty : List Nat
  deriving DecidableEq, Repr

/-- What the symbol code reports while a reader goes over lines: lines corrected, and lines newly found
uncorrectable (R228, R229), as line numbers of the stack or the slice; where the reader uses device addresses, as device
addresses div 64, and of a tile's SRAM the 64-bit words newly found uncorrectable (R118, R120), as device addresses div 8. -/
structure LineEcc where
  ce : List Nat
  ue : List Nat
  words : List Nat
  deriving DecidableEq, Repr

/-- A round or a stack that a command names, and what the code reports over the lines read for the command. -/
structure EccAt where
  at_ : Nat
  ecc : LineEcc
  deriving DecidableEq, Repr

/-- What the code reports over lines that several positions read, by position. -/
abbrev SeatEcc := List (Nat × LineEcc)

/-- Where a correction is delivered (R306), and what the code reports over the crib lines read for it. -/
structure CorrAt where
  pos : Nat
  ecc : SeatEcc
  deriving DecidableEq, Repr

/-- A RENEGE packet of the trump network (R307, R368): its layer, the round that it concerns (log 42), how it came, and what the code reports over
the crib lines read for it. -/
structure RenegePkt where
  layer : Nat
  round : Nat
  hop : Hop
  ecc : SeatEcc
  deriving DecidableEq, Repr

/-- The seat that a flooded renege names (R368), the round that it concerns (log 42), and what the code reports over the crib lines read for it. -/
structure RenegeBy where
  seat : Nat
  round : Nat
  ecc : SeatEcc
  deriving DecidableEq, Repr

/-- A stream descriptor (R234). -/
structure SDesc where
  kind : BitVec 8
  flags : BitVec 8
  ports : BitVec 8
  ctl : BitVec 8
  srcf : BitVec 8
  dstf : BitVec 8
  rept : BitVec 16
  addr : BitVec 64
  addr2 : BitVec 64
  stride : BitVec 32
  stride2 : BitVec 32
  mask : BitVec 128
  count : BitVec 32
  tensor : BitVec 32
  shard : BitVec 32
  wait : BitVec 32
  deriving DecidableEq, Repr

/-- A contribution packet header without its CRC (R289). -/
structure CHdr where
  typ : BitVec 8
  flags : BitVec 8
  epoch : BitVec 8
  gl : BitVec 8
  seat : BitVec 16
  tile : BitVec 16
  hand : BitVec 64
  pot : BitVec 32
  layer : BitVec 16
  round : BitVec 16
  start : BitVec 64
  count : BitVec 32
  cstack : BitVec 8
  crec : BitVec 32
  mask : BitVec 128
  deriving DecidableEq, Repr

/-- A contribution packet or subpacket: header, payload, the CRC it carries, and whether a flit of it was poisoned. -/
structure CPkt where
  hdr : CHdr
  payload : Bytes
  crc : BitVec 32
  poison : Bool
  deriving DecidableEq, Repr

/-- The gate record (R320). -/
structure GateRec where
  hand : BitVec 64
  flags : BitVec 32
  contrib : BitVec 16
  seats : BitVec 16
  reneges : BitVec 32
  rounds : BitVec 32
  lnorm : BitVec 64
  rnorm : BitVec 64
  k : BitVec 32
  lr : BitVec 32
  step : BitVec 64
  decision : BitVec 8
  cause : BitVec 8
  crc : BitVec 32
  deriving DecidableEq, Repr

/-- A packet header on a link with the class and lane of its slots (R354, R359) and the port it came in on. -/
structure LHdr where
  port : Nat
  cls : Nat
  vl : Nat
  dest : Nat
  src : Nat
  typ : Nat
  hops : Nat
  len : Nat
  tgen : BitVec 32
  deriving DecidableEq, Repr

/-- The payload of GATHER_REQ, and the 24 bytes that GATHER_RSP and PARKED repeat (R360). -/
structure GReq where
  hand : BitVec 64
  shard : BitVec 32
  first : Nat
  lines : Nat
  pos : Nat
  tag : BitVec 32
  deriving DecidableEq, Repr

/-- A gather request as it is served: what it asks for, and what the code reports over the lines read for it. -/
structure GServe where
  req : GReq
  ecc : LineEcc
  deriving DecidableEq, Repr

/-- The trailer of a received frame with the outcome of its CRC, and how many chunks of each pair 2 × class + VL its valid slots carry
(R354, R357). -/
structure FrameIn where
  crcOk : Bool
  seq : Nat
  nak : Bool
  idle : Bool
  ack : Nat
  credit : BitVec 32
  chunks : List (Nat × Nat)
  deriving DecidableEq, Repr

/-- One block's answer in one round of the call (R449). A block that the list does not name answers ACCEPT, unless
the state makes it refuse. -/
inductive CallAns where
  | delay (ms : Nat)
  | refuse (reason : Nat)
  | silent
  deriving DecidableEq, Repr

/-- One call (R449): for each of its rounds the blocks that did not accept; and, where the transition leaves IDLE, what the unfold test of
R447 finds: links that fail (field, link index), tiles that it finds not good (tile, 1 PASS or 2 HOLE) and fields whose fuse trips. -/
structure CallIn where
  rounds : List (List (Nat × CallAns))
  unfoldFails : List (Nat × Nat)
  unfoldBad : List (Nat × Nat)
  unfoldTrips : List Nat
  deriving DecidableEq, Repr

/-- How the lanes of a port fare in training (R351): the failing step of each attempt (0 none), the lanes that failed
the error check, precoding, the worst lane's errors, and the peer's HELLO. -/
structure TrainIn where
  fails : List Nat
  badLanes : BitVec 8
  precode : Bool
  ber : BitVec 16
  powerClass : Nat
  deriving DecidableEq, Repr

/-- The fields of a HELLO (R353). -/
structure HelloIn where
  tableId : BitVec 64
  tgen : BitVec 32
  rank : Nat
  seats : Nat
  port : Nat
  deriving DecidableEq, Repr

/-- A deal descriptor's fields (R396). -/
structure DealD where
  imageId : BitVec 64
  batchHost : BitVec 64
  batchDev : BitVec 64
  batchLen : BitVec 32
  mbCount : BitVec 16
  dflags : BitVec 16
  deriving DecidableEq, Repr

/-- The header of a submission descriptor that the module fetched, with the position of its first nonzero reserved
byte, if any (R392, R393). -/
structure DHdr where
  q : Nat
  flags : BitVec 8
  cid : BitVec 16
  rsvBad : Option Nat
  deriving DecidableEq, Repr

/-- What a firmware image in staging or in a bank shows to the checks of R507 and R508. -/
structure FwImage where
  fmtOk : Bool
  slot : BitVec 2
  advance : Bool
  fwver : BitVec 32
  svn : Nat
  revoke : BitVec 4
  keyHash : BitVec 256
  sigOk : Bool
  body : Bytes
  deriving DecidableEq, Repr

/-- What the outside decides during a hand boundary (R30): whether the switched firmware reports ready, the tiles whose
words fail their patterns (R120), the rows (position, bank, row) that fail theirs with whether a spare is left (R231), the
links that fail an unfold test (field, link), the tiles that it finds not good (tile, 1 PASS or 2 HOLE), the fields whose fuse trips during
an unfold, and what the code will report over the lines that the full deal and the push after the new hand read, of position k under 2 × k from its
slice and 2 × k + 1 from its stack. -/
structure BoundaryIn where
  fwReady : Bool
  tileFails : List Nat
  rowFails : List (Nat × Nat × Nat × Bool)
  unfoldFails : List (Nat × Nat)
  unfoldBad : List (Nat × Nat)
  unfoldTrips : List Nat
  exports : SeatEcc
  deriving DecidableEq, Repr

/-- The verdicts that the neighbour test collects (R191, R192): tiles that declare themselves bad, directed link
failures (link index), wrong signatures (tile, partner port 0 N 1 E 2 S 3 W), tiles whose straight paths failed. -/
structure NtIn where
  selfBad : List Nat
  linkFail : List Nat
  sigFail : List (Nat × Nat)
  pathFail : List Nat
  deriving DecidableEq, Repr

/-- A reading of the sensors that thermal protection uses (R460), as temperature × 4: junction sensor j of field n under 4 n + j, near
stack k under k, far device d under d, the I/O ring. -/
structure SensorIn where
  field : List (Nat × Int)
  near : List (Nat × Int)
  far : List (Nat × Int)
  ring : Int
  deriving DecidableEq, Repr

/-- A token shifted in by UNLOCK (R517) and what its checks find. -/
structure TokenIn where
  fmtOk : Bool
  slot : BitVec 2
  rights : BitVec 8
  serial : BitVec 64
  nonce : BitVec 256
  lifetime : BitVec 32
  keyHash : BitVec 256
  sigOk : Bool
  deriving DecidableEq, Repr

/-- A ledger record to write: its type, its payload, and whether its header and marker read back (R522, R523). -/
structure LedgerIn where
  typ : BitVec 16
  payload : Bytes
  readsBack : Bool
  deriving DecidableEq, Repr

/-! ## The commands -/

/-- The commands, in the order of the table. -/
inductive Instr where
  -- hand
  | handBoundary (b : BoundaryIn)
  | handWatchdog
  -- scalar and control instructions
  | add (at_ : Site) (f : SFmt)
  | sub (at_ : Site) (f : SFmt)
  | and (at_ : Site) (f : SFmt)
  | or (at_ : Site) (f : SFmt)
  | xor (at_ : Site) (f : SFmt)
  | shl (at_ : Site) (f : SFmt)
  | shr (at_ : Site) (f : SFmt)
  | sar (at_ : Site) (f : SFmt)
  | mul (at_ : Site) (f : SFmt)
  | addi (at_ : Site) (f : SFmt)
  | li (at_ : Site) (f : SFmt)
  | ldw (at_ : Site) (f : SFmt) (ecc : Ecc)
  | stw (at_ : Site) (f : SFmt) (ecc : Ecc)
  | mfs (at_ : Site) (f : SFmt)
  | beq (at_ : Site) (f : SFmt)
  | bne (at_ : Site) (f : SFmt)
  | blt (at_ : Site) (f : SFmt)
  | bltu (at_ : Site) (f : SFmt)
  | jmp (at_ : Site) (f : SFmt)
  | loop (at_ : Site) (f : SFmt)
  | waitb (at_ : Site) (f : SFmt)
  | phase (at_ : Site) (f : SFmt)
  | wopen (at_ : Site) (f : SFmt)
  | wclose (at_ : Site) (f : SFmt)
  | sigchk (at_ : Site) (f : SFmt)
  | endOp (at_ : Site) (f : SFmt)
  | nop (at_ : Site) (f : SFmt)
  -- matrix
  | mrun (at_ : Site) (f : MRunF) (ecc bufEcc : Ecc) (ups : List (Nat × Upset))
  | mfill (at_ : Site) (f : MFillF) (ecc : Ecc)
  | mown (at_ : Site) (f : MOwnF)
  | queueSlotFreed (tile : Nat) (side : Bool)
  | fillBufferRelease (tile : Nat) (buf : BitVec 1)
  -- vector
  | vAdd (at_ : Site) (f : VFmt) (up : Option Upset)
  | vSub (at_ : Site) (f : VFmt) (up : Option Upset)
  | vMul (at_ : Site) (f : VFmt) (up : Option Upset)
  | vFma (at_ : Site) (f : VFmt) (up : Option Upset)
  | vMin (at_ : Site) (f : VFmt) (up : Option Upset)
  | vMax (at_ : Site) (f : VFmt) (up : Option Upset)
  | vAbs (at_ : Site) (f : VFmt) (up : Option Upset)
  | vNeg (at_ : Site) (f : VFmt) (up : Option Upset)
  | vDiv (at_ : Site) (f : VFmt) (up : Option Upset)
  | vSqrt (at_ : Site) (f : VFmt) (up : Option Upset)
  | vRcp (at_ : Site) (f : VFmt) (up : Option Upset)
  | vRsq (at_ : Site) (f : VFmt) (up : Option Upset)
  | vEq (at_ : Site) (f : VFmt)
  | vLt (at_ : Site) (f : VFmt)
  | vLe (at_ : Site) (f : VFmt)
  | vUnord (at_ : Site) (f : VFmt)
  | iadd (at_ : Site) (f : VFmt) (up : Option Upset)
  | isub (at_ : Site) (f : VFmt) (up : Option Upset)
  | iand (at_ : Site) (f : VFmt) (up : Option Upset)
  | ior (at_ : Site) (f : VFmt) (up : Option Upset)
  | ixor (at_ : Site) (f : VFmt) (up : Option Upset)
  | ishl (at_ : Site) (f : VFmt) (up : Option Upset)
  | ishr (at_ : Site) (f : VFmt) (up : Option Upset)
  | isar (at_ : Site) (f : VFmt) (up : Option Upset)
  | imin (at_ : Site) (f : VFmt) (up : Option Upset)
  | imax (at_ : Site) (f : VFmt) (up : Option Upset)
  | rsum (at_ : Site) (f : VFmt) (up : Option Upset)
  | rmax (at_ : Site) (f : VFmt) (up : Option Upset)
  | ramax (at_ : Site) (f : VFmt) (up : Option Upset)
  | cvt (at_ : Site) (f : VFmt) (up : Option Upset)
  | mov (at_ : Site) (f : VFmt) (up : Option Upset)
  | sel (at_ : Site) (f : VFmt) (up : Option Upset)
  | perm (at_ : Site) (f : VFmt) (up : Option Upset)
  | bcast (at_ : Site) (f : VFmt) (up : Option Upset)
  | draw (at_ : Site) (f : VFmt) (up : Option Upset)
  | qpop (at_ : Site) (f : VFmt) (up : Option Upset)
  -- memory, mesh and trump instructions
  | ld (at_ : Site) (f : LFmt) (ecc : Ecc) (up : Option Upset)
  | st (at_ : Site) (f : LFmt)
  | send (at_ : Site) (f : XFmt) (ecc : Ecc)
  | recv (at_ : Site) (f : XFmt)
  | pots (at_ : Site) (f : XFmt) (ecc : Ecc)
  | trick (at_ : Site) (f : TFmt)
  -- tile events
  | patrolScrub (tile : Nat) (corrected : List Nat)
  | externalAccess (who : Agent) (tile : Nat) (off : Nat) (write : Option Bytes) (len : Nat) (ecc : Ecc)
  | fbTileInj (who : Agent) (tile : Nat) (v : W32)
  | correctionDelivery (tile : Nat) (pos : CorrAt)
  -- descriptors and doorbells
  | load (d : DHdr) (hostAddr length : W64) (img : HostIn)
  | unload (d : DHdr) (imageId : W64)
  | deal (d : DHdr) (f : DealD) (batch : HostIn)
  | write (d : DHdr) (hostAddr devAddr length : W64) (data : HostIn)
  | read (d : DHdr) (hostAddr devAddr length : W64) (ecc : LineEcc) (err : HostErr)
  | copy (d : DHdr) (srcRank : Nat) (srcAddr dstAddr : W64) (lines : Nat)
  | copyTimeout (q : Nat) (cid : BitVec 16)
  | descNop (d : DHdr)
  | sqDoorbell (q : Nat) (v : W32)
  | cqDoorbell (q : Nat) (v : W32)
  | exportDoorbell (ring : Nat) (v : W32)
  | ringEnable (who : Agent) (ring : Nat) (v : W32)
  | ringDisable (who : Agent) (ring : Nat) (v : W32)
  | censusRingWrite
  | deltaRingWrite
  | coalTimer (ring : Nat)
  | msixUnmask (vec : Nat)
  | apertureRead (off size : Nat) (ecc : LineEcc)
  | apertureWrite (off size : Nat) (v : W64)
  | apertureReadTimeout (off : Nat)
  -- mailboxes
  | mbH2sSend (pair : Nat) (w : W64)
  | mbS2hSend (pair : Nat) (w : W64)
  | mbH2sAck (pair : Nat) (code : BitVec 16)
  | mbS2hAck (pair : Nat) (code : BitVec 16)
  | mbTimeout (pair : Nat) (fromSupv : Bool)
  -- PCIe
  | flrPcieA
  | flrPcieB
  | perstAssert (ep : BitVec 1)
  | perstRelease (ep : BitVec 1)
  | pcieLinkChange (ep : BitVec 1) (speed width : Nat)
  -- mesh
  | routerEntry (tile : Nat)
  | flitReceive (tile port : Nat) (side : Bool) (err : BitVec 528)
  | flitRefusal (tile port : Nat) (side near : Bool)
  | seamTimeout (link : Nat)
  | ntStart (who : Agent) (r : NtIn)
  -- trump network
  | stop (cause : TrumpPkt)
  | stall (cause : Nat) (tick : TrumpPkt)
  | unstall (tick : TrumpPkt)
  | start (tick : TrumpPkt)
  | freeze (target : Nat) (hop : Hop)
  | step (n : TrumpPkt)
  | thaw (tick : TrumpPkt)
  | flag (tile : Nat) (flags : BitVec 3) (hop : Hop)
  | renege (seat tile : Nat) (layer : RenegePkt)
  | contrib (tree : Nat) (member : Nat) (fn : BitVec 4) (v : W32) (hop : Hop)
  | result (tree : Nat) (hop : Hop)
  | trickTimeout (tree : Nat)
  | cmdFreeze (who : Agent) (v : W32) (gather : Hop)
  | cmdStep (who : Agent) (v : W32)
  | cmdThaw (who : Agent) (v : W32)
  | cmdStall (who : Agent) (v : W32)
  | cmdUnstall (who : Agent) (v : W32)
  | cmdStop (who : Agent) (v : W32)
  -- dealers and memories
  | weight (pos : Nat) (d : SDesc) (ecc : LineEcc)
  | lines (pos : Nat) (d : SDesc) (ecc : LineEcc)
  | store (pos : Nat) (d : SDesc)
  | gather (pos : Nat) (d : SDesc)
  | stockIn (pos : Nat) (d : SDesc) (ecc : LineEcc)
  | stockOut (pos : Nat) (d : SDesc) (ecc : LineEcc)
  | gatherTimeout (pos : Nat) (tag : W32)
  | nearScrub (pos : Nat) (ecc : LineEcc)
  | stockScrub (far : Nat) (ecc : LineEcc) (ecc2 : LineEcc)
  -- numerics
  | censusCollect
  -- reduction
  | contribPacket (pos : Nat) (p : CPkt)
  | accFp32 (pos : Nat) (p : CPkt)
  | accDrain (pos : Nat) (p : CPkt)
  | accOnebit (pos : Nat) (p : CPkt)
  | sealRound (pos pot : Nat) (round : EccAt)
  | roundTimeout (pos pot round : Nat)
  -- gate and sweep
  | gateContribute (waited : Bool)
  | gateDecide (r : GateRec)
  | sweepStart
  | sweepTimeout
  | fullDeal
  | pushStart
  | pushLate
  | go (who : Agent)
  -- links
  | portEnable (who : Agent) (port : Nat) (v : W32) (t : TrainIn)
  | retrain (who : Agent) (port : Nat) (t : TrainIn)
  | portDown (port cause : Nat)
  | frameReceive (port : Nat) (f : FrameIn)
  | frameResendTimer (port : Nat)
  | packetForward (h : LHdr) (body : Bytes)
  | gatherReq (h : LHdr) (r : GServe)
  | gatherRsp (h : LHdr) (r : GReq) (version poison : W64) (data : Bytes)
  | parked (h : LHdr) (r : GReq)
  | parkTimeout (pos : Nat) (tag : W32)
  | copyReq (h : LHdr) (addr : W64) (lines : Nat) (tag : W32) (ecc : LineEcc)
  | copyRsp (h : LHdr) (addr : W64) (lines : Nat) (tag : W32) (poison : W64) (data : Bytes)
  | linkContrib (h : LHdr) (p : CPkt)
  | mirrorPot (h : LHdr) (hand : W64) (pot stack : Nat) (off : W64) (data : Bytes)
  | push (h : LHdr) (hand : W64) (pos space : Nat) (off version : W64) (data : Bytes) (total : Nat) (sum : W64)
  | pushAck (h : LHdr) (hand : W64) (pos status : Nat) (sum : W64)
  | sealNotice (h : LHdr) (hand : W64) (pot round stack : Nat)
  | resendReq (h : LHdr) (hand : W64) (crec : W32) (cstack : EccAt)
  | mirrorSum (h : LHdr) (hand : W64) (pot : Nat) (sum : W64)
  | hello (h : LHdr) (m : HelloIn)
  | trickUp (h : LHdr) (tree : Nat) (fn : BitVec 4) (inst : Nat) (v : W32) (rec : Option GateRec)
  | trickRes (h : LHdr) (tree : Nat) (fn : BitVec 4) (inst : Nat) (v : W32) (rec : Option GateRec)
  | linkRenege (h : LHdr) (hand : W64) (layer tile : Nat) (seat : RenegeBy)
  | linkMisdeal (h : LHdr) (hand : W64) (origin cause : Nat)
  | tableTrickTimeout (tree : Nat)
  | commit (who : Agent) (results : List (Nat × Option W32))
  | startUpSoak (port : Nat) (pass : Bool) (t : TrainIn)
  | periodicRetrain (ts : List (Nat × TrainIn))
  -- clocks
  | xtalWindow (c : Nat)
  | xtalFixedCount (c : Nat)
  | xtalLost
  | sourceSwitch (d : Nat) (src : BitVec 2)
  | pllUnlock (d : Nat)
  | pllRelock (d us : Nat)
  | relockFail (d : Nat)
  | throttleChange
  | ckSscWrite (who : Agent) (v : W32)
  | sscChange
  | freqGate (counts : List (Nat × Nat))
  | enableSet (who : Agent) (reg : Nat) (v : W32)
  | enableClear (who : Agent) (reg : Nat) (v : W32)
  -- power
  | pwCmdRun (who : Agent) (c : CallIn)
  | pwCmdHold (who : Agent) (c : CallIn)
  | pwCmdIdle (who : Agent) (c : CallIn)
  | pwCmdWatch (who : Agent) (c : CallIn)
  | watchSample (volts temp : Int) (leak : Bool)
  | breachWaitTimeout
  | wakeI3c
  | wakeMailbox
  | wakeWaken
  | converterStart
  | vinHigh (cv : Nat)
  | sag (cv : Nat)
  | sagEnd (us lowest : Nat)
  | supplyReset (cv : Nat)
  | overvolt (cv : Nat)
  | inputOff
  | overcurrent
  | capSample (watts da cv : Nat)
  | convFail (i cause : Nat)
  | fuseTrip (field cause peak : Nat)
  | hotTrip (field : Nat) (q4 : Int)
  | sensorRead (r : SensorIn)
  | thermStep
  | foldreqCool (field : Nat)
  | leak
  -- supervisor
  | supvEcc (addr : W64)
  | supvCflow (addr : W64)
  | supvWdog
  | kick (who : Agent)
  | supervisorBack
  | fatal (code origin : Nat)
  | pldmEventAck (seq : W32)
  -- management services
  | info (pair : Nat) (arg : BitVec 56)
  | fwStage (pair : Nat) (arg : BitVec 56) (via : Transport)
  | fwStageDone (pair : Nat) (img : FwImage)
  | fwSwitch (pair : Nat) (arg : BitVec 56) (via : Transport)
  | fwCancel (pair : Nat) (arg : BitVec 56) (via : Transport)
  | fwFallback
  | dumpInfo (pair : Nat) (arg : BitVec 56)
  | dumpClear (pair : Nat) (arg : BitVec 56) (via : Transport)
  | power (pair : Nat) (arg : BitVec 56) (via : Transport) (c : CallIn)
  | leakClear (pair : Nat) (arg : BitVec 56) (via : Transport) (sensed : Bool)
  | supvReset (pair : Nat) (arg : BitVec 56) (via : Transport)
  | moduleReset (pair : Nat) (arg : BitVec 56) (via : Transport)
  -- MCTP, PLDM, SPDM, I3C
  | setEndpointId (via : Transport) (eid : Byte)
  | getEndpointId (via : Transport)
  | getMctpVersionSupport (via : Transport) (typ : Byte)
  | getMessageTypeSupport (via : Transport)
  | getVendorDefinedMessageSupport (via : Transport) (sel : Byte)
  | setEventReceiver (via : Transport) (receiver : Byte)
  | pldmSensorRead (via : Transport) (kind index : Nat)
  | pldmFwUpdate (via : Transport) (img : FwImage)
  | getVersion (via : Transport)
  | getCapabilities (via : Transport)
  | negotiateAlgorithms (via : Transport) (rsa3072 sha256 : Bool)
  | getDigests (via : Transport)
  | getCertificate (via : Transport) (slot : Nat) (off len : Nat)
  | spdmChallenge (via : Transport) (slot : Nat) (nonce : Bytes)
  | getMeasurements (via : Transport) (index : Nat)
  | keyExchange (via : Transport) (exchange : Bytes)
  | finish (via : Transport) (ok : Bool)
  | entdaa (addr : BitVec 7)
  | i3cTimeout
  | i3cSclLow
  -- security
  | coldBoot (bank0 bank1 : Option FwImage) (sfdpOk : Bool)
  | enroll (who : Agent) (v : W32) (keyOk : Bool)
  | remove (who : Agent) (v : W32)
  | require (who : Agent) (v : W32)
  | unrequire (who : Agent) (v : W32)
  | lockPolicy (who : Agent) (v : W32)
  | unlockpol (who : Agent) (v : W32)
  -- debug port
  | idcode
  | challenge
  | unlock (t : TokenIn)
  | tokenVerified
  | tapStatus
  | bypass (bit : BitVec 1)
  | dapNop
  | dapRead (size space : BitVec 4) (addr : BitVec 48) (ecc : LineEcc)
  | dapWrite (size space : BitVec 4) (addr : BitVec 48) (data : W64)
  | dbLock (who : Agent)
  | lifetimeExpire
  | supvHalt (who : Agent)
  | supvResume (who : Agent)
  | supvStep (who : Agent)
  | supvBreakpoint (addr : BitVec 48)
  | tileBreakpoint (tile : Nat) (side : Bool) (pc : BitVec 14)
  -- ledger
  | ledgerWrite (r : LedgerIn)
  | compact (who : Agent)
  -- start-up and pins
  | alwaysOnPowerUp (fixedPinLow : Bool)
  | fieldPowerUp (inletQ4 : Int) (trips : List Nat)
  | busSenseOpen (cv : Nat)
  | busSenseClose
  | modResetAssert
  | modResetRelease
  | registerWrite (who : Agent) (off : Nat) (v : W32)
  | pluggableReplaced (port : Nat) (t : TrainIn)
  | tapReset (trstN : Bool)
  | ethernetLinkChange (up : Bool)
  | positionFailure (pos cause : Nat)
  | completionTimeout (d : DHdr) (hostAddr : W64)
  | busMasterEnable (ep : BitVec 1) (on : Bool)
  | carrierWait (cause : Nat)
  | memoryTrainingDone (nearFail farFail : List Nat)
  deriving DecidableEq, Repr

end Sys2Proof
end

