-- ==== Sys2Proof/Decode.lean ====
section
/-! DEFINITION. The command that a word spells. No row of the command table gives bits, so no word spells a command (log 1). -/

namespace Sys2Proof

/-- The command that the `nbits` bits of `w` spell: the table gives no row any bits, so there is none. -/
def decodeTableWord (nbits w : Nat) : Option Instr :=
  match nbits, w with
  | _, _ => none

end Sys2Proof
end

