-- ==== Sys2Proof/Config.lean ====
section
/-! DEFINITION. What the specification leaves open: values that no rule states, as constants without a body. No proof can see
what they are, so a claim holds whatever they are. The first argument of a drawn value is the count of values drawn before it
(the field `free` of the state). -/

namespace Sys2Proof.Config

/-- The n-th word that a rule leaves open and that a run draws (log 3). -/
opaque freeWord : Nat → W32

/-- The n-th 64-bit value that a rule leaves open and that a run draws (log 3). -/
opaque freeLong : Nat → W64

/-- The n-th byte that a rule leaves open and that a run draws (log 3). -/
opaque freeByte : Nat → Byte

/-- What an accumulator entry that no step has written since a sweep START holds (R327): by the START, the tile's entry and
the lane, 128 for the checker entry, 129 for the magnitude entry, 130 for the step count. -/
opaque freeAcc : Nat → Nat → Nat → W32

/-- SHA-256 (R507, R514, R522): the manual names the function and does not define it (log 20). -/
opaque sha256 : Bytes → BitVec 256

/-- The verdict of an RSA-PSS check over a digest with a signature under a key modulus (R506, R512). -/
opaque rsaOk : Bytes → BitVec 256 → Bytes → Bool

/-- The RSA-PSS signature that the module makes over a digest with its identity key (R492). -/
opaque rsaSign : BitVec 256 → Bytes

/-- The bytes of a section of the misdeal dump whose layout the manual only bounds (R485): by section type and draw. -/
opaque dumpSection : Nat → Nat → Bytes

/-- Whether the geometry table takes, between paths of equal latency and port, the one with fewer routers (R198). -/
opaque geomFewerHops : Bool

/-- The stepping of this part (HI_ID, R421). -/
opaque stepping : Byte

/-- The serial number of this part (R504). -/
opaque serial : W64

/-- The SHA-256 digest of the boot ROM (R515), which the manual does not give. -/
opaque romDigest : BitVec 256

/-- The certificate chain of the module's identity (R514), which the manual describes and does not give. -/
opaque certChain : Bytes

/-- The payload of the IDENTITY record that the first boot in MANUFACTURE commits (R514), whose key is drawn on the die. -/
opaque identityRecord : Bytes

end Sys2Proof.Config
end

