-- ==== Sys2Proof/Machine/Bits.lean ====
section
/-! DEFINITION. Bit fields, little-endian byte strings (R15) and the three cyclic redundancy checks of the manual. -/

namespace Sys2Proof.Machine

/-- Bits [lsb + n − 1 : lsb] of a number. -/
def bitsOf (v lsb n : Nat) : Nat := v / 2 ^ lsb % 2 ^ n

/-- Whether bit `i` of a number is 1. -/
def bitOf (v i : Nat) : Bool := v / 2 ^ i % 2 == 1

/-- Replace bits [lsb + n − 1 : lsb] of a number. -/
def setBits (v lsb n x : Nat) : Nat :=
  v - bitsOf v lsb n * 2 ^ lsb + x % 2 ^ n * 2 ^ lsb

/-- A Bool as a bit. -/
def b2n (b : Bool) : Nat := if b then 1 else 0

/-- Sign-extension of the low `n` bits of a number. -/
def signed (v n : Nat) : Int :=
  let x := v % 2 ^ n
  if x < 2 ^ (n - 1) then (x : Int) else (x : Int) - 2 ^ n

/-- The low `n` bits of an integer in two's complement. -/
def toBits (x : Int) (n : Nat) : Nat := (x % (2 ^ n : Nat)).toNat

/-- `n` bytes of a number, lowest first (R15). -/
def leBytes (n v : Nat) : Bytes :=
  match n with
  | 0 => []
  | k + 1 => BitVec.ofNat 8 v :: leBytes k (v / 256)

/-- The number that bytes spell, lowest first (R15). -/
def leNat : Bytes → Nat
  | [] => 0
  | b :: t => b.toNat + 256 * leNat t

/-- `n` bytes of a string from offset `o`; beyond its end they read 0. -/
def slice (b : Bytes) (o n : Nat) : Bytes :=
  let x := (b.drop o).take n
  x ++ List.replicate (n - x.length) 0

/-- The little-endian number in `n` bytes from offset `o`. -/
def field (b : Bytes) (o n : Nat) : Nat := leNat (slice b o n)

/-- `n` zero bytes. -/
def zeros (n : Nat) : Bytes := List.replicate n 0

/-- The indexes of the 1 bits among the low `n` bits of a number, rising. -/
def onesOf (v n : Nat) : List Nat := (List.range n).filter (fun i => bitOf v i)

/-- Round up to a multiple. -/
def roundUp (v m : Nat) : Nat := (v + m - 1) / m * m

/-- One byte into a reflected check of `w` bits. -/
def crcByteR (w : Nat) (poly : BitVec w) (c : BitVec w) (b : Byte) : BitVec w :=
  (List.range 8).foldl (fun c _ => if c.toNat % 2 = 1 then (c >>> 1) ^^^ poly else c >>> 1) (c ^^^ b.setWidth w)

/-- One byte into an unreflected check of `w` bits. -/
def crcByteF (w : Nat) (poly : BitVec w) (c : BitVec w) (b : Byte) : BitVec w :=
  (List.range 8).foldl (fun c _ => if c.msb then (c <<< 1) ^^^ poly else c <<< 1)
    (c ^^^ (b.setWidth w <<< (w - 8)))

/-- CRC-32C continued from an earlier result `s`: polynomial 0x1EDC_6F41, reflected, started at ones and inverted at the end
(R150). -/
def crc32cOn (s : W32) (b : Bytes) : W32 := ~~~ (b.foldl (crcByteR 32 0x82F63B78) (~~~ s))

/-- CRC-32C of a string alone (R150). -/
def crc32c (b : Bytes) : W32 := crc32cOn 0 b

/-- CRC-16 with polynomial 0x8BB7, most significant bit first (R169; log 227). -/
def crc16 (b : Bytes) : W16 := b.foldl (crcByteF 16 0x8BB7) 0

/-- CRC-64 with the ECMA-182 polynomial, most significant bit first (R310). -/
def crc64 (b : Bytes) : W64 := b.foldl (crcByteF 64 0x42F0E1EBA9EA3693) 0

end Sys2Proof.Machine
end

