-- ==== Sys2Proof/Machine/Float.lean ====
section
/-! DEFINITION. Number formats, exact values and rounding (R41 to R71): a value is a sign, a natural number and a power of two,
so that every sum and product is exact until the one rounding that a rule asks for. -/

namespace Sys2Proof.Machine

/-- An exact value: not a number, an infinity, or (−1)^neg × m × 2^e with m = 0 for a signed zero. -/
inductive FV where
  | nan
  | inf (neg : Bool)
  | num (neg : Bool) (m : Nat) (e : Int)
  deriving DecidableEq, Repr

/-! ## Exact arithmetic -/

/-- Negation; a NaN stays one. -/
def FV.neg : FV → FV
  | .nan => .nan
  | .inf n => .inf (!n)
  | .num n m e => .num (!n) m e

/-- Magnitude. -/
def FV.abs : FV → FV
  | .nan => .nan
  | .inf _ => .inf false
  | .num _ m e => .num false m e

/-- m × 2^e as an integer multiple of 2^q, for q ≤ e. -/
def scaleTo (m : Nat) (e q : Int) : Nat := m * 2 ^ (e - q).toNat

/-- The signed integer of a sign and a magnitude. -/
def sgn (neg : Bool) (m : Nat) : Int := if neg then -(m : Int) else (m : Int)

/-- Sum. An exact sum of zero is +0 unless both operands are −0, as IEEE 754 has it under RNE. -/
def FV.add : FV → FV → FV
  | .nan, _ => .nan
  | _, .nan => .nan
  | .inf a, .inf b => if a = b then .inf a else .nan
  | .inf a, .num _ _ _ => .inf a
  | .num _ _ _, .inf b => .inf b
  | .num a m e, .num b n f =>
    if m = 0 ∧ n = 0 then .num (a && b) 0 0
    else
      let q := min e f
      let s := sgn a (scaleTo m e q) + sgn b (scaleTo n f q)
      if s = 0 then .num false 0 0 else .num (decide (s < 0)) s.natAbs q

/-- Product. -/
def FV.mul : FV → FV → FV
  | .nan, _ => .nan
  | _, .nan => .nan
  | .inf a, .inf b => .inf (a != b)
  | .inf a, .num b n _ => if n = 0 then .nan else .inf (a != b)
  | .num a m _, .inf b => if m = 0 then .nan else .inf (a != b)
  | .num a m e, .num b n f => .num (a != b) (m * n) (e + f)

/-- The shift of a dividend that leaves far more quotient bits than any format has. -/
def divGuard : Nat := 96

/-- Quotient: exact, or cut off far below every rounding position with a last bit that says bits were cut. -/
def FV.div : FV → FV → FV
  | .nan, _ => .nan
  | _, .nan => .nan
  | .inf _, .inf _ => .nan
  | .inf a, .num b _ _ => .inf (a != b)
  | .num a _ _, .inf b => .num (a != b) 0 0
  | .num a m e, .num b n f =>
    if n = 0 then (if m = 0 then .nan else .inf (a != b))
    else
      let k := m * 2 ^ divGuard
      .num (a != b) (2 * (k / n) + b2n (k % n != 0)) (e - f - divGuard - 1)

/-- The integer square root, bit by bit from bit `i − 1` down. -/
def isqrtFrom (n : Nat) : Nat → Nat → Nat
  | 0, r => r
  | i + 1, r => isqrtFrom n i (if (r + 2 ^ i) * (r + 2 ^ i) ≤ n then r + 2 ^ i else r)

/-- Square root: exact, or cut off far below every rounding position with a last bit that says bits were cut. −0 gives −0
and a negative value gives NaN. -/
def FV.sqrt : FV → FV
  | .nan => .nan
  | .inf n => if n then .nan else .inf false
  | .num n m e =>
    if m = 0 then .num n 0 0
    else if n then .nan
    else
      let odd := e % 2 != 0
      let k := (if odd then 2 * m else m) * 2 ^ 128
      let r := isqrtFrom k (k.log2 / 2 + 1) 0
      .num false (2 * r + b2n (r * r != k)) ((if odd then e - 1 else e) / 2 - 65)

/-- Whether a value is a NaN. -/
def FV.isNan : FV → Bool
  | .nan => true
  | _ => false

/-- Whether a value is finite. -/
def FV.finite : FV → Bool
  | .num _ _ _ => true
  | _ => false

/-- Whether a value is a zero of either sign. -/
def FV.isZero : FV → Bool
  | .num _ 0 _ => true
  | _ => false

/-- Order of two values that are no NaN, with −0 = +0: −1, 0 or 1. -/
def FV.cmp : FV → FV → Int
  | .inf a, .inf b => (if a then -1 else 1) - (if b then -1 else 1)
  | .inf a, _ => if a then -1 else 1
  | _, .inf b => if b then 1 else -1
  | .num a m e, .num b n f =>
    let q := min e f
    let d := sgn a (scaleTo m e q) - sgn b (scaleTo n f q)
    if d < 0 then -1 else if d = 0 then 0 else 1
  | .nan, _ => 0
  | _, .nan => 0

/-- a ≤ b for magnitudes of finite values. -/
def magLe (m : Nat) (e : Int) (n : Nat) (f : Int) : Bool :=
  let q := min e f
  decide (scaleTo m e q ≤ scaleTo n f q)

/-- The exponent of the leading bit of m × 2^e. -/
def topBit (m : Nat) (e : Int) : Int := (m.log2 : Int) + e

/-! ## Formats -/

/-- A floating-point format (R42): exponent bits, mantissa bits, bias, the largest finite code, the code of infinity and the
NaN code that the module writes. -/
structure FP where
  eb : Nat
  mb : Nat
  bias : Nat
  maxCode : Nat
  inf : Option Nat
  nanCode : Option Nat
  deriving DecidableEq, Repr

def fp32 : FP := ⟨8, 23, 127, 0x7F7FFFFF, some 0x7F800000, some 0x7FC00000⟩
def bf16 : FP := ⟨8, 7, 127, 0x7F7F, some 0x7F80, some 0x7FC0⟩
def fp16 : FP := ⟨5, 10, 15, 0x7BFF, some 0x7C00, some 0x7E00⟩
def e4m3 : FP := ⟨4, 3, 7, 0x7E, none, some 0x7F⟩
def e5m2 : FP := ⟨5, 2, 15, 0x7B, some 0x7C, some 0x7E⟩
def e3m2 : FP := ⟨3, 2, 3, 0x1F, none, none⟩
def e2m3 : FP := ⟨2, 3, 1, 0x1F, none, none⟩
def e2m1 : FP := ⟨2, 1, 1, 0x7, none, none⟩

/-- Bits of a magnitude code. -/
def FP.magBits (f : FP) : Nat := f.eb + f.mb

/-- The exponent of the smallest subnormal step. -/
def FP.qmin (f : FP) : Int := 1 - (f.bias : Int) - f.mb

/-- The finite value of a magnitude code (R42). -/
def FP.magVal (f : FP) (c : Nat) : Nat × Int :=
  let E := c / 2 ^ f.mb
  let M := c % 2 ^ f.mb
  if E = 0 then (M, f.qmin) else (2 ^ f.mb + M, (E : Int) - f.bias - f.mb)

/-- The value of a code (R42, R44). -/
def FP.dec (f : FP) (code : Nat) : FV :=
  let c := code % 2 ^ f.magBits
  let s := bitOf code f.magBits
  if f.inf = some c then .inf s
  else if f.maxCode < c then .nan
  else .num s (f.magVal c).1 (f.magVal c).2

/-! ## Rounding (R55) -/

/-- The rounding modes of the conversion control field (R55); SR carries its draw. -/
inductive Rnd where
  | rne
  | rtz
  | sr (draw : Nat)
  | up
  deriving DecidableEq, Repr

/-- m × 2^e as an integer number of steps of 2^q under a rounding mode. `up`, toward the larger magnitude, serves the
magnitude sums of R97 alone. -/
def roundAt (r : Rnd) (m : Nat) (e q : Int) : Nat :=
  if q ≤ e then scaleTo m e q
  else
    let k := 2 ^ (q - e).toNat
    let a := m / k
    let rem := m % k
    if rem = 0 then a
    else match r with
      | .rne => if 2 * rem > k then a + 1 else if 2 * rem < k then a else a + a % 2
      | .rtz => a
      | .sr d => if d < rem * 65536 / k then a + 1 else a
      | .up => a + 1

/-- The magnitude code of m × 2^e in a format as though its exponent were unbounded above. -/
def FP.roundMag (f : FP) (r : Rnd) (m : Nat) (e : Int) : Nat :=
  if m = 0 then 0
  else
    let q := max (topBit m e - f.mb) f.qmin
    (q + f.bias + f.mb - 1).toNat * 2 ^ f.mb + roundAt r m e q

/-- The census class of one converted element (R64). -/
inductive Cls where
  | nonfin
  | sat
  | uflow
  | zero
  | plain
  deriving DecidableEq, Repr

/-- A sign over a magnitude code. -/
def FP.withSign (f : FP) (neg : Bool) (c : Nat) : Nat := c + b2n neg * 2 ^ f.magBits

/-- Convert an exact value into a floating-point format: the code and the census class (R55, R59, R61, R64). `ieee` is the OVF
bit; RTZ never overflows to infinity. A NaN written into a format without a NaN code is code 0. -/
def FP.enc (f : FP) (r : Rnd) (ieee : Bool) (v : FV) : Nat × Cls :=
  match v with
  | .nan => (f.nanCode.getD 0, .nonfin)
  | .inf s =>
    match f.inf with
    | some c => (f.withSign s c, .nonfin)
    | none =>
      match f.nanCode with
      | some c => if ieee then (c, .nonfin) else (f.withSign s f.maxCode, .nonfin)
      | none => (f.withSign s f.maxCode, .nonfin)
  | .num s m e =>
    let big := !magLe m e (f.magVal f.maxCode).1 (f.magVal f.maxCode).2
    if big then
      match ieee, f.inf, f.nanCode with
      | true, some c, _ =>
        if r ≠ .rtz ∧ f.maxCode < f.roundMag r m e then (f.withSign s c, .nonfin) else (f.withSign s f.maxCode, .sat)
      | true, none, some c => (c, .nonfin)
      | _, _, _ => (f.withSign s f.maxCode, .sat)
    else
      let c := f.roundMag r m e
      (f.withSign s c, if m = 0 then .zero else if c = 0 then .uflow else .plain)

/-- Convert an exact value into a two's-complement integer of `n` bits whose step is 2^step, with the largest magnitudes
`neg` and `pos` (R48, R55, R59, R61). -/
def encInt (n neg pos : Nat) (step : Int) (r : Rnd) (v : FV) : Nat × Cls :=
  match v with
  | .nan => (0, .nonfin)
  | .inf s => (toBits (if s then -(neg : Int) else pos) n, .nonfin)
  | .num s m e =>
    let lim := if s then neg else pos
    if !magLe m e lim step then (toBits (sgn s lim) n, .sat)
    else
      let c := roundAt r m e step
      (toBits (sgn s c) n, if m = 0 then .zero else if c = 0 then .uflow else .plain)

/-! ## Format codes (R41) -/

/-- An element encoding: a floating-point format, or an integer of some bits with its largest magnitudes and its step. -/
inductive Elem where
  | fp (f : FP)
  | int (n neg pos : Nat) (step : Int)
  deriving DecidableEq, Repr

/-- The element encoding of a format code; none for a reserved code (R41). -/
def elemOf (c : BitVec 5) : Option Elem :=
  match c.toNat with
  | 0x00 => some (.fp fp32)
  | 0x01 => some (.fp bf16)
  | 0x02 => some (.fp fp16)
  | 0x03 => some (.fp e4m3)
  | 0x04 => some (.fp e5m2)
  | 0x05 => some (.fp e3m2)
  | 0x06 => some (.fp e2m3)
  | 0x07 => some (.fp e2m1)
  | 0x08 => some (.int 8 128 127 0)
  | 0x09 => some (.int 4 8 7 0)
  | 0x13 => some (.fp e4m3)
  | 0x14 => some (.fp e5m2)
  | 0x15 => some (.fp e3m2)
  | 0x16 => some (.fp e2m3)
  | 0x17 => some (.fp e2m1)
  | 0x18 => some (.int 8 127 127 (-6))
  | _ => none

/-- Bits of an element (R41). -/
def Elem.bits : Elem → Nat
  | .fp f => 1 + f.magBits
  | .int n _ _ _ => n

/-- The low bits of a code that hold its significand (R42, R45): the mantissa field, or the whole of an integer. -/
def Elem.sig : Elem → Nat
  | .fp f => f.mb
  | .int n _ _ _ => n

/-- Whether a format code has a block scale: bit 4 (R41). -/
def isMx (c : BitVec 5) : Bool := c.toNat / 16 == 1

/-- Whether a format code may enter the matrix unit (R41). -/
def isMatrixFmt (c : BitVec 5) : Bool :=
  c.toNat == 1 || c.toNat == 2 || (decide (0x13 ≤ c.toNat) && decide (c.toNat ≤ 0x17))

/-- Whether an element encoding has a NaN code. -/
def Elem.hasNan : Elem → Bool
  | .fp f => f.nanCode.isSome
  | .int _ _ _ _ => false

/-- The largest finite magnitude of an element encoding (R52). -/
def Elem.maxMag : Elem → Nat × Int
  | .fp f => f.magVal f.maxCode
  | .int _ _ pos step => (pos, step)

/-- The value of an element code without its block scale (R42, R48). -/
def Elem.dec (el : Elem) (code : Nat) : FV :=
  match el with
  | .fp f => f.dec code
  | .int n _ _ step =>
    let x := signed code n
    .num (decide (x < 0)) x.natAbs step

/-- The value of a code of a block with scale code `sc` (R49, R50). -/
def scaled (sc : Nat) (v : FV) : FV :=
  if sc = 0xFF then .nan
  else match v with
    | .num s m e => .num s m (e + (sc : Int) - 127)
    | w => w

/-- Convert one exact value into an element encoding. -/
def Elem.enc (el : Elem) (r : Rnd) (ieee : Bool) (v : FV) : Nat × Cls :=
  match el with
  | .fp f => f.enc r ieee v
  | .int n neg pos step => encInt n neg pos step r v

/-- The largest magnitude among the finite values of a list. -/
def amaxOf (vs : List FV) : Nat × Int :=
  vs.foldl (fun a v => match v with
    | .num _ m e => if magLe m e a.1 a.2 then a else (m, e)
    | _ => a) (0, 0)

/-- The LOCAL scale code of a block (R52): from the values of its elements. -/
def localScale (el : Elem) (vs : List FV) : Nat :=
  let a := amaxOf vs
  if a.1 = 0 then 127
  else
    let mx := el.maxMag
    let e0 := topBit a.1 a.2 - topBit mx.1 mx.2
    let e := if magLe a.1 a.2 mx.1 (mx.2 + e0) then e0 else e0 + 1
    (min (max e (-127)) 127 + 127).toNat

/-- Convert one block into an MX format with a scale code (R52, R61, R62): scale byte, codes, classes. `rs` gives each
element's rounding. -/
def encBlock (el : Elem) (sc : Nat) (ieee : Bool) (rs : List Rnd) (vs : List FV) : Nat × List (Nat × Cls) :=
  if sc = 0xFF then (0xFF, vs.map (fun _ => (0, .nonfin)))
  else if vs.any FV.isNan && !el.hasNan then
    (0xFF, vs.map (fun v => (0, if v.finite then .plain else .nonfin)))
  else
    (sc, (vs.zip rs).map (fun p =>
      el.enc p.2 ieee (match p.1 with
        | .num s m e => .num s m (e - ((sc : Int) - 127))
        | w => w)))

/-! ## FP32 operations (R69, R113) -/

/-- The value of an FP32 word. -/
def f32 (w : W32) : FV := fp32.dec w.toNat

/-- Round an exact value to FP32, RNE, overflow to infinity. -/
def toF32 (v : FV) : W32 := BitVec.ofNat 32 (fp32.enc .rne true v).1

def fAdd (a b : W32) : W32 := toF32 ((f32 a).add (f32 b))
def fSub (a b : W32) : W32 := toF32 ((f32 a).add (f32 b).neg)
def fMul (a b : W32) : W32 := toF32 ((f32 a).mul (f32 b))
def fFma (a b c : W32) : W32 := toF32 (((f32 a).mul (f32 b)).add (f32 c))
def fDiv (a b : W32) : W32 := toF32 ((f32 a).div (f32 b))
def fSqrt (a : W32) : W32 := toF32 (f32 a).sqrt

/-- Round an exact magnitude to FP32 toward +∞ (R97, R98). -/
def toF32Up (v : FV) : W32 := BitVec.ofNat 32 (fp32.enc .up true v).1
/-- Round an exact magnitude to BF16 toward +∞ (R95). -/
def toBf16Up (v : FV) : W16 := BitVec.ofNat 16 (bf16.enc .up true v).1
/-- Difference. -/
def FV.sub (a b : FV) : FV := a.add b.neg

/-! ## binary64 (R291, R314, R321, R323): the NaN written is the quiet one of IEEE 754 (log 34) -/

def fp64 : FP := ⟨11, 52, 1023, 0x7FEFFFFFFFFFFFFF, some 0x7FF0000000000000, some 0x7FF8000000000000⟩
/-- The value of a binary64 word. -/
def d64 (w : W64) : FV := fp64.dec w.toNat
/-- Round an exact value to binary64, RNE, overflow to infinity. -/
def toD64 (v : FV) : W64 := BitVec.ofNat 64 (fp64.enc .rne true v).1
def dAdd (a b : W64) : W64 := toD64 ((d64 a).add (d64 b))
def dMul (a b : W64) : W64 := toD64 ((d64 a).mul (d64 b))
def dDiv (a b : W64) : W64 := toD64 ((d64 a).div (d64 b))
def dSqrt (a : W64) : W64 := toD64 (d64 a).sqrt

/-- Round an FP32 word to BF16 under RNE and SAT (R65). -/
def toBf16 (w : W32) : W16 := BitVec.ofNat 16 (bf16.enc .rne false (f32 w)).1

/-- A BF16 word as FP32: exact, but a NaN takes the FP32 code that the module writes (R44). -/
def ofBf16 (h : W16) : W32 := toF32 (bf16.dec h.toNat)

/-- two_sum in FP32 (R69): the sum and its error, which is 0 where the sum is not finite. -/
def twoSum (a b : W32) : W32 × W32 :=
  let s := fAdd a b
  if (f32 s).finite then
    let bb := fSub s a
    (s, fAdd (fSub a (fSub s bb)) (fSub b bb))
  else (s, 0)

/-- One xorshift step of a generator (R57). -/
def xorshift (s : W64) : W64 :=
  let a := s ^^^ (s <<< 13)
  let b := a ^^^ (a >>> 7)
  b ^^^ (b <<< 17)

/-- `n` generator steps: the state after them and the draws, four a step, low bits first (R57). -/
def draws : Nat → W64 → W64 × List Nat
  | 0, s => (s, [])
  | n + 1, s =>
    let t := xorshift s
    let r := draws n t
    (r.1, [bitsOf t.toNat 0 16, bitsOf t.toNat 16 16, bitsOf t.toNat 32 16, bitsOf t.toNat 48 16] ++ r.2)

/-- The generator of a unit at the first beat of a hand (R57). -/
def genSeed (seed hand : W64) (unit : Nat) : W64 :=
  let s := seed ^^^ (hand * 0xB7E151628AED2A6B) ^^^ (BitVec.ofNat 64 unit * 0x6C8E9CF57032B1A9)
  if s = 0 then 1 else s

end Sys2Proof.Machine
end

