-- ==== Sys2Proof/Machine/State.lean ====
section
/-! DEFINITION. The state of the module: every register, buffer, counter, mode and pin that the specification gives it, as
plain data, and the queue of commands that wait. A table that is sparse is a list of pairs with rising keys; what an unlisted
key reads as is said where the table is read (Machine/Map.lean, Machine/Ops.lean). -/

namespace Sys2Proof.Machine

/-- A sparse table: keys strictly rising, no entry equal to what an unlisted key reads as. -/
abbrev Map (α : Type) := List (Nat × α)

/-! ## Reasons to stop -/

/-- Why the machine stops with a fault: for no reason. The manual gives every command an effect in every state, so no meaning faults and this type
has no constructor. -/
inductive Fault where
  deriving DecidableEq, Repr

/-- Why a command has no meaning. -/
inductive Refusal where
  /-- The command has no meaning yet; raised only by the dispatch. Safe. -/
  | notModelled (mnemonic : String)
  deriving DecidableEq, Repr

/-! ## Events -/

/-- One argument of an event: 4 or 8 bytes (R560). -/
inductive Arg where
  | w4 (n : Nat)
  | w8 (n : Nat)
  deriving DecidableEq, Repr

/-- An event record (R405), without its CRC, which the other fields decide. -/
structure EvRec where
  code : BitVec 16
  seq : W32
  time : Nat
  hand : W64
  args : List Arg
  deriving DecidableEq, Repr

/-! ## A tile -/

/-- A census slot with its amax register, its scale code and its binding (R116, R257, R259). -/
structure CSlot where
  total : Nat
  zero : Nat
  uflow : Nat
  sat : Nat
  nonfin : Nat
  amax : W32
  code : Byte
  bound : Option (Nat × Nat)
  deriving DecidableEq, Repr

/-- A TRICK that was decoded and whose result has not arrived: its tree, the register it goes to, and whether it has issued. -/
structure TrickWait where
  tree : Nat
  gd : BitVec 5
  issued : Bool
  deriving DecidableEq, Repr

/-- What a unit queue holds (R147, R155): an instruction of a timed class with what meets it, or a marker that acts at a beat (R156). A
vector operation is named by its opcode. -/
inductive TOp where
  | mrun (f : MRunF) (ecc bufEcc : Ecc) (ups : List (Nat × Upset))
  | mfill (f : MFillF) (ecc : Ecc)
  | mown (f : MOwnF)
  | vec (op : Nat) (f : VFmt) (up : Option Upset)
  | ld (f : LFmt) (ecc : Ecc) (up : Option Upset)
  | st (f : LFmt)
  | send (f : XFmt) (ecc : Ecc)
  | recv (f : XFmt)
  | pots (f : XFmt) (ecc : Ecc)
  | trick (f : TFmt)
  | wopen
  | wclose
  | endOp
  deriving DecidableEq, Repr

/-- A decoded instruction that waits for its target beat: its address, the target beat, and the values of the G registers GA and GS as
its decode read them (R147, R157). -/
structure QIns where
  op : TOp
  pc : BitVec 14
  beat : Nat
  ga : W32
  gs : W32
  deriving DecidableEq, Repr

/-- An MRUN whose steps are issuing (R157): the instruction, its address, its next step and that step's beat, its first line and
stride, and what upsets meet its steps; `again` says that the next step was broadcast before the recovery of the step before it, and
is broadcast again (R101, R103). -/
structure RunHeld where
  f : MRunF
  pc : BitVec 14
  step : Nat
  beat : Nat
  line : Nat
  stride : Nat
  ups : List (Nat × Upset)
  again : Bool
  deriving DecidableEq, Repr

/-- A SEND or a RECV under way (R162): its address, the next flit's beat and line, and the flits left. -/
structure MeshHeld where
  pc : BitVec 14
  beat : Nat
  line : Nat
  left : Nat
  ecc : Ecc
  deriving DecidableEq, Repr

/-- A fill under way (R74 to R76): the instruction, its lane mask and first line; `go` while it need not wait for its buffer; the
flits that a fill from the mesh has taken. -/
structure FillHeld where
  f : MFillF
  mask : BitVec 128
  line : Nat
  ecc : Ecc
  go : Bool
  got : List Flit
  deriving DecidableEq, Repr

/-- One sequencer context with its part of the vector engine (R109, R116, R145): beside its registers, the instructions decoded in this
schedule, whether END is among them, the unit queues (R147), the PHASE markers that have yet to bind (R259), what is under way in the
matrix unit and the mesh unit, and the flits that wait for room in the local port (R171). -/
structure Ctx where
  g : Map W32
  pc : BitVec 14
  tc : W64
  bc : W64
  sig : W32
  scratch : Map Byte
  v : Map W32
  m : Map W64
  census : Map CSlot
  gen : W64
  running : Bool
  ended : Bool
  window : Bool
  waits : List TrickWait
  decoded : Nat
  closing : Bool
  uq : List QIns
  binds : List (BitVec 14 × Nat × Nat)
  run : Option RunHeld
  fill : Option FillHeld
  send : Option MeshHeld
  recv : Option MeshHeld
  out : List Flit
  deriving DecidableEq, Repr

/-- A weight buffer: format (none while empty), lane mask, the lane rows as stored bytes, the checker rows, whether it is
unusable for checking, and whether it belongs to the side context (R74, R84, R95). -/
structure WBuf where
  fmt : Option (BitVec 5)
  mask : BitVec 128
  rows : Map Bytes
  sumRow : List W32
  magRow : List W16
  unusable : Bool
  side : Bool
  deriving DecidableEq, Repr

/-- An accumulator entry across the lanes, with the checker lane's entry, its magnitude entry, the step count and the mask
of the FIRST step (R81, R82, R89, R97). -/
structure Acc where
  lanes : Map W32
  chk : W32
  mag : W32
  n : Nat
  mask : Option (BitVec 128)
  deriving DecidableEq, Repr

/-- An entry of the tile queue (R91), with the accumulator it was drained from and the beat in which it becomes poppable (R92). -/
structure QEnt where
  vals : Map W32
  mask : BitVec 128
  zfill : Bool
  side : Bool
  acc : Nat
  ready : Nat
  deriving DecidableEq, Repr

/-- The record of an accumulated step (R97, R100). -/
structure StepRec where
  acc : Nat
  before : Acc
  p : Map W32
  q : W32
  mu : W32
  deriving DecidableEq, Repr

/-- A list entry's cursor and round (R288). -/
structure Cursor where
  cur : Nat
  round : Nat
  deriving DecidableEq, Repr

/-- A corrected accumulator tile in the correction path (R306): the list index, the round and start it was sent with. -/
structure Corr where
  gl : Nat
  round : Nat
  start : Nat
  mask : BitVec 128
  vals : Map W32
  deriving DecidableEq, Repr

/-- What a router is set to (R181, R182, R183). -/
inductive RMode where
  | idle
  | scheduled
  | pass
  | hole
  deriving DecidableEq, Repr

/-- A router: schedule memory, phases as (BASE, PERIOD), tree membership, position, lanes (key 2 × input + side, inputs N E S
W LOC; 10 + 2 × output for LOC, FIL0, FIL1 toward the tile), the last flits sent on each output and those that have left but not entered the
next lane (key 2 × port + side), retries (key port; 4 + side of the tile for an edge port's outward way) and refusals in a row per lane, the outputs
whose receiver awaits a resend (those of an edge port's near controller as 4 + side of the tile), slips, and the PHASE switches that wait for their router beat (R171, R172, R173, R174, R180, R190). -/
structure Router where
  mode : RMode
  sched : Map W32
  phases : List (Nat × Nat)
  trees : BitVec 256
  phase : Nat
  b0 : Nat
  switches : List (Nat × Nat)
  rb : Nat
  lanes : Map (List Flit)
  sent : Map (List Flit)
  flight : Map (List Flit)
  retries : Map Nat
  refused : Map Nat
  resend : List Nat
  slips : Nat
  deriving DecidableEq, Repr

/-- A tile (R72, R124). An unlisted word of its instruction memory is all ones (R143). `popped` lists the contexts and beats of
the last pops (R87), `side0` is the side context's beat at the START of the hand, `recHold` the schedule beat at which the last recovery held the
tile and for how many beats (R165). Beats that are compared across contexts count from the START of the hand, slips included. `sramBad` lists the 64-bit words of its SRAM that read as uncorrectable, `ueHand` those that did so
in this hand (R120); `accEpoch` numbers the sweep STARTs after which an unwritten accumulator entry holds no defined value
(R327); `useA`, `useB` are the first beats in which no issued step names the buffer. -/
structure Tile where
  prim : Ctx
  side : Ctx
  imem : Map W64
  bufA : WBuf
  bufB : WBuf
  useA : Nat
  useB : Nat
  popped : List (Bool × Nat)
  side0 : Nat
  recHold : Option (Nat × Nat)
  acc : Map Acc
  accEpoch : Nat
  queue : List QEnt
  opHist : List Bytes
  stepHist : List StepRec
  recov : List Nat
  beats : Nat
  standin : Option Nat
  chkOut : Bool
  stat : W32
  chkcnt : W32
  unchk : W32
  slip : W32
  inj : W32
  sram : Map Byte
  sramBad : List Nat
  ueHand : List Nat
  corr : List Corr
  lnorm : W64
  cursors : Map Cursor
  maxLine : Option Nat
  mtxBeats : Nat
  sideBeats : Nat
  flags : BitVec 3
  hour : Nat
  hourCnt : Nat
  tbp : Map W32
  router : Router
  deriving DecidableEq, Repr

/-! ## Fabric -/

/-- An open trick on one tree (R204): how many have completed before it, its function, who contributed, the value so far. -/
structure Trick where
  inst : Nat
  fn : Option (BitVec 4)
  got : List Nat
  value : W32
  done : Option W32
  deriving DecidableEq, Repr

/-- The defect map (R195). -/
structure DefectMap where
  generation : W64
  lost : BitVec 48
  tiles : Map Byte
  linkDead : List Nat
  deriving DecidableEq, Repr

/-- The trump root and the wafer's freeze and stall state (R204, R207, R211, R212): a freeze target that waits for UNSTALL, whether units
still run on to F_eff, the tick at which a stall began, the tiles that an unfold test has found not good (R188), a neighbour test under way with the tick at
which it began (R191), and for each field the beats of the hand in which a unit of it slipped, as runs
(R190). -/
structure Fabric where
  tricks : Map Trick
  dmap : DefectMap
  dead : List (Nat × Nat)
  found : List (Nat × Nat)
  nt : Option (NtIn × Nat)
  edgeIn : Map (List Flit)
  edgeOut : Map (List Flit)
  freezePend : Option Nat
  freezing : Bool
  stallAt : Option Nat
  slipped : Map (List (Nat × Nat))
  watched : Bool
  started : Bool
  deriving DecidableEq, Repr

/-! ## Positions, dealers and pots -/

/-- A shard piece on a stack (R233, R244). -/
structure Piece where
  shard : W32
  lines : Nat
  off : Nat
  version : W64
  deriving DecidableEq, Repr

/-- A gather request that is open at its dealer, with the number of the descriptor that makes it (R246, R247, R365). -/
structure OpenGather where
  tag : W32
  shard : W32
  first : Nat
  lines : Nat
  flags : BitVec 8
  retried : Bool
  parked : Bool
  by_ : Nat
  deriving DecidableEq, Repr

/-- A descriptor that a dealer has read and not yet done (R233, R237, R238): its number among those read, its index in the list, its wait beat, the
lines of its reads that the code has yet to report over, the runs left with the one under way, the fills or lines done of that run, whether it has started,
and the version that the first response of a GATHER carried. -/
structure OpenDesc where
  id : Nat
  d : SDesc
  idx : Nat
  wait : Nat
  ecc : LineEcc
  runs : Nat
  at_ : Nat
  begun : Bool
  ver : Option W64
  deriving DecidableEq, Repr

/-- A dealer (R233, R238, R244, R245, R262): its lists, the loop pass that it is in, the line ranges of pieces that gathers with a
recorded version brought in this hand (R364), and the descriptors that it has read and not yet done. -/
structure Dealer where
  descs : List SDesc
  loopFirst : Nat
  loopEnd : Nat
  sweepFirst : Nat
  pieces : List Piece
  vrec : Map W64
  gen : W64
  cens : Map CSlot
  gathers : List OpenGather
  nextTag : W32
  pass : Nat
  gathered : List (W32 × Nat × Nat)
  opened : List OpenDesc
  nextId : Nat
  deriving DecidableEq, Repr

/-- An open round of a pot on one stack (R296, R297, R298, R300). -/
structure Round where
  pot : Nat
  round : Nat
  epoch : Nat
  buf : Map W32
  cnt : Map Nat
  held : List CPkt
  complete : Bool
  rebuild : Bool
  senders : List Nat
  deriving DecidableEq, Repr

/-- A crib record (R304, R305, R307): its number, the packet as kept, the positions whose seal notice is awaited, and how many corrections of its tile are
awaited before it is sent again. -/
structure Crib where
  crec : W32
  pkt : CPkt
  await : List (Nat × Nat)
  fix : Nat
  deriving DecidableEq, Repr

/-- A pot adder with its controller's crib (R295, R296, R301, R303): open rounds, rounds sealed of each pot, subpackets held ahead of their epoch, the input
that waits for a tracking entry, records whose CRC failed once, and the parts that are awaited again, as (record, first entry, pot). -/
structure PotAdder where
  rounds : List Round
  sealed : Map Nat
  ahead : List CPkt
  input : List CPkt
  failed : List Nat
  resent : List (Nat × Nat × Nat)
  crib : List Crib
  nextCrec : W32
  mirrorSum : Map W64
  mirrorTries : Map Nat
  cribFull : Bool
  trackFull : Bool
  cribPeak : Nat
  deriving DecidableEq, Repr

/-- A deal position: stack, slice, dealer, pot adder (R219). Memories are addressed by stack offset and slice offset. `leave` is 0, or the
cause with which the position leaves service at the next boundary, whose CAUSE code is its low 4 bits. -/
structure Pos where
  near : Map Byte
  nearBad : List Nat
  stock : Map Byte
  stockBad : List Nat
  newBad : List Nat
  leave : Nat
  ceHour : Nat
  ceCnt : Nat
  dealer : Dealer
  pot : PotAdder
  deriving DecidableEq, Repr

/-- A pot entry (R284). -/
structure PotEnt where
  tensor : Nat
  owner : Nat
  kind : Nat
  stackMask : BitVec 64
  base : Nat
  entries : Nat
  hps : Nat
  cseats : Nat
  mirrorBase : W32
  deriving DecidableEq, Repr

/-- A list entry (R286). -/
structure ListEnt where
  tile : Nat
  gl : Nat
  kind : Nat
  pot : Nat
  start : Nat
  length : Nat
  deriving DecidableEq, Repr

/-- The installed pot plan (R283). -/
structure PotPlan where
  ordered : Bool
  mirrorSeal : Bool
  nseat : Nat
  pots : List PotEnt
  lists : List ListEnt
  deriving DecidableEq, Repr

/-! ## Images and deals -/

/-- A tensor entry (R254). -/
structure Tensor where
  kind : Nat
  flags : Byte
  fmt : BitVec 5
  initCode : Byte
  layer : Nat
  dims : List Nat
  deriving DecidableEq, Repr

/-- A plan entry (R256). -/
structure PlanEnt where
  tile : Nat
  phase : Nat
  slot : Nat
  index : Nat
  tensor : Nat
  deriving DecidableEq, Repr

/-- A section of an image (R136). -/
structure Section where
  typ : Nat
  target : Nat
  off : Nat
  size : Nat
  crc : W32
  deriving DecidableEq, Repr

/-- A loaded deal image (R134): its header, its sections and its bytes. -/
structure Image where
  kind : Nat
  signed : Bool
  id : W64
  base : W64
  length : Nat
  seed : W64
  excl : BitVec 48
  cribPeak : Nat
  beatsFixed : Nat
  beatsPerMb : Nat
  mbMax : Nat
  sideImem : Nat
  sideSram : Nat
  sideBanks : Nat
  sideQueue : Nat
  minFw : W32
  digest : BitVec 256
  sections : List Section
  bytes : Bytes
  sweepLen : Nat
  sweepPc : Map (BitVec 14)
  deriving DecidableEq, Repr

/-- A deal: the descriptor it came with, and how its batch copy ended (R396, R404). -/
structure Deal where
  q : Nat
  cid : BitVec 16
  d : DealD
  dataB : Bool
  copied : Option Nat
  deriving DecidableEq, Repr

/-- The state of a tensor in the scale chooser and the silence watch (R267, R269). -/
structure Scale where
  hist : List W32
  code : Nat
  floor : Nat
  floorHands : Nat
  pinned : Bool
  pinCode : Nat
  run : Nat
  deriving DecidableEq, Repr

/-- Numerics: the installed tensor table, the chooser, record staging and the record series (R253, R264, R267). -/
structure Numerics where
  tensors : List Tensor
  plan : List PlanEnt
  censusLine : Nat
  censusLines : Nat
  digest : Option (BitVec 256)
  scale : Map Scale
  recs : List Bytes
  segs : List Bytes
  lostNow : Nat
  collected : Bool
  deriving DecidableEq, Repr

/-- A part of the state set that an export covers: the position, 0 for slice offsets or 1 for stack offsets, the first offset, the
lines, and whether it is the position's last (R336, R338). -/
structure Part where
  pos : Nat
  space : Nat
  base : Nat
  lines : Nat
  last : Bool
  deriving DecidableEq, Repr

/-- A full deal or a push under way (R338, R340): the hand, NM_STEP and the image of the sweep whose state it exports, the parts
left, and how many have left. -/
structure Export where
  hand : W64
  step : Nat
  image : Nat
  parts : List Part
  sent : Nat
  deriving DecidableEq, Repr

/-- What the outside of the hand sees of it: the hand taken most recently, the next number, the deals, the gate (R319, R324,
R326, R338, R404), and what the code will report over the lines that its exports read. -/
structure Hand where
  hand : W64
  next : W64
  running : Option Deal
  waiting : Option Deal
  sideRun : Option Deal
  sideWait : Option Deal
  images : List Image
  installed : Option W64
  sideInst : Option W64
  plan : Option PotPlan
  epochs : Map Nat
  sweep : Bool
  contributed : Bool
  outcome : Option (Nat × Nat)
  posted : Bool
  misdealt : Bool
  kept : Option GateRec
  result : Option GateRec
  appliedFull : Nat
  fullPend : Bool
  pushPend : Bool
  full : Option Export
  push : Option Export
  pushOpen : List Nat
  exports : SeatEcc
  deltaSeq : Map Nat
  deltaHeld : Bool
  ledgerErrs : Nat
  unwritten : Nat
  potNonfin : List Nat
  deriving DecidableEq, Repr

/-! ## Host interface -/

/-- A submission queue beside its registers (R391, R403): descriptors started and not completed, and a disable that waits. -/
structure SubQ where
  started : List (BitVec 16)
  stopping : Bool
  deriving DecidableEq, Repr

/-- A ring that the module writes, beside its registers (R398, R403, R410): its pass, slots reserved, and entries not yet
signalled; paused while its endpoint may not write. -/
structure OutQ where
  pass : Bool
  reserved : Nat
  unsig : Nat
  paused : Bool
  deriving DecidableEq, Repr

/-- One direction of a mailbox pair: its LO and HI registers, the word that it holds and its flags (R411, R423). -/
structure Box where
  lo : W32
  hi : W32
  word : W64
  full : Bool
  acked : Bool
  timeout : Bool
  aborted : Bool
  overrun : Bool
  code : BitVec 16
  deriving DecidableEq, Repr

/-- A mailbox pair (R411, R415). -/
structure Pair where
  h2s : Box
  s2h : Box
  ctrl : W32
  deriving DecidableEq, Repr

/-- A state copy that waits for its responses (R343, R397). -/
structure CopyJob where
  q : Nat
  cid : BitVec 16
  src : Nat
  srcAddr : Nat
  dstAddr : Nat
  lines : Nat
  left : List Nat
  poisoned : Bool
  deriving DecidableEq, Repr

/-- The host interface beside its registers: what the module wrote to host memory, rings, mailboxes, copies, and the answer of
the aperture read most recently done. -/
structure HostIf where
  mem : Map Byte
  sqs : Map SubQ
  cqs : Map OutQ
  evt : OutQ
  cen : OutQ
  dlt : OutQ
  pairs : Map Pair
  copies : List CopyJob
  lastQ : Nat
  perst : BitVec 2
  linkUp : BitVec 2
  bme : BitVec 2
  evtLostNow : Nat
  aborts : Nat
  rdata : Option W64
  deriving DecidableEq, Repr

/-! ## Links -/

/-- A packet that the seat sends on a link: the port, the header, the payload after it (R359). -/
structure LinkOut where
  port : Nat
  cls : Nat
  vl : Nat
  dest : Nat
  src : Nat
  typ : Nat
  hops : Nat
  tgen : W32
  body : Bytes
  deriving DecidableEq, Repr

/-- A link port beside its registers (R351, R355, R357, R546): the next SEQ expected and the next to send, frames that are
unacknowledged and that wait behind 1,024 of them, how often the oldest was resent, frames in a row that failed their CRC, a NAK that is
due, chunks of each pair that the peer has not freed and the CREDIT it sent last, chunks of each pair freed here, why the port failed
(0 none, 1 training, 2 HELLO, 3 soak), soaks failed, whether it has passed one, its pluggable, and half width. -/
structure LPort where
  expect : Nat
  txSeq : Nat
  unackN : Nat
  waiting : Nat
  resends : Nat
  crcRun : Nat
  nakDue : Bool
  used : Map Nat
  credit : W32
  freed : Map Nat
  cause : Nat
  soaks : Nat
  soaked : Bool
  cage : Bool
  half : Bool
  deriving DecidableEq, Repr

/-- A table trick of one tree on this seat (R366, R370). -/
structure TTrick where
  inst : Nat
  own : Option (BitVec 4 × W32)
  ownRec : Option GateRec
  kids : Map W32
  kidRecs : List (Nat × GateRec)
  sent : Bool
  deriving DecidableEq, Repr

/-- A gather request that waits at its owner (R246, R365): the port it came in on, the seat that asked, the request. -/
structure ParkedReq where
  src : Nat
  req : GReq
  ecc : LineEcc
  deriving DecidableEq, Repr

/-- What this seat hosts as a mirror (R341): the copy that is active (0 A, 1 B), the owner and the hand of the push under way,
the positions whose part is written, the bytes written on each, and the versions of the pieces (position, stack offset, version). -/
structure Mirror where
  active : Option Nat
  owner : Nat
  hand : Option W64
  done : List Nat
  wrote : Map Nat
  versions : List (Nat × Nat × W64)
  deriving DecidableEq, Repr

/-- The link block beside its registers (R341, R367, R365, R366). -/
structure Links where
  ports : Map LPort
  out : List LinkOut
  floods : List (Nat × Bytes)
  tricks : Map TTrick
  parked : List ParkedReq
  mirror : Mirror
  deriving DecidableEq, Repr

/-! ## Clocks, power, supervisor, security -/

/-- Clock control beside its registers (R426, R433, R435, R436, R437): `dead` lists the domains whose PLL did not relock in time, `sscGo` says that the
spread moves to `sscPend`, `thrNoted` is the level of the last THROTTLE and `thrTick` its tick. -/
structure Clocks where
  prev : Nat
  stable : Bool
  failed : Bool
  disturbed : List Nat
  backup : BitVec 48
  dead : List Nat
  sscPend : Option (Nat × Nat)
  sscGo : Bool
  enPend : Map Unit
  thrNoted : Nat
  thrTick : Option Nat
  holdover : Bool
  deriving DecidableEq, Repr

/-- Power states (R445). -/
inductive PState where
  | run
  | hold
  | idle
  | watch
  | off
  deriving DecidableEq, Repr

/-- Power control beside its registers (R445, R450, R453, R454, R463, R544): `entering` while the start-up that a wake began has not
ended and `wakeTarget` whether it ends in IDLE; `convBad` the converters that failed; `stage5At` the tick at which stage 5 began; `breach` the volts, degrees and
leak of the sample that woke the module; `hot` the sensors at or above FOLD_C when last read, `badField` the fields without a valid sensor,
`sensors` the median of each sensor and `last3` its last readings. -/
structure Power where
  pstate : PState
  sag : Bool
  capLow : Nat
  convOn : Bool
  convBad : BitVec 16
  stage5At : Nat
  busSense : Bool
  modReset : Bool
  pwrgd : Bool
  overvolt : Bool
  leakSeen : Bool
  breachWait : Bool
  entering : Bool
  wakeTarget : Bool
  carrier : Nat
  carrierS : Nat
  foldSeen : BitVec 48
  hot : List Nat
  badField : BitVec 48
  breach : Option (Int × Int × Bool)
  sensors : Map Int
  last3 : Map (List Int)
  coolLowMs : Nat
  vinHighMin : Option Nat
  deriving DecidableEq, Repr

/-- The supervisor and the management interface beside their registers (R472, R477, R486, R490, R494): `down` while its firmware does not
run, `halted` by the debug port, `romOnly` while the boot ROM alone answers, `open_` the requests (service, pair) not yet answered, `trial` while a
switched firmware has not reported ready, `resp` the response sent last, `results` result words that wait for their mailbox. -/
structure Supv where
  down : Bool
  halted : Bool
  romOnly : Bool
  resetTimes : List Nat
  evBuf : List EvRec
  queue : List EvRec
  queueLost : Nat
  trace : List EvRec
  receiver : Option Byte
  eid : Byte
  dynAddr : Option (BitVec 7)
  negotiated : Bool
  session : Bool
  sessionVia : Option Transport
  open_ : List (Nat × Nat)
  banks : Map FwImage
  stagedImg : Option FwImage
  trial : Bool
  resp : List Bytes
  handshake : Option Transport
  results : List (Nat × W64)
  deriving DecidableEq, Repr

/-- One committed or torn record of the journal (R522). -/
structure LRec where
  typ : BitVec 16
  seq : BitVec 48
  payload : Bytes
  committed : Bool
  deriving DecidableEq, Repr

/-- Fuses, policy, identity, debug port and ledger (R504, R512, R516, R522): `must` says that the half is to be compacted before the next write,
`waits` are writes that wait because the half is full (R523, R524, R526); `keyPend` is an SC_KEYCMD operation under way
(operation, slot, whether its key is good), `ir` and `dr` are the TAP's instruction register and what its data register captured last,
`deniedAt` is the tick of the last DEBUG_DENY. -/
structure Security where
  lifecycle : BitVec 2
  slotHash : Map (BitVec 256)
  revoked : BitVec 4
  counter : Nat
  keys : Map Bytes
  require : Bool
  locked : Bool
  keyPend : Option (Nat × Nat × Bool)
  identity : Bool
  runSlot : BitVec 2
  nonce : Option (BitVec 256)
  rights : BitVec 5
  unlocked : Bool
  lifetime : Nat
  dbgSlot : BitVec 2
  verifying : Option TokenIn
  unlocks : Nat
  fails : Nat
  ir : Byte
  dr : BitVec 384
  deniedAt : Option Nat
  dapStatus : BitVec 2
  dapData : W64
  supvMem : Map Byte
  half : Bool
  gen : Nat
  seq : BitVec 48
  recs : List LRec
  other : List LRec
  compacting : Bool
  torn : Bool
  must : Bool
  waits : List (BitVec 16 × Bytes)
  hint : Option (BitVec 48)
  deriving DecidableEq, Repr

/-! ## The whole module -/

/-- The state of the module. `regs` holds every register of the BAR0 blocks by its offset; an unlisted register reads its
reset value. `free` counts the values the specification leaves open that were drawn so far, and is the model's own. -/
structure State where
  regs : Map W32
  tiles : Map Tile
  pos : Map Pos
  fab : Fabric
  num : Numerics
  hand : Hand
  host : HostIf
  link : Links
  clk : Clocks
  pwr : Power
  sup : Supv
  sec : Security
  seq : W32
  ticks : Nat
  resetTick : Nat
  free : Nat
  pending : List Instr
  deriving DecidableEq, Repr

/-! ## Reset -/

/-- A census slot with nothing counted. -/
def CSlot.reset : CSlot := ⟨0, 0, 0, 0, 0, 0, 0, none⟩
/-- A context before its first start: every register 0, but mask register 0, which R109 sets to all ones. -/
def Ctx.reset : Ctx :=
  { g := [], pc := 0, tc := 0, bc := 0, sig := 0, scratch := [], v := [], m := [(0, BitVec.allOnes 64)], census := [],
    gen := 1, running := false, ended := false, window := false, waits := [], decoded := 0, closing := false, uq := [], binds := [],
    run := none, fill := none, send := none, recv := none, out := [] }
/-- An empty weight buffer (R74), owned by the primary context (R152). -/
def WBuf.empty : WBuf := ⟨none, 0, [], [], [], false, false⟩
/-- An accumulator entry at reset. -/
def Acc.reset : Acc := ⟨[], 0, 0, 0, none⟩
/-- A router at reset: idle, as for a tile with no ROUTE section (R181). -/
def Router.reset : Router :=
  { mode := .idle, sched := [], phases := [], trees := 0, phase := 0, b0 := 0, switches := [], rb := 0, lanes := [], sent := [], flight := [],
    retries := [], refused := [], resend := [], slips := 0 }
/-- A tile at reset. -/
def Tile.reset : Tile :=
  { prim := Ctx.reset, side := Ctx.reset, imem := [], bufA := WBuf.empty, bufB := WBuf.empty,
    useA := 0, useB := 0, popped := [], side0 := 0, recHold := none, acc := [], accEpoch := 0, queue := [],
    opHist := [], stepHist := [], recov := [], beats := 0, standin := none, chkOut := false, stat := 0, chkcnt := 0,
    unchk := 0, slip := 0, inj := 0, sram := [], sramBad := [], ueHand := [], corr := [], lnorm := 0, cursors := [],
    maxLine := none, mtxBeats := 0, sideBeats := 0, flags := 0, hour := 0, hourCnt := 0, tbp := [],
    router := Router.reset }
/-- A dealer at reset. -/
def Dealer.reset : Dealer :=
  { descs := [], loopFirst := 0, loopEnd := 0, sweepFirst := 0, pieces := [], vrec := [], gen := 1, cens := [],
    gathers := [], nextTag := 0, pass := 0, gathered := [], opened := [], nextId := 0 }
/-- A pot adder at reset. -/
def PotAdder.reset : PotAdder :=
  { rounds := [], sealed := [], ahead := [], input := [], failed := [], resent := [], crib := [], nextCrec := 0, mirrorSum := [], mirrorTries := [],
    cribFull := false, trackFull := false, cribPeak := 0 }
/-- A position at reset: memory with nothing listed. -/
def Pos.reset : Pos :=
  { near := [], nearBad := [], stock := [], stockBad := [], newBad := [], leave := 0, ceHour := 0, ceCnt := 0,
    dealer := Dealer.reset, pot := PotAdder.reset }
/-- A mailbox direction at reset. -/
def Box.reset : Box := ⟨0, 0, 0, false, false, false, false, false, 0⟩
/-- A mailbox pair at reset (R423). -/
def Pair.reset : Pair := ⟨Box.reset, Box.reset, 0⟩
/-- A submission queue at reset. -/
def SubQ.reset : SubQ := ⟨[], false⟩
/-- A written ring at reset; its first pass has PHASE 1 (R398). -/
def OutQ.reset : OutQ := ⟨true, 0, 0, false⟩
/-- A link port at reset. -/
def LPort.reset : LPort :=
  { expect := 0, txSeq := 0, unackN := 0, waiting := 0, resends := 0, crcRun := 0, nakDue := false, used := [], credit := 0, freed := [],
    cause := 0, soaks := 0, soaked := false, cage := true, half := false }
/-- A tree's table trick before its first contribution. -/
def TTrick.reset : TTrick := ⟨0, none, none, [], [], false⟩
/-- A trump tree before its first contribution. -/
def Trick.reset : Trick := ⟨0, none, [], 0, none⟩
/-- The chooser state of a tensor with nothing counted; the code is set at installation (R268). -/
def Scale.reset : Scale := ⟨[], 0, 0, 0, false, 0, 0⟩
/-- The defect map of a module with no defect, GENERATION 1 as shipped (R195). R26 lets 1,088 to 1,152 tiles be good; that all are is a DESIGN CHOICE (log
70). -/
def DefectMap.shipped : DefectMap := ⟨1, 0, [], []⟩

/-- The fabric after a module reset. -/
def Fabric.reset (d : DefectMap) : Fabric :=
  { tricks := [], dmap := d, dead := [], found := [], nt := none, edgeIn := [], edgeOut := [], freezePend := none, freezing := false,
    stallAt := none, slipped := [], watched := false, started := false }
/-- Numerics after a module reset. -/
def Numerics.reset : Numerics :=
  { tensors := [], plan := [], censusLine := 0, censusLines := 0, digest := none, scale := [], recs := [], segs := [],
    lostNow := 0, collected := false }
/-- No hand taken; the next hand number is 1 (R326). -/
def Hand.reset : Hand :=
  { hand := 0, next := 1, running := none, waiting := none, sideRun := none, sideWait := none, images := [],
    installed := none, sideInst := none, plan := none, epochs := [], sweep := false, contributed := false,
    outcome := none, posted := false, misdealt := false, kept := none, result := none, appliedFull := 0, fullPend := true,
    pushPend := false, full := none, push := none, pushOpen := [], exports := [], deltaSeq := [], deltaHeld := false, ledgerErrs := 0, unwritten := 0, potNonfin := [] }
/-- The host interface after a module reset; `mem` is what the module wrote to host memory, and stays. -/
def HostIf.reset (mem : Map Byte) (perst : BitVec 2) : HostIf :=
  { mem := mem, sqs := [], cqs := [], evt := OutQ.reset, cen := OutQ.reset, dlt := OutQ.reset, pairs := [],
    copies := [], lastQ := 63, perst := perst, linkUp := 0, bme := 0, evtLostNow := 0, aborts := 0, rdata := none }
/-- The link block after a module reset. -/
def Links.reset : Links :=
  { ports := [], out := [], floods := [], tricks := [], parked := [], mirror := ⟨none, 0, none, [], [], []⟩ }
/-- Clock control at always-on power-up. -/
def Clocks.reset : Clocks :=
  { prev := 0, stable := false, failed := false, disturbed := [], backup := 0, dead := [], sscPend := none, sscGo := false, enPend := [],
    thrNoted := 0, thrTick := none, holdover := false }
/-- Power control at always-on power-up: converters off, BUS_SENSE open, MOD_RESET_N high. -/
def Power.reset : Power :=
  { pstate := .run, sag := false, capLow := 0, convOn := false, convBad := 0, stage5At := 0, busSense := false, modReset := false, pwrgd := false,
    overvolt := false, leakSeen := false, breachWait := false, entering := false, wakeTarget := false, carrier := 0,
    carrierS := 0, foldSeen := 0, hot := [], badField := 0, breach := none, sensors := [], last3 := [], coolLowMs := 0, vinHighMin := none }
/-- The supervisor and the management interface after a module reset. -/
def Supv.reset : Supv :=
  { down := true, halted := false, romOnly := false, resetTimes := [], evBuf := [], queue := [], queueLost := 0,
    trace := [], receiver := none, eid := 0, dynAddr := none, negotiated := false, session := false,
    sessionVia := none, open_ := [], banks := [], stagedImg := none, trial := false, resp := [],
    handshake := none, results := [] }
/-- The payload of the DEFECT_MAP record of a module that ships with every tile good (R4, R195): the head, the tiles and links all 0, and the CRC-32C
of what stands before it. -/
def shippedMap : List Byte :=
  [0x44, 0x58, 0x44, 0x4D, 0x00, 0x01, 0x80, 0x04, 0x01] ++ List.replicate 1479 0 ++ [0x3B, 0xF1, 0x5F, 0xB9]

/-- Fuses and ledger of a module as shipped: PRODUCTION (R504), a journal with its SWITCH record, a BANK record that names bank 0 and a DEFECT_MAP
record (R4; log 70). -/
def Security.shipped : Security :=
  { lifecycle := 1, slotHash := [], revoked := 0, counter := 0, keys := [], require := false, locked := false,
    keyPend := none, identity := true, runSlot := 0, nonce := none, rights := 0, unlocked := false, lifetime := 0, dbgSlot := 0,
    verifying := none, unlocks := 0, fails := 0, ir := 0x01, dr := 0, deniedAt := none, dapStatus := 0, dapData := 0, supvMem := [],
    half := false, gen := 1, seq := 3,
    recs := [⟨0x0001, 1, [1, 0, 0, 0, 0, 0, 0, 0], true⟩, ⟨0x0002, 2, List.replicate 40 0, true⟩,
      ⟨0x0003, 3, shippedMap, true⟩], other := [],
    compacting := false, torn := false, must := false, waits := [], hint := none }

/-- The module right after always-on power-up and the module reset that goes with it (R544 step 2, R550): every register at
its Reset column, the ledger and the fuses as shipped, no command waiting. -/
def State.reset : State :=
  { regs := [], tiles := [], pos := [], fab := Fabric.reset DefectMap.shipped, num := Numerics.reset,
    hand := Hand.reset, host := HostIf.reset [] 0, link := Links.reset, clk := Clocks.reset, pwr := Power.reset,
    sup := Supv.reset, sec := Security.shipped, seq := 0, ticks := 0, resetTick := 0, free := 0, pending := [] }

end Sys2Proof.Machine
end

