-- ==== Sys2Proof/Machine/Map.lean ====
section
/-! DEFINITION. The sparse tables of the state: a list of pairs with rising keys in which no entry equals what an unlisted key
reads as, so that equal tables are equal lists. -/

namespace Sys2Proof.Machine

variable {α : Type}

/-- What key `k` holds; `d` is what an unlisted key reads as. -/
def Map.get : Map α → Nat → α → α
  | [], _, d => d
  | (j, x) :: t, k, d => if j = k then x else Map.get t k d

/-- The entry of key `k`, if it is listed. -/
def Map.find? : Map α → Nat → Option α
  | [], _ => none
  | (j, x) :: t, k => if j = k then some x else Map.find? t k

/-- Remove the entry of key `k`. -/
def Map.del : Map α → Nat → Map α
  | [], _ => []
  | (j, x) :: t, k => if j = k then Map.del t k else (j, x) :: Map.del t k

/-- List `v` under key `k`, in the place that keeps the keys rising. -/
def Map.ins : Map α → Nat → α → Map α
  | [], k, v => [(k, v)]
  | (j, x) :: t, k, v => if k < j then (k, v) :: (j, x) :: t else if j = k then (k, v) :: t else (j, x) :: Map.ins t k v

/-- Write `v` under key `k`: the entry goes where `v` is what an unlisted key reads as. -/
def Map.put [DecidableEq α] (m : Map α) (k : Nat) (v d : α) : Map α :=
  if v = d then m.del k else m.ins k v

/-- Every key above `lo` and rising. -/
def Map.sorted : Option Nat → Map α → Bool
  | _, [] => true
  | lo, (k, _) :: t => (match lo with | none => true | some b => decide (b < k)) && Map.sorted (some k) t

/-- The canonical form: keys strictly rising, no entry equal to what an unlisted key reads as. -/
def Map.wf [DecidableEq α] (m : Map α) (d : α) : Bool :=
  Map.sorted none m && m.all (fun e => decide (e.2 ≠ d))

/-- The canonical form of a table of bytes of which an unlisted one reads 0. -/
abbrev Memory.wf (m : Map Byte) : Bool := Map.wf m 0

/-- `n` bytes from address `a`; an unlisted byte reads 0 (log 2). -/
def Map.bytes (m : Map Byte) (a : Nat) : Nat → Bytes
  | 0 => []
  | n + 1 => m.get a 0 :: Map.bytes m (a + 1) n

/-- The entries of a string that stands from address `a`: its bytes but the zeros. -/
def Map.listed (a : Nat) : Bytes → Map Byte
  | [] => []
  | b :: t => if b = 0 then Map.listed (a + 1) t else (a, b) :: Map.listed (a + 1) t

/-- Write bytes from address `a` upward: the entries below, the string's, the entries above. -/
def Map.store (m : Map Byte) (a : Nat) (b : Bytes) : Map Byte :=
  m.filter (fun e => decide (e.1 < a)) ++ (Map.listed a b ++ m.filter (fun e => decide (a + b.length ≤ e.1)))

/-- Write `n` zero bytes from address `a` upward. -/
def Map.clear (m : Map Byte) (a n : Nat) : Map Byte :=
  m.filter (fun e => !(decide (a ≤ e.1) && decide (e.1 < a + n)))

/-- Change what key `k` holds. -/
def Map.upd [DecidableEq α] (m : Map α) (k : Nat) (d : α) (f : α → α) : Map α :=
  m.put k (f (m.get k d)) d

/-- Change every listed entry. -/
def Map.mapVals [DecidableEq α] (m : Map α) (d : α) (f : α → α) : Map α :=
  List.foldr (fun (e : Nat × α) (a : Map α) => a.put e.1 (f e.2) d) [] m

/-- List a key in a set of keys, once, keys rising. -/
def setIns : List Nat → Nat → List Nat
  | [], k => [k]
  | j :: t, k => if k < j then k :: j :: t else if j = k then j :: t else j :: setIns t k

/-! ## Runs of numbers, each (first, end) -/

/-- Put a range (first, end) into a list that rises by its firsts. -/
def insRange (r : Nat × Nat) : List (Nat × Nat) → List (Nat × Nat)
  | [] => [r]
  | x :: t => if r.1 ≤ x.1 then r :: x :: t else x :: insRange r t
/-- Join ranges that meet: those of the list with a range before them. -/
def joinRanges : List (Nat × Nat) → Nat × Nat → List (Nat × Nat)
  | [], c => [c]
  | x :: t, c => if x.1 ≤ c.2 then joinRanges t (c.1, max c.2 x.2) else c :: joinRanges t x
/-- The maximal runs that a list of ranges covers, rising. -/
def runsOf (l : List (Nat × Nat)) : List (Nat × Nat) :=
  match l.foldr insRange [] with
  | [] => []
  | x :: t => joinRanges t x

/-- How many numbers runs cover. -/
def runsLen (l : List (Nat × Nat)) : Nat := (l.map (fun r => r.2 - r.1)).sum

end Sys2Proof.Machine
end

