-- ==== Sys2Proof/Machine/RegTable.lean ====
section
/-! DEFINITION. The register map of BAR0: one line for each field of each register (R213 to R215, R251, R281, R317,
    R347, R381,
R421, R422, R443, R467, R501, R531). A line is the offset of the register,
    the stride and the count of an array of registers,
the lowest bit, the width, the access type (R20) and the value of the Reset column. Bits that no line covers are reserved:
they read 0, and what is written to them is ignored (R21). -/

namespace Sys2Proof.Machine

/-- Access types (R20). -/
inductive RTy where
  | rw
  | ro
  | wo
  | w1c
  | w1s
  deriving DecidableEq, Repr

/-- A field of a register, or of every register of an array. -/
structure Fld where
  off : Nat
  stride : Nat
  count : Nat
  lsb : Nat
  width : Nat
  ty : RTy
  reset : Nat
  deriving DecidableEq, Repr

namespace R

def FB_CTRL_NT_START : Fld := ⟨0x300000, 0, 1, 0, 1, .w1s, 0⟩
def FB_CTRL_WATCH_EN : Fld := ⟨0x300000, 0, 1, 1, 1, .rw, 1⟩
def FB_CTRL_RETRY_EN : Fld := ⟨0x300000, 0, 1, 2, 1, .rw, 1⟩
def FB_STATUS_NT_BUSY : Fld := ⟨0x300004, 0, 1, 0, 1, .ro, 0⟩
def FB_STATUS_NT_DONE : Fld := ⟨0x300004, 0, 1, 1, 1, .ro, 0⟩
def FB_STATUS_FROZEN : Fld := ⟨0x300004, 0, 1, 2, 1, .ro, 0⟩
def FB_STATUS_STALLED : Fld := ⟨0x300004, 0, 1, 3, 1, .ro, 0⟩
def FB_STATUS_GOOD_TILES : Fld := ⟨0x300004, 0, 1, 16, 11, .ro, 0⟩
def FB_TRUMP_CMD_CMD : Fld := ⟨0x300008, 0, 1, 0, 4, .wo, 0⟩
def FB_TRUMP_CMD_STEPS : Fld := ⟨0x300008, 0, 1, 16, 16, .wo, 0⟩
def FB_TRUMP_FLAGS_NONFIN : Fld := ⟨0x30000C, 0, 1, 0, 1, .ro, 0⟩
def FB_TRUMP_FLAGS_RENEGE : Fld := ⟨0x30000C, 0, 1, 1, 1, .ro, 0⟩
def FB_TRUMP_FLAGS_FAULT : Fld := ⟨0x30000C, 0, 1, 2, 1, .ro, 0⟩
def FB_FREEZE_AT_LO_F_LO : Fld := ⟨0x300010, 0, 1, 0, 32, .rw, 0⟩
def FB_FREEZE_AT_HI_F_HI : Fld := ⟨0x300014, 0, 1, 0, 16, .rw, 0⟩
def FB_FREEZE_BEAT_LO_FE_LO : Fld := ⟨0x300018, 0, 1, 0, 32, .ro, 0⟩
def FB_FREEZE_BEAT_HI_FE_HI : Fld := ⟨0x30001C, 0, 1, 0, 16, .ro, 0⟩
def FB_TRICK_TO_MS : Fld := ⟨0x300020, 0, 1, 0, 10, .rw, 0x32⟩
def FB_SLIP_LIMIT_LIMIT : Fld := ⟨0x300024, 0, 1, 0, 32, .rw, 0x100000⟩
def FB_SLIP_TOTAL_TOTAL : Fld := ⟨0x300028, 0, 1, 0, 32, .ro, 0⟩
def FB_STALL_BEATS_BEATS : Fld := ⟨0x30002C, 0, 1, 0, 32, .ro, 0⟩
def FB_LINK_LIMIT_LIMIT : Fld := ⟨0x300030, 0, 1, 0, 16, .rw, 0x40⟩
def FB_FOLDED_LO_FIELDS : Fld := ⟨0x300034, 0, 1, 0, 32, .ro, 0⟩
def FB_LOST_LO_FIELDS : Fld := ⟨0x30003C, 0, 1, 0, 32, .ro, 0⟩
def FB_FOLDED_HI_FIELDS : Fld := ⟨0x300038, 0, 1, 0, 16, .ro, 0⟩
def FB_LOST_HI_FIELDS : Fld := ⟨0x300040, 0, 1, 0, 16, .ro, 0⟩
def FB_FSLIP_SLIPS : Fld := ⟨0x300100, 4, 48, 0, 32, .ro, 0⟩
def DL_CTRL_MODE : Fld := ⟨0x400000, 0, 1, 0, 1, .rw, 0⟩
def DL_CTRL_SCRUB_N : Fld := ⟨0x400000, 0, 1, 1, 1, .rw, 1⟩
def DL_CTRL_SCRUB_S : Fld := ⟨0x400000, 0, 1, 2, 1, .rw, 1⟩
def DL_CTRL_MIRROR_RETRY : Fld := ⟨0x400000, 0, 1, 3, 1, .rw, 1⟩
def DL_STATUS_MODE_ACT : Fld := ⟨0x400004, 0, 1, 0, 1, .ro, 0⟩
def DL_STATUS_MODE_PEND : Fld := ⟨0x400004, 0, 1, 1, 1, .ro, 0⟩
def DL_STATUS_NPOS : Fld := ⟨0x400004, 0, 1, 8, 6, .ro, 0⟩
def DL_INSVC_LO_POS : Fld := ⟨0x400008, 0, 1, 0, 32, .ro, 0⟩
def DL_INSVC_HI_POS : Fld := ⟨0x40000C, 0, 1, 0, 16, .ro, 0⟩
def DL_SCRUB_NEAR_H : Fld := ⟨0x400010, 0, 1, 0, 8, .rw, 8⟩
def DL_SCRUB_STOCK_H : Fld := ⟨0x400010, 0, 1, 8, 8, .rw, 0x18⟩
def DL_GATHER_TO_MS : Fld := ⟨0x400014, 0, 1, 0, 7, .rw, 5⟩
def DL_CE_LIMIT_LIMIT : Fld := ⟨0x400018, 0, 1, 0, 16, .rw, 0x3e8⟩
def DL_MAP_GEN_GEN : Fld := ⟨0x40001C, 0, 1, 0, 32, .ro, 0⟩
def DL_PSTAT_INSVC : Fld := ⟨0x401000, 64, 48, 0, 1, .ro, 0⟩
def DL_PSTAT_NEAR_OK : Fld := ⟨0x401000, 64, 48, 1, 1, .ro, 0⟩
def DL_PSTAT_STOCK_OK : Fld := ⟨0x401000, 64, 48, 2, 1, .ro, 0⟩
def DL_PSTAT_CAUSE : Fld := ⟨0x401000, 64, 48, 8, 4, .ro, 0⟩
def DL_PCE_COUNT : Fld := ⟨0x401004, 64, 48, 0, 32, .ro, 0⟩
def DL_PUE_COUNT : Fld := ⟨0x401008, 64, 48, 0, 32, .ro, 0⟩
def DL_SCE_COUNT : Fld := ⟨0x40100C, 64, 48, 0, 32, .ro, 0⟩
def DL_SUE_COUNT : Fld := ⟨0x401010, 64, 48, 0, 32, .ro, 0⟩
def DL_PSPARE_SPARES : Fld := ⟨0x401014, 64, 48, 0, 16, .ro, 0⟩
def DL_PLATE_BEATS : Fld := ⟨0x401018, 64, 48, 0, 32, .ro, 0⟩
def DL_PDESC_INDEX : Fld := ⟨0x40101C, 64, 48, 0, 32, .ro, 0⟩
def NM_CTRL_CENSUS_EN : Fld := ⟨0x500000, 0, 1, 0, 1, .rw, 1⟩
def NM_CTRL_WATCH_EN : Fld := ⟨0x500000, 0, 1, 1, 1, .rw, 1⟩
def NM_CTRL_CHOOSER_EN : Fld := ⟨0x500000, 0, 1, 2, 1, .rw, 1⟩
def NM_STATUS_COLLECT_BUSY : Fld := ⟨0x500004, 0, 1, 0, 1, .ro, 0⟩
def NM_STATUS_NTENSOR : Fld := ⟨0x500004, 0, 1, 16, 16, .ro, 0⟩
def NM_CHOOSER_HEAD : Fld := ⟨0x500008, 0, 1, 0, 3, .rw, 1⟩
def NM_CHOOSER_BACKOFF : Fld := ⟨0x500008, 0, 1, 4, 3, .rw, 2⟩
def NM_CHOOSER_HOLD : Fld := ⟨0x500008, 0, 1, 8, 5, .rw, 0x10⟩
def NM_SIL_SHARE_PPM : Fld := ⟨0x50000C, 0, 1, 0, 20, .rw, 0xf3e58⟩
def NM_SIL_HANDS_N : Fld := ⟨0x500010, 0, 1, 0, 16, .rw, 0xc8⟩
def NM_PIN_SEL_TENSOR : Fld := ⟨0x500014, 0, 1, 0, 16, .rw, 0⟩
def NM_PIN_CODE : Fld := ⟨0x500018, 0, 1, 0, 8, .rw, 0⟩
def NM_PIN_EN : Fld := ⟨0x500018, 0, 1, 8, 1, .rw, 0⟩
def NM_REC_SEQ_SEQ : Fld := ⟨0x50001C, 0, 1, 0, 32, .ro, 0⟩
def NM_HAND_LO_HAND : Fld := ⟨0x500020, 0, 1, 0, 32, .ro, 0⟩
def NM_HAND_HI_HAND : Fld := ⟨0x500024, 0, 1, 0, 32, .ro, 0⟩
def NM_NONFIN_HANDS_COUNT : Fld := ⟨0x500028, 0, 1, 0, 32, .ro, 0⟩
def NM_SILENT_COUNT : Fld := ⟨0x50002C, 0, 1, 0, 17, .ro, 0⟩
def NM_LOST_COUNT : Fld := ⟨0x500030, 0, 1, 0, 32, .ro, 0⟩
def PT_CTRL_SEAL_CHK : Fld := ⟨0x600000, 0, 1, 0, 1, .rw, 1⟩
def PT_CTRL_CACHE_EN : Fld := ⟨0x600000, 0, 1, 1, 1, .rw, 1⟩
def PT_CTRL_MIRROR_SEAL : Fld := ⟨0x600000, 0, 1, 2, 1, .rw, 1⟩
def PT_STATUS_ORDERED : Fld := ⟨0x600004, 0, 1, 0, 1, .ro, 0⟩
def PT_STATUS_REBUILD : Fld := ⟨0x600004, 0, 1, 1, 1, .ro, 0⟩
def PT_STATUS_ALL_SEALED : Fld := ⟨0x600004, 0, 1, 2, 1, .ro, 0⟩
def PT_STATUS_OPEN : Fld := ⟨0x600004, 0, 1, 16, 16, .ro, 0⟩
def PT_SEAL_Q_US : Fld := ⟨0x600008, 0, 1, 0, 10, .rw, 0x19⟩
def PT_ROUND_TO_MS : Fld := ⟨0x60000C, 0, 1, 0, 10, .rw, 0x32⟩
def PT_RENEGES_COUNT : Fld := ⟨0x600010, 0, 1, 0, 32, .ro, 0⟩
def PT_REBUILDS_COUNT : Fld := ⟨0x600014, 0, 1, 0, 32, .ro, 0⟩
def PT_LNORM_LO_BITS : Fld := ⟨0x600018, 0, 1, 0, 32, .ro, 0⟩
def PT_LNORM_HI_BITS : Fld := ⟨0x60001C, 0, 1, 0, 32, .ro, 0⟩
def PT_RNORM_LO_BITS : Fld := ⟨0x600020, 0, 1, 0, 32, .ro, 0⟩
def PT_RNORM_HI_BITS : Fld := ⟨0x600024, 0, 1, 0, 32, .ro, 0⟩
def PT_SEATS_S : Fld := ⟨0x600028, 0, 1, 0, 11, .ro, 0⟩
def PT_HAND_SEALED_HAND : Fld := ⟨0x60002C, 0, 1, 0, 32, .ro, 0⟩
def PT_PSTAT_TRACK : Fld := ⟨0x601000, 64, 48, 0, 15, .ro, 0⟩
def PT_PSTAT_OPEN : Fld := ⟨0x601000, 64, 48, 16, 16, .ro, 0⟩
def PT_PTRACK_PEAK : Fld := ⟨0x601004, 64, 48, 0, 15, .ro, 0⟩
def PT_PCRIB_MIB : Fld := ⟨0x601008, 64, 48, 0, 12, .ro, 0⟩
def PT_PHELD_BEATS : Fld := ⟨0x60100C, 64, 48, 0, 32, .ro, 0⟩
def PT_PPKT_COUNT : Fld := ⟨0x601010, 64, 48, 0, 32, .ro, 0⟩
def NM_UPD_CTRL_MEAN : Fld := ⟨0x700000, 0, 1, 0, 1, .rw, 1⟩
def NM_UPD_CTRL_SKIP_NEXT : Fld := ⟨0x700000, 0, 1, 1, 1, .rw, 0⟩
def NM_UPD_CTRL_DELTA_EN : Fld := ⟨0x700000, 0, 1, 2, 1, .rw, 1⟩
def NM_UPD_CTRL_PUSH_EN : Fld := ⟨0x700000, 0, 1, 3, 1, .rw, 1⟩
def NM_UPD_CTRL_FULL_NOW : Fld := ⟨0x700000, 0, 1, 4, 1, .w1s, 0⟩
def NM_UPD_STATUS_DECISION : Fld := ⟨0x700004, 0, 1, 0, 2, .ro, 0⟩
def NM_UPD_STATUS_CAUSE : Fld := ⟨0x700004, 0, 1, 2, 4, .ro, 0⟩
def NM_UPD_STATUS_SWEEP_BUSY : Fld := ⟨0x700004, 0, 1, 6, 1, .ro, 0⟩
def NM_UPD_STATUS_TORN : Fld := ⟨0x700004, 0, 1, 7, 1, .ro, 0⟩
def NM_UPD_STATUS_PUSH_BUSY : Fld := ⟨0x700004, 0, 1, 8, 1, .ro, 0⟩
def NM_UPD_STATUS_MIRROR_VALID : Fld := ⟨0x700004, 0, 1, 9, 1, .ro, 0⟩
def NM_UPD_STATUS_FULL_BUSY : Fld := ⟨0x700004, 0, 1, 10, 1, .ro, 0⟩
def NM_LR_LR : Fld := ⟨0x700008, 0, 1, 0, 32, .rw, 0⟩
def NM_CLIP_CLIP : Fld := ⟨0x70000C, 0, 1, 0, 32, .rw, 0⟩
def NM_CEIL_CEIL : Fld := ⟨0x700010, 0, 1, 0, 32, .rw, 0⟩
def NM_FULL_N_N : Fld := ⟨0x700014, 0, 1, 0, 16, .rw, 0x64⟩
def NM_SWEEP_TO_S : Fld := ⟨0x700018, 0, 1, 0, 12, .rw, 0x1e⟩
def NM_MIRROR_A_GIB : Fld := ⟨0x70001C, 0, 1, 0, 8, .rw, 0⟩
def NM_MIRROR_B_GIB : Fld := ⟨0x70001C, 0, 1, 8, 8, .rw, 0⟩
def NM_MIRROR_HOST_EN : Fld := ⟨0x70001C, 0, 1, 16, 1, .rw, 0⟩
def NM_STEP_LO_STEP : Fld := ⟨0x700020, 0, 1, 0, 32, .ro, 0⟩
def NM_STEP_HI_STEP : Fld := ⟨0x700024, 0, 1, 0, 32, .ro, 0⟩
def NM_RESTORE_HAND_LO_HAND : Fld := ⟨0x700028, 0, 1, 0, 32, .rw, 0⟩
def NM_RESTORE_HAND_HI_HAND : Fld := ⟨0x70002C, 0, 1, 0, 32, .rw, 0⟩
def NM_RESTORE_STEP_LO_STEP : Fld := ⟨0x700030, 0, 1, 0, 32, .rw, 0⟩
def NM_RESTORE_STEP_HI_STEP : Fld := ⟨0x700034, 0, 1, 0, 32, .rw, 0⟩
def NM_RESTORE_CMD_GO : Fld := ⟨0x700038, 0, 1, 0, 1, .w1s, 0⟩
def NM_SWEEP_MS_MS : Fld := ⟨0x70003C, 0, 1, 0, 32, .ro, 0⟩
def NM_MIRROR_HAND_LO_HAND : Fld := ⟨0x700040, 0, 1, 0, 32, .ro, 0⟩
def NM_MIRROR_HAND_HI_HAND : Fld := ⟨0x700044, 0, 1, 0, 32, .ro, 0⟩
def NM_FULL_HAND_LO_HAND : Fld := ⟨0x700048, 0, 1, 0, 32, .ro, 0⟩
def NM_FULL_HAND_HI_HAND : Fld := ⟨0x70004C, 0, 1, 0, 32, .ro, 0⟩
def LK_CTRL_RELAY : Fld := ⟨0x800000, 0, 1, 0, 1, .rw, 1⟩
def LK_CTRL_MIRROR : Fld := ⟨0x800000, 0, 1, 1, 1, .rw, 1⟩
def LK_CTRL_NOISE_EN : Fld := ⟨0x800000, 0, 1, 2, 1, .rw, 1⟩
def LK_CTRL_STAGE_EN : Fld := ⟨0x800000, 0, 1, 3, 1, .rw, 1⟩
def LK_STATUS_PORTS_UP : Fld := ⟨0x800004, 0, 1, 0, 5, .ro, 0⟩
def LK_STATUS_TABLE_OK : Fld := ⟨0x800004, 0, 1, 5, 1, .ro, 0⟩
def LK_TABLE_ID_LO_ID : Fld := ⟨0x800008, 0, 1, 0, 32, .rw, 0⟩
def LK_TABLE_ID_HI_ID : Fld := ⟨0x80000C, 0, 1, 0, 32, .rw, 0⟩
def LK_RANK_RANK : Fld := ⟨0x800010, 0, 1, 0, 10, .rw, 0⟩
def LK_SEATS_S : Fld := ⟨0x800014, 0, 1, 0, 11, .rw, 1⟩
def LK_TGEN_GEN : Fld := ⟨0x800018, 0, 1, 0, 32, .rw, 0⟩
def LK_CMD_COMMIT : Fld := ⟨0x80001C, 0, 1, 0, 1, .w1s, 0⟩
def LK_TRICK_TO_MS : Fld := ⟨0x800020, 0, 1, 0, 10, .rw, 0x32⟩
def LK_PARK_TO_MS : Fld := ⟨0x800024, 0, 1, 0, 10, .rw, 0x32⟩
def LK_ARB_GATHER : Fld := ⟨0x800028, 0, 1, 0, 4, .rw, 1⟩
def LK_ARB_REDUCE : Fld := ⟨0x800028, 0, 1, 4, 4, .rw, 1⟩
def LK_STAGE_STAGE : Fld := ⟨0x80002C, 0, 1, 0, 8, .rw, 0⟩
def LK_TREE_PARENT : Fld := ⟨0x800040, 4, 16, 0, 5, .rw, 0x1f⟩
def LK_TREE_EN : Fld := ⟨0x800040, 4, 16, 5, 1, .rw, 0⟩
def LK_TREE_CHILDREN : Fld := ⟨0x800040, 4, 16, 16, 16, .rw, 0⟩
def LK_ROUTE_PORTS : Fld := ⟨0x801000, 4, 1024, 0, 16, .rw, 0⟩
def LK_HOME_OWNER : Fld := ⟨0x802000, 4, 1024, 0, 10, .rw, 0⟩
def LK_HOME_MIRROR : Fld := ⟨0x802000, 4, 1024, 16, 10, .rw, 0⟩
def LK_PCTRL_EN : Fld := ⟨0x800100, 64, 16, 0, 1, .rw, 0⟩
def LK_PCTRL_DATELINE : Fld := ⟨0x800100, 64, 16, 1, 1, .rw, 0⟩
def LK_PCTRL_DIM : Fld := ⟨0x800100, 64, 16, 2, 2, .rw, 0⟩
def LK_PCTRL_DEGRADE_EN : Fld := ⟨0x800100, 64, 16, 4, 1, .rw, 1⟩
def LK_PCTRL_RETRAIN : Fld := ⟨0x800100, 64, 16, 5, 1, .w1s, 0⟩
def LK_PSTAT_STATE : Fld := ⟨0x800104, 64, 16, 0, 3, .ro, 0⟩
def LK_PSTAT_HALF_HI : Fld := ⟨0x800104, 64, 16, 3, 1, .ro, 0⟩
def LK_PSTAT_PRECODE : Fld := ⟨0x800104, 64, 16, 4, 1, .ro, 0⟩
def LK_PSTAT_PEER_RANK : Fld := ⟨0x800104, 64, 16, 16, 10, .ro, 0⟩
def LK_PSTAT_PEER_PORT : Fld := ⟨0x800104, 64, 16, 26, 4, .ro, 0⟩
def LK_PFEC_CE_COUNT : Fld := ⟨0x800108, 64, 16, 0, 32, .ro, 0⟩
def LK_PFEC_UE_COUNT : Fld := ⟨0x80010C, 64, 16, 0, 32, .ro, 0⟩
def LK_PRETRY_COUNT : Fld := ⟨0x800110, 64, 16, 0, 32, .ro, 0⟩
def LK_PHELD_SLOTS : Fld := ⟨0x800114, 64, 16, 0, 32, .ro, 0⟩
def LK_PBER_ERRORS : Fld := ⟨0x800118, 64, 16, 0, 16, .ro, 0⟩
def HI_ID_DEVICE : Fld := ⟨0x000000, 0, 1, 0, 16, .ro, 0xa48⟩
def HI_ID_STEPPING : Fld := ⟨0x000000, 0, 1, 16, 8, .ro, 0⟩
def HI_STATUS_READY : Fld := ⟨0x000004, 0, 1, 0, 1, .ro, 0⟩
def HI_STATUS_STAGE : Fld := ⟨0x000004, 0, 1, 1, 3, .ro, 0⟩
def HI_STATUS_FATAL : Fld := ⟨0x000004, 0, 1, 4, 1, .ro, 0⟩
def HI_STATUS_DUMP_VALID : Fld := ⟨0x000004, 0, 1, 5, 1, .ro, 0⟩
def HI_STATUS_BANK : Fld := ⟨0x000004, 0, 1, 6, 1, .ro, 0⟩
def HI_STATUS_HAND_RUN : Fld := ⟨0x000004, 0, 1, 7, 1, .ro, 0⟩
def HI_STATUS_DEAL_WAIT : Fld := ⟨0x000004, 0, 1, 8, 1, .ro, 0⟩
def HI_STATUS_SIDE_RUN : Fld := ⟨0x000004, 0, 1, 9, 1, .ro, 0⟩
def HI_CTRL_HOLD_DEALS : Fld := ⟨0x000008, 0, 1, 0, 1, .rw, 0⟩
def HI_CTRL_APER_EN : Fld := ⟨0x000008, 0, 1, 1, 1, .rw, 0⟩
def HI_ERR_CFG : Fld := ⟨0x00000C, 0, 1, 0, 1, .w1c, 0⟩
def HI_ERR_DOORBELL : Fld := ⟨0x00000C, 0, 1, 1, 1, .w1c, 0⟩
def HI_ERR_CABORT : Fld := ⟨0x00000C, 0, 1, 2, 1, .w1c, 0⟩
def HI_ERR_HOST_MEM : Fld := ⟨0x00000C, 0, 1, 3, 1, .w1c, 0⟩
def HI_ERR_EVT_LOST : Fld := ⟨0x00000C, 0, 1, 4, 1, .w1c, 0⟩
def HI_ERR_MB_TIMEOUT : Fld := ⟨0x00000C, 0, 1, 5, 1, .w1c, 0⟩
def HI_APER_LO_BASE : Fld := ⟨0x000010, 0, 1, 20, 12, .rw, 0⟩
def HI_APER_HI_BASE : Fld := ⟨0x000014, 0, 1, 0, 16, .rw, 0⟩
def HI_HAND_LO_HAND : Fld := ⟨0x000018, 0, 1, 0, 32, .ro, 0⟩
def HI_HAND_HI_HAND : Fld := ⟨0x00001C, 0, 1, 0, 32, .ro, 0⟩
def HI_EVT_LOST_COUNT : Fld := ⟨0x000020, 0, 1, 0, 32, .ro, 0⟩
def HI_EVT_SEQ_SEQ : Fld := ⟨0x000024, 0, 1, 0, 32, .ro, 0⟩
def HI_SQ_BASE_LO_BASE : Fld := ⟨0x001000, 64, 64, 12, 20, .rw, 0⟩
def HI_CQ_BASE_LO_BASE : Fld := ⟨0x001020, 64, 64, 12, 20, .rw, 0⟩
def HI_EVT_BASE_LO_BASE : Fld := ⟨0x000100, 0, 1, 12, 20, .rw, 0⟩
def HI_CEN_BASE_LO_BASE : Fld := ⟨0x000120, 0, 1, 12, 20, .rw, 0⟩
def HI_DLT_BASE_LO_BASE : Fld := ⟨0x000140, 0, 1, 12, 20, .rw, 0⟩
def HI_SQ_BASE_HI_BASE : Fld := ⟨0x001004, 64, 64, 0, 32, .rw, 0⟩
def HI_CQ_BASE_HI_BASE : Fld := ⟨0x001024, 64, 64, 0, 32, .rw, 0⟩
def HI_EVT_BASE_HI_BASE : Fld := ⟨0x000104, 0, 1, 0, 32, .rw, 0⟩
def HI_CEN_BASE_HI_BASE : Fld := ⟨0x000124, 0, 1, 0, 32, .rw, 0⟩
def HI_DLT_BASE_HI_BASE : Fld := ⟨0x000144, 0, 1, 0, 32, .rw, 0⟩
def HI_SQ_SIZE_SIZE : Fld := ⟨0x001008, 64, 64, 0, 17, .rw, 0⟩
def HI_CQ_SIZE_SIZE : Fld := ⟨0x001028, 64, 64, 0, 17, .rw, 0⟩
def HI_EVT_SIZE_SIZE : Fld := ⟨0x000108, 0, 1, 0, 17, .rw, 0⟩
def HI_CEN_SIZE_SIZE : Fld := ⟨0x000128, 0, 1, 0, 17, .rw, 0⟩
def HI_DLT_SIZE_SIZE : Fld := ⟨0x000148, 0, 1, 0, 17, .rw, 0⟩
def HI_SQ_CTRL_EN : Fld := ⟨0x00100C, 64, 64, 0, 1, .rw, 0⟩
def HI_SQ_CTRL_ERROR : Fld := ⟨0x00100C, 64, 64, 1, 1, .ro, 0⟩
def HI_SQ_CTRL_PRIO : Fld := ⟨0x00100C, 64, 64, 2, 2, .rw, 0⟩
def HI_CQ_CTRL_EN : Fld := ⟨0x00102C, 64, 64, 0, 1, .rw, 0⟩
def HI_EVT_CTRL_EN : Fld := ⟨0x00010C, 0, 1, 0, 1, .rw, 0⟩
def HI_CEN_CTRL_EN : Fld := ⟨0x00012C, 0, 1, 0, 1, .rw, 0⟩
def HI_DLT_CTRL_EN : Fld := ⟨0x00014C, 0, 1, 0, 1, .rw, 0⟩
def HI_CQ_CTRL_ERROR : Fld := ⟨0x00102C, 64, 64, 1, 1, .ro, 0⟩
def HI_EVT_CTRL_ERROR : Fld := ⟨0x00010C, 0, 1, 1, 1, .ro, 0⟩
def HI_CEN_CTRL_ERROR : Fld := ⟨0x00012C, 0, 1, 1, 1, .ro, 0⟩
def HI_DLT_CTRL_ERROR : Fld := ⟨0x00014C, 0, 1, 1, 1, .ro, 0⟩
def HI_EVT_CTRL_EP : Fld := ⟨0x00010C, 0, 1, 2, 1, .rw, 0⟩
def HI_CEN_CTRL_EP : Fld := ⟨0x00012C, 0, 1, 2, 1, .rw, 0⟩
def HI_DLT_CTRL_EP : Fld := ⟨0x00014C, 0, 1, 2, 1, .rw, 1⟩
def HI_CQ_CTRL_VEC : Fld := ⟨0x00102C, 64, 64, 8, 8, .rw, 0⟩
def HI_EVT_CTRL_VEC : Fld := ⟨0x00010C, 0, 1, 8, 8, .rw, 0⟩
def HI_CEN_CTRL_VEC : Fld := ⟨0x00012C, 0, 1, 8, 8, .rw, 0⟩
def HI_DLT_CTRL_VEC : Fld := ⟨0x00014C, 0, 1, 8, 8, .rw, 0⟩
def HI_CQ_CTRL_COAL_N : Fld := ⟨0x00102C, 64, 64, 16, 8, .rw, 0⟩
def HI_EVT_CTRL_COAL_N : Fld := ⟨0x00010C, 0, 1, 16, 8, .rw, 0⟩
def HI_CEN_CTRL_COAL_N : Fld := ⟨0x00012C, 0, 1, 16, 8, .rw, 0⟩
def HI_DLT_CTRL_COAL_N : Fld := ⟨0x00014C, 0, 1, 16, 8, .rw, 0⟩
def HI_CQ_CTRL_COAL_US : Fld := ⟨0x00102C, 64, 64, 24, 8, .rw, 0⟩
def HI_EVT_CTRL_COAL_US : Fld := ⟨0x00010C, 0, 1, 24, 8, .rw, 0⟩
def HI_CEN_CTRL_COAL_US : Fld := ⟨0x00012C, 0, 1, 24, 8, .rw, 0⟩
def HI_DLT_CTRL_COAL_US : Fld := ⟨0x00014C, 0, 1, 24, 8, .rw, 0⟩
def HI_EVT_WB_LO_WB : Fld := ⟨0x000110, 0, 1, 3, 29, .rw, 0⟩
def HI_CEN_WB_LO_WB : Fld := ⟨0x000130, 0, 1, 3, 29, .rw, 0⟩
def HI_DLT_WB_LO_WB : Fld := ⟨0x000150, 0, 1, 3, 29, .rw, 0⟩
def HI_EVT_WB_HI_WB : Fld := ⟨0x000114, 0, 1, 0, 32, .rw, 0⟩
def HI_CEN_WB_HI_WB : Fld := ⟨0x000134, 0, 1, 0, 32, .rw, 0⟩
def HI_DLT_WB_HI_WB : Fld := ⟨0x000154, 0, 1, 0, 32, .rw, 0⟩
def HI_SQ_HEAD_HEAD : Fld := ⟨0x001018, 64, 64, 0, 32, .ro, 0⟩
def HI_CQ_HEAD_HEAD : Fld := ⟨0x001038, 64, 64, 0, 32, .ro, 0⟩
def HI_EVT_HEAD_HEAD : Fld := ⟨0x000118, 0, 1, 0, 32, .ro, 0⟩
def HI_CEN_HEAD_HEAD : Fld := ⟨0x000138, 0, 1, 0, 32, .ro, 0⟩
def HI_DLT_HEAD_HEAD : Fld := ⟨0x000158, 0, 1, 0, 32, .ro, 0⟩
def HI_SQ_TAIL_TAIL : Fld := ⟨0x00101C, 64, 64, 0, 32, .ro, 0⟩
def HI_CQ_TAIL_TAIL : Fld := ⟨0x00103C, 64, 64, 0, 32, .ro, 0⟩
def HI_EVT_TAIL_TAIL : Fld := ⟨0x00011C, 0, 1, 0, 32, .ro, 0⟩
def HI_CEN_TAIL_TAIL : Fld := ⟨0x00013C, 0, 1, 0, 32, .ro, 0⟩
def HI_DLT_TAIL_TAIL : Fld := ⟨0x00015C, 0, 1, 0, 32, .ro, 0⟩
def CK_STATUS_REF_XTAL : Fld := ⟨0x100000, 0, 1, 0, 1, .ro, 0⟩
def CK_STATUS_FIXED : Fld := ⟨0x100000, 0, 1, 1, 1, .ro, 0⟩
def CK_STATUS_XTAL_OK : Fld := ⟨0x100000, 0, 1, 2, 1, .ro, 0⟩
def CK_STATUS_XTAL_LOST : Fld := ⟨0x100000, 0, 1, 3, 1, .ro, 0⟩
def CK_STATUS_EN_PEND : Fld := ⟨0x100000, 0, 1, 4, 1, .ro, 0⟩
def CK_STATUS_RUN : Fld := ⟨0x100000, 0, 1, 8, 5, .ro, 0⟩
def CK_XTAL_COUNT : Fld := ⟨0x100004, 0, 1, 0, 17, .ro, 0⟩
def CK_XTAL_WINDOWS : Fld := ⟨0x100004, 0, 1, 17, 15, .ro, 0⟩
def CK_THROTTLE_SW : Fld := ⟨0x100008, 0, 1, 0, 4, .rw, 0⟩
def CK_THROTTLE_THERM : Fld := ⟨0x100008, 0, 1, 8, 4, .ro, 0⟩
def CK_THROTTLE_SUPPLY : Fld := ⟨0x100008, 0, 1, 12, 4, .ro, 0⟩
def CK_THROTTLE_LEVEL : Fld := ⟨0x100008, 0, 1, 16, 4, .ro, 0⟩
def CK_SSC_DEPTH : Fld := ⟨0x10000C, 0, 1, 0, 4, .rw, 0⟩
def CK_SSC_RATE : Fld := ⟨0x10000C, 0, 1, 4, 2, .rw, 0⟩
def CK_SSC_DEPTH_ACT : Fld := ⟨0x10000C, 0, 1, 8, 4, .ro, 0⟩
def CK_SSC_RATE_ACT : Fld := ⟨0x10000C, 0, 1, 12, 2, .ro, 0⟩
def CK_FMEAS_GATE_US : Fld := ⟨0x100010, 0, 1, 0, 16, .rw, 0x3e8⟩
def CK_FMEAS_WATCH_EN : Fld := ⟨0x100010, 0, 1, 16, 1, .rw, 1⟩
def CK_FTOL_PPM : Fld := ⟨0x100014, 0, 1, 0, 16, .rw, 0x3e8⟩
def CK_UNLOCKS_COUNT : Fld := ⟨0x100018, 0, 1, 0, 32, .ro, 0⟩
def CK_EN_FIELD_LO_EN : Fld := ⟨0x100020, 0, 1, 0, 32, .rw, 0⟩
def CK_EN_NEAR_LO_EN : Fld := ⟨0x100028, 0, 1, 0, 32, .rw, 0⟩
def CK_EN_FIELD_HI_EN : Fld := ⟨0x100024, 0, 1, 0, 16, .rw, 0⟩
def CK_EN_NEAR_HI_EN : Fld := ⟨0x10002C, 0, 1, 0, 16, .rw, 0⟩
def CK_EN_FAR_EN : Fld := ⟨0x100030, 0, 1, 0, 24, .rw, 0⟩
def CK_EN_LINK_EN : Fld := ⟨0x100034, 0, 1, 0, 16, .rw, 0⟩
def CK_EN_MISC_PCIE_A : Fld := ⟨0x100038, 0, 1, 0, 1, .ro, 0⟩
def CK_EN_MISC_PCIE_B : Fld := ⟨0x100038, 0, 1, 1, 1, .rw, 0⟩
def CK_EN_MISC_SUPV : Fld := ⟨0x100038, 0, 1, 2, 1, .ro, 0⟩
def CK_EN_MISC_RING : Fld := ⟨0x100038, 0, 1, 3, 1, .ro, 0⟩
def CK_DSTAT_SRC : Fld := ⟨0x101000, 8, 141, 0, 2, .ro, 0⟩
def CK_DSTAT_LOCK : Fld := ⟨0x101000, 8, 141, 2, 1, .ro, 0⟩
def CK_DSTAT_GATED : Fld := ⟨0x101000, 8, 141, 3, 1, .ro, 1⟩
def CK_DSTAT_FOUT : Fld := ⟨0x101000, 8, 141, 4, 1, .ro, 0⟩
def CK_DCOUNT_COUNT : Fld := ⟨0x101004, 8, 141, 0, 32, .ro, 0⟩
def PW_STATE_STATE : Fld := ⟨0x200000, 0, 1, 0, 3, .ro, 0⟩
def PW_STATE_CALLING : Fld := ⟨0x200000, 0, 1, 3, 1, .ro, 0⟩
def PW_STATE_SAG : Fld := ⟨0x200000, 0, 1, 4, 1, .ro, 0⟩
def PW_STATE_LEAK : Fld := ⟨0x200000, 0, 1, 5, 1, .ro, 0⟩
def PW_STATE_PROTECT : Fld := ⟨0x200000, 0, 1, 6, 1, .ro, 0⟩
def PW_STATE_CARRIER_WAIT : Fld := ⟨0x200000, 0, 1, 7, 1, .ro, 0⟩
def PW_CMD_TARGET : Fld := ⟨0x200004, 0, 1, 0, 3, .wo, 0⟩
def PW_CALL_RESULT : Fld := ⟨0x200008, 0, 1, 0, 3, .ro, 0⟩
def PW_CALL_BLOCK : Fld := ⟨0x200008, 0, 1, 8, 8, .ro, 0⟩
def PW_CALL_REASON : Fld := ⟨0x200008, 0, 1, 16, 8, .ro, 0⟩
def PW_CALL_ROUNDS : Fld := ⟨0x200008, 0, 1, 24, 3, .ro, 0⟩
def PW_WAKE_I3C_EN : Fld := ⟨0x20000C, 0, 1, 0, 1, .rw, 1⟩
def PW_WAKE_MB_EN : Fld := ⟨0x20000C, 0, 1, 1, 1, .rw, 1⟩
def PW_WAKE_WAKEN_EN : Fld := ⟨0x20000C, 0, 1, 2, 1, .rw, 1⟩
def PW_WAKE_BREACH_EN : Fld := ⟨0x20000C, 0, 1, 3, 1, .rw, 1⟩
def PW_WAKE_TARGET : Fld := ⟨0x20000C, 0, 1, 4, 1, .rw, 0⟩
def PW_WAKE_CAUSE : Fld := ⟨0x20000C, 0, 1, 8, 3, .ro, 0⟩
def PW_WATCH_PERIOD_S : Fld := ⟨0x200010, 0, 1, 0, 6, .rw, 1⟩
def PW_WATCH_LIM_VLO : Fld := ⟨0x200014, 0, 1, 0, 8, .rw, 0x30⟩
def PW_WATCH_LIM_VHI : Fld := ⟨0x200014, 0, 1, 8, 8, .rw, 0x3e⟩
def PW_WATCH_LIM_TMAX : Fld := ⟨0x200014, 0, 1, 16, 8, .rw, 0x46⟩
def PW_WATCH_LIM_LEAK_EN : Fld := ⟨0x200014, 0, 1, 24, 1, .rw, 1⟩
def PW_VIN_CV : Fld := ⟨0x200018, 0, 1, 0, 16, .ro, 0⟩
def PW_VMIN_CV : Fld := ⟨0x20001C, 0, 1, 0, 16, .ro, 0xffff⟩
def PW_VMIN_CLR : Fld := ⟨0x20001C, 0, 1, 31, 1, .wo, 0⟩
def PW_PIN_W : Fld := ⟨0x200020, 0, 1, 0, 16, .ro, 0⟩
def PW_PIN_DA : Fld := ⟨0x200020, 0, 1, 16, 16, .ro, 0⟩
def PW_PLIMIT_W : Fld := ⟨0x200024, 0, 1, 0, 16, .rw, 0x36b0⟩
def PW_PLIMIT_CAP : Fld := ⟨0x200024, 0, 1, 16, 4, .ro, 0⟩
def PW_THERM_THR_C : Fld := ⟨0x200028, 0, 1, 0, 7, .rw, 0x5f⟩
def PW_THERM_FOLD_C : Fld := ⟨0x200028, 0, 1, 8, 7, .rw, 0x69⟩
def PW_THERM_HOT_C : Fld := ⟨0x200028, 0, 1, 16, 7, .ro, 0x73⟩
def PW_THERM_COOL_S : Fld := ⟨0x200028, 0, 1, 24, 8, .rw, 0x3c⟩
def PW_SAGS_COUNT : Fld := ⟨0x20002C, 0, 1, 0, 32, .ro, 0⟩
def PW_CONV_OK : Fld := ⟨0x200030, 0, 1, 0, 16, .ro, 0⟩
def PW_CONV_K : Fld := ⟨0x200030, 0, 1, 16, 5, .ro, 0⟩
def PW_FOLDREQ_LO_REQ : Fld := ⟨0x200034, 0, 1, 0, 32, .w1c, 0⟩
def PW_FOLDREQ_HI_REQ : Fld := ⟨0x200038, 0, 1, 0, 16, .w1c, 0⟩
def PW_RAIL_LO_ON : Fld := ⟨0x20003C, 0, 1, 0, 32, .ro, 0⟩
def PW_RAIL_HI_ON : Fld := ⟨0x200040, 0, 1, 0, 16, .ro, 0⟩
def PW_FUSE_FUSE_A : Fld := ⟨0x2000FC, 0, 1, 0, 10, .rw, 0x190⟩
def PW_TEMP_Q4 : Fld := ⟨0x200100, 4, 48, 0, 11, .ro, 0⟩
def PW_NTEMP_Q4 : Fld := ⟨0x2001C0, 4, 48, 0, 11, .ro, 0⟩
def PW_TEMP_VALID : Fld := ⟨0x200100, 4, 48, 16, 1, .ro, 0⟩
def PW_NTEMP_VALID : Fld := ⟨0x2001C0, 4, 48, 16, 1, .ro, 0⟩
def SP_STATUS_UP : Fld := ⟨0x900000, 0, 1, 0, 1, .ro, 0⟩
def SP_STATUS_FATAL : Fld := ⟨0x900000, 0, 1, 1, 1, .ro, 0⟩
def SP_STATUS_STAGED : Fld := ⟨0x900000, 0, 1, 2, 1, .ro, 0⟩
def SP_STATUS_SWITCH_PEND : Fld := ⟨0x900000, 0, 1, 3, 1, .ro, 0⟩
def SP_STATUS_I3C_UP : Fld := ⟨0x900000, 0, 1, 4, 1, .ro, 0⟩
def SP_STATUS_ETH_UP : Fld := ⟨0x900000, 0, 1, 5, 1, .ro, 0⟩
def SP_STATUS_SESSION : Fld := ⟨0x900000, 0, 1, 6, 1, .ro, 0⟩
def SP_CTRL_KICK : Fld := ⟨0x900004, 0, 1, 0, 1, .w1s, 0⟩
def SP_CTRL_WDOG_EN : Fld := ⟨0x900004, 0, 1, 1, 1, .rw, 1⟩
def SP_WDOG_MS : Fld := ⟨0x900008, 0, 1, 0, 16, .rw, 0x3e8⟩
def SP_HAND_TO_S : Fld := ⟨0x90000C, 0, 1, 0, 16, .rw, 0x384⟩
def SP_TRANS_LIMIT_LIMIT : Fld := ⟨0x900010, 0, 1, 0, 16, .rw, 8⟩
def SP_RESETS_COUNT : Fld := ⟨0x900014, 0, 1, 0, 16, .ro, 0⟩
def SP_RESETS_CAUSE : Fld := ⟨0x900014, 0, 1, 16, 3, .ro, 0⟩
def SP_FW_RUN_VERSION : Fld := ⟨0x900018, 0, 1, 0, 32, .ro, 0⟩
def SP_FW_STAGED_VERSION : Fld := ⟨0x90001C, 0, 1, 0, 32, .ro, 0⟩
def SP_FATAL_CODE : Fld := ⟨0x900020, 0, 1, 0, 16, .ro, 0⟩
def SP_FATAL_ORIGIN : Fld := ⟨0x900020, 0, 1, 16, 16, .ro, 0⟩
def SP_EVTQ_DEPTH : Fld := ⟨0x900024, 0, 1, 0, 14, .ro, 0⟩
def SP_EVTQ_LOST_COUNT : Fld := ⟨0x900028, 0, 1, 0, 32, .ro, 0⟩
def SP_ETH_DHCP : Fld := ⟨0x90002C, 0, 1, 0, 1, .rw, 1⟩
def SP_ETH_IPV6 : Fld := ⟨0x90002C, 0, 1, 1, 1, .rw, 1⟩
def SC_STATUS_LIFECYCLE : Fld := ⟨0xA00000, 0, 1, 0, 2, .ro, 0⟩
def SC_STATUS_REVOKED : Fld := ⟨0xA00000, 0, 1, 2, 4, .ro, 0⟩
def SC_STATUS_RUN_SLOT : Fld := ⟨0xA00000, 0, 1, 6, 2, .ro, 0⟩
def SC_STATUS_COUNTER : Fld := ⟨0xA00000, 0, 1, 8, 7, .ro, 0⟩
def SC_STATUS_ARB_PEND : Fld := ⟨0xA00000, 0, 1, 15, 1, .ro, 0⟩
def SC_POLICY_KEYS : Fld := ⟨0xA00004, 0, 1, 0, 4, .ro, 0⟩
def SC_POLICY_REQUIRE : Fld := ⟨0xA00004, 0, 1, 4, 1, .ro, 0⟩
def SC_POLICY_LOCKED : Fld := ⟨0xA00004, 0, 1, 5, 1, .ro, 0⟩
def SC_KEYADDR_LO_ADDR : Fld := ⟨0xA00008, 0, 1, 0, 32, .rw, 0⟩
def SC_KEYADDR_HI_ADDR : Fld := ⟨0xA0000C, 0, 1, 0, 16, .rw, 0⟩
def SC_KEYCMD_OP : Fld := ⟨0xA00010, 0, 1, 0, 3, .wo, 0⟩
def SC_KEYCMD_SLOT : Fld := ⟨0xA00010, 0, 1, 3, 2, .wo, 0⟩
def SC_KEYRES_RESULT : Fld := ⟨0xA00014, 0, 1, 0, 3, .ro, 0⟩
def LG_STATUS_HALF : Fld := ⟨0xB00000, 0, 1, 0, 1, .ro, 0⟩
def LG_STATUS_COMPACTING : Fld := ⟨0xB00000, 0, 1, 1, 1, .ro, 0⟩
def LG_STATUS_TORN : Fld := ⟨0xB00000, 0, 1, 2, 1, .ro, 0⟩
def LG_STATUS_FULL : Fld := ⟨0xB00000, 0, 1, 3, 1, .ro, 0⟩
def LG_STATUS_USED : Fld := ⟨0xB00000, 0, 1, 4, 7, .ro, 0⟩
def LG_GEN_GEN : Fld := ⟨0xB00004, 0, 1, 0, 32, .ro, 0⟩
def LG_SEQ_LO_SEQ : Fld := ⟨0xB00008, 0, 1, 0, 32, .ro, 0⟩
def LG_SEQ_HI_SEQ : Fld := ⟨0xB0000C, 0, 1, 0, 16, .ro, 0⟩
def LG_CTRL_COMPACT : Fld := ⟨0xB00010, 0, 1, 0, 1, .w1s, 0⟩
def DB_STATUS_UNLOCKED : Fld := ⟨0xC00000, 0, 1, 0, 1, .ro, 0⟩
def DB_STATUS_RIGHTS : Fld := ⟨0xC00000, 0, 1, 1, 5, .ro, 0⟩
def DB_STATUS_HALTED : Fld := ⟨0xC00000, 0, 1, 6, 1, .ro, 0⟩
def DB_STATUS_FROZEN : Fld := ⟨0xC00000, 0, 1, 7, 1, .ro, 0⟩
def DB_STATUS_BREAK : Fld := ⟨0xC00000, 0, 1, 8, 1, .ro, 0⟩
def DB_STATUS_BUSY : Fld := ⟨0xC00000, 0, 1, 9, 1, .ro, 0⟩
def DB_STATUS_FAILS : Fld := ⟨0xC00000, 0, 1, 16, 8, .ro, 0⟩
def DB_CTRL_LOCK : Fld := ⟨0xC00004, 0, 1, 0, 1, .w1s, 0⟩
def DB_SUPV_HALT : Fld := ⟨0xC00008, 0, 1, 0, 1, .w1s, 0⟩
def DB_SUPV_RESUME : Fld := ⟨0xC00008, 0, 1, 1, 1, .w1s, 0⟩
def DB_SUPV_STEP : Fld := ⟨0xC00008, 0, 1, 2, 1, .w1s, 0⟩
def DB_TSEL_TILE : Fld := ⟨0xC0000C, 0, 1, 0, 11, .rw, 0⟩
def DB_TBP_PC : Fld := ⟨0xC00010, 4, 4, 0, 14, .rw, 0⟩
def DB_TBP_CTX : Fld := ⟨0xC00010, 4, 4, 14, 1, .rw, 0⟩
def DB_TBP_EN : Fld := ⟨0xC00010, 4, 4, 15, 1, .rw, 0⟩
def DB_SBP_LO_EN : Fld := ⟨0xC00100, 8, 8, 0, 1, .rw, 0⟩
def DB_SBP_LO_ADDR : Fld := ⟨0xC00100, 8, 8, 2, 30, .rw, 0⟩
def DB_SBP_HI_ADDR : Fld := ⟨0xC00104, 8, 8, 0, 16, .rw, 0⟩

end R

/-- The fields of the registers from offset 0x00_0000. -/
def fieldsHI : List Fld :=
  [R.HI_ID_DEVICE, R.HI_ID_STEPPING, R.HI_STATUS_READY, R.HI_STATUS_STAGE, R.HI_STATUS_FATAL, R.HI_STATUS_DUMP_VALID,
    R.HI_STATUS_BANK, R.HI_STATUS_HAND_RUN, R.HI_STATUS_DEAL_WAIT, R.HI_STATUS_SIDE_RUN, R.HI_CTRL_HOLD_DEALS,
    R.HI_CTRL_APER_EN, R.HI_ERR_CFG, R.HI_ERR_DOORBELL, R.HI_ERR_CABORT, R.HI_ERR_HOST_MEM, R.HI_ERR_EVT_LOST,
    R.HI_ERR_MB_TIMEOUT, R.HI_APER_LO_BASE, R.HI_APER_HI_BASE, R.HI_HAND_LO_HAND, R.HI_HAND_HI_HAND,
    R.HI_EVT_LOST_COUNT, R.HI_EVT_SEQ_SEQ] ++
  [R.HI_SQ_BASE_LO_BASE, R.HI_CQ_BASE_LO_BASE, R.HI_EVT_BASE_LO_BASE, R.HI_CEN_BASE_LO_BASE, R.HI_DLT_BASE_LO_BASE,
    R.HI_SQ_BASE_HI_BASE, R.HI_CQ_BASE_HI_BASE, R.HI_EVT_BASE_HI_BASE, R.HI_CEN_BASE_HI_BASE, R.HI_DLT_BASE_HI_BASE,
    R.HI_SQ_SIZE_SIZE, R.HI_CQ_SIZE_SIZE, R.HI_EVT_SIZE_SIZE, R.HI_CEN_SIZE_SIZE, R.HI_DLT_SIZE_SIZE, R.HI_SQ_CTRL_EN,
    R.HI_SQ_CTRL_ERROR, R.HI_SQ_CTRL_PRIO, R.HI_CQ_CTRL_EN, R.HI_EVT_CTRL_EN, R.HI_CEN_CTRL_EN, R.HI_DLT_CTRL_EN,
    R.HI_CQ_CTRL_ERROR, R.HI_EVT_CTRL_ERROR] ++
  [R.HI_CEN_CTRL_ERROR, R.HI_DLT_CTRL_ERROR, R.HI_EVT_CTRL_EP, R.HI_CEN_CTRL_EP, R.HI_DLT_CTRL_EP,
    R.HI_CQ_CTRL_VEC, R.HI_EVT_CTRL_VEC, R.HI_CEN_CTRL_VEC, R.HI_DLT_CTRL_VEC, R.HI_CQ_CTRL_COAL_N,
    R.HI_EVT_CTRL_COAL_N, R.HI_CEN_CTRL_COAL_N, R.HI_DLT_CTRL_COAL_N, R.HI_CQ_CTRL_COAL_US, R.HI_EVT_CTRL_COAL_US,
    R.HI_CEN_CTRL_COAL_US, R.HI_DLT_CTRL_COAL_US, R.HI_EVT_WB_LO_WB, R.HI_CEN_WB_LO_WB, R.HI_DLT_WB_LO_WB,
    R.HI_EVT_WB_HI_WB, R.HI_CEN_WB_HI_WB, R.HI_DLT_WB_HI_WB] ++
  [R.HI_SQ_HEAD_HEAD, R.HI_CQ_HEAD_HEAD, R.HI_EVT_HEAD_HEAD, R.HI_CEN_HEAD_HEAD, R.HI_DLT_HEAD_HEAD, R.HI_SQ_TAIL_TAIL,
    R.HI_CQ_TAIL_TAIL, R.HI_EVT_TAIL_TAIL, R.HI_CEN_TAIL_TAIL, R.HI_DLT_TAIL_TAIL]

/-- The fields of the registers from offset 0x10_0000. -/
def fieldsCK : List Fld :=
  [R.CK_STATUS_REF_XTAL, R.CK_STATUS_FIXED, R.CK_STATUS_XTAL_OK, R.CK_STATUS_XTAL_LOST, R.CK_STATUS_EN_PEND,
    R.CK_STATUS_RUN, R.CK_XTAL_COUNT, R.CK_XTAL_WINDOWS, R.CK_THROTTLE_SW, R.CK_THROTTLE_THERM, R.CK_THROTTLE_SUPPLY,
    R.CK_THROTTLE_LEVEL, R.CK_SSC_DEPTH, R.CK_SSC_RATE, R.CK_SSC_DEPTH_ACT, R.CK_SSC_RATE_ACT, R.CK_FMEAS_GATE_US,
    R.CK_FMEAS_WATCH_EN, R.CK_FTOL_PPM, R.CK_UNLOCKS_COUNT, R.CK_EN_FIELD_LO_EN, R.CK_EN_NEAR_LO_EN,
    R.CK_EN_FIELD_HI_EN, R.CK_EN_NEAR_HI_EN] ++
  [R.CK_EN_FAR_EN, R.CK_EN_LINK_EN, R.CK_EN_MISC_PCIE_A, R.CK_EN_MISC_PCIE_B, R.CK_EN_MISC_SUPV, R.CK_EN_MISC_RING,
    R.CK_DSTAT_SRC, R.CK_DSTAT_LOCK, R.CK_DSTAT_GATED, R.CK_DSTAT_FOUT, R.CK_DCOUNT_COUNT]

/-- The fields of the registers from offset 0x20_0000. -/
def fieldsPW : List Fld :=
  [R.PW_STATE_STATE, R.PW_STATE_CALLING, R.PW_STATE_SAG, R.PW_STATE_LEAK, R.PW_STATE_PROTECT, R.PW_STATE_CARRIER_WAIT,
    R.PW_CMD_TARGET, R.PW_CALL_RESULT, R.PW_CALL_BLOCK, R.PW_CALL_REASON, R.PW_CALL_ROUNDS, R.PW_WAKE_I3C_EN,
    R.PW_WAKE_MB_EN, R.PW_WAKE_WAKEN_EN, R.PW_WAKE_BREACH_EN, R.PW_WAKE_TARGET, R.PW_WAKE_CAUSE, R.PW_WATCH_PERIOD_S,
    R.PW_WATCH_LIM_VLO, R.PW_WATCH_LIM_VHI, R.PW_WATCH_LIM_TMAX, R.PW_WATCH_LIM_LEAK_EN, R.PW_VIN_CV, R.PW_VMIN_CV] ++
  [R.PW_VMIN_CLR, R.PW_PIN_W, R.PW_PIN_DA, R.PW_PLIMIT_W, R.PW_PLIMIT_CAP, R.PW_THERM_THR_C, R.PW_THERM_FOLD_C,
    R.PW_THERM_HOT_C, R.PW_THERM_COOL_S, R.PW_SAGS_COUNT, R.PW_CONV_OK, R.PW_CONV_K, R.PW_FOLDREQ_LO_REQ,
    R.PW_FOLDREQ_HI_REQ, R.PW_RAIL_LO_ON, R.PW_RAIL_HI_ON, R.PW_FUSE_FUSE_A, R.PW_TEMP_Q4, R.PW_NTEMP_Q4,
    R.PW_TEMP_VALID, R.PW_NTEMP_VALID]

/-- The fields of the registers from offset 0x30_0000. -/
def fieldsFB : List Fld :=
  [R.FB_CTRL_NT_START, R.FB_CTRL_WATCH_EN, R.FB_CTRL_RETRY_EN, R.FB_STATUS_NT_BUSY, R.FB_STATUS_NT_DONE,
    R.FB_STATUS_FROZEN, R.FB_STATUS_STALLED, R.FB_STATUS_GOOD_TILES, R.FB_TRUMP_CMD_CMD, R.FB_TRUMP_CMD_STEPS,
    R.FB_TRUMP_FLAGS_NONFIN, R.FB_TRUMP_FLAGS_RENEGE, R.FB_TRUMP_FLAGS_FAULT, R.FB_FREEZE_AT_LO_F_LO,
    R.FB_FREEZE_AT_HI_F_HI, R.FB_FREEZE_BEAT_LO_FE_LO, R.FB_FREEZE_BEAT_HI_FE_HI, R.FB_TRICK_TO_MS,
    R.FB_SLIP_LIMIT_LIMIT, R.FB_SLIP_TOTAL_TOTAL, R.FB_STALL_BEATS_BEATS, R.FB_LINK_LIMIT_LIMIT, R.FB_FOLDED_LO_FIELDS,
    R.FB_LOST_LO_FIELDS] ++
  [R.FB_FOLDED_HI_FIELDS, R.FB_LOST_HI_FIELDS, R.FB_FSLIP_SLIPS]

/-- The fields of the registers from offset 0x40_0000. -/
def fieldsDL : List Fld :=
  [R.DL_CTRL_MODE, R.DL_CTRL_SCRUB_N, R.DL_CTRL_SCRUB_S, R.DL_CTRL_MIRROR_RETRY, R.DL_STATUS_MODE_ACT,
    R.DL_STATUS_MODE_PEND, R.DL_STATUS_NPOS, R.DL_INSVC_LO_POS, R.DL_INSVC_HI_POS, R.DL_SCRUB_NEAR_H,
    R.DL_SCRUB_STOCK_H, R.DL_GATHER_TO_MS, R.DL_CE_LIMIT_LIMIT, R.DL_MAP_GEN_GEN, R.DL_PSTAT_INSVC, R.DL_PSTAT_NEAR_OK,
    R.DL_PSTAT_STOCK_OK, R.DL_PSTAT_CAUSE, R.DL_PCE_COUNT, R.DL_PUE_COUNT, R.DL_SCE_COUNT, R.DL_SUE_COUNT,
    R.DL_PSPARE_SPARES, R.DL_PLATE_BEATS] ++
  [R.DL_PDESC_INDEX]

/-- The fields of the registers from offset 0x50_0000. -/
def fieldsNM : List Fld :=
  [R.NM_CTRL_CENSUS_EN, R.NM_CTRL_WATCH_EN, R.NM_CTRL_CHOOSER_EN, R.NM_STATUS_COLLECT_BUSY, R.NM_STATUS_NTENSOR,
    R.NM_CHOOSER_HEAD, R.NM_CHOOSER_BACKOFF, R.NM_CHOOSER_HOLD, R.NM_SIL_SHARE_PPM, R.NM_SIL_HANDS_N,
    R.NM_PIN_SEL_TENSOR, R.NM_PIN_CODE, R.NM_PIN_EN, R.NM_REC_SEQ_SEQ, R.NM_HAND_LO_HAND, R.NM_HAND_HI_HAND,
    R.NM_NONFIN_HANDS_COUNT, R.NM_SILENT_COUNT, R.NM_LOST_COUNT]

/-- The fields of the registers from offset 0x60_0000. -/
def fieldsPT : List Fld :=
  [R.PT_CTRL_SEAL_CHK, R.PT_CTRL_CACHE_EN, R.PT_CTRL_MIRROR_SEAL, R.PT_STATUS_ORDERED, R.PT_STATUS_REBUILD,
    R.PT_STATUS_ALL_SEALED, R.PT_STATUS_OPEN, R.PT_SEAL_Q_US, R.PT_ROUND_TO_MS, R.PT_RENEGES_COUNT,
    R.PT_REBUILDS_COUNT, R.PT_LNORM_LO_BITS, R.PT_LNORM_HI_BITS, R.PT_RNORM_LO_BITS, R.PT_RNORM_HI_BITS, R.PT_SEATS_S,
    R.PT_HAND_SEALED_HAND, R.PT_PSTAT_TRACK, R.PT_PSTAT_OPEN, R.PT_PTRACK_PEAK, R.PT_PCRIB_MIB, R.PT_PHELD_BEATS,
    R.PT_PPKT_COUNT]

/-- The fields of the registers from offset 0x70_0000. -/
def fieldsNU : List Fld :=
  [R.NM_UPD_CTRL_MEAN, R.NM_UPD_CTRL_SKIP_NEXT, R.NM_UPD_CTRL_DELTA_EN, R.NM_UPD_CTRL_PUSH_EN, R.NM_UPD_CTRL_FULL_NOW,
    R.NM_UPD_STATUS_DECISION, R.NM_UPD_STATUS_CAUSE, R.NM_UPD_STATUS_SWEEP_BUSY, R.NM_UPD_STATUS_TORN,
    R.NM_UPD_STATUS_PUSH_BUSY, R.NM_UPD_STATUS_MIRROR_VALID, R.NM_UPD_STATUS_FULL_BUSY, R.NM_LR_LR, R.NM_CLIP_CLIP,
    R.NM_CEIL_CEIL, R.NM_FULL_N_N, R.NM_SWEEP_TO_S, R.NM_MIRROR_A_GIB, R.NM_MIRROR_B_GIB, R.NM_MIRROR_HOST_EN,
    R.NM_STEP_LO_STEP, R.NM_STEP_HI_STEP, R.NM_RESTORE_HAND_LO_HAND, R.NM_RESTORE_HAND_HI_HAND] ++
  [R.NM_RESTORE_STEP_LO_STEP, R.NM_RESTORE_STEP_HI_STEP, R.NM_RESTORE_CMD_GO, R.NM_SWEEP_MS_MS,
    R.NM_MIRROR_HAND_LO_HAND, R.NM_MIRROR_HAND_HI_HAND, R.NM_FULL_HAND_LO_HAND, R.NM_FULL_HAND_HI_HAND]

/-- The fields of the registers from offset 0x80_0000. -/
def fieldsLK : List Fld :=
  [R.LK_CTRL_RELAY, R.LK_CTRL_MIRROR, R.LK_CTRL_NOISE_EN, R.LK_CTRL_STAGE_EN, R.LK_STATUS_PORTS_UP,
    R.LK_STATUS_TABLE_OK, R.LK_TABLE_ID_LO_ID, R.LK_TABLE_ID_HI_ID, R.LK_RANK_RANK, R.LK_SEATS_S, R.LK_TGEN_GEN,
    R.LK_CMD_COMMIT, R.LK_TRICK_TO_MS, R.LK_PARK_TO_MS, R.LK_ARB_GATHER, R.LK_ARB_REDUCE, R.LK_STAGE_STAGE,
    R.LK_TREE_PARENT, R.LK_TREE_EN, R.LK_TREE_CHILDREN, R.LK_ROUTE_PORTS, R.LK_HOME_OWNER, R.LK_HOME_MIRROR,
    R.LK_PCTRL_EN] ++
  [R.LK_PCTRL_DATELINE, R.LK_PCTRL_DIM, R.LK_PCTRL_DEGRADE_EN, R.LK_PCTRL_RETRAIN, R.LK_PSTAT_STATE,
    R.LK_PSTAT_HALF_HI, R.LK_PSTAT_PRECODE, R.LK_PSTAT_PEER_RANK, R.LK_PSTAT_PEER_PORT, R.LK_PFEC_CE_COUNT,
    R.LK_PFEC_UE_COUNT, R.LK_PRETRY_COUNT, R.LK_PHELD_SLOTS, R.LK_PBER_ERRORS]

/-- The fields of the registers from offset 0x90_0000. -/
def fieldsSP : List Fld :=
  [R.SP_STATUS_UP, R.SP_STATUS_FATAL, R.SP_STATUS_STAGED, R.SP_STATUS_SWITCH_PEND, R.SP_STATUS_I3C_UP,
    R.SP_STATUS_ETH_UP, R.SP_STATUS_SESSION, R.SP_CTRL_KICK, R.SP_CTRL_WDOG_EN, R.SP_WDOG_MS, R.SP_HAND_TO_S,
    R.SP_TRANS_LIMIT_LIMIT, R.SP_RESETS_COUNT, R.SP_RESETS_CAUSE, R.SP_FW_RUN_VERSION, R.SP_FW_STAGED_VERSION,
    R.SP_FATAL_CODE, R.SP_FATAL_ORIGIN, R.SP_EVTQ_DEPTH, R.SP_EVTQ_LOST_COUNT, R.SP_ETH_DHCP, R.SP_ETH_IPV6]

/-- The fields of the registers from offset 0xA0_0000. -/
def fieldsSC : List Fld :=
  [R.SC_STATUS_LIFECYCLE, R.SC_STATUS_REVOKED, R.SC_STATUS_RUN_SLOT, R.SC_STATUS_COUNTER, R.SC_STATUS_ARB_PEND,
    R.SC_POLICY_KEYS, R.SC_POLICY_REQUIRE, R.SC_POLICY_LOCKED, R.SC_KEYADDR_LO_ADDR, R.SC_KEYADDR_HI_ADDR,
    R.SC_KEYCMD_OP, R.SC_KEYCMD_SLOT, R.SC_KEYRES_RESULT]

/-- The fields of the registers from offset 0xB0_0000. -/
def fieldsLG : List Fld :=
  [R.LG_STATUS_HALF, R.LG_STATUS_COMPACTING, R.LG_STATUS_TORN, R.LG_STATUS_FULL, R.LG_STATUS_USED, R.LG_GEN_GEN,
    R.LG_SEQ_LO_SEQ, R.LG_SEQ_HI_SEQ, R.LG_CTRL_COMPACT]

/-- The fields of the registers from offset 0xC0_0000. -/
def fieldsDB : List Fld :=
  [R.DB_STATUS_UNLOCKED, R.DB_STATUS_RIGHTS, R.DB_STATUS_HALTED, R.DB_STATUS_FROZEN, R.DB_STATUS_BREAK,
    R.DB_STATUS_BUSY, R.DB_STATUS_FAILS, R.DB_CTRL_LOCK, R.DB_SUPV_HALT, R.DB_SUPV_RESUME, R.DB_SUPV_STEP,
    R.DB_TSEL_TILE, R.DB_TBP_PC, R.DB_TBP_CTX, R.DB_TBP_EN, R.DB_SBP_LO_EN, R.DB_SBP_LO_ADDR, R.DB_SBP_HI_ADDR]

/-- The fields of the block that an offset lies in (R385). -/
def fieldsOf (off : Nat) : List Fld :=
  match off / 0x100000 with
  | 0 => fieldsHI
  | 1 => fieldsCK
  | 2 => fieldsPW
  | 3 => fieldsFB
  | 4 => fieldsDL
  | 5 => fieldsNM
  | 6 => fieldsPT
  | 7 => fieldsNU
  | 8 => fieldsLK
  | 9 => fieldsSP
  | 10 => fieldsSC
  | 11 => fieldsLG
  | 12 => fieldsDB
  | _ => []

/-- Whether a register of a field lies at an offset. -/
def Fld.at_ (f : Fld) (off : Nat) : Bool :=
  if f.count = 1 then f.off == off
  else decide (f.off ≤ off) && (off - f.off) % f.stride == 0 && decide ((off - f.off) / f.stride < f.count)

/-- The fields of the register at an offset; none where no register lies there. -/
def regFields (off : Nat) : List Fld := (fieldsOf off).filter (fun f => f.at_ off)

/-- The offset of register `i` of a field's array. -/
def Fld.addr (f : Fld) (i : Nat) : Nat := f.off + f.stride * i

/-- The Reset column for register `i` of a field. LK_HOME_s resets to its own seat number (R381), and every gate of CK_DSTAT is
closed but that of the always-on domain, 140 (R443). -/
def Fld.resetAt (f : Fld) (i : Nat) : Nat :=
  if f.off = 0x802000 then i
  else if f.off = 0x101000 && f.lsb == 3 then b2n (i != 140)
  else f.reset

/-- The number of the register of an array that lies at an offset. -/
def Fld.index (f : Fld) (off : Nat) : Nat := if f.stride = 0 then 0 else (off - f.off) / f.stride

/-- The value of the register at an offset after the reset of its Reset column (R19). -/
def regReset (off : Nat) : W32 :=
  BitVec.ofNat 32 ((regFields off).foldl (fun v f => v + f.resetAt (f.index off) * 2 ^ f.lsb) 0)

/-- The stored word of the register at an offset. -/
def State.reg (s : State) (off : Nat) : W32 := s.regs.get off (regReset off)

/-- Store a word in the register at an offset. -/
def State.setReg (s : State) (off : Nat) (w : W32) : State := { s with regs := s.regs.put off w (regReset off) }

/-- The stored value of a field. -/
def State.getI (s : State) (f : Fld) (i : Nat) : Nat := bitsOf (s.reg (f.addr i)).toNat f.lsb f.width

/-- Store a value in a field; the other bits of its register stay. -/
def State.setI (s : State) (f : Fld) (i v : Nat) : State :=
  s.setReg (f.addr i) (BitVec.ofNat 32 (setBits (s.reg (f.addr i)).toNat f.lsb f.width v))

/-- The stored value of a field of a single register. -/
def State.rd (s : State) (f : Fld) : Nat := s.getI f 0

/-- Store a value in a field of a single register. -/
def State.wr (s : State) (f : Fld) (v : Nat) : State := s.setI f 0 v

/-- Whether a one-bit field holds 1. -/
def State.on (s : State) (f : Fld) : Bool := s.rd f == 1

/-- Add to a counter that stops at its largest value. -/
def State.bumpI (s : State) (f : Fld) (i n : Nat) : State := s.setI f i (min (s.getI f i + n) (2 ^ f.width - 1))

/-- Add to a single counter that stops at its largest value. -/
def State.bump (s : State) (f : Fld) (n : Nat) : State := s.bumpI f 0 n

end Sys2Proof.Machine
end

