-- ==== Sys2Proof/Machine/Ops.lean ====
section
/-! DEFINITION. The named operations that the commands share: tiles and positions, the ledger journal, events, interrupts, rings
and completions, and what ends a hand early (a stop, a misdeal, a torn sweep, a fatal error). -/

namespace Sys2Proof.Machine

/-! ## Parts of the state -/

/-- Tile `t`. -/
def State.tile (s : State) (t : Nat) : Tile := s.tiles.get t Tile.reset
/-- Put tile `t`. -/
def State.setTile (s : State) (t : Nat) (x : Tile) : State := { s with tiles := s.tiles.put t x Tile.reset }
/-- Change tile `t`. -/
def State.onTile (s : State) (t : Nat) (f : Tile → Tile) : State := s.setTile t (f (s.tile t))
/-- Position `k`. -/
def State.posn (s : State) (k : Nat) : Pos := s.pos.get k Pos.reset
/-- Put position `k`. -/
def State.setPos (s : State) (k : Nat) (x : Pos) : State := { s with pos := s.pos.put k x Pos.reset }
/-- Change position `k`. -/
def State.onPos (s : State) (k : Nat) (f : Pos → Pos) : State := s.setPos k (f (s.posn k))
/-- Fold a change over a list. -/
def State.each {α : Type} (s : State) (l : List α) (f : State → α → State) : State := l.foldl f s
/-- A change made under a condition. -/
def State.when (s : State) (c : Bool) (f : State → State) : State := if c then f s else s
/-- Every tile of the wafer (R17). -/
def allTiles : List Nat := List.range 1152
/-- Every field (R17, R555). -/
def allFields : List Nat := List.range 48
/-- Every deal position. -/
def allPos : List Nat := List.range 48
/-- Every link port. -/
def allPorts : List Nat := List.range 16

/-- Draw a word that the rules leave open. -/
def State.freeW (s : State) : W32 × State := (Config.freeWord s.free, { s with free := s.free + 1 })
/-- Draw a 64-bit value that the rules leave open. -/
def State.freeL (s : State) : W64 × State := (Config.freeLong s.free, { s with free := s.free + 1 })
/-- Draw a byte that the rules leave open. -/
def State.freeB (s : State) : Byte × State := (Config.freeByte s.free, { s with free := s.free + 1 })

/-- A 64-bit pair of fields, low word first. -/
def State.rd64 (s : State) (lo hi : Fld) : Nat := s.rd lo + 2 ^ 32 * s.rd hi
/-- Store a 64-bit pair of fields, low word first. -/
def State.wr64 (s : State) (lo hi : Fld) (v : Nat) : State := (s.wr lo (v % 2 ^ 32)).wr hi (v / 2 ^ 32)

/-! ## Geometry of the wafer (R17, R168, R195) -/

/-- Column of a tile. -/
def tileX (t : Nat) : Nat := t % 48
/-- Row of a tile. -/
def tileY (t : Nat) : Nat := t / 48
/-- The field F(c,r) of a tile as c + 8r. -/
def tileField (t : Nat) : Nat := tileX t / 6 + 8 * (tileY t / 4)
/-- The tile that edge port `p` of stack `k` is attached to (R168). -/
def edgeTile (k p : Nat) : Nat :=
  if k < 16 then 3 * k + p
  else if k < 24 then (3 * (k - 16) + p) * 48 + 47
  else if k < 40 then 23 * 48 + (47 - 3 * (k - 24) - p)
  else (23 - 3 * (k - 40) - p) * 48
/-- The side on which edge ports of stack `k` are attached: 0 N, 1 E, 2 S, 3 W. -/
def edgeSide (k : Nat) : Nat := if k < 16 then 0 else if k < 24 then 1 else if k < 40 then 2 else 3
/-- The edge port index that lies on a side of a boundary tile, if one does. -/
def edgeAt (t side : Nat) : Option Nat :=
  (List.range 144).find? (fun q => edgeTile (q / 3) (q % 3) == t && edgeSide (q / 3) == side)
/-- The neighbour of a tile: 0 N, 1 E, 2 S, 3 W. -/
def neighbour (t side : Nat) : Option Nat :=
  match side with
  | 0 => if tileY t = 0 then none else some (t - 48)
  | 1 => if tileX t = 47 then none else some (t + 1)
  | 2 => if tileY t = 23 then none else some (t + 48)
  | 3 => if tileX t = 0 then none else some (t - 1)
  | _ => none
/-- The link index of a side of a tile (R195). -/
def linkOf (t side : Nat) : Nat :=
  match side, neighbour t side with
  | 0, some n => 1128 + tileY n * 48 + tileX n
  | 1, some _ => tileY t * 47 + tileX t
  | 2, some _ => 1128 + tileY t * 48 + tileX t
  | 3, some n => tileY n * 47 + tileX n
  | sd, _ => 2232 + (edgeAt t sd).getD 0
/-- Whether a link between two tiles crosses a seam. -/
def isSeam (a b : Nat) : Bool := tileField a != tileField b

/-- The state of a tile in the defect map: 0 GOOD, 1 PASS, 2 HOLE, 3 RETIRED (R195). -/
def State.tileState (s : State) (t : Nat) : Nat := (s.fab.dmap.tiles.get t 0).toNat
/-- Fields folded. -/
def State.folded (s : State) : Nat := s.rd64 R.FB_FOLDED_LO_FIELDS R.FB_FOLDED_HI_FIELDS
/-- Fields lost. -/
def State.lost (s : State) : Nat := s.rd64 R.FB_LOST_LO_FIELDS R.FB_LOST_HI_FIELDS
/-- Fields folded or lost, with which seams report ABSENT and tiles are gated (R187, R122). -/
def State.fieldOff (s : State) (f : Nat) : Bool := bitOf s.folded f || bitOf s.lost f
/-- Number of good tiles (R195). -/
def State.goodTiles (s : State) : Nat := (allTiles.filter (fun t => s.tileState t == 0)).length

/-! ## Positions and views (R219, R222, R225, R226) -/

/-- Whether position `k` is in service. -/
def State.inSvc (s : State) (k : Nat) : Bool := bitOf (s.rd64 R.DL_INSVC_LO_POS R.DL_INSVC_HI_POS) k
/-- The positions in service, ascending (R222). -/
def State.svc (s : State) : List Nat := allPos.filter s.inSvc
/-- One GiB. -/
def gib : Nat := 2 ^ 30
/-- Stack offset at which the reserved band begins (R221). -/
def bandOff : Nat := 95026151424
/-- Stack offsets of the regions of the band (R37, R221). -/
def imageOff : Nat := 89 * gib
def gatherOff : Nat := imageOff + 512 * 2 ^ 20
def sweepOff : Nat := 91 * gib
def shadowOff : Nat := sweepOff + 512 * 2 ^ 20
def gateOff : Nat := 92 * gib
def exportOff : Nat := gateOff + 512 * 2 ^ 20
def cribOff : Nat := exportOff + gib
/-- Base of the misdeal dump on its stack: the top 2 GiB of the crib (R39, R224). -/
def dumpOff : Nat := 94 * gib
/-- Base of the band of position `k` in the interleaved view (R38). -/
def bandBase (k : Nat) : Nat := 0x042600000000 + k * 0x0001E0000000

/-- A byte of memory behind a device address. -/
inductive Loc where
  | near (k off : Nat)
  | stock (k off : Nat)
  | sram (t off : Nat)
  | treg (t off : Nat)
  deriving DecidableEq, Repr

/-- The near view (R222). -/
def State.nearLoc (s : State) (a : Nat) : Option Loc :=
  let P := s.svc
  let n := P.length
  if s.on R.DL_STATUS_MODE_ACT then
    let k := a / (96 * gib)
    if s.inSvc k && decide (k < 48) then some (.near k (a % (96 * gib))) else none
  else if a < n * bandOff then
    let u := a / 4096
    some (.near (P.getD (u % n) 0) (u / n * 4096 + a % 4096))
  else if bandBase 0 ≤ a ∧ a < bandBase 48 then
    let k := (a - bandBase 0) / 0x0001E0000000
    if s.inSvc k then some (.near k (bandOff + (a - bandBase k))) else none
  else none

/-- The stock view as a slice offset of a position (R225, R226). -/
def State.stockLoc (s : State) (a : Nat) : Option Loc :=
  let P := s.svc
  let n := P.length
  let b := a - 0x100000000000
  if n = 0 ∨ 2 * n * (96 * gib) ≤ b then none
  else
    let u := b / 4096
    let d := u % (2 * n)
    some (.stock (P.getD (d / 2) 0) ((2 * (u / (2 * n)) + d % 2) * 4096 + b % 4096))

/-- Whether the SRAM and the registers of a tile may be reached: no hole, not retired (R122). -/
def State.tileReach (s : State) (t : Nat) : Bool := s.tileState t == 0 || s.tileState t == 1

/-- What a device address reaches (R217, R218, R122); none for an error. -/
def State.loc (s : State) (a : Nat) : Option Loc :=
  if a < 0x048000000000 then s.nearLoc a
  else if a < 0x100000000000 then none
  else if a < 0x190000000000 then s.stockLoc a
  else if a < 0x200000000000 then none
  else if a < 0x201200000000 then
    let t := (a - 0x200000000000) / 0x4000000
    let o := (a - 0x200000000000) % 0x4000000
    if !s.tileReach t then none
    else if o < 0x2800000 then some (.sram t o)
    else if 0x3000000 ≤ o ∧ o < 0x3000100 then some (.treg t (o - 0x3000000))
    else none
  else none

/-- Read `n` bytes of near memory of a position. -/
def State.nearRd (s : State) (k off n : Nat) : Bytes := (s.posn k).near.bytes off n
/-- Remove and add marks of lines: a write of the whole line clears its poison, a partial write leaves it (R229). -/
def clearLines (bad : List Nat) (off n : Nat) : List Nat :=
  bad.filter (fun l => !(decide (off ≤ 64 * l) && decide (64 * l + 64 ≤ off + n)))
/-- Write bytes of near memory of a position. -/
def State.nearWr (s : State) (k off : Nat) (b : Bytes) : State :=
  s.onPos k (fun p => { p with near := p.near.store off b, nearBad := clearLines p.nearBad off b.length })
/-- Read `n` bytes of a stock slice. -/
def State.stockRd (s : State) (k off n : Nat) : Bytes := (s.posn k).stock.bytes off n
/-- Write bytes of a stock slice. -/
def State.stockWr (s : State) (k off : Nat) (b : Bytes) : State :=
  s.onPos k (fun p => { p with stock := p.stock.store off b, stockBad := clearLines p.stockBad off b.length })
/-- Whether any line of a range is poisoned. -/
def anyBad (bad : List Nat) (off n : Nat) : Bool :=
  bad.any (fun l => decide (64 * l < off + n) && decide (off < 64 * l + 64))

/-- Write bytes of a tile's SRAM; a write of a whole 64-bit word cures a word whose error was an upset (R120). -/
def Tile.sramWr (x : Tile) (off : Nat) (b : Bytes) : Tile :=
  { x with
    sram := x.sram.store off b
    sramBad := x.sramBad.filter (fun w => !(decide (off ≤ 8 * w) && decide (8 * w + 8 ≤ off + b.length))) }

/-- One byte behind a location. -/
def State.locRd (s : State) : Loc → Byte
  | .near k o => (s.posn k).near.get o 0
  | .stock k o => (s.posn k).stock.get o 0
  | .sram t o => (s.tile t).sram.get o 0
  | .treg _ _ => 0

/-- Write one byte behind a location. -/
def State.locWr (s : State) (b : Byte) : Loc → State
  | .near k o => s.onPos k (fun p => { p with near := p.near.put o b 0 })
  | .stock k o => s.onPos k (fun p => { p with stock := p.stock.put o b 0 })
  | .sram t o => s.onTile t (fun x => { x with sram := x.sram.put o b 0 })
  | .treg _ _ => s

/-- Bytes at device addresses from `a`; where an address is an error the byte reads 0, and no caller asks for one. -/
def State.devRd (s : State) (a n : Nat) : Bytes :=
  (List.range n).map (fun i => match s.loc (a + i) with | some l => s.locRd l | none => 0)

/-- Clear the poison of lines that a range covers whole, in the view's terms (R229). -/
def State.clearPoison (s : State) (a n : Nat) : State :=
  s.each ((List.range (n / 64 + 2)).map (fun i => (a / 64 + i) * 64)) (fun s l =>
    if a ≤ l ∧ l + 64 ≤ a + n then
      match s.loc l with
      | some (.near k o) => s.onPos k (fun p => { p with nearBad := p.nearBad.filter (· != o / 64) })
      | some (.stock k o) => s.onPos k (fun p => { p with stockBad := p.stockBad.filter (· != o / 64) })
      | _ => s
    else s)

/-- Mark the line of a device address poisoned. -/
def State.poison (s : State) (a : Nat) : State :=
  match s.loc a with
  | some (.near k o) => s.onPos k (fun p => { p with nearBad := setIns p.nearBad (o / 64) })
  | some (.stock k o) => s.onPos k (fun p => { p with stockBad := setIns p.stockBad (o / 64) })
  | _ => s

/-- Whether the line of a device address is poisoned. -/
def State.poisoned (s : State) (a : Nat) : Bool :=
  match s.loc a with
  | some (.near k o) => (s.posn k).nearBad.contains (o / 64)
  | some (.stock k o) => (s.posn k).stockBad.contains (o / 64)
  | some (.sram t o) => (s.tile t).sramBad.contains (o / 8)
  | _ => false

/-- Write bytes at device addresses from `a`: lines written whole lose their poison, words of SRAM too. -/
def State.devWr (s : State) (a : Nat) (b : Bytes) : State :=
  match s.loc a with
  | some (.sram t o) => s.onTile t (fun x => x.sramWr o b)
  | _ =>
    ((List.range b.length).foldl (fun s i =>
      match s.loc (a + i) with
      | some l => s.locWr (b.getD i 0) l
      | none => s) s).clearPoison a b.length

/-- The lowest position in service, where the system tables lie (R224). -/
def State.lowPos (s : State) : Nat := s.svc.headD 0
/-- The highest position in service, where the dump lies (R224). -/
def State.highPos (s : State) : Nat := s.svc.getLastD 47

/-! ## The journal (R522 to R526) -/

/-- Bytes that a record takes in the flash (R522). -/
def LRec.size (r : LRec) : Nat := 32 + roundUp r.payload.length 16
/-- Bytes of a journal half in use: the SWITCH area and the records. -/
def Security.used (c : Security) : Nat := (c.recs.filter (fun r => r.typ != 1)).foldl (fun n r => n + r.size) 4096
/-- Size of a journal half (R505). -/
def halfSize : Nat := 120 * 2 ^ 20
/-- Fill at which compaction begins (R526). -/
def compactAt : Nat := 90 * 2 ^ 20

/-! ## Events (R405, R560) -/

/-- The bytes of an argument (R560). -/
def Arg.bytes : Arg → Bytes
  | .w4 n => leBytes 4 n
  | .w8 n => leBytes 8 n

/-- The 64-byte record of an event (R405). -/
def EvRec.bytes (e : EvRec) : Bytes :=
  let h := leBytes 2 e.code.toNat ++ zeros 2 ++ leBytes 4 e.seq.toNat ++ leBytes 8 e.time ++ leBytes 8 e.hand.toNat ++
    slice (e.args.flatMap Arg.bytes) 0 32 ++ zeros 4
  h ++ leBytes 4 (crc32c h).toNat

/-- Write bytes in the host's memory at a bus address. -/
def State.hostWr (s : State) (a : Nat) (b : Bytes) : State :=
  { s with host := { s.host with mem := s.host.mem.store a b } }

/-- Whether the module may write host memory through an endpoint: link up and Bus Master Enable. -/
def State.master (s : State) (ep : Nat) : Bool := bitOf s.host.linkUp.toNat ep && bitOf s.host.bme.toNat ep

/-- BAR0 offset of an entry of the MSI-X table (R385). -/
def msixOff (v : Nat) : Nat := 0xE00000 + 16 * v

/-- The reset value of a word of the MSI-X table or of its pending bits: 0, but for the mask bit of a vector, which is 1 (log 203). -/
def msixReset (off : Nat) : W32 := if off < 0xE01000 ∧ off % 16 = 12 then 1 else 0

/-- A word of the MSI-X table or of its pending bits. -/
def State.msixRd (s : State) (off : Nat) : Nat := (s.regs.get off (msixReset off)).toNat

/-- Store a word of the MSI-X table or of its pending bits. -/
def State.msixWr (s : State) (off v : Nat) : State := { s with regs := s.regs.put off (BitVec.ofNat 32 v) (msixReset off) }

/-- Send a message on a vector; for a masked vector, or while PCIE_A may not write, set its pending bit (R410). -/
def State.msix (s : State) (v : Nat) : State :=
  if bitOf (s.msixRd (msixOff v + 12)) 0 || !s.master 0 then
    let o := 0xE01000 + 4 * (v / 32)
    s.msixWr o (s.msixRd o ||| 2 ^ (v % 32))
  else
    s.hostWr (s.msixRd (msixOff v) + 2 ^ 32 * s.msixRd (msixOff v + 4)) (leBytes 4 (s.msixRd (msixOff v + 8)))

/-- The rings that the module writes. -/
inductive Ring where
  | evt
  | cen
  | dlt
  | cq (q : Nat)
  deriving DecidableEq, Repr

/-- BAR0 offset of a ring's register block (R420). -/
def Ring.off : Ring → Nat
  | .evt => 0x100
  | .cen => 0x120
  | .dlt => 0x140
  | .cq q => 0x1020 + 0x40 * q

/-- The number of a ring: its BAR2 doorbell page (R557). -/
def Ring.num : Ring → Nat
  | .evt => 128
  | .dlt => 129
  | .cen => 130
  | .cq q => 64 + q

/-- A register of a ring's block. -/
def State.rreg (s : State) (r : Ring) (o : Nat) : Nat := (s.reg (r.off + o)).toNat

/-- A ring beside its registers. -/
def State.outq (s : State) : Ring → OutQ
  | .evt => s.host.evt
  | .cen => s.host.cen
  | .dlt => s.host.dlt
  | .cq q => s.host.cqs.get q OutQ.reset

/-- Put a ring beside its registers. -/
def State.setOutq (s : State) (r : Ring) (o : OutQ) : State :=
  match r with
  | .evt => { s with host := { s.host with evt := o } }
  | .cen => { s with host := { s.host with cen := o } }
  | .dlt => { s with host := { s.host with dlt := o } }
  | .cq q => { s with host := { s.host with cqs := s.host.cqs.put q o OutQ.reset } }

/-- Entries of a ring; for the delta ring, 64-byte units of its 2^k bytes (R401, R422). -/
def State.ringSize (s : State) (r : Ring) : Nat :=
  let z := bitsOf (s.rreg r 8) 0 17
  match r with
  | .dlt => 2 ^ (z % 64) / 64
  | _ => z

/-- Base address of a ring. -/
def State.ringBase (s : State) (r : Ring) : Nat := s.rreg r 0 + 2 ^ 32 * s.rreg r 4
/-- Head of a ring. -/
def State.ringHead (s : State) (r : Ring) : Nat := s.rreg r 0x18
/-- Tail of a ring. -/
def State.ringTail (s : State) (r : Ring) : Nat := s.rreg r 0x1C
/-- Whether a ring is enabled. -/
def State.ringOn (s : State) (r : Ring) : Bool := bitOf (s.rreg r 0xC) 0
/-- Whether a ring is stopped by an error. -/
def State.ringErr (s : State) (r : Ring) : Bool := bitOf (s.rreg r 0xC) 1
/-- The endpoint that reaches a ring (R389). -/
def State.ringEp (s : State) (r : Ring) : Nat :=
  match r with
  | .cq _ => 0
  | _ => bitsOf (s.rreg r 0xC) 2 1
/-- Entries of a ring that are free: a ring of SIZE entries holds at most SIZE − 1 (R389). -/
def State.ringRoom (s : State) (r : Ring) : Nat :=
  let n := s.ringSize r
  if n = 0 then 0 else (s.ringHead r + n - 1 - s.ringTail r) % n
/-- Whether the module may write entries of a ring now. -/
def State.ringReady (s : State) (r : Ring) : Bool :=
  s.ringOn r && !s.ringErr r && s.master (s.ringEp r) && !(s.outq r).paused

/-- Signal after `n` entries: a message when COAL_N of them (0 acting as 1) have gone since the last (R410). -/
def State.ringSignal (s : State) (r : Ring) (n : Nat) : State :=
  let c := s.rreg r 0xC
  let o := s.outq r
  if max 1 (bitsOf c 16 8) ≤ o.unsig + n then (s.setOutq r { o with unsig := 0 }).msix (bitsOf c 8 8)
  else s.setOutq r { o with unsig := o.unsig + n }

/-- Write entries of `w` bytes from a ring's tail; entries wrap at the end of the ring (R389, R408). -/
def State.ringFill (s : State) (r : Ring) (w : Nat) : Nat → Bytes → State
  | 0, _ => s
  | n + 1, b =>
    let t := s.ringTail r
    let z := s.ringSize r
    let s := s.hostWr (s.ringBase r + w * t) (slice b 0 w)
    let s := s.setReg (r.off + 0x1C) (BitVec.ofNat 32 ((t + 1) % z))
    let o := s.outq r
    State.ringFill (s.setOutq r (if (t + 1) % z = 0 then { o with pass := !o.pass } else o)) r w n (b.drop w)

/-- Write whole entries to an export ring, then its tail word, then the message (R402, R409, R410). -/
def State.ringPut (s : State) (r : Ring) (b : Bytes) : State :=
  let n := b.length / 64
  let s := s.ringFill r 64 n b
  let s := s.hostWr (s.rreg r 0x10 + 2 ^ 32 * s.rreg r 0x14) (leBytes 8 (s.ringTail r))
  s.ringSignal r n

/-- Whether the host interface is up (R405). -/
def State.hostUp (s : State) : Bool := s.master 0 && s.ringOn .evt

/-- Bounds of the event stores (R477, R485, R486). -/
def evBufMax : Nat := 1024
def queueMax : Nat := 8192
def traceMax : Nat := 65536

/-- Events of the always-on domain: the crystal, supply resets, overvoltage, wakes, leaks and carrier waits (R426 to R429, R455, R456,
R464, R544). -/
def alwaysOnCodes : List Nat := [0x0701, 0x0702, 0x0703, 0x0704, 0x0606, 0x0607, 0x0611, 0x0612, 0x0613]

/-- Take an event to the management network: the supervisor's queue, or the buffer that holds it while the supervisor is
down or halted. When either is full the oldest record goes and is counted (R477, R486, R520). What the always-on domain emits while the
supervisor is down leaves over I3C at once (R486). -/
def State.manage (s : State) (e : EvRec) : State :=
  if s.sup.down && alwaysOnCodes.contains e.code.toNat then s
  else if s.sup.down || s.sup.halted then
    if s.sup.evBuf.length < evBufMax then { s with sup := { s.sup with evBuf := s.sup.evBuf ++ [e] } }
    else
      let s := s.bump R.SP_EVTQ_LOST_COUNT 1
      { s with sup := { s.sup with evBuf := s.sup.evBuf.tail ++ [e], queueLost := s.sup.queueLost + 1 } }
  else if s.sup.queue.length < queueMax then { s with sup := { s.sup with queue := s.sup.queue ++ [e] } }
  else
    let s := s.bump R.SP_EVTQ_LOST_COUNT 1
    { s with sup := { s.sup with queue := s.sup.queue.tail ++ [e], queueLost := s.sup.queueLost + 1 } }

/-- Emit an event without a ledger record: number it, keep it for the dump, send it to the management network, and write it to
the event ring while the host interface is up and the ring has room; every event not written there is counted in HI_EVT_LOST
(R10, R405, R406, R421). -/
def State.emitRaw (s : State) (code : Nat) (args : List Arg) : State :=
  let e : EvRec := ⟨BitVec.ofNat 16 code, s.seq + 1, s.ticks - s.resetTick, s.hand.hand, args⟩
  let s := { s with seq := s.seq + 1 }
  let s := { s with sup := { s.sup with trace := (s.sup.trace ++ [e]).drop (s.sup.trace.length + 1 - traceMax) } }
  let s := s.manage e
  if !s.hostUp then s.bump R.HI_EVT_LOST_COUNT 1
  else if s.ringReady .evt && decide (0 < s.ringRoom .evt) then s.ringPut .evt e.bytes
  else
    let s := (s.bump R.HI_EVT_LOST_COUNT 1).wr R.HI_ERR_EVT_LOST 1
    { s with host := { s.host with evtLostNow := s.host.evtLostNow + 1 } }

/-- How many of the newest records of a type compaction copies (R525); none for a type whose records all stay. -/
def keptOf (typ : Nat) : Option Nat :=
  match typ with
  | 0x0005 => some 262144
  | 0x0006 => some 4096
  | 0x0008 => none
  | 0x0009 => some 16
  | 0x000E => some 4096
  | n => some (if 2 ≤ n ∧ n ≤ 0x000D then 1 else 0)

/-- The committed records that compaction copies, each with its SEQ (R525, R526). -/
def keptRecs (l : List LRec) : List LRec :=
  let c := l.filter (·.committed)
  (c.zipIdx).filterMap (fun e =>
    let later := ((c.drop (e.2 + 1)).filter (fun r => r.typ == e.1.typ)).length
    match keptOf e.1.typ.toNat with
    | none => some e.1
    | some n => if later < n then some e.1 else none)

/-- Program and commit a record (R522, R523). -/
def State.putRec (s : State) (typ : BitVec 16) (payload : Bytes) : State :=
  let q := s.sec.seq + 1
  { s with sec := { s.sec with seq := q, recs := s.sec.recs ++ [⟨typ, q, payload, true⟩] } }

/-- LEDGER_COMPACT; how its event tells the start from the end no rule says. -/
def State.compactNote (s : State) : State := s.freeW.2.emitRaw 0x080C [.w4 s.freeW.1.toNat, .w8 s.sec.gen]

/-- A compaction begins (R526). -/
def State.compactBegin (s : State) : State :=
  if s.sec.compacting then s
  else ({ s with sec := { s.sec with compacting := true } } : State).compactNote

/-- A compaction ends (R526): the kept records and a SWITCH record with GEN + 1 and a new SEQ make the other half active; writes that waited
follow. -/
def State.compactEnd (s : State) : State :=
  let g := s.sec.gen + 1
  let q := s.sec.seq + 1
  let ws := s.sec.waits
  let s := { s with sec := { s.sec with
    half := !s.sec.half, gen := g, seq := q, recs := ⟨0x0001, q, leBytes 8 g, true⟩ :: keptRecs s.sec.recs, other := s.sec.recs,
    compacting := false, must := false, waits := [] } }
  let s := s.compactNote
  ws.foldl (fun s w => s.putRec w.1 w.2) s

/-- Compact the half where a scan or a failed write requires it before the next write (R523, R524). -/
def State.compactFirst (s : State) : State := if s.sec.must then s.compactBegin.compactEnd else s

/-- A record that does not fit in the half: an error record is only counted (R488), another waits, and LEDGER_FULL says so (R526). -/
def State.ledgerWait (s : State) (typ : BitVec 16) (payload : Bytes) : State :=
  let first := s.sec.waits.isEmpty
  let s : State :=
    if typ = 5 then { s with hand := { s.hand with unwritten := s.hand.unwritten + 1 } }
    else { s with sec := { s.sec with waits := s.sec.waits ++ [(typ, payload)] } }
  if first && typ != 5 then s.emitRaw 0x080D [.w4 (b2n s.sec.half)] else s

/-- Commit a record to the journal; its read-back succeeds (log 21). Compaction begins at 75% (R522, R523, R526). -/
def State.ledger (s : State) (typ : Nat) (payload : Bytes) : State :=
  let t := BitVec.ofNat 16 typ
  let s := s.compactFirst
  if halfSize < s.sec.used + 32 + roundUp payload.length 16 || !s.sec.waits.isEmpty then s.ledgerWait t payload
  else
    let s := s.putRec t payload
    if compactAt ≤ s.sec.used then s.compactBegin else s

/-- The events that the Ledger column of R503 marks. -/
def ledgerCodes : List Nat :=
  [0x0A03, 0x0A04, 0x0A05, 0x0A07, 0x0A08, 0x0A09, 0x0A0A, 0x0A0B, 0x0A11, 0x0A12, 0x0A13, 0x0A17, 0x0A18, 0x0A19,
   0x0A20, 0x0A21, 0x0A22, 0x0A23, 0x0A24, 0x0A25, 0x0A26, 0x0A27, 0x0A28, 0x0A29, 0x0A2A]

/-- Emit an event. A marked one is also committed to the error history, at most 64 in a hand; the rest are counted for the
boundary's count record (R488). -/
def State.emit (s : State) (code : Nat) (args : List Arg) : State :=
  let t := s.emitRaw code args
  if !ledgerCodes.contains code then t
  else
    let n := t.hand.ledgerErrs
    let t : State := { t with hand := { t.hand with ledgerErrs := n + 1 } }
    if n < 64 then
      t.ledger 0x0005 (EvRec.bytes ⟨BitVec.ofNat 16 code, s.seq + 1, s.ticks - s.resetTick, s.hand.hand, args⟩)
    else { t with hand := { t.hand with unwritten := t.hand.unwritten + 1 } }

/-- Write EVENT_LOST first when room returns in the event ring (R406). -/
def State.eventLost (s : State) : State :=
  if decide (0 < s.host.evtLostNow) && s.hostUp && s.ringReady .evt && decide (0 < s.ringRoom .evt) then
    let n := s.host.evtLostNow
    ({ s with host := { s.host with evtLostNow := 0 } } : State).emit 0x0903 [.w4 n]
  else s

/-- EVT_QUEUE_LOST names the records that the management queue and the buffer before it have dropped, once the queue has room (R10, R477,
R486). -/
def State.lostNote (s : State) : State :=
  let n := s.sup.queueLost
  if n = 0 || !(!s.sup.down && !s.sup.halted) || decide (queueMax ≤ s.sup.queue.length) then s
  else ({ s with sup := { s.sup with queueLost := 0 } } : State).emit 0x0A2B [.w4 n]

/-! ## Submission and completion (R398, R400, R403) -/

/-- BAR0 offset of a submission queue's block. -/
def sqOff (q : Nat) : Nat := 0x1000 + 0x40 * q
/-- A submission queue beside its registers. -/
def State.sq (s : State) (q : Nat) : SubQ := s.host.sqs.get q SubQ.reset
/-- Put a submission queue beside its registers. -/
def State.setSq (s : State) (q : Nat) (x : SubQ) : State :=
  { s with host := { s.host with sqs := s.host.sqs.put q x SubQ.reset } }

/-- Remove the first copy of a value. -/
def dropOne (l : List (BitVec 16)) (c : BitVec 16) : List (BitVec 16) := l.erase c

/-- The 16 bytes of a completion (R398). -/
def cqeBytes (result : Nat) (cid : BitVec 16) (sqHead q status detail : Nat) (phase : Bool) : Bytes :=
  leBytes 8 result ++ leBytes 2 cid.toNat ++ leBytes 2 sqHead ++
    [BitVec.ofNat 8 q, BitVec.ofNat 8 status, BitVec.ofNat 8 detail, BitVec.ofNat 8 (b2n phase)]

/-- Complete a started descriptor: its completion goes into the slot reserved for it, and a queue whose disable waits reads
EN = 0 once its last has posted (R391, R398, R403). A descriptor that a reset withdrew completes nowhere (R417). -/
def State.complete (s : State) (q : Nat) (cid : BitVec 16) (status detail result : Nat) : State :=
  if !(s.sq q).started.contains cid then s
  else
    let s := s.setSq q { s.sq q with started := dropOne (s.sq q).started cid }
    let o := s.outq (.cq q)
    let s :=
      if s.ringOn (.cq q) then
        let b := cqeBytes result cid (s.reg (sqOff q + 0x18)).toNat q status detail o.pass
        let s := s.setOutq (.cq q) { o with reserved := o.reserved - 1 }
        (s.ringFill (.cq q) 16 1 b).ringSignal (.cq q) 1
      else s
    let s := if status = 0x43 then s.wr R.HI_ERR_HOST_MEM 1 else s
    if (s.sq q).stopping && (s.sq q).started.isEmpty then
      let s := s.setSq q { s.sq q with stopping := false }
      s.setReg (sqOff q + 0xC) (s.reg (sqOff q + 0xC) &&& 0xFFFFFFFE)
    else s

/-! ## Links: sending packets (R359, R361, R362, R367) -/

/-- Whether this seat stands alone (R377). -/
def State.alone (s : State) : Bool := s.rd64 R.LK_TABLE_ID_LO_ID R.LK_TABLE_ID_HI_ID == 0
/-- This seat's rank. -/
def State.rank (s : State) : Nat := s.rd R.LK_RANK_RANK
/-- Whether a port is UP or UP_HALF. -/
def State.portUp (s : State) (p : Nat) : Bool := s.getI R.LK_PSTAT_STATE p == 3 || s.getI R.LK_PSTAT_STATE p == 4
/-- The ports of a mask that are up, ascending. -/
def State.portsUp (s : State) (mask : Nat) : List Nat := allPorts.filter (fun p => bitOf mask p && s.portUp p)
/-- A link port beside its registers. -/
def State.lport (s : State) (p : Nat) : LPort := s.link.ports.get p LPort.reset
/-- Put a link port. -/
def State.setLport (s : State) (p : Nat) (x : LPort) : State := { s with link := { s.link with ports := s.link.ports.put p x LPort.reset } }
/-- Chunks of a packet (R359). -/
def LinkOut.chunks (p : LinkOut) : Nat := (16 + p.body.length + 63) / 64
/-- Chunks that a port's receive buffers hold for a class (R357). -/
def bufferOf (cls : Nat) : Nat := if cls < 2 then 256 else 4096
/-- Frames go out while fewer than 1,024 are unacknowledged; the rest wait (R355). -/
def LPort.fill (x : LPort) : LPort :=
  let n := min x.waiting (1024 - x.unackN)
  { x with txSeq := (x.txSeq + n) % 2 ^ 24, unackN := x.unackN + n, waiting := x.waiting - n }
/-- A packet leaves in frames of 16 slots, in whole frames of its own (log 52). -/
def LPort.send (x : LPort) (pair n : Nat) : LPort :=
  ({ x with waiting := x.waiting + (n + 15) / 16, used := x.used.put pair (x.used.get pair 0 + n) 0 } : LPort).fill
/-- Record a packet that leaves on a port. Where its pair lacks credit, slots are counted in LK_PHELD, how many no rule fixes
(R357, R381). -/
def State.linkOut (s : State) (p : LinkOut) : State :=
  let pair := 2 * p.cls + p.vl
  let x := (s.lport p.port).send pair p.chunks
  let s := s.setLport p.port x
  let s := if x.used.get pair 0 ≤ bufferOf p.cls then s else s.freeW.2.setI R.LK_PHELD_SLOTS p.port s.freeW.1.toNat
  { s with link := { s.link with out := s.link.out ++ [p] } }

/-- Whether a rank can be reached: a port of its route is up (R361). A seat that stands alone reaches none. -/
def State.reachable (s : State) (dest : Nat) : Bool := !s.alone && !(s.portsUp (s.getI R.LK_ROUTE_PORTS dest)).isEmpty
/-- Send a packet of this seat to a rank on the port that R361 chooses, on VL 0 (R362). UNREACHABLE says there is none. -/
def State.sendTo (s : State) (dest cls typ : Nat) (body : Bytes) : State :=
  let U := s.portsUp (s.getI R.LK_ROUTE_PORTS dest)
  if !s.reachable dest then s.emit 0x0507 [.w4 dest, .w4 typ]
  else
    let p := U.getD ((s.rank ^^^ dest ^^^ cls) % U.length) 0
    s.linkOut ⟨p, cls, 0, dest, s.rank, typ, 0, BitVec.ofNat 32 (s.rd R.LK_TGEN_GEN), body⟩

/-- Flood a packet on every port that is up but the one it arrived on; it is remembered for the hand (R367). A flood past the
8,192nd of a hand is reported by the last Bool. -/
def State.flood (s : State) (src typ hops : Nat) (body : Bytes) (from_ : Option Nat) : State × Bool :=
  if s.link.floods.length ≥ 8192 then (s, true)
  else
    let s : State := { s with link := { s.link with floods := s.link.floods ++ [(typ, body)] } }
    (s.each ((s.portsUp 0xFFFF).filter (fun p => some p != from_)) (fun s p =>
      s.linkOut ⟨p, 0, 0, 0xFFFF, src, typ, hops, BitVec.ofNat 32 (s.rd R.LK_TGEN_GEN), body⟩), false)

/-- Whether a flood was seen in this hand (R367). -/
def State.seen (s : State) (typ : Nat) (body : Bytes) : Bool := s.link.floods.contains (typ, body)

/-! ## Ending a hand early (R32, R210, R328, R371) -/

/-- Whether a unit may run: no freeze and no stall holds the wafer. -/
def State.moving (s : State) : Bool := !s.on R.FB_STATUS_FROZEN && !s.on R.FB_STATUS_STALLED

/-- Beats of the nominal rate in `n` reference ticks at a throttle level (R434): 12 to a tick at level 0. -/
def beatsIn (n level : Nat) : Nat := n * 12 * (16 - level) / 16

/-- Beats that the stall in force has lasted (R209, R215). -/
def State.stallBeats (s : State) : Nat :=
  match s.fab.stallAt with
  | none => 0
  | some a => beatsIn (s.ticks - a) (s.rd R.CK_THROTTLE_LEVEL)

/-- A stall ends: its beats are counted in FB_STALL_BEATS (R209). -/
def State.stallEnd (s : State) : State :=
  let n := s.stallBeats
  let s := if n = 0 then s else s.bump R.FB_STALL_BEATS_BEATS n
  ({ s with fab := { s.fab with stallAt := none } } : State).wr R.FB_STATUS_STALLED 0

/-- STALL: every unit stops at once; STALLED names the cause (R208, R209, R555). -/
def State.stallNow (s : State) (cause : Nat) : State :=
  if s.on R.FB_STATUS_STALLED then s
  else (({ s with fab := { s.fab with stallAt := some s.ticks } } : State).wr R.FB_STATUS_STALLED 1).emit 0x030E [.w4 cause]

/-- The first tick that a command sent now may name: 12 ticks ahead (R208, R209). -/
def State.nextTick (s : State) : Nat := s.ticks + 12

/-- The reference goes on to the next tick whose low 32 bits are those that a command names (R209; log 219): the command stands for its tick. -/
def State.atTick (s : State) (tick : Nat) : State :=
  { s with ticks := s.ticks + (2 ^ 32 + tick % 2 ^ 32 - s.ticks % 2 ^ 32) % 2 ^ 32 }

/-- A context whose unit halts: its queued work and its wait for tricks go (R210). -/
def Ctx.halt (c : Ctx) : Ctx :=
  { c with waits := [], uq := [], binds := [], run := none, fill := none, send := none, recv := none, out := [] }

/-- A tile under STOP: its primary halts, every queue and lane is emptied (R210). -/
def Tile.stop (x : Tile) : Tile :=
  { x with
    prim := { x.prim.halt with running := false, window := false }
    side := x.side.halt
    queue := []
    router := { x.router with lanes := [], sent := [], flight := [], refused := [], resend := [] } }

/-- A pot adder under STOP: every open round is dropped and the crib records of the hand are freed (R315). -/
def PotAdder.abandon (p : PotAdder) : PotAdder := { p with rounds := [], ahead := [], input := [], failed := [], resent := [], crib := [] }

/-- STOP (R210): every unit halts, lanes and queues are emptied, tricks are discarded (R212), dealers discard what they
queued (R249), and a freeze or a stall ends. -/
def State.stopWafer (s : State) : State :=
  let s := { s with tiles := s.tiles.mapVals Tile.reset Tile.stop }
  let s := { s with pos := s.pos.mapVals Pos.reset (fun p => { p with dealer := { p.dealer with gathers := [], opened := [] }, pot := p.pot.abandon }) }
  let s := { s with fab := { s.fab with
    tricks := [], edgeIn := [], edgeOut := [], freezePend := none, freezing := false, started := false } }
  s.stallEnd.wr R.FB_STATUS_FROZEN 0

/-- The 11 bytes of a MISDEAL packet after its header (R360). -/
def misdealBody (hand : W64) (origin cause : Nat) : Bytes :=
  leBytes 8 hand.toNat ++ leBytes 2 origin ++ leBytes 1 cause

/-- Tear the shard: the sweep schedule ends before its last block (R328). -/
def State.tear (s : State) : State :=
  let s := s.stopWafer
  let s := (s.wr R.NM_UPD_STATUS_TORN 1).wr R.NM_UPD_STATUS_SWEEP_BUSY 0
  let s := s.emit 0x0A12 [.w8 s.hand.hand.toNat]
  { s with hand := { s.hand with sweep := false, outcome := some (0x48, 0) } }

/-- Misdeal the hand table-wide (R32, R371, R556): STOP, a flooded MISDEAL on a seat of a table, and the outcome. -/
def State.misdealNow (s : State) (cause : Nat) : State :=
  let s := s.stopWafer
  let h := s.hand.hand
  let s :=
    if s.alone then s
    else ((s.flood s.rank 0x33 0 (misdealBody h s.rank cause) none).1).emit 0x050A [.w8 h.toNat, .w4 cause]
  { s with hand := { s.hand with misdealt := true, outcome := some (0x47, cause) } }

/-- What a cause that R32 names does to the hand in progress: before the gate contribution it is misdealt table-wide; after the
contribution and before the decision it is kept for the decision; during the sweep it tears the shard (R328, R371, R556).
With no hand in progress nothing is misdealt. -/
def State.misdeal (s : State) (cause : Nat) : State :=
  if s.hand.running.isNone || s.hand.outcome.isSome then s
  else if s.hand.sweep then s.tear
  else if s.hand.contributed then { s with hand := { s.hand with misdealt := true } }
  else s.misdealNow cause

/-- Send a packet that the hand needs: a rank that cannot be reached misdeals the hand with SEAT (R361, R556). -/
def State.sendHand (s : State) (dest cls typ : Nat) (body : Bytes) : State :=
  let t := s.sendTo dest cls typ body
  if s.reachable dest then t else t.misdeal 2

/-- End the side job with SIDE_ENDED (R133, R164). -/
def State.endSide (s : State) : State :=
  let s := { s with tiles := s.tiles.mapVals Tile.reset (fun x => { x with side := { x.side.halt with running := false } }) }
  match s.hand.sideRun with
  | none => s
  | some d =>
    let s := { s with hand := { s.hand with sideRun := none } }
    s.complete d.q d.cid 0x49 0 s.hand.hand.toNat

/-- Mark a tile suspect (R105, R117, R120, R472): once in a hand, with its event (R559). -/
def State.suspect (s : State) (t cause : Nat) : State :=
  if bitOf (s.tile t).stat.toNat 0 then s
  else (s.onTile t (fun x => { x with stat := x.stat ||| 1 })).emit 0x0A08 [.w4 t, .w4 cause]

/-- STOP for the fault that the supervisor acts on (R210, R556): every unit halts; the hand is misdealt, or its sweep is torn. -/
def State.stopFor (s : State) (cause : Nat) : State := s.stopWafer.misdeal cause

/-- The supervisor answers a FAULT flag of the hand with STOP while its firmware runs; the stall stands until then (R208, R477, R556). -/
def State.supvStop (s : State) : State :=
  if s.on R.FB_TRUMP_FLAGS_FAULT && s.hand.running.isSome && s.hand.outcome.isNone && !s.sup.down && !s.sup.halted then s.stopFor 7
  else s

/-- A FAULT flag at the root: it is held, and the wafer is stalled at the next tick at least 12 ahead (R207, R208). -/
def State.faultFlag (s : State) : State :=
  let s := s.wr R.FB_TRUMP_FLAGS_FAULT 1
  if s.on R.FB_STATUS_STALLED then s else (s.atTick s.nextTick).stallNow 1

/-- A fault of a tile in a hand that runs: the tile's FAULT flag goes to the root, which stalls the wafer, and the supervisor misdeals the hand by STOP
(R207, R208). -/
def State.tileStop (s : State) (t : Nat) : State :=
  if s.hand.running.isNone || s.hand.outcome.isSome then s
  else ((s.onTile t (fun x => { x with flags := x.flags ||| 4 })).faultFlag).supvStop

/-- A tile hardware fault: TILE_FAULT, and the hand is misdealt (R108, R559). -/
def State.tileFault (s : State) (t cause : Nat) : State := (s.emit 0x0A05 [.w4 t, .w4 cause]).tileStop t

/-- A transient of a tile: counted for its clock hour; above LIMIT the tile is marked suspect (R472). -/
def hourTicks : Nat := 360000000000
def State.transient (s : State) (t : Nat) : State :=
  let x := s.tile t
  let h := s.ticks / hourTicks
  let c := if x.hour = h then x.hourCnt + 1 else 1
  let s := s.setTile t { x with hour := h, hourCnt := c }
  let lim := s.rd R.SP_TRANS_LIMIT_LIMIT
  if lim ≠ 0 ∧ c = lim + 1 then (s.emit 0x0A0B [.w4 t, .w4 c]).suspect t 11 else s

/-! ## Fatal errors (R480 to R485) -/

/-- Whether the module is in fatal state (R482). -/
def State.fatalNow (s : State) : Bool := s.on R.HI_STATUS_FATAL

/-- Complete every started descriptor with a status, queue by queue. -/
def State.completeAll (s : State) (status : Nat) : State :=
  s.each (List.range 64) (fun s q => s.each (s.sq q).started (fun s c => s.complete q c status 0 0))

/-- The 0x5D4 bytes of the defect map (R195). -/
def State.dmapBytes (s : State) : Bytes :=
  let d := s.fab.dmap
  let dead := (List.range 304).map (fun i =>
    BitVec.ofNat 8 ((List.range 8).foldl (fun v j => v + b2n (d.linkDead.contains (8 * i + j)) * 2 ^ j) 0))
  let b := leBytes 4 0x4D445844 ++ leBytes 2 0x0100 ++ leBytes 2 s.goodTiles ++ leBytes 8 d.generation.toNat ++
    leBytes 8 d.lost.toNat ++ zeros 8 ++ allTiles.map (fun t => d.tiles.get t 0) ++ dead
  b ++ leBytes 4 (crc32c b).toNat

/-- The bytes of a record of the journal (R522). -/
def LRec.bytes (r : LRec) : Bytes :=
  let h := leBytes 2 r.typ.toNat ++ leBytes 4 r.payload.length ++ leBytes 6 r.seq.toNat
  h ++ leBytes 4 (crc32c (h ++ r.payload)).toNat ++ slice r.payload 0 (roundUp r.payload.length 16) ++
    leBytes 4 0x4D435844 ++ leBytes 4 r.seq.toNat ++ zeros 8

/-- The sections of the dump (R485). The layout of a section that the manual only bounds is open (log 22). -/
def State.dumpSections (s : State) : List (Nat × Bytes) :=
  [(0x01, s.sup.trace.flatMap EvRec.bytes),
   (0x02, Config.dumpSection 2 s.free), (0x03, Config.dumpSection 3 s.free), (0x04, Config.dumpSection 4 s.free),
   (0x05, Config.dumpSection 5 s.free),
   (0x06, s.dmapBytes ++ s.nearRd s.lowPos bandOff 221248),
   (0x07, Config.dumpSection 7 s.free), (0x08, Config.dumpSection 8 s.free), (0x09, Config.dumpSection 9 s.free),
   (0x0A, ((s.sec.recs.flatMap LRec.bytes).reverse.take (64 * 2 ^ 20)).reverse)]

/-- The offset of each section from the dump's first byte, and its end: sections at 4 KiB boundaries after the header area. -/
def placeSections : Nat → List (Nat × Bytes) → List (Nat × Nat × Bytes)
  | _, [] => []
  | o, (t, b) :: l => (t, o, b) :: placeSections (o + roundUp b.length 4096) l

/-- The dump's 256-byte header (R484). -/
def State.dumpHeader (s : State) (code origin stage nsect status : Nat) : Bytes :=
  let b := leBytes 4 0x444D5844 ++ leBytes 2 0x0100 ++ leBytes 2 nsect ++ leBytes 8 s.hand.hand.toNat ++
    leBytes 8 (s.ticks - s.resetTick) ++ leBytes 2 code ++ leBytes 2 origin ++ leBytes 1 stage ++
    leBytes 1 (s.rd R.HI_STATUS_BANK) ++ zeros 2 ++ leBytes 4 (s.rd R.SP_FW_RUN_VERSION) ++ leBytes 2 s.rank ++ zeros 2 ++
    leBytes 8 (s.rd64 R.LK_TABLE_ID_LO_ID R.LK_TABLE_ID_HI_ID) ++ leBytes 8 Config.serial.toNat ++
    leBytes 4 s.seq.toNat ++ leBytes 4 status ++ zeros 188
  b ++ leBytes 4 (crc32c b).toNat

/-- Write the misdeal dump, commit its header and emit DUMP_DONE (R481 steps 5 and 6). `rom`: the boot ROM writes it. -/
def State.writeDump (s : State) (code origin stage : Nat) (rom : Bool) : State :=
  let ss := placeSections 4096 s.dumpSections
  let status := 1 + 2 * b2n s.clk.holdover + 4 * b2n rom
  let hdr := s.dumpHeader code origin stage ss.length status
  let ents := ss.flatMap (fun e => leBytes 2 e.1 ++ zeros 2 ++ leBytes 4 (crc32c e.2.2).toNat ++ leBytes 8 e.2.1 ++
    leBytes 8 e.2.2.length ++ zeros 8)
  let k := s.highPos
  let s := s.nearWr k dumpOff (hdr ++ ents)
  let s := s.each ss (fun s e => s.nearWr k (dumpOff + e.2.1) e.2.2)
  let s := { s with free := s.free + 1 }
  let s := s.wr R.HI_STATUS_DUMP_VALID 1
  let s := s.ledger 0x0009 hdr
  s.emit 0x0A26 [.w8 s.hand.hand.toNat, .w4 ss.length, .w4 status]

/-- A fatal error (R481). In fatal state already, it is an event and no more (R482). -/
def State.fatal (s : State) (code origin : Nat) (rom : Bool := false) : State :=
  if s.fatalNow then s.emit 0x0A25 [.w4 code, .w4 origin]
  else
    let stage := s.rd R.HI_STATUS_STAGE
    let s := (s.wr R.SP_FATAL_CODE code).wr R.SP_FATAL_ORIGIN origin
    let s := s.emit 0x0A25 [.w4 code, .w4 origin]
    let s := s.misdeal 4
    let s := s.stopWafer
    let s := ((s.wr R.HI_STATUS_FATAL 1).wr R.HI_STATUS_STAGE 7).wr R.HI_STATUS_READY 0
    let s := s.wr R.SP_STATUS_FATAL 1
    let s := s.completeAll 0x4A
    let s := { s with hand := { s.hand with
      running := none, waiting := none, sideRun := none, sideWait := none, outcome := none, sweep := false } }
    let s := { s with host := { s.host with copies := [] } }
    let s := s.onPos s.highPos (fun p => { p with pot := { p.pot with crib := [] } })
    s.writeDump code origin stage rom

/-! ## Requesters (R554) and refused accesses -/

/-- The 4-byte requester value. -/
def requester (kind unit : Nat) : Nat := kind + 256 * unit

/-- ADDR_FAULT of a refused access (R218). -/
def State.addrFault (s : State) (a kind unit : Nat) : State := s.emit 0x0402 [.w8 a, .w4 (requester kind unit)]

/-- A Completer Abort to a host access, with its event (R386, R387, R557). -/
def State.hostAbort (s : State) (off cause : Nat) : State :=
  let s := s.wr R.HI_ERR_CABORT 1
  ({ s with host := { s.host with aborts := s.host.aborts + 1 } } : State).emit 0x0904 [.w4 off, .w4 cause]

/-- HOST_ABORT of a posted write that is dropped: no completion is returned (R387). -/
def State.writeDropped (s : State) (off cause : Nat) : State := s.emit 0x0904 [.w4 off, .w4 cause]

/-- GATED_ACCESS of a refused access (R439). -/
def State.gatedFault (s : State) (a kind unit : Nat) : State := s.emit 0x070B [.w8 a, .w4 (requester kind unit)]

/-- Whether the clocks of field `f` run: its enable is set and it is neither folded nor lost (R122, R440). -/
def State.fieldOn (s : State) (f : Nat) : Bool :=
  bitOf (s.rd64 R.CK_EN_FIELD_LO_EN R.CK_EN_FIELD_HI_EN) f && !s.fieldOff f

/-- Whether an address reaches a gated block (R122, R439): a tile of a field that does not run, or memory whose controller's
enable is off. -/
def State.gatedAt (s : State) (a : Nat) : Bool :=
  if 0x200000000000 ≤ a ∧ a < 0x201200000000 then !s.fieldOn (tileField ((a - 0x200000000000) / 0x4000000))
  else
    match s.loc a with
    | some (.near k _) => !bitOf (s.rd64 R.CK_EN_NEAR_LO_EN R.CK_EN_NEAR_HI_EN) k
    | some (.stock k _) => !bitOf (s.rd R.CK_EN_FAR_EN) (k / 2)
    | _ => false

/-- Whether a write from the host may land at a location (R553). -/
def hostMayWrite : Loc → Bool
  | .near _ o => decide (o < bandOff) || (decide (gatherOff ≤ o) && decide (o < exportOff) &&
      !(decide (gateOff ≤ o) && decide (o < gateOff + 64)))
  | _ => true

/-- Whether two addresses lie in one view, or in the SRAM of one tile (R394). -/
def sameRegion : Loc → Loc → Bool
  | .near _ _, .near _ _ => true
  | .stock _ _, .stock _ _ => true
  | .sram a _, .sram b _ => a == b
  | _, _ => false

/-- What an access over a range meets (R218, R394, R439, R553): the first address in error, a gated block, or nothing. -/
inductive Reach where
  | ok
  | bad (a : Nat)
  | gated (a : Nat)
  deriving DecidableEq, Repr

/-- Check a range of `n` bytes from `a` for an access by the host or for the host. -/
def State.reach (s : State) (a n : Nat) (isWrite : Bool) : Reach :=
  let as := (List.range n).map (a + ·)
  let wrong := fun b => match s.loc a, s.loc b with
    | some la, some lb => !sameRegion la lb || (isWrite && !hostMayWrite lb)
    | _, _ => true
  let tileWin := fun b => decide (0x200000000000 ≤ b) && decide (b < 0x201200000000)
  match as.find? (fun b => wrong b && !tileWin b) with
  | some b => .bad b
  | none =>
    match as.find? s.gatedAt with
    | some b => .gated b
    | none =>
      match as.find? wrong with
      | some b => .bad b
      | none => .ok

/-- A line that a read newly finds uncorrectable (R228, R229): counted, poisoned, UE_READ. `near`: of a stack, else of a slice. -/
def State.newUe (s : State) (near : Bool) (k line reader : Nat) : State :=
  let s := s.bumpI (if near then R.DL_PUE_COUNT else R.DL_SUE_COUNT) k 1
  let s := s.onPos k (fun p =>
    if near then { p with nearBad := setIns p.nearBad line, newBad := setIns p.newBad line }
    else { p with stockBad := setIns p.stockBad line, newBad := setIns p.newBad (2 ^ 32 + line) })
  s.emit 0x0403 [.w4 k, .w8 (64 * line), .w4 reader]

/-- Corrected reads of a position, and CE_STORM once in a clock hour in which they pass the limit (R228, R230). -/
def State.corrected (s : State) (near : Bool) (k n : Nat) : State :=
  if n = 0 then s
  else
    let s := s.bumpI (if near then R.DL_PCE_COUNT else R.DL_SCE_COUNT) k n
    let p := s.posn k
    let h := s.ticks / hourTicks
    let old := if p.ceHour = h then p.ceCnt else 0
    let s := s.setPos k { p with ceHour := h, ceCnt := old + n }
    let lim := s.rd R.DL_CE_LIMIT_LIMIT
    if lim ≠ 0 ∧ old ≤ lim ∧ lim < old + n then s.emit 0x0405 [.w4 k, .w4 (old + n)] else s

/-- What the codes report over lines of one stack or slice, by a reader. -/
def State.lineEcc (s : State) (near : Bool) (k : Nat) (e : LineEcc) (reader : Nat) : State :=
  (s.corrected near k e.ce.length).each e.ue (fun s l => s.newUe near k l reader)

/-- A word of tile SRAM that a read finds uncorrectable (R120): STAT.SRAM_UE, kept for the pattern test, TILE_SRAM_UE. -/
def State.sramUe (s : State) (t o : Nat) : State :=
  (s.onTile t (fun x => { x with
    stat := x.stat ||| 0x2000, sramBad := setIns x.sramBad (o / 8), ueHand := setIns x.ueHand (o / 8) })).emit 0x0A07
    [.w4 t, .w4 o]

/-- What a check reports of the lines and words that meet a range. -/
def eccIn (e : LineEcc) (a n : Nat) : LineEcc :=
  let meets := fun (w x : Nat) => decide (w * x < a + n) && decide (a < w * x + w)
  ⟨e.ce.filter (meets 64), e.ue.filter (meets 64), e.words.filter (meets 8)⟩

/-- What the codes report over the lines of a range of device addresses: each line's error is charged to the stack, slice or tile that holds
it. -/
def State.viewEcc (s : State) (a n : Nat) (e : LineEcc) (reader : Nat) : State :=
  let e := eccIn e a n
  let s := s.each e.ce (fun s l =>
    match s.loc (64 * l) with
    | some (.near k _) => s.corrected true k 1
    | some (.stock k _) => s.corrected false k 1
    | some (.sram t _) => s.onTile t (fun x => { x with stat := x.stat ||| 0x1000 })
    | _ => s)
  let s := s.each e.ue (fun s l =>
    match s.loc (64 * l) with
    | some (.near k o) => s.newUe true k (o / 64) reader
    | some (.stock k o) => s.newUe false k (o / 64) reader
    | _ => s)
  s.each e.words (fun s w => match s.loc (8 * w) with | some (.sram t o) => s.sramUe t o | _ => s)

/-- What the code reports at one place of several (log 234). -/
def eccOf (l : SeatEcc) (k : Nat) : LineEcc := ((l.find? (fun e => e.1 == k)).map (·.2)).getD ⟨[], [], []⟩

/-- What the symbol code reports while a controller reads a range of its stack or slice. -/
def State.rangeEcc (s : State) (near : Bool) (k off n : Nat) (e : LineEcc) (reader : Nat) : State :=
  s.lineEcc near k (eccIn e off n) reader

/-- The supervisor firmware runs and is not halted. -/
def State.supvRuns (s : State) : Bool := !s.sup.down && !s.sup.halted

/-! ## Words of the trump network (R200, R201) -/

/-- TRUMP_FAULT: a fatal error of the trump network, which belongs to the I/O ring (R199, R200, R480). -/
def State.trumpFault (s : State) (node : Nat) : State := (s.emit 0x030C [.w4 node]).fatal 0x030C 0xFFFF

/-- Whether a KIND is reserved (R201). -/
def kindReserved (k : BitVec 4) : Bool := k == 0 || decide (0xC ≤ k.toNat)

/-- A packet of a kind comes to a node. After three repeats of a word with parity errors it is TRUMP_FAULT (R200); a packet of reserved kind is
discarded with TRUMP_FAULT (R201); one of another kind is another command. -/
def State.hop (s : State) (h : Hop) (kind : BitVec 4) (run : State → State) : State :=
  if 3 < h.perr || kindReserved h.kind then s.trumpFault h.node
  else if h.kind = kind then run s
  else s

/-- Whether an agent has the unlocked debug port's right of a bit (R518): 0 SUPV, 1 WAFER, 2 MEMORY, 3 INJECT, 4 POLICY. In
MANUFACTURE every right is there. -/
def State.right (s : State) (b : Nat) : Bool :=
  s.sec.lifecycle == 0 || (s.sec.unlocked && bitOf s.sec.rights.toNat b)

/-- Whether the debug port is unlocked. -/
def State.dbgOpen (s : State) : Bool := s.sec.lifecycle == 0 || s.sec.unlocked

end Sys2Proof.Machine
end

