-- ==== Sys2Proof/Machine/Operands.lean ====
section
/-! DEFINITION. The operand forms of the tile sequencer: instruction words (R155 to R162), which field values are reserved, the
registers and memories that operands name, and packed codes (R50). -/

namespace Sys2Proof.Machine

/-! ## Words -/

/-- An instruction word from its class, opcode and operand bits (R155). -/
def wordOf (cls op : Nat) (low : BitVec 54) : W64 := BitVec.ofNat 4 cls ++ (BitVec.ofNat 6 op ++ low)

/-- Operand bits of a scalar or control word (R156). -/
def sLow (f : SFmt) : BitVec 54 := f.gd ++ (f.ga ++ (f.gb ++ (f.rsv ++ f.imm)))
/-- Operand bits of MRUN (R157). -/
def mrunLow (f : MRunF) : BitVec 54 :=
  f.dt ++ (f.fmt ++ (f.buf ++ (f.bank ++ (f.entry ++ (f.first ++ (f.last ++ (f.dst ++ (f.zfill ++ (f.bub ++ (f.nm1 ++
    (f.ga ++ (f.gs ++ f.rsv))))))))))))
/-- Operand bits of MFILL (R157). -/
def mfillLow (f : MFillF) : BitVec 54 :=
  f.dt ++ (f.fmt ++ (f.buf ++ (f.src ++ (f.mm ++ (f.rsvA ++ (f.ga ++ f.rsvB))))))
/-- Operand bits of MOWN (R157). -/
def mownLow (f : MOwnF) : BitVec 54 := f.dt ++ (f.rsvA ++ (f.buf ++ f.rsvB))
/-- Operand bits of a vector word (R160). -/
def vLow (f : VFmt) : BitVec 54 :=
  f.dt ++ (f.vd ++ (f.va ++ (f.vb ++ (f.vc ++ (f.vx ++ (f.msk ++ (f.z ++ (f.vy ++ (f.slot ++ (f.part ++ f.low))))))))))
/-- Operand bits of LD and ST (R162). -/
def lLow (f : LFmt) : BitVec 54 := f.dt ++ (f.v ++ (f.ga ++ (f.off ++ f.rsv)))
/-- Operand bits of SEND, RECV and POTS (R162). -/
def xLow (f : XFmt) : BitVec 54 := f.dt ++ (f.ga ++ (f.off ++ (f.nfm1 ++ (f.mode ++ (f.gl ++ f.low)))))
/-- Operand bits of TRICK (R162). -/
def tLow (f : TFmt) : BitVec 54 := f.dt ++ (f.ga ++ (f.gd ++ (f.fn ++ (f.tree ++ f.rsv))))

/-- The scalar fields of a word. -/
def sOf (w : W64) : SFmt :=
  ⟨w.extractLsb' 49 5, w.extractLsb' 44 5, w.extractLsb' 39 5, w.extractLsb' 32 7, w.extractLsb' 0 32⟩
/-- The MRUN fields of a word. -/
def mrunOf (w : W64) : MRunF :=
  ⟨w.extractLsb' 46 8, w.extractLsb' 41 5, w.extractLsb' 40 1, w.extractLsb' 37 3, w.extractLsb' 31 6, w.extractLsb' 30 1,
   w.extractLsb' 29 1, w.extractLsb' 28 1, w.extractLsb' 27 1, w.extractLsb' 26 1, w.extractLsb' 17 9, w.extractLsb' 12 5,
   w.extractLsb' 7 5, w.extractLsb' 0 7⟩
/-- The MFILL fields of a word. -/
def mfillOf (w : W64) : MFillF :=
  ⟨w.extractLsb' 46 8, w.extractLsb' 41 5, w.extractLsb' 40 1, w.extractLsb' 37 3, w.extractLsb' 34 3, w.extractLsb' 17 17,
   w.extractLsb' 12 5, w.extractLsb' 0 12⟩
/-- The MOWN fields of a word. -/
def mownOf (w : W64) : MOwnF := ⟨w.extractLsb' 46 8, w.extractLsb' 41 5, w.extractLsb' 40 1, w.extractLsb' 0 40⟩
/-- The vector fields of a word. -/
def vOf (w : W64) : VFmt :=
  ⟨w.extractLsb' 46 8, w.extractLsb' 41 5, w.extractLsb' 36 5, w.extractLsb' 31 5, w.extractLsb' 26 5, w.extractLsb' 21 5,
   w.extractLsb' 18 3, w.extractLsb' 17 1, w.extractLsb' 9 8, w.extractLsb' 5 4, w.extractLsb' 2 3, w.extractLsb' 0 2⟩
/-- The LD and ST fields of a word. -/
def lOf (w : W64) : LFmt :=
  ⟨w.extractLsb' 46 8, w.extractLsb' 41 5, w.extractLsb' 36 5, w.extractLsb' 16 20, w.extractLsb' 0 16⟩
/-- The SEND, RECV and POTS fields of a word. -/
def xOf (w : W64) : XFmt :=
  ⟨w.extractLsb' 46 8, w.extractLsb' 41 5, w.extractLsb' 21 20, w.extractLsb' 11 10, w.extractLsb' 10 1, w.extractLsb' 5 5,
   w.extractLsb' 0 5⟩
/-- The TRICK fields of a word. -/
def tOf (w : W64) : TFmt :=
  ⟨w.extractLsb' 46 8, w.extractLsb' 41 5, w.extractLsb' 36 5, w.extractLsb' 32 4, w.extractLsb' 24 8, w.extractLsb' 0 24⟩

/-! ## Reserved field values (R155 to R162) -/

/-- Which of GD, GA and GB a scalar or control operation uses, and the bound of its IMM; none for a reserved opcode (R156). -/
def sUse (cls op : Nat) : Option (Bool × Bool × Bool × Nat) :=
  match cls, op with
  | 0, 0x9 => some (true, true, false, 2 ^ 32)
  | 0, 0xA => some (true, false, false, 2 ^ 32)
  | 0, 0xB => some (true, true, false, 2 ^ 32)
  | 0, 0xC => some (false, true, true, 2 ^ 32)
  | 0, 0xD => some (true, false, false, 2 ^ 32)
  | 0, n => if n ≤ 8 then some (true, true, true, 1) else none
  | 7, 0x4 => some (false, false, false, 2 ^ 14)
  | 7, 0x5 => some (false, true, false, 2 ^ 14)
  | 7, 0x6 => some (false, false, false, 2 ^ 32)
  | 7, 0x7 => some (false, false, false, 16)
  | 7, 0x8 => some (false, false, false, 1)
  | 7, 0x9 => some (false, false, false, 1)
  | 7, 0xA => some (false, false, false, 2 ^ 32)
  | 7, 0xB => some (false, false, false, 1)
  | 7, 0xC => some (false, false, false, 1)
  | 7, n => if n ≤ 3 then some (false, true, true, 2 ^ 14) else none
  | _, _ => none

/-- Whether a scalar or control word has no reserved field set (R156). -/
def sLegal (cls op : Nat) (f : SFmt) : Bool :=
  match sUse cls op with
  | none => false
  | some (d, a, b, m) =>
    (d || f.gd == 0) && (a || f.ga == 0) && (b || f.gb == 0) && f.rsv == 0 && decide (f.imm.toNat < m)

/-- Whether an MRUN has no reserved field value, for a context that has the banks from `lo` up to `hi` (R157). -/
def mrunLegal (lo hi : Nat) (f : MRunF) : Bool :=
  let n := 64 * f.bank.toNat + f.entry.toNat
  isMatrixFmt f.fmt && f.rsv == 0 && decide (n + f.nm1.toNat ≤ 511) && decide (lo ≤ n / 64) &&
    decide ((n + f.nm1.toNat) / 64 < hi)

/-- Whether an MFILL has no reserved field value (R157). -/
def mfillLegal (f : MFillF) : Bool :=
  isMatrixFmt f.fmt && decide (f.src.toNat ≤ 1) && f.rsvA == 0 && f.rsvB == 0

/-- Whether a MOWN has no reserved field set (R157). -/
def mownLegal (f : MOwnF) : Bool := f.rsvA == 0 && f.rsvB == 0

/-- Which of VA, VB and VC a vector operation of the general format uses (R160); none for CVT and a reserved opcode. -/
def vUse (op : Nat) : Option (Bool × Bool × Bool) :=
  if op = 0x03 ∨ op = 0x1F then some (true, true, true)
  else if op = 0x06 ∨ op = 0x07 ∨ op = 0x09 ∨ op = 0x0A ∨ op = 0x0B ∨ op = 0x1A ∨ op = 0x1B ∨ op = 0x1C ∨ op = 0x1E then
    some (true, false, false)
  else if op = 0x1D then none
  else if op = 0x22 then some (false, false, false)
  else if op = 0x23 then some (false, false, true)
  else if op ≤ 0x21 then some (true, true, false)
  else none

/-- Parts of a register for codes of `n` bits (R161). -/
def partsOf (n : Nat) : Nat := if n = 6 then 5 else if n = 32 then 1 else 32 / n

/-- Whether a conversion has no reserved field value (R55, R161). -/
def cvtLegal (f : VFmt) : Bool :=
  match elemOf f.vc, elemOf f.vx with
  | some a, some b =>
    decide (f.vy.toNat % 4 ≠ 3) && decide (f.vy.toNat < 16) && f.low == 0 &&
      decide (f.part.toNat < (if a.bits = 32 then partsOf b.bits
        else if b.bits = 32 then partsOf a.bits else min (partsOf a.bits) (partsOf b.bits)))
  | _, _ => false

/-- Whether a vector word has no reserved field value (R110, R111, R160, R161). -/
def vLegal (op : Nat) (f : VFmt) : Bool :=
  if op = 0x1D then cvtLegal f
  else match vUse op with
    | none => false
    | some (a, b, c) =>
      (a || f.va == 0) && (b || f.vb == 0) && (c || f.vc == 0) && f.vx == 0 && f.vy == 0 && f.slot == 0 && f.part == 0 &&
        f.low == 0 && (op != 0x23 || (f.msk == 0 && f.z == 0))

/-- Whether an LD or ST has no reserved field set (R162). -/
def lLegal (f : LFmt) : Bool := f.rsv == 0
/-- Whether a SEND or RECV has no reserved field set (R162). -/
def xLegal (f : XFmt) : Bool := f.mode == 0 && f.gl == 0 && f.low == 0
/-- Whether a POTS has no reserved field set (R162). -/
def potsLegal (f : XFmt) : Bool := f.low == 0
/-- Whether a TRICK has no reserved field value; no image may name tree 0xFF (R162, R203). -/
def tLegal (f : TFmt) : Bool := decide (f.fn.toNat ≤ 3) && f.rsv == 0 && f.tree != 0xFF

/-- The class and the opcode of a word. -/
def clsOf (w : W64) : Nat := (w.extractLsb' 60 4).toNat
def opOf (w : W64) : Nat := (w.extractLsb' 54 6).toNat

/-- Whether a word is an instruction with no reserved class, opcode or field value, in a context that has the banks from `lo` up
to `hi` (R155). -/
def legalWord (lo hi : Nat) (w : W64) : Bool :=
  match clsOf w, opOf w with
  | 1, 1 => mrunLegal lo hi (mrunOf w)
  | 1, 2 => mfillLegal (mfillOf w)
  | 1, 3 => mownLegal (mownOf w)
  | 2, op => vLegal op (vOf w)
  | 3, 0 => lLegal (lOf w)
  | 3, 1 => lLegal (lOf w)
  | 4, 0 => xLegal (xOf w)
  | 4, 1 => xLegal (xOf w)
  | 4, 2 => potsLegal (xOf w)
  | 5, 0 => tLegal (tOf w)
  | 0, op => sLegal 0 op (sOf w)
  | 7, op => sLegal 7 op (sOf w)
  | _, _ => false

/-- Whether a word names even registers where pairs are required: the mask pair of MFILL, the register and mask pairs of QPOP (R111, R157). -/
def evenPairs (w : W64) : Bool :=
  match clsOf w, opOf w with
  | 1, 2 => (mfillOf w).mm.toNat % 2 == 0
  | 2, 0x23 => (vOf w).vd.toNat % 2 == 0 && (vOf w).vc.toNat % 2 == 0
  | _, _ => true

/-- Whether a class carries a delay (R155). -/
def timedCls (cls : Nat) : Bool := decide (1 ≤ cls) && decide (cls ≤ 5)

/-! ## Contexts and partitions (R135, R145) -/

/-- The installed primary image. -/
def State.curImage (s : State) : Option Image :=
  match s.hand.installed with
  | none => none
  | some i => s.hand.images.find? (fun m => m.id == i)

/-- A context of a tile. -/
def Tile.ctx (x : Tile) (side : Bool) : Ctx := if side then x.side else x.prim
/-- Put a context of a tile. -/
def Tile.setCtx (x : Tile) (side : Bool) (c : Ctx) : Tile := if side then { x with side := c } else { x with prim := c }
/-- The context of a site. -/
def State.ctx (s : State) (a : Site) : Ctx := (s.tile a.tile).ctx a.side
/-- Change the context of a site. -/
def State.onCtx (s : State) (a : Site) (f : Ctx → Ctx) : State :=
  s.onTile a.tile (fun x => x.setCtx a.side (f (x.ctx a.side)))

/-- General register (R145): G0 reads as 0. -/
def Ctx.gr (c : Ctx) (r : BitVec 5) : W32 := if r = 0 then 0 else c.g.get r.toNat 0
/-- Write a general register: G0 ignores writes (R145). -/
def Ctx.setGr (c : Ctx) (r : BitVec 5) (v : W32) : Ctx := if r = 0 then c else { c with g := c.g.put r.toNat v 0 }
/-- A word of scratch memory; bits [1:0] of the address are ignored (R156). -/
def Ctx.scratchRd (c : Ctx) (a : Nat) : W32 := BitVec.ofNat 32 (leNat (c.scratch.bytes (a % 16384 / 4 * 4) 4))
/-- Write a word of scratch memory (R156). -/
def Ctx.scratchWr (c : Ctx) (a : Nat) (v : W32) : Ctx :=
  { c with scratch := c.scratch.store (a % 16384 / 4 * 4) (leBytes 4 v.toNat) }
/-- An element of a vector register. -/
def Ctx.el (c : Ctx) (r i : Nat) : W32 := c.v.get (64 * r + i) 0
/-- Write an element of a vector register. -/
def Ctx.setEl (c : Ctx) (r i : Nat) (w : W32) : Ctx := { c with v := c.v.put (64 * r + i) w 0 }
/-- A mask register. -/
def Ctx.mask (c : Ctx) (r : Nat) : W64 := c.m.get r 0
/-- Write a mask register. -/
def Ctx.setMk (c : Ctx) (r : Nat) (w : W64) : Ctx := { c with m := c.m.put r w 0 }
/-- The 64 elements of a vector register. -/
def Ctx.vec (c : Ctx) (r : Nat) : List W32 := (List.range 64).map (c.el r)
/-- The 256 bytes of a vector register. -/
def Ctx.vecBytes (c : Ctx) (r : Nat) : Bytes := (c.vec r).flatMap (fun w => leBytes 4 w.toNat)
/-- Write elements of a register where `on` says so; the rest keep their values. -/
def Ctx.setVec (c : Ctx) (r : Nat) (on : Nat → Bool) (new : Nat → W32) : Ctx :=
  (List.range 64).foldl (fun c i => if on i then c.setEl r i (new i) else c) c
/-- Write the bytes of a register from an offset. -/
def Ctx.setBytes (c : Ctx) (r off : Nat) (b : Bytes) : Ctx :=
  let old := c.vecBytes r
  let all := old.take off ++ b ++ old.drop (off + b.length)
  c.setVec r (fun _ => true) (fun i => BitVec.ofNat 32 (field all (4 * i) 4))

/-- The first word of the side partition of an instruction memory (R135). -/
def Image.sideWord (m : Image) : Nat := (128 - m.sideImem) * 128

/-- Accumulator banks of a context (R135). -/
def State.banks (s : State) (side : Bool) : Nat × Nat :=
  let n := match s.curImage with | none => 0 | some m => m.sideBanks
  if side then (8 - n, 8) else (0, 8 - n)
/-- Tile queue entries that a context may hold (R91, R135). -/
def State.queueMax (s : State) (side : Bool) : Nat :=
  let n := match s.curImage with | none => 0 | some m => m.sideQueue
  if side then n else 8 - n
/-- First line and end of the SRAM partition of a context (R121, R135). -/
def State.lineBounds (s : State) (side : Bool) : Nat × Nat :=
  let n := match s.curImage with | none => 0 | some m => m.sideSram
  if side then ((40 - n) * 16384, 655360) else (0, (40 - n) * 16384)
/-- Whether `n` lines from a line lie in the partition of a context (R163). -/
def State.linesOk (s : State) (side : Bool) (line n : Nat) : Bool :=
  let b := s.lineBounds side
  n == 0 || (decide (b.1 ≤ line) && decide (line + n ≤ b.2))
/-- A line address: a general register and an immediate, modulo 2^20 (R155). -/
def lineAddr (g : W32) (off : Nat) : Nat := (g.toNat + off) % 2 ^ 20

/-- The buffer of a name. -/
def Tile.buf (x : Tile) (b : BitVec 1) : WBuf := if b = 0 then x.bufA else x.bufB
/-- Put a buffer. -/
def Tile.setBuf (x : Tile) (b : BitVec 1) (w : WBuf) : Tile := if b = 0 then { x with bufA := w } else { x with bufB := w }

/-! ## Packed codes (R50, R75, R159) -/

/-- Code `i` of packed codes of `n` bits: the bytes read as one little-endian string of bits (R50). -/
def codeAt (b : Bytes) (n i : Nat) : Nat := bitsOf (field b (n * i / 8) 5) (n * i % 8) n
/-- Pack codes of `n` bits (R50). -/
def packCodes (n : Nat) (cs : List Nat) : Bytes :=
  leBytes (n * cs.length / 8) (cs.foldr (fun c a => c % 2 ^ n + 2 ^ n * a) 0)
/-- Elements of a weight chunk of a matrix format (R75). -/
def chunkOf (fmt : BitVec 5) : Nat :=
  match elemOf fmt with
  | some e => if e.bits = 4 then 512 else if e.bits = 16 then 64 else 256
  | none => 0
/-- Element bytes of a chunk. -/
def chunkBytes (fmt : BitVec 5) : Nat :=
  match elemOf fmt with
  | some e => chunkOf fmt * e.bits / 8
  | none => 0
/-- Scale bytes of a chunk (R75). -/
def chunkScales (fmt : BitVec 5) : Nat := if isMx fmt then chunkOf fmt / 32 else 0
/-- Lines of an operand record (R159). -/
def recordLines (fmt : BitVec 5) : Nat := (chunkBytes fmt + chunkScales fmt + 63) / 64
/-- The scaled values of a chunk: elements followed by their block scales (R49, R50, R54). -/
def chunkVals (fmt : BitVec 5) (b : Bytes) : List FV :=
  match elemOf fmt with
  | none => []
  | some e => (List.range (chunkOf fmt)).map (fun i =>
      let v := e.dec (codeAt b e.bits i)
      if isMx fmt then scaled (b.getD (chunkBytes fmt + i / 32) 0).toNat v else v)

/-- Exact sum of a list; an empty sum is +0. -/
def sumFV : List FV → FV
  | [] => .num false 0 0
  | v :: t => t.foldl FV.add v
/-- Exact products of two lists. -/
def mulFV (a b : List FV) : List FV := List.zipWith FV.mul a b

end Sys2Proof.Machine
end

