-- ==== Sys2Proof/Machine/Flags.lean ====
section
/-! DEFINITION. Flags, counts and faults of the tiles: STAT, CHKCNT, UNCHK and SLIP (R126, R127), slips of fields (R190), trump
flags (R207), census slots (R116, R257, R259, R272) and the faults of the sequencer (R164). -/

namespace Sys2Proof.Machine

/-- Set bits of FB_TILE_STAT. -/
def State.stat (s : State) (t : Nat) (m : W32) : State := s.onTile t (fun x => { x with stat := x.stat ||| m })
/-- A corrected error of SRAM, buffer, row, instruction memory or scratch (R77, R120, R126, R151). -/
def State.sramCe (s : State) (t : Nat) : State := s.stat t 0x1000
/-- Count corrected errors that a read reports. -/
def State.eccCe (s : State) (t : Nat) (e : Ecc) : State := if e = .corrected then s.sramCe t else s
/-- A 32-bit count that saturates. -/
def satAdd (w : W32) (n : Nat) : W32 := BitVec.ofNat 32 (min (w.toNat + n) (2 ^ 32 - 1))

/-- The beat of the hand, slips included, at a schedule beat of a context: the primary's beats go on from the play schedule to the sweep's, and
a side context's count from the START of the hand (R13, R108). -/
def Tile.now (x : Tile) (side : Bool) (beat : Nat) : Nat :=
  (if side then beat - x.side0 else x.beats + beat) + x.slip.toNat

/-- `n` beats from a beat on in which a unit of a field slipped: the field counts a beat once, however many of its units slip in it; SLIP_WATCH
once a hand when the running sum first passes the limit (R190). -/
def State.fieldSlip (s : State) (f at_ n : Nat) : State :=
  let old := s.fab.slipped.get f []
  let new := runsOf ((at_, at_ + n) :: old)
  let k := runsLen new - runsLen old
  if n = 0 ∨ k = 0 then s
  else
    let s := ({ s with fab := { s.fab with slipped := s.fab.slipped.put f new [] } } : State).bumpI R.FB_FSLIP_SLIPS f k
    let sum := (allFields.map (s.getI R.FB_FSLIP_SLIPS)).sum
    if s.on R.FB_CTRL_WATCH_EN && !s.fab.watched && decide (s.rd R.FB_SLIP_LIMIT_LIMIT < sum) then
      ({ s with fab := { s.fab with watched := true } } : State).emit 0x0309 [.w8 sum]
    else s

/-- Beat slips of a tile at its schedule beat (R127, R190). -/
def State.slip (s : State) (t n : Nat) : State :=
  let x := s.tile t
  (s.setTile t { x with slip := satAdd x.slip n }).fieldSlip (tileField t) (x.now false x.prim.bc.toNat) n

/-- Beat slips of the primary context alone: an issue of a side context never counts one (R149). -/
def State.slipOf (s : State) (a : Site) (n : Nat) : State := if a.side then s else s.slip a.tile n

/-- Beats in which a router holds an entry (R177, R190). -/
def State.routerSlip (s : State) (t n : Nat) : State :=
  let x := s.tile t
  (s.setTile t { x with router := { x.router with slips := x.router.slips + n } }).fieldSlip (tileField t)
    (x.beats + x.router.rb + x.router.slips) n

/-- A transient verdict of the checker (R102, R105, R126, R127, R472). -/
def State.checkTransient (s : State) (t verdict : Nat) : State :=
  let s := s.onTile t (fun x => { x with
    stat := x.stat ||| 0x400
    chkcnt := BitVec.ofNat 32 (setBits x.chkcnt.toNat 0 16 (min (bitsOf x.chkcnt.toNat 0 16 + 1) 65535)) })
  (s.emit 0x0A02 [.w4 t, .w4 verdict]).transient t

/-- A transient residue fault (R117, R126, R127, R472). -/
def State.residueTransient (s : State) (t op : Nat) : State :=
  let s := s.onTile t (fun x => { x with
    stat := x.stat ||| 0x800
    chkcnt := BitVec.ofNat 32 (setBits x.chkcnt.toNat 16 16 (min (bitsOf x.chkcnt.toNat 16 16 + 1) 65535)) })
  (s.emit 0x0A06 [.w4 t, .w4 op]).transient t

/-- Halt a context. -/
def State.haltCtx (s : State) (t : Nat) (side : Bool) : State :=
  s.onTile t (fun x => x.setCtx side { (x.ctx side).halt with running := false })

/-- A fault of the sequencer (R164): in the primary context the hand is misdealt, in the side context the side job ends. -/
def State.seqFault (s : State) (t : Nat) (side : Bool) (fault : Nat) (pc : BitVec 14) : State :=
  let s := (s.haltCtx t side).emit 0x0A0A [.w4 t, .w4 (b2n side), .w4 fault, .w4 pc.toNat]
  if side then s.endSide else s.tileStop t

/-- A fault of the sequencer that is a hardware fault of the tile: it misdeals the hand whichever context meets it (R164). -/
def State.seqTileFault (s : State) (t : Nat) (side : Bool) (fault : Nat) (pc : BitVec 14) (cause : Nat) : State :=
  ((s.haltCtx t side).emit 0x0A0A [.w4 t, .w4 (b2n side), .w4 fault, .w4 pc.toNat]).tileFault t cause

/-- An uncorrectable error on a scheduled read of tile SRAM (R120). -/
def State.readUe (s : State) (t : Nat) (side : Bool) (off : Nat) : State :=
  ((s.haltCtx t side).sramUe t off).tileFault t 5

/-- The first uncorrectable word of a range of a tile's SRAM. -/
def Tile.ueIn (x : Tile) (off n : Nat) : Option Nat :=
  (x.sramBad.find? (fun w => decide (8 * w < off + n) && decide (off < 8 * w + 8))).map (8 * ·)

/-- The uncorrectable word that a scheduled read meets: one that the state holds, or the read's first when its ECC says so. -/
def State.readBad (s : State) (t off n : Nat) (e : Ecc) : Option Nat :=
  match (s.tile t).ueIn off n with
  | some o => some o
  | none => if e = .double then some (off / 8 * 8) else none

/-- Take the injection of a target, if it is armed; one that is not PERSIST is spent (R128). -/
def Tile.inject (x : Tile) (target : Nat) : Option (Nat × Nat) × Tile :=
  let v := x.inj.toNat
  if bitOf v 0 && bitsOf v 1 2 == target then
    (some (bitsOf v 3 7, bitsOf v 10 5), if bitOf v 15 then x else { x with inj := x.inj &&& 0xFFFFFFFE })
  else (none, x)

/-- Raise NONFIN at the trump root (R207, R272, R273). -/
def State.nonfin (s : State) : State := s.wr R.FB_TRUMP_FLAGS_NONFIN 1

/-- Raise NONFIN from a tile. -/
def State.tileNonfin (s : State) (t : Nat) : State :=
  (s.onTile t (fun x => { x with flags := x.flags ||| 1 })).nonfin

/-! ## Census slots (R116, R257 to R261) -/

/-- Largest value of a census counter. -/
def sat48 : Nat := 2 ^ 48 - 1

/-- Classes counted into a slot; `amax` is the largest finite magnitude, as FP32 (R116, R257). -/
def CSlot.count (c : CSlot) (ks : List Cls) (amax : W32) : CSlot :=
  let n := fun k => (ks.filter (· == k)).length
  { c with
    total := min (c.total + ks.length) sat48
    zero := min (c.zero + n .zero) sat48
    uflow := min (c.uflow + n .uflow) sat48
    sat := min (c.sat + n .sat) sat48
    nonfin := min (c.nonfin + n .nonfin) sat48
    amax := if c.amax.toNat < amax.toNat then amax else c.amax }

/-- The FP32 word of an amax; beyond the FP32 range no rule gives one, and it is a free value (log 33). -/
def State.amaxWord (s : State) (m : Nat × Int) : W32 × State :=
  if magLe m.1 m.2 (fp32.magVal fp32.maxCode).1 (fp32.magVal fp32.maxCode).2 then (toF32 (.num false m.1 m.2), s) else s.freeW

/-- A tensor of the installed table. -/
def State.tensor (s : State) (i : Nat) : Option Tensor := s.num.tensors[i]?
/-- Whether a tensor has a flag bit: 0 HISTORY, 1 GATE, 2 WATCH (R254). -/
def Tensor.flag (t : Tensor) (b : Nat) : Bool := bitOf t.flags.toNat b

/-- Count a conversion into a slot of a context; a non-finite element of a GATE tensor raises NONFIN (R272). -/
def State.census (s : State) (a : Site) (slot : Nat) (ks : List Cls) (amax : Nat × Int) : State :=
  let r := s.amaxWord amax
  let s := r.2
  let c := (s.ctx a).census.get slot CSlot.reset
  let s := s.onCtx a (fun x => { x with census := x.census.put slot (c.count ks r.1) CSlot.reset })
  match c.bound with
  | none => s
  | some (_, ti) =>
    match s.tensor ti with
    | none => s
    | some t => if !a.side && t.flag 1 && ks.contains .nonfin then s.tileNonfin a.tile else s

/-- Line of a census line of a hand (R258). -/
def State.censusLine (s : State) (i : Nat) (hand : Nat) : Nat :=
  s.num.censusLine + hand % 2 * s.num.censusLines + i

/-- Add one counter of a slot into its line, saturating (R259). -/
def addCount (b : Bytes) (o n : Nat) : Bytes := leBytes 8 (min (field b o 6 + n) sat48)

/-- Flush the bound slots of the primary context into their census lines (R259). A line with an uncorrectable word takes
nothing. -/
def State.flush (s : State) (t : Nat) : State :=
  s.each (s.tile t).prim.census (fun s e =>
    match e.2.bound with
    | none => s
    | some (i, _) =>
      let off := 64 * s.censusLine i s.hand.hand.toNat
      let x := s.tile t
      if (x.ueIn off 64).isSome then s
      else
        let b := x.sram.bytes off 64
        let old := BitVec.ofNat 32 (field b 0x28 4)
        let r := if (f32 old).isNan then s.freeW
          else (if (f32 old).cmp (f32 e.2.amax) < 0 then e.2.amax else old, s)
        let c := addCount b 0 e.2.total ++ addCount b 8 e.2.zero ++ addCount b 16 e.2.uflow ++ addCount b 24 e.2.sat ++
          addCount b 32 e.2.nonfin ++ leBytes 4 r.1.toNat
        r.2.onTile t (fun x => x.sramWr off c))

/-- Clear every slot and bind those that the plan gives for a phase, each with the code of its line (R259). -/
def State.bind (s : State) (t phase : Nat) : State :=
  let es := s.num.plan.filter (fun p => p.tile == t && p.phase == phase)
  let x := s.tile t
  let m := es.foldl (fun (m : Map CSlot) p =>
    let off := 64 * s.censusLine p.index s.hand.hand.toNat
    m.ins p.slot { CSlot.reset with bound := some (p.index, p.tensor), code := x.sram.get (off + 0x2C) 0 }) []
  s.setTile t { x with prim := { x.prim with census := m } }

end Sys2Proof.Machine
end

