-- ==== Sys2Proof/Machine/Segment.lean ====
section
/-! DEFINITION. Segments (R336, R337, R339): the runs of a delta body, the header, and the staging of a position. -/

namespace Sys2Proof.Machine

/-- One run of a delta body (R337). -/
def deltaRun (z : Nat) (lits : List W32) : Bytes :=
  leBytes 2 z ++ leBytes 2 lits.length ++ lits.flatMap (fun w => leBytes 4 w.toNat)
/-- The runs of XOR words: each as long as it can be (R337). `lits` holds the literals of the open run, newest first. -/
def deltaRuns (z : Nat) (lits : List W32) : List W32 → Bytes
  | [] => if z = 0 ∧ lits.isEmpty then [] else deltaRun z lits.reverse
  | w :: t =>
    if w = 0 then
      if lits.isEmpty then (if z = 65535 then deltaRun z [] ++ deltaRuns 1 [] t else deltaRuns (z + 1) [] t)
      else deltaRun z lits.reverse ++ deltaRuns 1 [] t
    else if lits.length = 65535 then deltaRun z lits.reverse ++ deltaRuns 0 [w] t
    else deltaRuns z (w :: lits) t

/-- What a segment names beside its body (R336). -/
structure SegHdr where
  kind : Nat
  pos : Nat
  space : Nat
  last : Bool
  seq : Nat
  base : Nat
  words : Nat
  deriving DecidableEq, Repr

/-- A segment: its header and its body padded to 8 bytes (R336). -/
def State.segment (s : State) (h : SegHdr) (body : Bytes) : Bytes :=
  let b := leBytes 4 0x53445844 ++ leBytes 2 0x0100 ++ leBytes 1 h.kind ++ leBytes 1 h.pos ++ leBytes 8 s.hand.hand.toNat ++
    leBytes 2 s.rank ++ leBytes 1 h.space ++ leBytes 1 (b2n h.last) ++ leBytes 4 h.seq ++
    leBytes 8 (match s.hand.installed with | none => 0 | some i => i.toNat) ++ leBytes 8 h.base ++ leBytes 4 h.words ++
    leBytes 4 body.length ++ leBytes 8 (s.rd64 R.NM_STEP_LO_STEP R.NM_STEP_HI_STEP) ++ zeros 4
  b ++ leBytes 4 (crc32c (b ++ body)).toNat ++ slice body 0 (roundUp body.length 8)

/-- Bytes of delta and census staging on a position (R37). -/
def stagingSize : Nat := gib
/-- Bytes of the staged segments of a position. -/
def State.staged (s : State) (k : Nat) : Nat :=
  ((s.num.segs.filter (fun g => (g.getD 7 0).toNat == k)).map List.length).sum
/-- Next segment number of a position and kind in this hand. -/
def State.segSeq (s : State) (k kind : Nat) : Nat := s.hand.deltaSeq.get (2 * k + (kind - 1)) 0
/-- Stage a segment (R336; log 223). -/
def State.stage (s : State) (k kind : Nat) (seg : Bytes) : State :=
  { s with
    num := { s.num with segs := s.num.segs ++ [seg] }
    hand := { s.hand with deltaSeq := s.hand.deltaSeq.put (2 * k + (kind - 1)) (s.segSeq k kind + 1) 0 } }
/-- DELTA_HELD, once in a hand (R339). -/
def State.deltaHeld (s : State) (k : Nat) : State :=
  if s.hand.deltaHeld then s
  else ({ s with hand := { s.hand with deltaHeld := true } } : State).emit 0x0A14 [.w8 s.hand.hand.toNat, .w4 k]

/-- Words of a segment of 4 MiB. -/
def segWords : Nat := 1048576

end Sys2Proof.Machine
end

