-- ==== Sys2Proof/Machine/Plan.lean ====
section
/-! DEFINITION. The installed pot plan (R283 to R286): list entries, pots, where a pot's entries lie, when every pot is sealed
(R302, R313), and the norms of the gate (R314). -/

namespace Sys2Proof.Machine

/-- The list entry of a tile and a list index (R286). -/
def State.listEnt (s : State) (t gl : Nat) : Option ListEnt :=
  match s.hand.plan with
  | none => none
  | some p => p.lists.find? (fun e => e.tile == t && e.gl == gl)
/-- A pot of the plan. -/
def State.potEnt (s : State) (i : Nat) : Option PotEnt :=
  match s.hand.plan with
  | none => none
  | some p => p.pots[i]?
/-- The layer of a pot. -/
def State.potLayer (s : State) (i : Nat) : Nat :=
  match s.potEnt i with
  | none => 0
  | some p => match s.tensor p.tensor with | none => 0 | some t => t.layer
/-- The epoch of a layer in this hand (R307). -/
def State.epoch (s : State) (layer : Nat) : Nat := s.hand.epochs.get layer 0

/-! ## Where pot entries lie (R285) -/

/-- Whether the installed plan is in ORDERED mode. -/
def State.ordered (s : State) : Bool := match s.hand.plan with | none => false | some p => p.ordered
/-- The pots of the installed plan. -/
def State.pots_ (s : State) : List PotEnt := match s.hand.plan with | none => [] | some p => p.pots
/-- The stacks of an ADDER pot, ascending. -/
def PotEnt.stacks (p : PotEnt) : List Nat := onesOf p.stackMask.toNat 48
/-- The summing tile of a TILE pot (R284). -/
def PotEnt.tile (p : PotEnt) : Nat := p.stackMask.toNat % 2048
/-- The stack of a pot unit. -/
def PotEnt.stackOf (p : PotEnt) (u : Nat) : Nat := p.stacks.getD (u % p.stacks.length) 0
/-- Stack offset of the hi word of entry `i`; in ORDERED mode its lo word lies 4,096 bytes on. -/
def PotEnt.hiOff (p : PotEnt) (ordered : Bool) (i : Nat) : Nat :=
  p.base * 4096 + i / 1024 / p.stacks.length * (if ordered then 8192 else 4096) + 4 * (i % 1024)
/-- The units of a pot that lie on a stack, ascending. -/
def PotEnt.unitsOn (p : PotEnt) (k : Nat) : List Nat := (List.range ((p.entries + 1023) / 1024)).filter (fun u => p.stackOf u == k)
/-- The entries of a pot that lie on a stack, in ascending stack offset. -/
def PotEnt.entriesOn (p : PotEnt) (k : Nat) : List Nat :=
  (p.unitsOn k).flatMap (fun u => (List.range (min 1024 (p.entries - 1024 * u))).map (1024 * u + ·))
/-- A word of a near stack. -/
def State.nearW (s : State) (k off : Nat) : W32 := BitVec.ofNat 32 (leNat (s.nearRd k off 4))
/-- The hi word of a pot entry. -/
def State.hiWord (s : State) (p : PotEnt) (k i : Nat) : W32 := s.nearW k (p.hiOff s.ordered i)
/-- The bytes of a stack's hi words of a pot, in ascending stack offset (R310). -/
def State.hiBytes (s : State) (p : PotEnt) (k : Nat) : Bytes := (p.entriesOn k).flatMap (fun i => leBytes 4 (s.hiWord p k i).toNat)

/-! ## Sealed pots and the norms (R302, R313, R314) -/

/-- The micro-batches of the deal that runs: the rounds of its hand (R288). -/
def State.rounds (s : State) : Nat := match s.hand.running with | none => 0 | some d => d.d.mbCount.toNat

/-- Whether every pot that this seat owns is sealed: an ADDER pot on each of its stacks, a TILE pot once its summing tile has issued
END (R302, R313). -/
def State.allSealed (s : State) : Bool :=
  (s.pots_.zipIdx).all (fun (p, i) => p.owner != s.rank ||
    (if p.kind = 1 then (s.tile p.tile).prim.ended
     else p.stacks.all (fun k => decide (s.rounds ≤ (s.posn k).pot.sealed.get i 0))))

/-- The reduced squared norm: binary64 sums of pot² over the hi words that this seat owns, per stack in offset order, then over the
stacks in stack order (R314). -/
def State.rnorm (s : State) : W64 :=
  let own := s.pots_.filter (fun p => p.owner == s.rank && p.kind == 0)
  let perStack := fun (k : Nat) =>
    let ws := (own.filter (fun p => p.stacks.contains k)).flatMap (fun p => (p.entriesOn k).map (fun i => (p.hiOff s.ordered i, s.hiWord p k i)))
    (ws.foldl (fun (m : Map W32) e => m.ins e.1 e.2) []).foldl (fun a e => dAdd a (toD64 ((f32 e.2).mul (f32 e.2)))) (0 : W64)
  allPos.foldl (fun a k => if own.any (fun p => p.stacks.contains k) then dAdd a (perStack k) else a) 0

/-- Store the reduced squared norm. -/
def State.setRnorm (s : State) : State := s.wr64 R.PT_RNORM_LO_BITS R.PT_RNORM_HI_BITS s.rnorm.toNat

/-- ALL_SEALED, once every pot that the seat owns is sealed in a hand's play schedule: the reduced norm is computed, and the hand is
kept in PT_HAND_SEALED (R302, R314, R317). -/
def State.sealCheck (s : State) : State :=
  if s.on R.PT_STATUS_ALL_SEALED || s.hand.running.isNone || s.hand.outcome.isSome || !s.allSealed then s
  else ((s.wr R.PT_STATUS_ALL_SEALED 1).setRnorm).wr R.PT_HAND_SEALED_HAND (s.hand.hand.toNat % 2 ^ 32)

/-- The tiles of the footprint of the image that runs: those that its play schedule was set up on. -/
def State.footprint (s : State) : List Nat := (s.tiles.filter (fun e => e.2.prim.running || e.2.prim.ended)).map (·.1)

/-- Whether END has issued on every tile of the footprint. -/
def State.allEnded (s : State) : Bool := s.fab.started && s.tiles.all (fun e => !e.2.prim.running)

/-- Whether a recovery deal runs (R342). -/
def State.recovering (s : State) : Bool := match s.hand.running with | none => false | some d => bitOf d.d.dflags.toNat 0

/-- Whether the dealer of a position has done the last descriptor of its list, and every one before it. -/
def State.dealtAll (s : State) (k : Nat) : Bool :=
  decide ((s.posn k).dealer.descs.length ≤ s.getI R.DL_PDESC_INDEX k) && (s.posn k).dealer.opened.isEmpty

/-- Whether this seat's state set goes to a mirror seat: the shards of this seat's home slot have one (R340, R363, R372). -/
def State.pushes (s : State) : Bool :=
  s.on R.NM_UPD_CTRL_PUSH_EN && s.on R.LK_CTRL_MIRROR && !s.alone && s.getI R.LK_HOME_MIRROR s.rank != s.rank

/-! ## Exports (R329, R338, R340) -/

/-- Whether the next sweep waits for a push: one that is due, or one that the mirror seat has not acknowledged (R340). -/
def State.pushing (s : State) : Bool := s.hand.pushPend || s.on R.NM_UPD_STATUS_PUSH_BUSY
/-- The parts of the previous state that its exports have not read yet: those of a full deal, and those of a push that is due (R329). -/
def State.exportLeft (s : State) : List Part :=
  s.hand.full.elim [] (·.parts) ++ (if s.hand.pushPend then s.hand.push.elim [] (·.parts) else [])
/-- Whether lines of a slice (space 0) or a stack (space 1) are still to be read by an export of the previous state: a write of them waits (R329,
R345). -/
def State.exporting (s : State) (k space off n : Nat) : Bool :=
  s.exportLeft.any (fun p => p.pos == k && p.space == space && decide (p.base < off + 64 * n) && decide (off < p.base + 64 * p.lines))

/-- The mirror rank of this seat's state set: that of its own home slot (R363; log 43). -/
def State.ownMirror (s : State) : Nat := s.getI R.LK_HOME_MIRROR s.rank

/-- MIRROR_INVALID (R341, R345). -/
def State.mirrorInvalid (s : State) (hand : W64) (rank : Nat) : State := s.emit 0x0A17 [.w8 hand.toNat, .w4 rank]

/-- A push from this seat fails: MIRROR_INVALID, and the seat goes on unmirrored (R341, R345). -/
def State.pushFail (s : State) (hand : W64) : State :=
  let s := { s with hand := { s.hand with push := none, pushPend := false, pushOpen := [] } }
  (s.wr R.NM_UPD_STATUS_PUSH_BUSY 0).mirrorInvalid hand s.ownMirror

/-- A push that is under way, or due, fails when the mirror seat can no longer be reached (R345). -/
def State.pushLost (s : State) : State :=
  match s.hand.push with
  | some e => if s.on R.NM_UPD_STATUS_PUSH_BUSY && !s.reachable s.ownMirror then s.pushFail e.hand else s
  | none => s
/-- A push under way fails when a position of this seat is lost (R345). -/
def State.pushTorn (s : State) : State :=
  match s.hand.push with
  | some e => if s.on R.NM_UPD_STATUS_PUSH_BUSY then s.pushFail e.hand else s
  | none => s

/-- Lines of a segment of 4 MiB. -/
def segLines : Nat := 65536

/-- Slice lines that the STOCK_OUTs of a dealer's list write, as runs (R338). -/
def Dealer.outRuns (d : Dealer) : List (Nat × Nat) :=
  runsOf ((d.descs.filter (fun x => x.kind == 6 && x.count != 0)).map (fun x =>
    (x.addr2.toNat / 64, x.addr2.toNat / 64 + x.count.toNat)))
/-- Lines of the pieces whose VSET STOREs the sweep part of a dealer's list makes, as runs (R338). -/
def Dealer.pieceRuns (d : Dealer) : List (Nat × Nat) :=
  let sets := (d.descs.drop d.sweepFirst).filter (fun x => x.kind == 3 && bitOf x.flags.toNat 2 && x.count != 0)
  runsOf ((d.pieces.filter (fun p => p.lines != 0 && sets.any (fun x => x.shard == p.shard))).map (fun p =>
    (p.off / 64, p.off / 64 + p.lines)))

/-- Cut a run of lines into parts of at most `n` lines: first line and lines. -/
def cutRun (n : Nat) (r : Nat × Nat) : List (Nat × Nat) :=
  (List.range ((r.2 - r.1 + n - 1) / n)).map (fun i => (r.1 + n * i, min n (r.2 - r.1 - n * i)))

/-- The parts of the state set (R338): slice lines in position order and ascending offset, then the pieces' lines; each run of lines
is cut into parts of at most `n` lines. -/
def State.stateParts (s : State) (n : Nat) : List Part :=
  let cut := fun (k sp : Nat) (l : List (Nat × Nat)) => (l.flatMap (cutRun n)).map (fun r => (⟨k, sp, 64 * r.1, r.2, false⟩ : Part))
  let all := s.svc.flatMap (fun k => cut k 0 (s.posn k).dealer.outRuns) ++ s.svc.flatMap (fun k => cut k 1 (s.posn k).dealer.pieceRuns)
  (all.zipIdx).map (fun p => { p.1 with last := !(all.drop (p.2 + 1)).any (fun q => q.pos == p.1.pos) })

/-- An export of the state that the sweep of this hand left. -/
def State.exportOf (s : State) (n : Nat) : Export :=
  { hand := s.hand.hand, step := s.rd64 R.NM_STEP_LO_STEP R.NM_STEP_HI_STEP,
    image := match s.hand.installed with | none => 0 | some i => i.toNat
    parts := s.stateParts n, sent := 0 }

/-- Most lines that a packet carries: LEN is at most 1,024 chunks, the header and what lies before byte 64 take one (R359, R360). -/
def pushLines : Nat := 1023

/-- The segment of a position whose sweep changed no word and so staged none: no rule states which unchanged words it covers (R336, R337). -/
def State.emptySegment (s : State) (k : Nat) : State :=
  let b := s.freeL
  let n := b.2.freeW
  let words := n.1.toNat % segWords + 1
  n.2.stage k 1 (n.2.segment ⟨1, k, 0, true, n.2.segSeq k 1, b.1.toNat, words⟩ (deltaRuns 0 [] (List.replicate words 0)))

/-- Whether the delta coders work: they make no segments while the delta ring is disabled (R335, R408). -/
def State.deltaCodes (s : State) : Bool := s.on R.NM_UPD_CTRL_DELTA_EN && s.ringOn .dlt

/-- Whether a position still owes the delta segment of its sweep (R335, R337). -/
def State.owesDelta (s : State) (k : Nat) : Bool := s.deltaCodes && s.segSeq k 1 == 0

/-- Stage the segments that positions owe, where staging has room; the first position without room is the second answer (R337, R339). -/
def State.lastSegments (s : State) : State × Option Nat :=
  s.svc.foldl (fun (a : State × Option Nat) k =>
    if !a.1.owesDelta k then a
    else
      let t := a.1.emptySegment k
      if t.staged k ≤ stagingSize then (t, a.2) else (a.1, a.2.orElse (fun _ => some k))) (s, none)

/-- The sweep is applied: the outcome is APPLIED;
a recovery deal clears TORN with RECOVERED; a full deal, which waits while the delta ring is disabled (R408; log 215), and a push that are due
begin (R325, R328, R338, R340, R342). The length of
the sweep in NM_SWEEP_MS is a measured time, which no rule gives. -/
def State.settled (s : State) : State :=
  let ms := s.freeW
  let s := (ms.2.wr R.NM_UPD_STATUS_SWEEP_BUSY 0).wr R.NM_SWEEP_MS_MS ms.1.toNat
  let s := if s.recovering then (s.wr R.NM_UPD_STATUS_TORN 0).emit 0x0A19 [.w8 s.hand.hand.toNat] else s
  let n := s.hand.appliedFull + 1
  let N := s.rd R.NM_FULL_N_N
  let due := s.ringOn .dlt && (s.hand.fullPend || s.on R.NM_UPD_CTRL_FULL_NOW || (N != 0 && decide (N ≤ n)))
  let s := if due then (s.wr R.NM_UPD_STATUS_FULL_BUSY 1).wr R.NM_UPD_CTRL_FULL_NOW 0 else s
  let pushes := s.pushes
  { s with hand := { s.hand with
    sweep := false, outcome := some (0x03, 0)
    appliedFull := if due then 0 else n, fullPend := s.hand.fullPend && !due
    full := if due then some (s.exportOf segLines) else s.hand.full
    pushPend := pushes, push := if pushes then some (s.exportOf pushLines) else none } }

/-- Once the sweep's last END has issued and every dealer has done its list, what is owed is staged, and with every export of the previous state
read the sweep is over (R325, R328, R337, R339, R345). -/
def State.settle (s : State) : State :=
  if !(s.hand.sweep && s.allEnded && s.hand.outcome.isNone && s.svc.all s.dealtAll && s.exportLeft.isEmpty) then s
  else match s.lastSegments with
    | (t, none) => t.settled
    | (t, some k) => t.deltaHeld k

/-- After the last END of the play schedule, PT_LNORM is the sum of the tiles' local squared norms in tile-index order, and the
seal check runs (R313, R314); after that of the sweep schedule the sweep may be over. -/
def State.ended (s : State) : State :=
  if !s.allEnded then s
  else if s.hand.sweep then s.settle
  else
    (s.wr64 R.PT_LNORM_LO_BITS R.PT_LNORM_HI_BITS
      ((s.tiles.foldl (fun (a : W64) e => if e.2.prim.ended then dAdd a e.2.lnorm else a) 0).toNat)).sealCheck

end Sys2Proof.Machine
end

