-- ==== Sys2Proof/Machine/Seq.lean ====
section
/-! DEFINITION. The tile sequencer (R144 to R158): decode of one instruction, the unit queues, and the scalar and control classes. A command of
the sequencer stands for the decode of its word, which is the one that instruction memory holds at PC. -/

namespace Sys2Proof.Machine

/-! ## Decode -/

/-- Whether a beat lies before F_eff of a wafer that is frozen or runs on to it; without a freeze every beat does (R211). -/
def State.before (s : State) (beat : Nat) : Bool :=
  !(s.on R.FB_STATUS_FROZEN || s.fab.freezing) || decide (beat < s.rd64 R.FB_FREEZE_BEAT_LO_FE_LO R.FB_FREEZE_BEAT_HI_FE_HI)

/-- Whether the sequencer may decode ahead of START: the primary context alone, 16 instructions of each schedule (R148). -/
def State.ahead16 (s : State) (a : Site) : Bool := !a.side && decide ((s.ctx a).decoded < 16)

/-- Whether the sequencer decodes for a context now: its schedule has started or it decodes ahead of START, the context runs and has
not decoded its END, its field has its clocks, and neither a stall nor a freeze holds it (R144, R148, R209, R211). A side context runs in the
primary hand's bubbles alone (R133, R165). -/
def State.ready (s : State) (a : Site) : Bool :=
  (s.fab.started || s.ahead16 a) && (s.ctx a).running && !(s.ctx a).closing && s.fieldOn (tileField a.tile) &&
    !s.on R.FB_STATUS_STALLED && s.before (s.ctx a).tc.toNat

/-- The word of instruction memory that PC of a context names; a side context's words lie in the side partition (R135, R143). -/
def State.fetched (s : State) (a : Site) : W64 :=
  let base := match s.curImage with | none => 0 | some m => m.sideWord
  (s.tile a.tile).imem.get ((if a.side then base else 0) + (s.ctx a).pc.toNat) (BitVec.allOnes 64)

/-- Whether a decode waits for the result of a TRICK in a register that it reads (R162). -/
def Ctx.waitsFor (c : Ctx) (rs : List (BitVec 5)) : Bool := c.waits.any (fun w => w.gd != 0 && rs.contains w.gd)

/-- Fold a word into SIG, step PC and count the decode (R148, R150). -/
def Ctx.fold (c : Ctx) (w : W64) : Ctx :=
  { c with sig := crc32cOn c.sig (leBytes 2 c.pc.toNat ++ leBytes 8 w.toNat), pc := c.pc + 1, decoded := c.decoded + 1 }

/-- Decode the word at PC and act: a tile fault for a double-bit error of instruction memory (R151); the illegal-instruction fault for a
word of a reserved class, opcode or field (R155), and for a pair of registers that is not even (log 101); nothing when another word than
`w` stands there, or while decode waits for a TRICK (R162); the fault that `bad` finds at decode; else fold the word and run (R145, R150). -/
def State.instr (s : State) (a : Site) (w : W64) (reads : List (BitVec 5)) (bad : Ctx → Option Nat)
    (run : BitVec 14 → State → State) : State :=
  let b := s.banks a.side
  if !s.ready a then s
  else if a.fetch = .double then s.seqTileFault a.tile a.side 10 (s.ctx a).pc 9
  else if !(legalWord b.1 b.2 (s.fetched a) && evenPairs (s.fetched a)) then (s.eccCe a.tile a.fetch).seqFault a.tile a.side 6 (s.ctx a).pc
  else if s.fetched a ≠ w ∨ (s.ctx a).waitsFor reads then s
  else match bad (s.ctx a) with
    | some f => (s.eccCe a.tile a.fetch).seqFault a.tile a.side f (s.ctx a).pc
    | none => run (s.ctx a).pc ((s.eccCe a.tile a.fetch).onCtx a (fun c => c.fold w))

/-- No fault at decode but that of an illegal word. -/
def noFault : Ctx → Option Nat := fun _ => none

/-! ## Unit queues (R146 to R149) -/

/-- The unit of a queued operation (R155): 1 the lane row with its buffers, 2 the vector engine, 3 its memory port, 4 the router's local port,
5 the trump port; 0 for a marker, which has none. -/
def TOp.unit : TOp → Nat
  | .mrun .. => 1
  | .mfill .. => 1
  | .mown .. => 1
  | .vec .. => 2
  | .ld .. => 3
  | .st .. => 3
  | .send .. => 4
  | .recv .. => 4
  | .pots .. => 4
  | .trick .. => 5
  | _ => 0

/-- Whether a unit's queue holds its 16 instructions of a context (R147). -/
def Ctx.full (c : Ctx) (unit : Nat) : Bool := unit != 0 && decide (16 ≤ (c.uq.filter (fun q => q.op.unit == unit)).length)

/-- Target beat of a timed instruction (R147). -/
def Ctx.target (c : Ctx) (dt : BitVec 8) : W64 := c.tc + dt.setWidth 64

/-- Beats that an instruction decoded late adds to the slips: a beat that a recovery held already counts once (R148, R165). -/
def State.lateBeats (s : State) (a : Site) (beat : Nat) : Nat :=
  match (s.tile a.tile).recHold with
  | some (b, n) => if b = beat then a.late - n else a.late
  | none => a.late

/-- Queue an operation at a beat of its context. -/
def Ctx.enqueue (c : Ctx) (op : TOp) (pc : BitVec 14) (beat : W64) (ga gs : BitVec 5) : Ctx :=
  { c with tc := beat, uq := c.uq ++ [⟨op, pc, beat.toNat, c.gr ga, c.gr gs⟩] }

/-- Decode a timed instruction into its unit's queue (R147, R148): TC moves to its target beat, the G registers that it names are read,
and the beats by which it was decoded late are slips. A decode into a full queue waits. -/
def State.timed (s : State) (a : Site) (w : W64) (dt : BitVec 8) (op : TOp) (ga gs : BitVec 5) (reads : List (BitVec 5)) : State :=
  if (s.ctx a).full op.unit then s
  else s.instr a w reads noFault (fun pc s =>
    let b := (s.ctx a).target dt
    let s := s.onCtx a (fun c => { c with tc := b })
    let s := if s.fab.started then s.slipOf a (s.lateBeats a b.toNat) else s
    s.onCtx a (fun c => c.enqueue op pc b ga gs))

/-- Decode a marker that acts at beat TC (R156). -/
def State.marker (s : State) (a : Site) (n : Nat) (f : SFmt) (op : TOp) : State :=
  s.instr a (wordOf 7 n (sLow f)) [] noFault (fun pc s => s.onCtx a (fun c => c.enqueue op pc c.tc 0 0))

/-! ## The scalar class (R156) -/

/-- A scalar operation that changes its context alone. -/
def State.scalar (s : State) (a : Site) (op : Nat) (f : SFmt) (reads : List (BitVec 5)) (g : Ctx → Ctx) : State :=
  s.instr a (wordOf 0 op (sLow f)) reads noFault (fun _ s => s.onCtx a g)

/-- GD = GA op GB (R156). -/
def State.alu (s : State) (a : Site) (op : Nat) (f : SFmt) (g : W32 → W32 → W32) : State :=
  s.scalar a op f [f.ga, f.gb] (fun c => c.setGr f.gd (g (c.gr f.ga) (c.gr f.gb)))

/-- The shift count GB[4:0] (R156). -/
def shiftBy (b : W32) : Nat := b.toNat % 32

def execAdd (at_ : Site) (f : SFmt) (s : State) : Host.Outcome State Fault Refusal := .next (s.alu at_ 0 f (fun x y => x + y))
def execSub (at_ : Site) (f : SFmt) (s : State) : Host.Outcome State Fault Refusal := .next (s.alu at_ 1 f (fun x y => x - y))
def execAnd (at_ : Site) (f : SFmt) (s : State) : Host.Outcome State Fault Refusal := .next (s.alu at_ 2 f (fun x y => x &&& y))
def execOr (at_ : Site) (f : SFmt) (s : State) : Host.Outcome State Fault Refusal := .next (s.alu at_ 3 f (fun x y => x ||| y))
def execXor (at_ : Site) (f : SFmt) (s : State) : Host.Outcome State Fault Refusal := .next (s.alu at_ 4 f (fun x y => x ^^^ y))
def execShl (at_ : Site) (f : SFmt) (s : State) : Host.Outcome State Fault Refusal :=
  .next (s.alu at_ 5 f (fun x y => x <<< shiftBy y))
def execShr (at_ : Site) (f : SFmt) (s : State) : Host.Outcome State Fault Refusal :=
  .next (s.alu at_ 6 f (fun x y => x >>> shiftBy y))
def execSar (at_ : Site) (f : SFmt) (s : State) : Host.Outcome State Fault Refusal :=
  .next (s.alu at_ 7 f (fun x y => x.sshiftRight (shiftBy y)))
def execMul (at_ : Site) (f : SFmt) (s : State) : Host.Outcome State Fault Refusal := .next (s.alu at_ 8 f (fun x y => x * y))

/-- ADDI: GD = GA + IMM (R156). -/
def execAddi (at_ : Site) (f : SFmt) (s : State) : Host.Outcome State Fault Refusal :=
  .next (s.scalar at_ 9 f [f.ga] (fun c => c.setGr f.gd (c.gr f.ga + f.imm)))

/-- LI: GD = IMM (R156). -/
def execLi (at_ : Site) (f : SFmt) (s : State) : Host.Outcome State Fault Refusal :=
  .next (s.scalar at_ 0xA f [] (fun c => c.setGr f.gd f.imm))

/-- The byte address of LDW and STW before the modulus (R156). -/
def scratchAddr (c : Ctx) (f : SFmt) : Nat := (c.gr f.ga).toNat + f.imm.toNat

/-- Access scratch memory: a double-bit error is a tile fault (R164). -/
def State.scratch (s : State) (a : Site) (op : Nat) (f : SFmt) (reads : List (BitVec 5)) (ecc : Ecc) (g : Ctx → Ctx) : State :=
  s.instr a (wordOf 0 op (sLow f)) reads noFault (fun pc s =>
    if ecc = .double then s.seqTileFault a.tile a.side 11 pc 10 else (s.eccCe a.tile ecc).onCtx a g)

/-- LDW: GD = the scratch word (R156). -/
def execLdw (at_ : Site) (f : SFmt) (ecc : Ecc) (s : State) : Host.Outcome State Fault Refusal :=
  .next (s.scratch at_ 0xB f [f.ga] ecc (fun c => c.setGr f.gd (c.scratchRd (scratchAddr c f))))

/-- STW: the scratch word = GB (R156). -/
def execStw (at_ : Site) (f : SFmt) (ecc : Ecc) (s : State) : Host.Outcome State Fault Refusal :=
  .next (s.scratch at_ 0xC f [f.ga, f.gb] ecc (fun c => c.scratchWr (scratchAddr c f) (c.gr f.gb)))

/-- The special registers (R158). BC at decode can differ from run to run: a free value. -/
def State.special (s : State) (a : Site) (n : Nat) : W32 × State :=
  let c := s.ctx a
  match n with
  | 0 => s.freeW
  | 1 => s.freeW
  | 2 => (c.tc.setWidth 32, s)
  | 3 => ((c.tc >>> 32).setWidth 32, s)
  | 4 => (s.hand.hand.setWidth 32, s)
  | 5 => ((s.hand.hand >>> 32).setWidth 32, s)
  | 6 => (BitVec.ofNat 32 a.tile, s)
  | 7 => (if a.side then 0 else match s.hand.running with | none => 0 | some d => d.d.mbCount.setWidth 32, s)
  | 8 => (if a.side then 1 else 0, s)
  | 9 => (c.sig, s)
  | _ => (0, s)

/-- MFS: GD = special register IMM (R158). -/
def execMfs (at_ : Site) (f : SFmt) (s : State) : Host.Outcome State Fault Refusal :=
  .next (s.instr at_ (wordOf 0 0xD (sLow f)) [] noFault (fun _ s =>
    let r := s.special at_ f.imm.toNat
    r.2.onCtx at_ (fun c => c.setGr f.gd r.1)))

/-! ## The control class (R156) -/

/-- The target word of a branch. -/
def targetOf (f : SFmt) : BitVec 14 := f.imm.setWidth 14

/-- A branch (R156). -/
def State.branch (s : State) (a : Site) (op : Nat) (f : SFmt) (reads : List (BitVec 5)) (g : Ctx → Ctx) : State :=
  s.instr a (wordOf 7 op (sLow f)) reads noFault (fun _ s => s.onCtx a g)

/-- A branch when GA and GB compare so. -/
def State.cond (s : State) (a : Site) (op : Nat) (f : SFmt) (p : W32 → W32 → Bool) : State :=
  s.branch a op f [f.ga, f.gb] (fun c => if p (c.gr f.ga) (c.gr f.gb) then { c with pc := targetOf f } else c)

def execBeq (at_ : Site) (f : SFmt) (s : State) : Host.Outcome State Fault Refusal := .next (s.cond at_ 0 f (fun x y => x == y))
def execBne (at_ : Site) (f : SFmt) (s : State) : Host.Outcome State Fault Refusal := .next (s.cond at_ 1 f (fun x y => x != y))
def execBlt (at_ : Site) (f : SFmt) (s : State) : Host.Outcome State Fault Refusal := .next (s.cond at_ 2 f (fun x y => x.slt y))
def execBltu (at_ : Site) (f : SFmt) (s : State) : Host.Outcome State Fault Refusal := .next (s.cond at_ 3 f (fun x y => x.ult y))

/-- JMP: PC = target (R156). -/
def execJmp (at_ : Site) (f : SFmt) (s : State) : Host.Outcome State Fault Refusal :=
  .next (s.branch at_ 4 f [] (fun c => { c with pc := targetOf f }))

/-- LOOP: GA = GA − 1; the branch is decided on the decremented value (R156). -/
def execLoop (at_ : Site) (f : SFmt) (s : State) : Host.Outcome State Fault Refusal :=
  .next (s.branch at_ 5 f [f.ga] (fun c =>
    let d := c.gr f.ga - 1
    let c := c.setGr f.ga d
    if d != 0 then { c with pc := targetOf f } else c))

/-- SIGCHK compares SIG with IMM before it folds its own word in (R150). -/
def execSigchk (at_ : Site) (f : SFmt) (s : State) : Host.Outcome State Fault Refusal :=
  .next (s.instr at_ (wordOf 7 0xA (sLow f)) [] (fun c =>
    if c.sig != f.imm then some 7 else none) (fun _ s => s))

/-- The schedule beat at which END must issue: that of the play schedule (R154), or the sweep length of the image (R327). -/
def State.endBeat (s : State) : Nat :=
  match s.curImage, s.hand.running with
  | some m, some d => if s.hand.sweep then m.sweepLen else m.beatsFixed + d.d.mbCount.toNat * m.beatsPerMb
  | _, _ => 0

/-- NOP (R156). -/
def execNop (at_ : Site) (f : SFmt) (s : State) : Host.Outcome State Fault Refusal :=
  .next (s.instr at_ (wordOf 7 0xC (sLow f)) [] noFault (fun _ s => s))

end Sys2Proof.Machine
end

