-- ==== Sys2Proof/Machine/Packet.lean ====
section
/-! DEFINITION. Contribution packets as a tile makes them (R288 to R291) and the flits of a router's local port (R169, R171). -/

namespace Sys2Proof.Machine

/-- Key of an input lane of a router: inputs 0 N, 1 E, 2 S, 3 W, 4 LOC (R171). -/
def laneIn (input : Nat) (side : Bool) : Nat := 2 * input + b2n side
/-- Key of a lane toward the tile: 0 LOC, 1 FIL0, 2 FIL1 (R167). -/
def laneOut (o : Nat) (side : Bool) : Nat := 10 + 2 * o + b2n side
/-- A lane of a router. -/
def Router.lane (r : Router) (k : Nat) : List Flit := r.lanes.get k []
/-- Put a lane of a router. -/
def Router.setLane (r : Router) (k : Nat) (l : List Flit) : Router := { r with lanes := r.lanes.put k l [] }
/-- Append flits to a lane. -/
def Router.push (r : Router) (k : Nat) (l : List Flit) : Router := r.setLane k (r.lane k ++ l)

/-- Depth of the local port's lanes (R171). -/
def locDepth : Nat := 8

/-- A flit of 64 bytes (R169). -/
def flitOf (b : Bytes) : Flit := ⟨BitVec.ofNat 512 (leNat (slice b 0 64)), false, crc16 (slice b 0 64)⟩
/-- The 64 bytes of a flit. -/
def flitBytes (f : Flit) : Bytes := leBytes 64 f.data.toNat
/-- A byte string as flits, the last padded with zeros. -/
def flitsOf (b : Bytes) : List Flit := (List.range ((b.length + 63) / 64)).map (fun i => flitOf (slice b (64 * i) 64))

/-- The 60 bytes of a contribution header before its CRC (R289). -/
def hdrBytes (h : CHdr) : Bytes :=
  leBytes 1 h.typ.toNat ++ leBytes 1 h.flags.toNat ++ leBytes 1 h.epoch.toNat ++ leBytes 1 h.gl.toNat ++
    leBytes 2 h.seat.toNat ++ leBytes 2 h.tile.toNat ++ leBytes 8 h.hand.toNat ++ leBytes 4 h.pot.toNat ++
    leBytes 2 h.layer.toNat ++ leBytes 2 h.round.toNat ++ leBytes 8 h.start.toNat ++ leBytes 4 h.count.toNat ++
    leBytes 1 h.cstack.toNat ++ zeros 3 ++ leBytes 4 h.crec.toNat ++ leBytes 16 h.mask.toNat
/-- The CRC of a packet: its header, then its payload before padding (R289; log 35). -/
def pktCrc (h : CHdr) (payload : Bytes) : W32 := crc32c (hdrBytes h ++ payload)
/-- A packet with its CRC. -/
def mkPkt (h : CHdr) (payload : Bytes) : CPkt := ⟨h, payload, pktCrc h payload, false⟩
/-- The flits of a packet: the header flit, then the payload (R289, R290). -/
def pktFlits (p : CPkt) : List Flit := flitOf (hdrBytes p.hdr ++ leBytes 4 p.crc.toNat) :: flitsOf p.payload

/-- The cursor and the round of a list entry of a tile (R288). -/
def Tile.cursor (x : Tile) (e : ListEnt) : Cursor := (x.cursors.find? e.gl).getD ⟨e.start, 0⟩
/-- The cursor after `k` entries (R288). -/
def Cursor.step (c : Cursor) (e : ListEnt) (k : Nat) : Cursor :=
  if e.start + e.length ≤ c.cur + k then ⟨e.start, c.round + 1⟩ else ⟨c.cur + k, c.round⟩

/-- Send a contribution of `k` entries through list entry `e`: the packet's flits go to the router's LOC lane as it has room, and the cursor
advances (R171, R288, R289, R290). -/
def State.contribute (s : State) (t : Nat) (e : ListEnt) (typ k : Nat) (nonfin : Bool) (mask : BitVec 128) (payload : Bytes) :
    State :=
  let x := s.tile t
  let c := x.cursor e
  let layer := s.potLayer e.pot
  let h : CHdr :=
    { typ := BitVec.ofNat 8 typ, flags := BitVec.ofNat 8 (b2n nonfin), epoch := BitVec.ofNat 8 (s.epoch layer),
      gl := BitVec.ofNat 8 e.gl, seat := BitVec.ofNat 16 s.rank, tile := BitVec.ofNat 16 t, hand := s.hand.hand,
      pot := BitVec.ofNat 32 e.pot, layer := BitVec.ofNat 16 layer, round := BitVec.ofNat 16 c.round,
      start := BitVec.ofNat 64 c.cur, count := BitVec.ofNat 32 k, cstack := 0, crec := 0, mask := mask }
  s.setTile t { x with
    cursors := x.cursors.ins e.gl (c.step e k)
    prim := { x.prim with out := x.prim.out ++ pktFlits (mkPkt h payload) } }

end Sys2Proof.Machine
end

