-- ==== Sys2Proof/Machine/Matrix.lean ====
section
/-! DEFINITION. The matrix unit: weight buffers and fills (R74 to R77), broadcast steps (R78 to R94), the checker lane (R95 to
R99), replay, vote and diagnosis (R100 to R108), and MOWN (R152). A step carries out all the beats of R80 at its issue. -/

namespace Sys2Proof.Machine

/-! ## Weight buffers (R74 to R77, R95, R96) -/

/-- The checker sum row over lane rows: exact sums, each rounded once to FP32 (R95). -/
def sumRowOf (n : Nat) (rows : List (List FV)) : List W32 :=
  (List.range n).map (fun k => toF32 (sumFV (rows.map (fun r => r.getD k .nan))))
/-- The checker magnitude row: each sum rounded once to BF16 toward +∞ (R95). -/
def magRowOf (n : Nat) (rows : List (List FV)) : List W16 :=
  (List.range n).map (fun k => toBf16Up (sumFV (rows.map (fun r => (r.getD k .nan).abs))))
/-- Whether a value is finite and within the FP32 range. -/
def inF32 (v : FV) : Bool :=
  match v with
  | .num _ m e => magLe m e (fp32.magVal fp32.maxCode).1 (fp32.magVal fp32.maxCode).2
  | _ => false
/-- Whether rows are usable for checking: every c(k) and m(k) in the FP32 range, no weight scale 0xFF (R95). -/
def rowsUsable (n : Nat) (rows : List (List FV)) : Bool :=
  (List.range n).all (fun k => inF32 (sumFV (rows.map (fun r => (r.getD k .nan).abs))))

/-- The lanes that a mask leaves on. -/
def lanesOf (m : BitVec 128) : List Nat := onesOf m.toNat 128
/-- The scaled values of a lane's row in a buffer. -/
def WBuf.row (w : WBuf) (l : Nat) : List FV :=
  match w.fmt with
  | none => []
  | some f => chunkVals f (w.rows.get l [])
/-- Bytes of a lane row with its scales (R75). -/
def rowBytes (fmt : BitVec 5) : Nat := chunkBytes fmt + chunkScales fmt

/-- A buffer written by a fill: the unmasked lanes' rows in ascending order, the rest as they were, and the checker rows,
rebuilt here or as the dealer sent them (R76, R95). -/
def fillBuf (w : WBuf) (fmt : BitVec 5) (mask : BitVec 128) (data : Bytes) (sent : Option (List W32 × List W16)) : WBuf :=
  let ls := lanesOf mask
  let n := rowBytes fmt
  let rows := (List.range ls.length).foldl (fun (m : Map Bytes) i => m.ins (ls.getD i 0) (slice data (n * i) n)) w.rows
  let vals := ls.map (fun l => chunkVals fmt (rows.get l []))
  let e := chunkOf fmt
  let own := (sumRowOf e vals, magRowOf e vals)
  let r := sent.getD own
  { fmt := some fmt, mask := mask, rows := rows, sumRow := r.1, magRow := r.2, unusable := !rowsUsable e vals, side := w.side }

/-- The checker row of a buffer in stand-in mode: an exact FP32 copy of lane L's scaled row; there is no magnitude row (R106). -/
def WBuf.standIn (w : WBuf) (l : Nat) : WBuf :=
  { w with sumRow := if w.mask.getLsbD l then (w.row l).map toF32 else [], magRow := [] }

/-- Flits of a fill from the mesh: the lane rows, then the two checker rows (R75, R76). -/
def fillFlits (n e : Nat) : Nat := (n + 6 * e + 63) / 64

/-- A fill's data are there: the buffer is written, in stand-in mode with a copy of lane L's row in place of any checker rows; a copy
that would exceed the FP32 range is a tile fault (R76, R95, R106). -/
def State.fillPut (s : State) (a : Site) (h : FillHeld) (data : Bytes) (sent : Option (List W32 × List W16)) : State :=
  let x := s.tile a.tile
  let w := fillBuf (x.buf h.f.buf) h.f.fmt h.mask data sent
  let s := s.onCtx a (fun c => { c with fill := none })
  match x.standin with
  | none => s.onTile a.tile (fun y => y.setBuf h.f.buf w)
  | some l =>
    if h.mask.getLsbD l && (w.row l).any (fun v => v.finite && !inF32 v) then (s.haltCtx a.tile a.side).tileFault a.tile 7
    else s.onTile a.tile (fun y => y.setBuf h.f.buf (w.standIn l))

/-- Take flits of a fill in turn from FIL0 and FIL1, as long as both have them (R75, R76). -/
def takeFill (k : Nat) (a b got : List Flit) : Nat → List Flit × List Flit × List Flit
  | 0 => (a, b, got)
  | n + 1 =>
    if k ≤ got.length then (a, b, got)
    else if got.length % 2 = 0 then
      match a with
      | f :: r => takeFill k r b (got ++ [f]) n
      | [] => (a, b, got)
    else
      match b with
      | f :: r => takeFill k a r (got ++ [f]) n
      | [] => (a, b, got)

/-- Carry a fill on (R76, R120, R172, R243): from SRAM at once; from the mesh with the flits that FIL0 and FIL1 hold. None: it waits for its
buffer or for flits. A poisoned flit is a fabric fault. -/
def State.fillOn (s : State) (a : Site) : Option State :=
  match (s.ctx a).fill with
  | none => none
  | some h =>
    let x := s.tile a.tile
    let n := (lanesOf h.mask).length * rowBytes h.f.fmt
    let e := chunkOf h.f.fmt
    if !h.go then none
    else if h.f.src = 0 then
      match s.readBad a.tile (64 * h.line) n h.ecc with
      | some o => if n = 0 then some (s.fillPut a h [] none) else some (s.readUe a.tile a.side o)
      | none => some ((s.eccCe a.tile h.ecc).fillPut a h (x.sram.bytes (64 * h.line) n) none)
    else
      let k := fillFlits n e
      let r := takeFill k (x.router.lane (laneOut 1 false)) (x.router.lane (laneOut 2 false)) h.got (k + 1)
      if r.2.2.length < k ∧ r.2.2.length = h.got.length then none
      else
        let s := (s.onTile a.tile (fun y => { y with
          router := (y.router.setLane (laneOut 1 false) r.1).setLane (laneOut 2 false) r.2.1 })).onCtx a (fun c =>
            { c with fill := some { h with got := r.2.2 } })
        if r.2.2.length < k then some s
        else if r.2.2.any (·.poison) then some ((s.emit 0x0314 [.w4 a.tile]).tileStop a.tile)
        else
          let data := r.2.2.flatMap flitBytes
          some (s.fillPut a h data (some ((List.range e).map (fun i => BitVec.ofNat 32 (field data (n + 4 * i) 4)),
            (List.range e).map (fun i => BitVec.ofNat 16 (field data (n + 4 * e + 2 * i) 2)))))

/-! ## Step results (R81, R97, R128) -/

/-- Half of the accuracy bound of R81: 2^-23 × M + 2^-149. -/
def stepBound (M : FV) : FV := (M.mul (.num false 1 (-23))).add (.num false 1 (-149))

/-- A step result: any FP32 value within the bound of R81, which alone limits it; the draw that does not meet the bound stands
for the exact value rounded, which does (log 36). Non-finite terms give what IEEE 754 gives. -/
def stepVal (i : Nat) (terms : List FV) : W32 :=
  let P := sumFV terms
  let w := Config.freeWord i
  if P.finite && (f32 w).finite &&
      decide ((((f32 w).sub P).abs).cmp (stepBound (sumFV (terms.map FV.abs))) ≤ 0) then w
  else toF32 P

/-- Invert a bit of a word. -/
def flipBit (w : W32) (b : Nat) : W32 := w ^^^ (1#32 <<< b)
/-- Invert a bit of one lane's result. -/
def flipLane (p : List (Nat × W32)) (l b : Nat) : List (Nat × W32) := p.map (fun e => if e.1 = l then (l, flipBit e.2 b) else e)

/-- What is wrong with one broadcast: (target, lane, bit) from the injection register and from upsets; a replay meets only
upsets that persist (R128). -/
def Tile.hits (x : Tile) (ups : List Upset) (replay : Bool) : List (Nat × Nat × Nat) × Tile :=
  let a := x.inject 0
  let b := a.2.inject 1
  let one := fun (k : Nat) (o : Option (Nat × Nat)) => match o with | none => [] | some (l, i) => [(k, l, i)]
  (one 0 a.1 ++ one 1 b.1 ++
    (ups.filter (fun u => (!replay || u.persist) && decide (u.target.toNat ≤ 1))).map
      (fun u => (u.target.toNat, u.lane.toNat, u.bit.toNat)), b.2)

/-- What one broadcast gives: the lanes' step results, q and μ (R81, R97, R106). -/
structure StepOut where
  p : List (Nat × W32)
  q : W32
  mu : W32
  deriving DecidableEq, Repr

/-- The results of a broadcast of operand `ops` on a buffer, with the draws from `i` on. In stand-in mode the checker lane computes lane L's
result from its copy of the row (R106). -/
def stepOut (w : WBuf) (ops : List FV) (i : Nat) (standin : Option Nat) (hits : List (Nat × Nat × Nat)) : StepOut :=
  let q := stepVal (i + 128) (mulFV ops (w.sumRow.map f32))
  let p := (lanesOf w.mask).map (fun l => (l, if standin = some l then q else stepVal (i + l) (mulFV ops (w.row l))))
  let o : StepOut :=
    { p := p, q := q, mu := toF32Up (sumFV (mulFV (ops.map FV.abs) (w.magRow.map (fun h => bf16.dec h.toNat)))) }
  hits.foldl (fun o h =>
    if h.1 = 0 then (if standin = some h.2.1 then o else { o with p := flipLane o.p h.2.1 h.2.2 })
    else match standin with
      | some l => { o with p := flipLane o.p l h.2.2 }
      | none => { o with q := flipBit o.q h.2.2 }) o

/-! ## Accumulation and the compare (R82, R97 to R99) -/

/-- An accumulator entry. After a sweep START an entry that no step has written holds free values (R327). -/
def Tile.accOf (x : Tile) (n : Nat) : Acc :=
  match x.acc.find? n with
  | some a => a
  | none =>
    if x.accEpoch = 0 then Acc.reset
    else
      let v := Config.freeAcc x.accEpoch n
      { lanes := (List.range 128).foldl (fun (m : Map W32) l => m.put l (v l) 0) [], chk := v 128, mag := v 129,
        n := (v 130).toNat, mask := none }

/-- An entry after a step (R81, R82, R97). In stand-in mode the checker's own entries take nothing (R106). -/
def Acc.step (a : Acc) (first : Bool) (mask : BitVec 128) (standin : Bool) (o : StepOut) : Acc :=
  let lanes := o.p.foldl (fun (m : Map W32) e => m.put e.1 (if first then e.2 else fAdd (m.get e.1 0) e.2) 0) a.lanes
  let a := if standin then a
    else if first then { a with chk := o.q, mag := o.mu }
    else { a with chk := fAdd a.chk o.q, mag := toF32Up ((f32 a.mag).add (f32 o.mu)) }
  if first then { a with lanes := lanes, n := 1, mask := some mask } else { a with lanes := lanes, n := a.n + 1 }

/-- The tolerance of R98. -/
def tau (n : Nat) (mag : FV) : FV :=
  f32 (toF32Up (((FV.num false (n + 4) (-23)).mul mag).add (.num false 1 (-110))))

/-- Whether a step mismatches: some true for a mismatch, some false for none, none for an unchecked step (R98, R99). -/
def compareStep (x : Tile) (w : WBuf) (a : Acc) : Option Bool :=
  let L := sumFV ((lanesOf w.mask).map (fun l => f32 (a.lanes.get l 0)))
  let c := f32 a.chk
  let m := f32 a.mag
  if !L.finite || !c.finite || !m.finite || w.unusable || decide (65535 < a.n) || x.standin.isSome || x.chkOut then none
  else some (decide (0 < (L.sub c).abs.cmp (tau a.n m)))

/-! ## Vote and diagnosis (R102 to R105) -/

/-- Whether a difference disagrees with magnitudes μ under R102. -/
def disagree (d : FV) (mu : W32) : Bool :=
  !d.finite || !(f32 mu).finite || decide (0 < d.abs.cmp (tau 1 (f32 mu)))

/-- q and μ of rows that the builder forms from some lanes alone (R104). -/
def groupOut (w : WBuf) (ops : List FV) (i : Nat) (ls : List Nat) : W32 × W32 :=
  let vals := ls.map w.row
  let e := ops.length
  (stepVal i (mulFV ops ((sumRowOf e vals).map f32)),
   toF32Up (sumFV (mulFV (ops.map FV.abs) ((magRowOf e vals).map (fun h => bf16.dec h.toNat)))))

/-- Verdicts of the diagnosis (R105). -/
inductive Verdict where
  | row
  | lane (l : Nat)
  | checker
  | many
  deriving DecidableEq, Repr

/-- Sum of the replay results of some lanes. -/
def sumOver (p : List (Nat × W32)) (ls : List Nat) : FV := sumFV (ls.map (fun l => f32 ((p.find? (fun e => e.1 == l)).map (·.2) |>.getD 0)))

/-- D3: split the suspect group, whose difference is `d`, level by level; the verdict and the beats taken (R104, R105). -/
def splitGroup (w : WBuf) (ops : List FV) (p : List (Nat × W32)) (i : Nat) : Nat → List Nat → FV → Verdict × Nat
  | 0, _, _ => (.checker, 0)
  | k + 1, g, d =>
    if g.length ≤ 1 then (.lane (g.headD 0), 9)
    else
      let lo := g.take ((g.length + 1) / 2)
      let up := g.drop ((g.length + 1) / 2)
      let ql := groupOut w ops (i + 2 * k) lo
      let qu := groupOut w ops (i + 2 * k + 1) up
      let dl := (sumOver p lo).sub (f32 ql.1)
      let du := if d.finite && dl.finite then d.sub dl else .nan
      let r :=
        match disagree dl ql.2, disagree du qu.2 with
        | true, true => (Verdict.many, 0)
        | false, false => (Verdict.checker, 0)
        | true, false => splitGroup w ops p i k lo dl
        | false, true => splitGroup w ops p i k up du
      (r.1, r.2 + 15)

/-- The diagnosis of a reproduced mismatch, from the kept replay results: the verdict, the buffer with its rows as D1 leaves them, and the
beats. With the stored rows equal to the rebuilt ones D2 does not run, and the group's difference is the replay's own; else it is taken
against the rebuilt rows (R104, R105). -/
def diagnose (w : WBuf) (ops : List FV) (r : StepOut) (i : Nat) : Verdict × WBuf × Nat :=
  let ls := lanesOf w.mask
  let vals := ls.map w.row
  let e := ops.length
  let differ := sumRowOf e vals != w.sumRow || magRowOf e vals != w.magRow
  let w' := { w with sumRow := sumRowOf e vals, magRow := magRowOf e vals, unusable := !rowsUsable e vals }
  let g := if differ then groupOut w ops (i + 200) ls else (r.q, r.mu)
  let d := (sumOver r.p ls).sub (f32 g.1)
  let t := if differ then 17 else 8
  if differ && !disagree d g.2 then (.row, w', t)
  else match ls with
    | [] => (.checker, w', t)
    | [l] =>
      let exact := stepVal (i + 201) (mulFV ops (w.row l))
      (if disagree ((sumOver r.p [l]).sub (f32 exact)) (groupOut w ops (i + 202) [l]).2 then .lane l else .checker, w', t + 9)
    | _ =>
      let v := splitGroup w ops r.p (i + 210) 8 ls d
      (v.1, w', t + v.2)

/-- What a recovery ends in: the results that step s accumulates, or a tile fault. -/
structure Recovered where
  out : Option StepOut
  s : State

/-- The checker enters stand-in mode for a lane: its rows in both buffers become copies of the lane's (R106). -/
def Tile.standInFor (y : Tile) (l : Nat) : Tile :=
  { y with
    standin := some l, stat := (y.stat &&& 0xFFFFFC07) ||| BitVec.ofNat 32 (2 + 8 * l)
    bufA := y.bufA.standIn l, bufB := y.bufB.standIn l }

/-- The beats of a recovery: slips of the tile, which its schedule stands for at the beat after step s + 8 (R101, R165). -/
def State.recoverySlip (s : State) (t : Nat) (side : Bool) (beat n : Nat) : State :=
  (s.slip t n).onTile t (fun x => if side then x else { x with recHold := some (beat + 9, n) })

/-- Recover from a mismatch of a step at beat `beat` of its context (R101 to R108, R130): the fifth recovery within 1,024 beats, and an
uncorrectable error on the replay's operand read, are tile faults. -/
def State.recover (s : State) (t : Nat) (side : Bool) (b : BitVec 1) (ops : List FV) (i : Nat) (ups : List Upset) (beat : Nat)
    (orig : StepOut) : Recovered :=
  let x := s.tile t
  let now := x.now side beat
  let recent := x.recov.filter (fun r => decide (now < r + 1024))
  if 4 ≤ recent.length then ⟨none, (s.haltCtx t side).tileFault t 8⟩
  else
    let s := (s.setTile t { x with recov := recent ++ [now] }).emit 0x0A01 [.w4 t, .w8 (beat + 1)]
    if ups.any (fun u => u.target == 3) then ⟨none, (s.haltCtx t side).tileFault t 5⟩
    else
    let h := (s.tile t).hits ups true
    let s := s.setTile t h.2
    let w := x.buf b
    let o := stepOut w ops i x.standin h.1
    if !disagree ((sumFV (o.p.map (fun e => f32 e.2))).sub (f32 o.q)) o.mu then
      if o.p = orig.p then ⟨some { o with p := orig.p }, (s.recoverySlip t side beat 21).checkTransient t 2⟩
      else ⟨some o, (s.recoverySlip t side beat 21).checkTransient t 1⟩
    else
      let r := diagnose w ops o (i + 256)
      let s := s.recoverySlip t side beat (21 + r.2.2)
      let s := s.onTile t (fun y => y.setBuf b r.2.1)
      match r.1 with
      | .row =>
        let n := stepOut r.2.1 ops (i + 512) x.standin []
        ⟨some { o with q := n.q, mu := n.mu }, s.checkTransient t 3⟩
      | .lane l =>
        let fix := stepVal (i + 700) (mulFV ops (w.row l))
        ⟨some { o with p := o.p.map (fun e => if e.1 = l then (l, fix) else e) },
          ((s.onTile t (fun y => y.standInFor l)).emit 0x0A03 [.w4 t, .w4 l]).suspect t 1⟩
      | .checker =>
        let s := s.onTile t (fun y => { y with chkOut := true, stat := y.stat ||| 4 })
        ⟨some { o with p := orig.p }, (s.emit 0x0A04 [.w4 t]).suspect t 2⟩
      | .many => ⟨none, ((s.haltCtx t side).suspect t 3).tileFault t 3⟩

/-! ## A broadcast step (R78 to R94) -/

/-- The words of a drained entry in lane order (R290): masked lanes are 0. -/
def drainBytes (w : WBuf) (a : Acc) : Bytes :=
  (List.range 128).flatMap (fun l => leBytes 4 (if w.mask.getLsbD l then a.lanes.get l 0 else 0).toNat)
/-- The lanes that a drain marks as carrying a value (R290). -/
def drainMask (w : WBuf) (zfill : Bool) : BitVec 128 := if zfill then BitVec.allOnes 128 else w.mask
/-- The values that a drain takes from the lanes that its buffer does not mask. -/
def drainVals (w : WBuf) (a : Acc) : Map W32 := (lanesOf w.mask).foldl (fun (m : Map W32) l => m.put l (a.lanes.get l 0) 0) []

/-- The list entry through which a MESH drain goes (R94, R286): index 31, of kind 2. -/
def State.drainEnt (s : State) (t : Nat) : Option ListEnt := (s.listEnt t 31).filter (fun e => e.kind == 2)

/-- The drain of an entry at a beat of the hand: into the tile queue, poppable from C9 (R91, R92), or toward a pot (R94). A drain toward a pot that
the plan does not name has nowhere to go (log 8). -/
def State.drain (s : State) (t : Nat) (side : Bool) (f : MRunF) (w : WBuf) (n : Nat) (a : Acc) (at_ : Nat) : State :=
  if f.dst = 0 then
    s.onTile t (fun x => { x with queue := x.queue ++ [⟨drainVals w a, w.mask, f.zfill == 1, side, n, at_ + 9⟩] })
  else match s.drainEnt t with
    | none => s
    | some e => s.contribute t e 3 128 false (drainMask w (f.zfill == 1)) (drainBytes w a)

/-- Retract a drain that left before its step was found wrong (R103, R306): the corrected tile goes to the correction path, and
a renege is requested. -/
def State.retract (s : State) (t : Nat) (w : WBuf) (zfill : Bool) (e : ListEnt) (at_ : Cursor) (a : Acc) : State :=
  s.onTile t (fun x => { x with
    corr := x.corr ++ [⟨e.gl, at_.round, at_.cur, drainMask w zfill, drainVals w a⟩]
    stat := x.stat ||| 0x4000
    flags := x.flags ||| 2 }) |>.wr R.FB_TRUMP_FLAGS_RENEGE 1

/-- The compare of a step and its recoveries, each of which is followed by a compare again (R98, R108, R130): the results that the step
accumulates in the end, and whether it recovered; none when the tile stops. -/
def State.settleStep (s : State) (t : Nat) (side : Bool) (f : MRunF) (before : Acc) (ops : List FV) (i : Nat) (ups : List Upset)
    (beat : Nat) : Nat → StepOut → Bool → State × Option (StepOut × Bool)
  | 0, _, _ => (s, none)
  | k + 1, o, again =>
    let x := s.tile t
    let w := x.buf f.buf
    match compareStep x w (before.step (f.first == 1) w.mask x.standin.isSome o) with
    | some true =>
      let r := s.recover t side f.buf ops i ups beat o
      match r.out with
      | none => (r.s, none)
      | some o' => r.s.settleStep t side f before ops i ups beat k o' true
    | some false => (s, some (o, again))
    | none => (if again then s else s.onTile t (fun y => { y with unchk := satAdd y.unchk 1 }), some (o, again))

/-- One valid broadcast step whose checks have passed: the broadcast, the accumulate, the compare with its recoveries, and the drain (R80 to
R108). `again`: it was broadcast before the recovery of the step before it, so that its MESH drain has left and is not made again. The first Bool
says that the tile goes on, the second that the step recovered. -/
def State.bstep (s : State) (t : Nat) (side : Bool) (f : MRunF) (n beat : Nat) (ops : List FV) (ups : List Upset) (again : Bool) :
    State × Bool × Bool :=
  let i := s.free
  let s : State := { s with free := s.free + 1024 }
  let h := (s.tile t).hits ups false
  let s := s.setTile t { h.2 with mtxBeats := h.2.mtxBeats + b2n (!side) }
  let x := s.tile t
  let w := x.buf f.buf
  let before := x.accOf n
  let acc := fun (x : Tile) (o : StepOut) => before.step (f.first == 1) w.mask x.standin.isSome o
  let mesh := if f.last == 1 && f.dst == 1 then (s.drainEnt t).map (fun e => (e, x.cursor e)) else none
  let at_ := x.now side beat
  let o0 := stepOut w ops i x.standin h.1
  -- a drain that leaves before its step's own compare, or before the recovery of the step before it
  let gone := mesh.isSome && (again || compareStep x w (acc x o0) == some true)
  let s := if gone then s.drain t side f w n (acc x o0) at_ else s
  let o1 := if again then stepOut w ops i x.standin ((s.tile t).hits (ups.filter (·.persist)) true).1 else o0
  let r := s.settleStep t side f before ops i ups beat 6 o1 false
  match r.2 with
  | none => (r.1, false, true)
  | some (o, rec) =>
    let s := r.1
    let a := acc (s.tile t) o
    let s := s.onTile t (fun y =>
      let hist := y.stepHist ++ [⟨n, before, o.p, o.q, o.mu⟩]
      { y with acc := y.acc.ins n a, stepHist := hist.drop (hist.length - 4) })
    let s :=
      match mesh, gone with
      | some (e, c), true => if a.lanes = (acc x o0).lanes then s else s.retract t w (f.zfill == 1) e c a
      | _, _ => if f.last == 1 then s.drain t side f w n a ((s.tile t).now side beat) else s
    (s, true, rec)

/-- Queue entries that a context holds. -/
def Tile.queued (x : Tile) (side : Bool) : Nat := (x.queue.filter (fun q => q.side == side)).length

/-- The beat of the hand from which a step of a context can reserve a queue entry, at the earliest `now`, of the `max` that it may hold; none
while every one is taken. An entry that a pop frees in beat t is free from t + 1 (R87, R91). -/
def Tile.slotAt (x : Tile) (side : Bool) (max now : Nat) : Option Nat :=
  let late := (x.popped.filter (fun p => p.1 == side && decide (now ≤ p.2))).map (·.2 + 1)
  let free := fun (u : Nat) => decide (x.queued side + (late.filter (fun t => decide (u < t))).length < max)
  (((now :: late).filter free).foldl (fun (o : Option Nat) u => some (match o with | none => u | some v => min u v)) none)

/-- The lines that step `i` of a run reads. -/
def runLine (line stride i : Nat) : Nat := (line + i * stride) % 2 ^ 20

/-- Whether a fill under way in either context is to write a buffer. -/
def Tile.filling (x : Tile) (b : BitVec 1) : Bool :=
  x.prim.fill.any (fun h => h.f.buf == b) || x.side.fill.any (fun h => h.f.buf == b)

/-- Issue the next step of the MRUN under way in a context (R79, R84, R87, R89, R120): its checks, a queue entry for a LAST step, its operand,
the broadcast. None: it is held, for a queue entry or for a fill of its buffer whose flits are late. It names its buffer for 3 beats (log 225). -/
def State.runStep (s : State) (a : Site) (h : RunHeld) : Option State :=
  let t := a.tile
  let x := s.tile t
  let f := h.f
  let w := x.buf f.buf
  let n := 64 * f.bank.toNat + f.entry.toNat + h.step
  let base := 64 * runLine h.line h.stride h.step
  let queue := f.last == 1 && f.dst == 0
  let slot := x.slotAt a.side (s.queueMax a.side) (x.now a.side h.beat)
  if w.side != a.side then some (s.seqFault t a.side 2 h.pc)
  else if x.filling f.buf then none
  else if w.fmt ≠ some f.fmt then some (s.seqFault t a.side 1 h.pc)
  else if f.first = 0 ∧ ((x.accOf n).mask.getD w.mask) ≠ w.mask then some (s.seqFault t a.side 5 h.pc)
  else if queue && slot.isNone then none
  else
    let s := if queue then s.slipOf a (slot.getD 0 - x.now a.side h.beat) else s
    match x.ueIn base (rowBytes f.fmt) with
    | some o => some (s.readUe t a.side o)
    | none =>
      let b := x.sram.bytes base (rowBytes f.fmt)
      let s := s.onTile t (fun y =>
        let hist := y.opHist ++ [b]
        let till := y.now a.side h.beat + 3
        { y with
          useA := if f.buf = 0 then till else y.useA
          useB := if f.buf = 0 then y.useB else till
          opHist := hist.drop (hist.length - 9) })
      let r := s.bstep t a.side f n h.beat (chunkVals f.fmt b) ((h.ups.filter (fun u => u.1 == h.step)).map (·.2)) h.again
      let next := if f.nm1.toNat ≤ h.step then none
        else some { h with step := h.step + 1, beat := h.beat + 1, again := r.2.2 && f.last == 1 && f.dst == 1 }
      some (if r.2.1 then r.1.onCtx a (fun c => { c with run := next }) else r.1)

/-- What MRUN does at issue (R157): a bubble acts on nothing (R85); a matrix issue inside a window, and lines outside the
partition, are faults of the whole run (R152, R163); a double-bit error of the buffer is a tile fault (R77). Its steps then issue
beat by beat. -/
def State.mrun (s : State) (a : Site) (f : MRunF) (ecc bufEcc : Ecc) (ups : List (Nat × Upset)) (q : QIns) : State :=
  let c := s.ctx a
  let n := f.nm1.toNat + 1
  let line := q.ga.toNat
  let stride := q.gs.toNat
  let s := s.onTile a.tile (fun x => if a.side then { x with sideBeats := x.sideBeats + f.nm1.toNat } else x)
  if !a.side && c.window then s.seqFault a.tile a.side 3 q.pc
  else if f.bub = 1 then s
  else if !(List.range n).all (fun i => s.linesOk a.side (runLine line stride i) (recordLines f.fmt)) then
    s.seqFault a.tile a.side 4 q.pc
  else if ecc = .double then s.readUe a.tile a.side (64 * runLine line stride 0)
  else if bufEcc = .double then (s.haltCtx a.tile a.side).tileFault a.tile 6
  else ((s.eccCe a.tile ecc).eccCe a.tile bufEcc).onCtx a (fun c =>
    { c with run := some ⟨f, q.pc, 0, q.beat, line, stride, ups, false⟩ })

/-- What MFILL does at issue (R74, R76, R152, R157): it waits while an issued step names its buffer, and each beat of that is a slip. One into a
buffer of the other context fills it (log 226). -/
def State.mfill (s : State) (a : Site) (f : MFillF) (ecc : Ecc) (q : QIns) : State :=
  let c := s.ctx a
  let x := s.tile a.tile
  let mask : BitVec 128 := c.mask (f.mm.toNat + 1) ++ c.mask f.mm.toNat
  let line := lineAddr q.ga 0
  let n := ((lanesOf mask).length * rowBytes f.fmt + 63) / 64
  let busy := (if f.buf = 0 then x.useA else x.useB) - x.now a.side q.beat
  if !a.side && c.window then s.seqFault a.tile a.side 3 q.pc
  else if f.src = 0 ∧ !s.linesOk a.side line n then s.seqFault a.tile a.side 4 q.pc
  else (s.slipOf a busy).onCtx a (fun c => { c with fill := some ⟨f, mask, line, ecc, busy == 0, []⟩ })

/-- What MOWN does at issue (R152): ownership of a buffer moves to the other context. The primary gives only inside a window. -/
def State.mown (s : State) (a : Site) (f : MOwnF) (pc : BitVec 14) : State :=
  let x := s.tile a.tile
  let w := x.buf f.buf
  if !a.side && !x.prim.window then s.seqFault a.tile a.side 3 pc
  else if w.side != a.side then s.seqFault a.tile a.side 2 pc
  else s.setTile a.tile (x.setBuf f.buf { w with side := !a.side })

end Sys2Proof.Machine
end

