-- ==== Sys2Proof/Machine/Vector.lean ====
section
/-! DEFINITION. The vector engine (R109 to R114, R117, R160): what its operations do at issue, elementwise arithmetic, compares, reductions,
movement, draws and QPOP, with the residue check and the injection of R128. -/

namespace Sys2Proof.Machine

/-! ## Element functions (R113) -/

/-- The NaN that the module writes in FP32 (R42, R44). -/
def qnan : W32 := 0x7FC00000
/-- Whether a word is an FP32 NaN. -/
def isNan32 (a : W32) : Bool := (f32 a).isNan
/-- MIN (R113): NaN when either is NaN, −0 below +0. -/
def fMin (a b : W32) : W32 :=
  if isNan32 a || isNan32 b then qnan
  else
    let c := (f32 a).cmp (f32 b)
    if c < 0 then a else if 0 < c then b else if a.msb then a else b
/-- MAX (R113). -/
def fMax (a b : W32) : W32 :=
  if isNan32 a || isNan32 b then qnan
  else
    let c := (f32 a).cmp (f32 b)
    if c < 0 then b else if 0 < c then a else if a.msb then b else a
/-- ABS; a NaN becomes the NaN of R42. -/
def fAbs (a : W32) : W32 := if isNan32 a then qnan else a &&& 0x7FFFFFFF
/-- NEG; a NaN becomes the NaN of R42. -/
def fNeg (a : W32) : W32 := if isNan32 a then qnan else a ^^^ 0x80000000
/-- RCP: correctly rounded 1 ÷ x. -/
def fRcp (a : W32) : W32 := toF32 ((FV.num false 1 0).div (f32 a))
/-- RSQ: correctly rounded 1 ÷ √x; ±0 gives the infinity of its sign, a negative value NaN (R113). -/
def fRsq (a : W32) : W32 :=
  match f32 a with
  | .num n 0 _ => if n then 0xFF800000 else 0x7F800000
  | .inf true => qnan
  | v => toF32 (((FV.num false 1 0).div v).sqrt)
/-- A compare that is false for a NaN operand (R113). -/
def fCmp (p : Int → Bool) (a b : W32) : Bool := !isNan32 a && !isNan32 b && p ((f32 a).cmp (f32 b))
/-- IMIN: signed (R113). -/
def iMin (a b : W32) : W32 := if b.slt a then b else a
/-- IMAX: signed (R113). -/
def iMax (a b : W32) : W32 := if a.slt b then b else a

/-- The six levels of the pairwise tree of R114. -/
def tree (f : W32 → W32 → W32) : Nat → List W32 → List W32
  | 0, l => l
  | n + 1, l => tree f n ((List.range (l.length / 2)).map (fun i => f (l.getD (2 * i) 0) (l.getD (2 * i + 1) 0)))

/-! ## Issue and write-back -/

/-- Whether an element is active (R110). -/
def Ctx.active (c : Ctx) (f : VFmt) (i : Nat) : Bool := (c.mask f.msk.toNat).getLsbD i

/-- The hit on an operation's destination: the injection of TARGET 0b10, else an upset (R128). The last part is whether it
meets a repeat too. -/
def State.vhit (s : State) (a : Site) (up : Option Upset) : Option (Nat × Nat × Bool) × State :=
  let x := s.tile a.tile
  match x.inject 2 with
  | (some (l, b), y) => (some (l, b, bitOf x.inj.toNat 15), s.setTile a.tile y)
  | (none, _) =>
    (match up with
      | some u => if u.target = 2 then some (u.lane.toNat, u.bit.toNat, u.persist) else none
      | none => none, s)

/-- A residue-checked operation that writes the elements `on`, whose results hold `sb` bits of significand (R117): a hit on a significand is repeated, its latency and one beat are slips, and
the repeat's result is written; a repeat that fails too makes the tile suspect and is a tile fault. A hit on a sign or an exponent, which the
residue does not cover, inverts its bit in the result (R128). -/
def State.checked (s : State) (a : Site) (op latency sb : Nat) (up : Option Upset) (on : Nat → Bool) (new : Nat → W32)
    (commit : (Nat → W32) → State → State) : State :=
  match s.vhit a up with
  | (none, s) => commit new s
  | (some (l, b, again), s) =>
    if !(decide (l < 64) && on l) then commit new s
    else if sb ≤ b then commit (fun i => if i = l then new i ^^^ (1#32 <<< b) else new i) s
    else if again then (((s.slip a.tile (latency + 1)).haltCtx a.tile a.side).suspect a.tile 4).tileFault a.tile 4
    else commit new ((s.slip a.tile (latency + 1)).residueTransient a.tile (128 + op))

/-- An operation without a residue check: a hit inverts a bit of a written element. -/
def State.unchecked (s : State) (a : Site) (up : Option Upset) (on : Nat → Bool) (new : Nat → W32)
    (commit : (Nat → W32) → State → State) : State :=
  match s.vhit a up with
  | (none, s) => commit new s
  | (some (l, b, _), s) =>
    commit (fun i => if i = l ∧ l < 64 ∧ on i then new i ^^^ (1#32 <<< b) else new i) s

/-- Write elements of VD under a mask and Z (R110). -/
def State.vput (s : State) (a : Site) (r : Nat) (on : Nat → Bool) (z : Bool) (new : Nat → W32) : State :=
  s.onCtx a (fun c => c.setVec r (fun i => on i || z) (fun i => if on i then new i else 0))

/-- An elementwise operation; `lat` is its latency where it is residue-checked (R112). -/
def State.vmap (s : State) (a : Site) (op : Nat) (f : VFmt) (up : Option Upset) (lat : Option Nat) (g : Ctx → Nat → W32) :
    State :=
  let c := s.ctx a
  let on := c.active f
  let put := fun (new : Nat → W32) (s : State) => s.vput a f.vd.toNat on (f.z == 1) new
  match lat with
  | some l => s.checked a op l (if op < 0x10 then 23 else 32) up on (g c) put
  | none => s.unchecked a up on (g c) put

/-- VD = VA op VB. -/
def State.v2 (s : State) (a : Site) (op : Nat) (f : VFmt) (up : Option Upset) (lat : Option Nat) (g : W32 → W32 → W32) : State :=
  s.vmap a op f up lat (fun c i => g (c.el f.va.toNat i) (c.el f.vb.toNat i))
/-- VD = op VA. -/
def State.v1 (s : State) (a : Site) (op : Nat) (f : VFmt) (up : Option Upset) (lat : Option Nat) (g : W32 → W32) : State :=
  s.vmap a op f up lat (fun c i => g (c.el f.va.toNat i))

/-! ## Compares -/

/-- A compare writes mask VD[2:0] under MSK and Z (R110, R160). -/
def State.vcmp (s : State) (a : Site) (f : VFmt) (p : W32 → W32 → Bool) : State :=
  s.onCtx a (fun c =>
    let r := f.vd.toNat % 8
    let act := c.mask f.msk.toNat
    let v := BitVec.ofNat 64 ((List.range 64).foldl (fun n i =>
      n + b2n (p (c.el f.va.toNat i) (c.el f.vb.toNat i)) * 2 ^ i) 0)
    c.setMk r ((v &&& act) ||| (if f.z = 1 then 0 else c.mask r &&& ~~~ act)))

/-! ## Integer shifts -/

/-- A vector shift: the manual gives no result for a count of 32 or more, which is a free value (log 32). -/
def State.vshift (s : State) (a : Site) (f : VFmt) (up : Option Upset) (g : W32 → Nat → W32) : State :=
  let c := s.ctx a
  let n := s.free
  let on := c.active f
  let s : State := { s with free := n + 64 }
  s.unchecked a up on (fun i =>
    let k := (c.el f.vb.toNat i).toNat
    if k < 32 then g (c.el f.va.toNat i) k else Config.freeWord (n + i))
    (fun new s => s.vput a f.vd.toNat on (f.z == 1) new)

/-! ## Reductions (R114) -/

/-- A reduction: element 0 of VD takes the tree's result whatever its mask bit and Z; an inactive source enters as `e`. -/
def State.reduce (s : State) (a : Site) (op : Nat) (f : VFmt) (up : Option Upset) (lat : Option Nat) (e : W32) (pre : W32 → W32)
    (g : W32 → W32 → W32) : State :=
  let c := s.ctx a
  let l := (List.range 64).map (fun i => if c.active f i then pre (c.el f.va.toNat i) else e)
  let v := (tree g 6 l).headD 0
  let on := fun i => decide (i = 0)
  let put := fun (new : Nat → W32) (s : State) => s.vput a f.vd.toNat on false new
  match lat with
  | some n => s.checked a op n 23 up on (fun _ => v) put
  | none => s.unchecked a up on (fun _ => v) put

/-! ## Draws (R112, R160) -/

/-- Take generator steps of a context (R57, R58). -/
def State.draw (s : State) (a : Site) (n : Nat) : List Nat × State :=
  let r := draws n (s.ctx a).gen
  (r.2, s.onCtx a (fun c => { c with gen := r.1 }))

/-- DRAW: 64 draws, zero-extended; inactive elements still consume theirs (R58, R110). -/
def State.vdraw (s : State) (a : Site) (f : VFmt) (up : Option Upset) : State :=
  let r := s.draw a 16
  let on := (s.ctx a).active f
  r.2.unchecked a up on (fun i => BitVec.ofNat 32 (r.1.getD i 0)) (fun new s => s.vput a f.vd.toNat on (f.z == 1) new)

/-! ## QPOP (R87, R92, R93, R111) -/

/-- The oldest queue entry of a context. -/
def Tile.oldest (x : Tile) (side : Bool) : Option QEnt := x.queue.find? (fun q => q.side == side)

/-- Write a popped entry into Vd and Vd+1 and its lane mask into Mm and Mm+1 (R111). -/
def Ctx.popInto (c : Ctx) (q : QEnt) (d m : Nat) (low : Nat → W32) : Ctx :=
  let on := fun (l : Nat) => q.mask.getLsbD l || q.zfill
  let c := c.setVec d on low
  let c := c.setVec (d + 1) (fun i => on (64 + i)) (fun i => if q.mask.getLsbD (64 + i) then q.vals.get (64 + i) 0 else 0)
  (c.setMk m (q.mask.extractLsb' 0 64)).setMk (m + 1) (q.mask.extractLsb' 64 64)

/-- A pop of an entry that its queue holds: one that is not yet poppable is waited for, in the primary with a slip for each beat (R92, R93); its
slot is free from the beat after the pop (R87). -/
def State.vpop (s : State) (a : Site) (f : VFmt) (up : Option Upset) (q : QEnt) : State :=
  let at_ := (s.tile a.tile).now a.side (s.ctx a).bc.toNat
  let s := s.slipOf a (q.ready - at_)
  let s := s.onTile a.tile (fun x => { x with
    queue := x.queue.erase q
    popped := ((a.side, max q.ready at_) :: x.popped).take 16 })
  let on := fun (l : Nat) => q.mask.getLsbD l || q.zfill
  s.unchecked a up on (fun l => if q.mask.getLsbD l then q.vals.get l 0 else 0)
    (fun new s => s.onCtx a (fun c => c.popInto q f.vd.toNat (f.vc.toNat % 8) new))

/-! ## The operations of the engine (R112, R160) -/

/-- What a vector operation but CVT and QPOP does at issue, by its opcode: FP32 arithmetic, compares, integers, reductions, movement, draws. -/
def State.vecOp (s : State) (a : Site) (op : Nat) (f : VFmt) (up : Option Upset) : State :=
  match op with
  | 0x00 => s.v2 a 0x00 f up (some 4) fAdd
  | 0x01 => s.v2 a 0x01 f up (some 4) fSub
  | 0x02 => s.v2 a 0x02 f up (some 4) fMul
  | 0x03 => s.vmap a 0x03 f up (some 4) (fun c i => fFma (c.el f.va.toNat i) (c.el f.vb.toNat i) (c.el f.vc.toNat i))
  | 0x04 => s.v2 a 0x04 f up none fMin
  | 0x05 => s.v2 a 0x05 f up none fMax
  | 0x06 => s.v1 a 0x06 f up none fAbs
  | 0x07 => s.v1 a 0x07 f up none fNeg
  | 0x08 => s.v2 a 0x08 f up (some 12) fDiv
  | 0x09 => s.v1 a 0x09 f up (some 12) fSqrt
  | 0x0A => s.v1 a 0x0A f up (some 12) fRcp
  | 0x0B => s.v1 a 0x0B f up (some 12) fRsq
  | 0x0C => s.vcmp a f (fCmp (fun c => c == 0))
  | 0x0D => s.vcmp a f (fCmp (fun c => decide (c < 0)))
  | 0x0E => s.vcmp a f (fCmp (fun c => decide (c ≤ 0)))
  | 0x0F => s.vcmp a f (fun x y => isNan32 x || isNan32 y)
  | 0x10 => s.v2 a 0x10 f up (some 2) (fun x y => x + y)
  | 0x11 => s.v2 a 0x11 f up (some 2) (fun x y => x - y)
  | 0x12 => s.v2 a 0x12 f up none (fun x y => x &&& y)
  | 0x13 => s.v2 a 0x13 f up none (fun x y => x ||| y)
  | 0x14 => s.v2 a 0x14 f up none (fun x y => x ^^^ y)
  | 0x15 => s.vshift a f up (fun x k => x <<< k)
  | 0x16 => s.vshift a f up (fun x k => x >>> k)
  | 0x17 => s.vshift a f up (fun x k => x.sshiftRight k)
  | 0x18 => s.v2 a 0x18 f up none iMin
  | 0x19 => s.v2 a 0x19 f up none iMax
  | 0x1A => s.reduce a 0x1A f up (some 8) 0 id fAdd
  | 0x1B => s.reduce a 0x1B f up none 0xFF800000 id fMax
  | 0x1C => s.reduce a 0x1C f up none 0 fAbs fMax
  | 0x1E => s.v1 a 0x1E f up none id
  | 0x1F => s.vmap a 0x1F f up none (fun c i =>
      if (c.mask (f.vc.toNat % 8)).getLsbD i then c.el f.va.toNat i else c.el f.vb.toNat i)
  | 0x20 => s.vmap a 0x20 f up none (fun c i => c.el f.va.toNat ((c.el f.vb.toNat i).toNat % 64))
  | 0x21 => s.vmap a 0x21 f up none (fun c _ => c.el f.va.toNat ((c.el f.vb.toNat 0).toNat % 64))
  | 0x22 => s.vdraw a f up
  | _ => s

end Sys2Proof.Machine
end

