-- ==== Sys2Proof/Machine/Convert.lean ====
section
/-! DEFINITION. CVT: conversion between any two formats under the conversion control field (R52 to R64, R115, R116, R161). -/

namespace Sys2Proof.Machine

/-- The conversion control field (R55): rounding of element `j` with its draw, OVF and SCL. -/
def ctlRnd (ctl : Nat) (draws : List Nat) (j : Nat) : Rnd :=
  match bitsOf ctl 0 2 with
  | 0 => .rne
  | 1 => .rtz
  | _ => .sr (draws.getD j 0)
def ctlIeee (ctl : Nat) : Bool := bitOf ctl 2
def ctlHistory (ctl : Nat) : Bool := bitOf ctl 3
/-- Whether CTL selects stochastic rounding. -/
def ctlSr (ctl : Nat) : Bool := bitsOf ctl 0 2 == 2

/-- The 64 source codes of a side of a conversion: the whole register, or part PART of it (R161). -/
def Ctx.codes (c : Ctx) (r part : Nat) (e : Elem) : List Nat :=
  if e.bits = 32 then (c.vec r).map (·.toNat)
  else
    let b := slice (c.vecBytes r) (part * 8 * e.bits) (8 * e.bits)
    (List.range 64).map (codeAt b e.bits)

/-- The 64 exact source values (R49, R60, R161). -/
def Ctx.srcVals (c : Ctx) (f : VFmt) (e : Elem) (codes : List Nat) : List FV :=
  let sc := c.vecBytes f.vb.toNat
  (List.range 64).map (fun i =>
    let v := e.dec (codes.getD i 0)
    if isMx f.vc then scaled (sc.getD (2 * f.part.toNat + i / 32) 0).toNat v else v)

/-- What a conversion makes: 64 codes with their classes, and the two scale bytes of an MX target. -/
structure Converted where
  out : List (Nat × Cls)
  scales : Option (Nat × Nat)

/-- The code of an element as a word. -/
def Converted.word (r : Converted) (i : Nat) : W32 := BitVec.ofNat 32 (r.out.getD i (0, .plain)).1
/-- The conversion with other codes. -/
def Converted.put (r : Converted) (new : Nat → W32) : Converted :=
  { r with out := (List.range 64).map (fun i => ((new i).toNat, (r.out.getD i (0, .plain)).2)) }

/-- Convert 64 values, those that `on` names being active (R52, R59 to R64). `code` is the supplied HISTORY code. -/
def convert (src dst : BitVec 5) (ctl : Nat) (code : Nat) (e : Elem) (draws : List Nat) (on : Nat → Bool) (codes : List Nat)
    (vals : List FV) : Converted :=
  if src = dst ∧ !isMx src then
    ⟨List.zipWith (fun c v => (c, if v.isZero then Cls.zero else .plain)) codes vals, none⟩
  else if isMx dst then
    let blk := fun (b : Nat) =>
      let vs := (List.range 32).map (fun j => if on (32 * b + j) then vals.getD (32 * b + j) .nan else .num false 0 0)
      let rs := (List.range 32).map (fun j => ctlRnd ctl draws (32 * b + j))
      encBlock e (if ctlHistory ctl then code else localScale e vs) (ctlIeee ctl) rs vs
    ⟨(blk 0).2 ++ (blk 1).2, some ((blk 0).1, (blk 1).1)⟩
  else
    ⟨(List.range 64).map (fun j => e.enc (ctlRnd ctl draws j) (ctlIeee ctl) (vals.getD j .nan)), none⟩

/-- Write a conversion's result: elements under MSK and Z into VD or its part PART, then the scale bytes into VS (R161). -/
def Ctx.cvtPut (c : Ctx) (f : VFmt) (e : Elem) (on : Nat → Bool) (r : Converted) : Ctx :=
  let d := f.vd.toNat
  let old := c.codes d f.part.toNat e
  let new := (List.range 64).map (fun i =>
    if on i then (r.out.getD i (0, .plain)).1 else if f.z = 1 then 0 else old.getD i 0)
  let c := if e.bits = 32 then c.setVec d (fun _ => true) (fun i => BitVec.ofNat 32 (new.getD i 0))
    else c.setBytes d (f.part.toNat * 8 * e.bits) (packCodes e.bits new)
  match r.scales with
  | none => c
  | some (a, b) => c.setBytes f.vb.toNat (2 * f.part.toNat) [BitVec.ofNat 8 a, BitVec.ofNat 8 b]

/-- The supplied scale code of a slot: the code of its binding; a side context has none, and the value is free (R259, R260). -/
def State.slotCode (s : State) (a : Site) (slot : Nat) : Nat × State :=
  if a.side then (s.freeB.1.toNat, s.freeB.2) else (((s.ctx a).census.get slot CSlot.reset).code.toNat, s)

/-- What CVT does at issue (R116, R161, R164, R259): an unbound slot of the primary context is the census-binding fault. -/
def State.cvt (s : State) (a : Site) (f : VFmt) (up : Option Upset) (src dst : Elem) (pc : BitVec 14) : State :=
  let c := s.ctx a
  let slot := f.slot.toNat
  if !a.side && (c.census.get slot CSlot.reset).bound.isNone then s.seqFault a.tile a.side 9 pc
  else
    let on := c.active f
    let ctl := f.vy.toNat
    let codes := c.codes f.va.toNat f.part.toNat src
    let vals := c.srcVals f src codes
    let dr := if ctlSr ctl then s.draw a 16 else ([], s)
    let sc := if ctlHistory ctl && isMx f.vx then dr.2.slotCode a slot else (0, dr.2)
    let r := convert f.vc f.vx ctl sc.1 dst dr.1 on codes vals
    let act := (List.range 64).filter on
    let s := sc.2.census a slot (act.map (fun i => (r.out.getD i (0, .plain)).2)) (amaxOf (act.map (fun i => vals.getD i .nan)))
    s.checked a 0x1D 3 dst.sig up on r.word (fun new s => s.onCtx a (fun c => c.cvtPut f dst on (r.put new)))

end Sys2Proof.Machine
end

