-- ==== Sys2Proof/Machine/Tricks.lean ====
section
/-! DEFINITION. Tricks: instances on the wafer's trees at the trump root (R203 to R206), the table's link trick engine (R366, R367,
R370), and the gate records that tree 0xFF combines (R320, R321). -/

namespace Sys2Proof.Machine

/-! ## Combining (R204, R320, R321) -/

/-- The combining function FN on 32-bit values (R204). -/
def trickFn (fn : BitVec 4) (a b : W32) : W32 :=
  match fn.toNat with
  | 0 => a ||| b
  | 1 => a &&& b
  | 2 => if a.ult b then b else a
  | _ => satAddW a b
where
  /-- A sum that saturates at 0xFFFF_FFFF. -/
  satAddW (a b : W32) : W32 := BitVec.ofNat 32 (min (a.toNat + b.toNat) 0xFFFFFFFF)

/-- The 60 bytes of a gate record that its CRC covers (R320). -/
def gateBytes (r : GateRec) : Bytes :=
  leBytes 8 r.hand.toNat ++ leBytes 4 r.flags.toNat ++ leBytes 2 r.contrib.toNat ++ leBytes 2 r.seats.toNat ++
    leBytes 4 r.reneges.toNat ++ leBytes 4 r.rounds.toNat ++ leBytes 8 r.lnorm.toNat ++ leBytes 8 r.rnorm.toNat ++
    leBytes 4 r.k.toNat ++ leBytes 4 r.lr.toNat ++ leBytes 8 r.step.toNat ++ [r.decision, r.cause] ++ zeros 2
/-- A gate record with its CRC recomputed (R320). -/
def gateCrc (r : GateRec) : GateRec := { r with crc := crc32c (gateBytes r) }
/-- The 64 bytes of a gate record. -/
def gateLine (r : GateRec) : Bytes := gateBytes r ++ leBytes 4 r.crc.toNat

/-- EQUAL: the common value, or the lower one with SPLIT (R321). -/
def equalOf {n : Nat} (a b : BitVec n) : BitVec n × Bool := if a = b then (a, false) else (if a.ult b then a else b, true)

/-- Two gate records combined, the first before the second (R320, R321). -/
def gateJoin (a b : GateRec) : GateRec :=
  let hand := equalOf a.hand b.hand
  let seats := equalOf a.seats b.seats
  let rounds := equalOf a.rounds b.rounds
  let lr := equalOf a.lr b.lr
  let step := equalOf a.step b.step
  let split := hand.2 || seats.2 || rounds.2 || lr.2 || step.2
  gateCrc { a with
    hand := hand.1
    flags := a.flags ||| b.flags ||| (if split then 0x20 else 0)
    contrib := a.contrib + b.contrib
    seats := seats.1
    reneges := BitVec.ofNat 32 (min (a.reneges.toNat + b.reneges.toNat) 0xFFFFFFFF)
    rounds := rounds.1
    lnorm := dAdd a.lnorm b.lnorm
    rnorm := dAdd a.rnorm b.rnorm
    lr := lr.1
    step := step.1 }

/-! ## The table's trick engine (R366) -/

/-- A tree's table trick on this seat; tree 0xF0 + n has index n. -/
def State.ttrick (s : State) (n : Nat) : TTrick := s.link.tricks.get n TTrick.reset
/-- Put a tree's table trick. -/
def State.setTTrick (s : State) (n : Nat) (t : TTrick) : State :=
  { s with link := { s.link with tricks := s.link.tricks.put n t TTrick.reset } }

/-- A wafer tree's open trick at the root. -/
def State.trickOf (s : State) (tree : Nat) : Trick := s.fab.tricks.get tree Trick.reset
/-- Put a wafer tree's open trick. -/
def State.setTrick (s : State) (tree : Nat) (t : Trick) : State :=
  { s with fab := { s.fab with tricks := s.fab.tricks.put tree t Trick.reset } }

/-- The payload of TRICK_UP and TRICK_RES: for tree 0xFF the gate record from packet byte 32 (R360). -/
def trickBody (tree : Nat) (fn : BitVec 4) (inst : Nat) (v : W32) (rec : Option GateRec) : Bytes :=
  let h := leBytes 1 tree ++ leBytes 1 fn.toNat ++ leBytes 2 inst ++ zeros 4
  match rec with
  | some r => h ++ zeros 8 ++ gateLine r
  | none => h ++ leBytes 4 v.toNat

/-- A table result at this seat: handed to the trump root, which holds it for the members, or for tree 0xFF to the supervisor
(R366); the tree's next instance may begin. -/
def State.tableResult (s : State) (tree : Nat) (v : W32) (rec : Option GateRec) : State :=
  let n := tree - 0xF0
  let s := s.setTTrick n { TTrick.reset with inst := (s.ttrick n).inst + 1 }
  match rec with
  | some r => { s with hand := { s.hand with result := some r } }
  | none => s.setTrick tree { s.trickOf tree with done := some v }

/-- The ports toward the children of a tree. -/
def State.childPorts (s : State) (n : Nat) : List Nat := onesOf (s.getI R.LK_TREE_CHILDREN n) 16
/-- Whether this seat is the root of a tree. -/
def State.treeRoot (s : State) (n : Nat) : Bool := s.getI R.LK_TREE_PARENT n == 0x1F

/-- Combine this seat's own value and then its children's in ascending port order, once all are there; the value goes to the
parent, or from the root it is flooded and delivered (R366, R367). -/
def State.tableTry (s : State) (tree : Nat) : State :=
  let n := tree - 0xF0
  let t := s.ttrick n
  let ks := s.childPorts n
  let out := fun (fn : BitVec 4) (v : W32) (rec : Option GateRec) =>
    let b := trickBody tree fn t.inst v rec
    if s.treeRoot n then ((s.flood s.rank 0x31 0 b none).1).tableResult tree v rec
    else
      let p := s.getI R.LK_TREE_PARENT n
      (s.setTTrick n { t with sent := true }).linkOut
        ⟨p, 0, 0, s.getI R.LK_PSTAT_PEER_RANK p, s.rank, 0x30, 0, BitVec.ofNat 32 (s.rd R.LK_TGEN_GEN), b⟩
  if t.sent || s.getI R.LK_TREE_EN n == 0 then s
  else
    match t.own, t.ownRec with
    | some (fn, v), _ =>
      if ks.all (fun p => (t.kids.find? p).isSome) then
        out fn (ks.foldl (fun a p => trickFn fn a (t.kids.get p 0)) v) none
      else s
    | none, some r =>
      let get := fun p => t.kidRecs.find? (fun e => e.1 == p)
      if ks.all (fun p => (get p).isSome) then
        out 0 0 (some (gateCrc (ks.foldl (fun a p => match get p with | some e => gateJoin a e.2 | none => a) r)))
      else s
    | none, none => s

/-- This seat's own value of a table tree: the wafer result (R366). A seat that stands alone has its own value back. -/
def State.tableOwn (s : State) (tree : Nat) (fn : BitVec 4) (v : W32) : State :=
  if s.alone then s.tableResult tree v none
  else
    let n := tree - 0xF0
    (s.setTTrick n { s.ttrick n with own := some (fn, v) }).tableTry tree

/-- This seat's gate record on tree 0xFF (R319, R366). -/
def State.tableGate (s : State) (r : GateRec) : State :=
  if s.alone then s.tableResult 0xFF 0 (some (gateCrc r))
  else (s.setTTrick 15 { s.ttrick 15 with ownRec := some r }).tableTry 0xFF

/-! ## Wafer tricks (R203 to R206) -/

/-- The members of a wafer tree: the tiles that run in this hand with the tree's TREES bit (R203), those of a field that left it
excepted (R188). -/
def State.members (s : State) (tree : Nat) : List Nat :=
  allTiles.filter (fun t => bitOf (s.tile t).router.trees.toNat tree && !s.fieldOff (tileField t))

/-- TRICK_FAULT: contributions of one instance with different functions (R204). -/
def State.trickFault (s : State) (tree : Nat) : State := (s.emit 0x030D [.w4 tree]).misdeal 5

/-- A contribution reaches the root (R204). One of a tile that is no member, or that has contributed to the open instance already,
and any to tree 0xFF, which carries none, is discarded. When every member has contributed, the wafer result of a table tree goes
to the link trick engine. What FN above 3 combines to no rule says. -/
def State.contribIn (s : State) (tree m : Nat) (fn : BitVec 4) (v : W32) : State :=
  let t := s.trickOf tree
  let ms := s.members tree
  if tree = 0xFF ∨ !ms.contains m ∨ t.got.contains m ∨ t.done.isSome then s
  else if t.fn.any (fun g => g != fn) then s.trickFault tree
  else
    let r := if 3 < fn.toNat then s.freeW else (if t.got.isEmpty then v else trickFn fn t.value v, s)
    let w := r.1
    let s := r.2
    let got := setIns t.got m
    let full := ms.all got.contains
    let s := s.setTrick tree { t with fn := some fn, got := got, value := w, done := if full && decide (tree < 0xF0) then some w else none }
    if full && decide (0xF0 ≤ tree) then s.tableOwn tree fn w else s

/-- Deliver a complete instance to every member that waits for it: GD takes the result, and the tree's next instance may begin
(R204, R162). A stalled or frozen wafer holds the result at its ports (R212). -/
def State.deliver (s : State) (tree : Nat) : State :=
  let t := s.trickOf tree
  match t.done with
  | none => s
  | some v =>
    if !s.moving then s
    else
      let take := fun (c : Ctx) =>
        (c.waits.filter (fun w => w.issued && w.tree == tree)).foldl (fun (c : Ctx) w => c.setGr w.gd v)
          { c with waits := c.waits.filter (fun w => !(w.issued && w.tree == tree)) }
      let s := s.each (s.members tree) (fun s m => s.onTile m (fun x => { x with prim := take x.prim, side := take x.side }))
      s.setTrick tree { Trick.reset with inst := t.inst + 1 }

/-- Deliver every result that was held while the wafer stood (R212). -/
def State.deliverAll (s : State) : State := s.each (s.fab.tricks.map (·.1)) State.deliver

/-- The first wait of a TRICK that has not issued: marked as issued, or taken out. -/
def issueWait (tree : Nat) (keep : Bool) : List TrickWait → List TrickWait
  | [] => []
  | w :: r => if w.tree == tree && !w.issued then (if keep then { w with issued := true } :: r else r) else w :: issueWait tree keep r

/-- A TRICK at issue: the member's value goes to the root, and its result is awaited (R162, R204). A tile that is no member of the tree
contributes nothing, and its GD keeps its value (log 81). -/
def State.trickOn (s : State) (a : Site) (f : TFmt) (v : W32) : State :=
  let tree := f.tree.toNat
  let m := (s.members tree).contains a.tile
  let s := s.onCtx a (fun c => { c with waits := issueWait tree m c.waits })
  if m then s.contribIn tree a.tile f.fn v else s

end Sys2Proof.Machine
end

