-- ==== Sys2Proof/Machine/MemMesh.lean ====
section
/-! DEFINITION. The memory, mesh and trump classes (R162): LD, ST, SEND, RECV, POTS with the one-bit compressor (R290 to R292), and
TRICK. -/

namespace Sys2Proof.Machine

/-- A line that the primary context writes: the highest of the hand is kept (R374). -/
def Tile.wrote (x : Tile) (side : Bool) (line n : Nat) : Tile :=
  if side || n == 0 then x else { x with maxLine := some (max (x.maxLine.getD 0) (line + n - 1)) }

/-- Write lines of a tile's SRAM. -/
def State.sramPut (s : State) (a : Site) (line : Nat) (b : Bytes) : State :=
  s.onTile a.tile (fun x => (x.sramWr (64 * line) b).wrote a.side line (b.length / 64))

/-! ## LD and ST -/

/-- What LD does at issue (R162, R163): the partition fault, an uncorrectable word, or the load. -/
def State.ld (s : State) (a : Site) (f : LFmt) (ecc : Ecc) (up : Option Upset) (q : QIns) : State :=
  let line := lineAddr q.ga f.off.toNat
  if !s.linesOk a.side line 4 then s.seqFault a.tile a.side 4 q.pc
  else match s.readBad a.tile (64 * line) 256 ecc with
    | some o => s.readUe a.tile a.side o
    | none =>
      let b := (s.tile a.tile).sram.bytes (64 * line) 256
      (s.eccCe a.tile ecc).unchecked a up (fun _ => true) (fun i => BitVec.ofNat 32 (field b (4 * i) 4))
        (fun new s => s.onCtx a (fun c => c.setVec f.v.toNat (fun _ => true) new))

/-- What ST does at issue (R162, R163). -/
def State.st (s : State) (a : Site) (f : LFmt) (q : QIns) : State :=
  let line := lineAddr q.ga f.off.toNat
  if !s.linesOk a.side line 4 then s.seqFault a.tile a.side 4 q.pc
  else s.sramPut a line ((s.ctx a).vecBytes f.v.toNat)

/-! ## SEND and RECV -/

/-- What SEND does at issue (R162, R163): the partition fault, an uncorrectable word, or its flits begin to leave, one per beat. -/
def State.send (s : State) (a : Site) (f : XFmt) (ecc : Ecc) (q : QIns) : State :=
  let line := lineAddr q.ga f.off.toNat
  let n := f.nfm1.toNat + 1
  if !s.linesOk a.side line n then s.seqFault a.tile a.side 4 q.pc
  else if ecc = .double then s.readUe a.tile a.side (64 * line)
  else (s.eccCe a.tile ecc).onCtx a (fun c => { c with send := some ⟨q.pc, q.beat, line, n, ecc⟩ })

/-- The next flit of a SEND (R162, R171): its line enters the local port. None: the port has no room, or packets wait before it. -/
def State.sendFlit (s : State) (a : Site) (h : MeshHeld) : Option State :=
  let x := s.tile a.tile
  if !(s.ctx a).out.isEmpty || decide (locDepth ≤ (x.router.lane (laneIn 4 a.side)).length) then none
  else match x.ueIn (64 * h.line) 64 with
    | some o => some (s.readUe a.tile a.side o)
    | none =>
      some ((s.onTile a.tile (fun y => { y with
          router := y.router.push (laneIn 4 a.side) [flitOf (y.sram.bytes (64 * h.line) 64)] })).onCtx a (fun c => { c with
        send := if h.left ≤ 1 then none else some { h with beat := h.beat + 1, line := h.line + 1, left := h.left - 1 } }))

/-- What RECV does at issue (R162, R163): the partition fault, or it takes flits from now on. -/
def State.recv (s : State) (a : Site) (f : XFmt) (q : QIns) : State :=
  let line := lineAddr q.ga f.off.toNat
  let n := f.nfm1.toNat + 1
  if !s.linesOk a.side line n then s.seqFault a.tile a.side 4 q.pc
  else s.onCtx a (fun c => { c with recv := some ⟨q.pc, q.beat, line, n, .ok⟩ })

/-- The next flit of a RECV (R162): it is written to its line; a poisoned one is a fabric fault (R172). None: it has not arrived. -/
def State.recvFlit (s : State) (a : Site) (h : MeshHeld) : Option State :=
  match (s.tile a.tile).router.lane (laneOut 0 a.side) with
  | [] => none
  | fl :: rest =>
    let s := (s.onTile a.tile (fun x => { x with router := x.router.setLane (laneOut 0 a.side) rest })).onCtx a (fun c => { c with
      recv := if h.left ≤ 1 then none else some { h with beat := h.beat + 1, line := h.line + 1, left := h.left - 1 } })
    some (if fl.poison then (s.emit 0x0314 [.w4 a.tile]).tileStop a.tile else s.sramPut a h.line (flitBytes fl))

/-- Move packets that wait into the local port while it has room (R171). -/
def State.pumpOut (s : State) (a : Site) : State :=
  let x := s.tile a.tile
  let n := locDepth - (x.router.lane (laneIn 4 a.side)).length
  let l := (x.ctx a.side).out
  if n = 0 ∨ l.isEmpty then s
  else (s.onTile a.tile (fun y => { y with router := y.router.push (laneIn 4 a.side) (l.take n) })).onCtx a (fun c =>
    { c with out := l.drop n })

/-! ## POTS (R261, R288 to R293) -/

/-- The class of a gradient entry in the census (R261). -/
def gradCls (w : W32) : Cls :=
  let m := w.toNat % 2 ^ 31
  if !(f32 w).finite then .nonfin else if m = 0 then .zero else if m < 2 ^ 23 then .uflow else .plain

/-- What the compressor makes of one block (R292): its magnitude, its signs, and the new error memory. -/
structure Compressed where
  m : BitVec 16
  signs : List Bool
  err : List (BitVec 16)
  deriving DecidableEq, Repr

/-- The compressor on one block of 256 entries (R292). -/
def compress (g : List W32) (e : List (BitVec 16)) : Compressed :=
  let v := List.zipWith (fun a b => (f32 a).add (bf16.dec b.toNat)) g e
  let zero : FV := .num false 0 0
  let m : BitVec 16 :=
    if v.any FV.isNan then 0x7FC0
    else if v.any (fun x => !x.finite) then 0x7F80
    else BitVec.ofNat 16 (bf16.enc .rne false ((sumFV (v.map FV.abs)).mul (.num false 1 (-8)))).1
  let neg := v.map (fun x => !x.isNan && decide (x.cmp zero < 0))
  let bad := m == 0x7FC0 || m == 0x7F80
  let mv := bf16.dec m.toNat
  { m := m, signs := neg,
    err := List.zipWith (fun x n => if bad then 0 else BitVec.ofNat 16 (bf16.enc .rne false (x.sub (if n then mv.neg else mv))).1)
      v neg }

/-- The 32 sign bytes of a block (R290). -/
def signBytes (l : List Bool) : Bytes :=
  (List.range 32).map (fun j => BitVec.ofNat 8 ((List.range 8).foldl (fun a i => a + b2n (l.getD (8 * j + i) false) * 2 ^ i) 0))

/-- The words of a byte string. -/
def wordsOf (b : Bytes) : List W32 := (List.range (b.length / 4)).map (fun i => BitVec.ofNat 32 (field b (4 * i) 4))
/-- The half words of a byte string. -/
def halvesOf (b : Bytes) : List (BitVec 16) := (List.range (b.length / 2)).map (fun i => BitVec.ofNat 16 (field b (2 * i) 2))

/-- The tile's local squared norm after more entries, in their order (R291). -/
def normOver (n : W64) (g : List W32) : W64 := g.foldl (fun a w => dAdd a (toD64 ((f32 w).mul (f32 w)))) n

/-- Count the entries of a one-bit POTS into the primary slot GL mod 16, and raise NONFIN for a non-finite one (R261, R272). -/
def State.potsCensus (s : State) (a : Site) (slot : Nat) (g : List W32) : State :=
  let ks := g.map gradCls
  let r := s.amaxWord (amaxOf (g.map f32))
  let t := r.2.onTile a.tile (fun x => { x with prim := { x.prim with
    census := x.prim.census.put slot ((x.prim.census.get slot CSlot.reset).count ks r.1) CSlot.reset } })
  if ks.contains .nonfin then t.tileNonfin a.tile else t

/-- Send the lines of a POTS through a list entry (R288 to R292). -/
def State.potsSend (s : State) (a : Site) (f : XFmt) (e : ListEnt) (line : Nat) : State :=
  let n := f.nfm1.toNat + 1
  let x := s.tile a.tile
  let g := wordsOf (x.sram.bytes (64 * line) (64 * n))
  let s := s.setTile a.tile { x with lnorm := normOver x.lnorm g }
  if f.mode = 0 then s.contribute a.tile e 1 (16 * n) false 0 (x.sram.bytes (64 * line) (64 * n))
  else
    let B := n / 16
    let base := line + 16 * B
    let cs := (List.range B).map (fun b =>
      compress ((g.drop (256 * b)).take 256) (halvesOf (x.sram.bytes (64 * (base + 8 * b)) 512)))
    let s := s.potsCensus a (f.gl.toNat % 16) g
    let s := s.sramPut a base (cs.flatMap (fun c => c.err.flatMap (fun h => leBytes 2 h.toNat)))
    let payload := cs.flatMap (fun c => signBytes c.signs) ++ cs.flatMap (fun c => leBytes 2 c.m.toNat)
    s.contribute a.tile e 2 (16 * n) (cs.any (fun c => c.m == 0x7FC0 || c.m == 0x7F80)) 0 payload

/-- Lines that a POTS touches: its own, and for one-bit the error memory after them (R290). -/
def potsLines (f : XFmt) : Nat := if f.mode = 0 then f.nfm1.toNat + 1 else (f.nfm1.toNat + 1) / 16 * 24

/-- The list entry that a POTS sends through: of its GL, of the kind that MODE names (R287), whole blocks for one-bit; none in a side
context, whose image has no plan (R137). -/
def State.potsEnt (s : State) (a : Site) (f : XFmt) : Option ListEnt :=
  if a.side then none
  else (s.listEnt a.tile f.gl.toNat).filter (fun e =>
    e.kind == f.mode.toNat && (f.mode == 0 || (f.nfm1.toNat + 1) % 16 == 0))

/-- What POTS does at issue (R162, R163, R290). One that no list entry of its kind names reads its lines and sends nothing (log 8). -/
def State.pots (s : State) (a : Site) (f : XFmt) (ecc : Ecc) (q : QIns) : State :=
  let line := lineAddr q.ga f.off.toNat
  if !s.linesOk a.side line (potsLines f) then s.seqFault a.tile a.side 4 q.pc
  else match s.readBad a.tile (64 * line) (64 * potsLines f) ecc with
    | some o => s.readUe a.tile a.side o
    | none => match s.potsEnt a f with
      | none => s.eccCe a.tile ecc
      | some e => (s.eccCe a.tile ecc).potsSend a f e line

/-! ## TRICK -/

/-- Whether a tile still waits for the result of a TRICK that it issued to a tree: it is one member, whichever context contributes
(R203, R204). -/
def Tile.onTree (x : Tile) (tree : Nat) : Bool :=
  x.prim.waits.any (fun w => w.issued && w.tree == tree) || x.side.waits.any (fun w => w.issued && w.tree == tree)

end Sys2Proof.Machine
end

