-- ==== Sys2Proof/Machine/Issue.lean ====
section
/-! DEFINITION. Issue (R146 to R149): what the units of a tile take from their queues, beat by beat, and the instructions of the timed classes
with the markers. A context issues in the order of its target beats, and no beat before decode has passed it, so that an instruction
decoded later never comes too late. -/

namespace Sys2Proof.Machine

/-! ## Markers (R152, R154, R259) -/

/-- WOPEN or WCLOSE at its beat; a side context has no window (R152). -/
def State.window (s : State) (a : Site) (on : Bool) : State := if a.side then s else s.onCtx a (fun c => { c with window := on })

/-- PHASE at its beat: the census slots are flushed and bound anew; a phase that the ROUTE section lacks is the schedule fault (R164, R259). -/
def State.rebind (s : State) (t : Nat) (pc : BitVec 14) (p : Nat) : State :=
  if max 1 (s.tile t).router.phases.length ≤ p then s.seqFault t false 8 pc else (s.flush t).bind t p

/-- END at its beat (R154, R156, R259, R327): the primary's schedule ends, its bound census slots are flushed, and after the last END of a play
schedule the norms are made (R314); at any other beat it is the schedule fault. In a side context it ends the tile's part of the side
job, and the last one completes the job. -/
def State.endNow (s : State) (a : Site) (q : QIns) : State :=
  let t := s.onCtx a (fun c => { c.halt with running := false, ended := true, out := c.out })
  if a.side then
    if t.tiles.any (fun e => e.2.side.running) then t
    else match t.hand.sideRun with
      | none => t
      | some d => ({ t with hand := { t.hand with sideRun := none } } : State).complete d.q d.cid 0x00 0 t.hand.hand.toNat
  else if q.beat ≠ s.endBeat then s.seqFault a.tile false 8 q.pc
  else (t.flush a.tile).ended

/-! ## Turns -/

/-- What a context may do next: a step of the MRUN under way, a flit of a SEND or a RECV under way, the oldest decoded instruction, or a
PHASE. -/
inductive Turn where
  | run (h : RunHeld)
  | send (h : MeshHeld)
  | recv (h : MeshHeld)
  | head (q : QIns)
  | bind (pc : BitVec 14) (p : Nat)
  deriving DecidableEq, Repr

/-- Whether the unit of an instruction still runs an earlier one. -/
def Ctx.busy (c : Ctx) : TOp → Bool
  | .mrun .. => c.run.isSome
  | .mfill .. => c.fill.isSome
  | .send .. => c.send.isSome
  | .pots .. => c.send.isSome || !c.out.isEmpty
  | .recv .. => c.recv.isSome
  | _ => false

/-- The turns of a context, each with its beat; PHASE acts after every issue of its beat, since a conversion of that beat counts by the
binding before it (R259, R279), and so has the odd key. -/
def Ctx.turns (c : Ctx) : List (Nat × Turn) :=
  (match c.run with | some h => [(2 * h.beat, .run h)] | none => []) ++
  (match c.send with | some h => [(2 * h.beat, .send h)] | none => []) ++
  (match c.recv with | some h => [(2 * h.beat, .recv h)] | none => []) ++
  (match c.uq with | q :: _ => if c.busy q.op then [] else [(2 * q.beat, .head q)] | [] => []) ++
  (match c.binds with | (pc, b, p) :: _ => [(2 * b + 1, .bind pc p)] | [] => [])

/-- The least key of a list of turns. -/
def leastKey : List (Nat × Turn) → Nat
  | [] => 0
  | [e] => e.1
  | e :: r => min e.1 (leastKey r)

/-- The turns of the earliest beat: whatever holds one of them holds every later issue (R86, R87). -/
def Ctx.due (c : Ctx) : List (Nat × Turn) := c.turns.filter (fun e => e.1 == leastKey c.turns)

/-- A beat of a context counted from the START of the hand (R211). -/
def State.fromStart (s : State) (a : Site) (beat : Nat) : Nat := if a.side then beat - (s.tile a.tile).side0 else beat

/-- Whether a context may issue at all: its schedule has started, its field has its clocks, no stall holds the wafer, no fill waits for
its buffer (R74), and the correction path has room (R306). -/
def State.issues (s : State) (a : Site) : Bool :=
  s.fab.started && (s.ctx a).running && s.fieldOn (tileField a.tile) && !s.on R.FB_STATUS_STALLED &&
    !(s.ctx a).fill.any (fun h => !h.go) && decide ((s.tile a.tile).corr.length ≤ 1)

/-- Whether decode has reached the beat of a turn: an instruction yet to be decoded has no earlier beat; for PHASE none of the same
beat may come any more. No turn at or beyond F_eff issues (R211). -/
def State.reached (s : State) (a : Site) (key : Nat) : Bool :=
  let c := s.ctx a
  (if key % 2 = 0 then decide (key / 2 ≤ c.tc.toNat) else c.closing || decide (key / 2 < c.tc.toNat)) &&
    s.before (s.fromStart a (key / 2))

/-- What an instruction does at issue. None: it is held. A pop waits for an entry of its context (R93), a TRICK for the result of the last one
to its tree (R204), a side MOWN for a window of the primary (R152). -/
def State.issue (s : State) (a : Site) (q : QIns) : Option State :=
  match q.op with
  | .mrun f ecc bufEcc ups => some (s.mrun a f ecc bufEcc ups q)
  | .mfill f ecc => some (s.mfill a f ecc q)
  | .mown f => if a.side && !(s.tile a.tile).prim.window then none else some (s.mown a f q.pc)
  | .vec op f up =>
    if op = 0x23 then ((s.tile a.tile).oldest a.side).map (fun e => s.vpop a f up e)
    else if op = 0x1D then
      match elemOf f.vc, elemOf f.vx with
      | some x, some y => some (s.cvt a f up x y q.pc)
      | _, _ => some s
    else some (s.vecOp a op f up)
  | .ld f ecc up => some (s.ld a f ecc up q)
  | .st f => some (s.st a f q)
  | .send f ecc => some (s.send a f ecc q)
  | .recv f => some (s.recv a f q)
  | .pots f ecc => some (s.pots a f ecc q)
  | .trick f => if (s.tile a.tile).onTree f.tree.toNat then none else some (s.trickOn a f q.ga)
  | .wopen => some (s.window a true)
  | .wclose => some (s.window a false)
  | .endOp => some (s.endNow a q)

/-- Move a context's beat counter to a beat (R146). -/
def State.atBeat (s : State) (a : Site) (beat : Nat) : State := s.onCtx a (fun c => { c with bc := BitVec.ofNat 64 beat })

/-- Take a turn; none when it is held. -/
def State.turn (s : State) (a : Site) (e : Nat × Turn) : Option State :=
  let s := s.atBeat a (e.1 / 2)
  match e.2 with
  | .run h => s.runStep a h
  | .send h => s.sendFlit a h
  | .recv h => s.recvFlit a h
  | .head q => ((s.onCtx a (fun c => { c with uq := c.uq.drop 1 })).onTile a.tile (fun x =>
      { x with sideBeats := x.sideBeats + b2n (a.side && q.op.unit != 0) })).issue a q
  | .bind pc p =>
    let s := s.onCtx a (fun c => { c with binds := c.binds.drop 1 })
    some (if a.side then s else s.rebind a.tile pc p)

/-- The next thing that happens in a context: a fill goes on, or a turn of the earliest beat is taken; none while nothing can. -/
def State.nextTurn (s : State) (a : Site) : Option State :=
  if !s.issues a then none
  else match s.fillOn a with
    | some t => some t
    | none => ((s.ctx a).due.filter (fun e => s.reached a e.1)).findSome? (fun e => s.turn a e)

/-- Take turns until none can be taken, at most `n`. -/
def State.turnsOf (s : State) (a : Site) : Nat → State
  | 0 => s
  | n + 1 => match s.nextTurn a with
    | none => s
    | some t => t.turnsOf a n

/-- The most turns that one command can set off in a context: its queues hold 16 instructions for each of 5 units, of 1,024 beats at most. -/
def turnLimit : Nat := 100000

/-- A context of a tile, as a site that nothing meets. -/
def siteOf (t : Nat) (side : Bool) : Site := ⟨t, side, .ok, 0⟩

/-! ## Freezing (R211) -/

/-- Whether a context stands at F_eff: it has decoded up to it, or its END, and has issued everything before it. -/
def State.ctxThere (s : State) (t f : Nat) : Bool :=
  let c := (s.tile t).prim
  !c.running || ((c.closing || decide (f ≤ c.tc.toNat)) &&
    c.turns.all (fun e => decide (f ≤ e.1 / 2)) && !c.fill.any (·.go))

/-- Whether a router stands at F_eff: one with a schedule has run its entries before it (R177, R211). -/
def State.routerThere (s : State) (t f : Nat) : Bool :=
  let r := (s.tile t).router
  r.mode != .scheduled || decide (min f s.endBeat ≤ r.rb)

/-- F_eff. -/
def State.fEff (s : State) : Nat := s.rd64 R.FB_FREEZE_BEAT_LO_FE_LO R.FB_FREEZE_BEAT_HI_FE_HI

/-- Once every unit has run on to F_eff the wafer is frozen there, with FREEZE_DONE (R211, R214). -/
def State.freezeCheck (s : State) : State :=
  let f := s.fEff
  if !(s.fab.freezing && s.tiles.all (fun e => s.ctxThere e.1 f && s.routerThere e.1 f)) then s
  else
    let at_ := fun (c : Ctx) => if c.running then { c with bc := BitVec.ofNat 64 f } else c
    let s := { s with
      fab := { s.fab with freezing := false }
      tiles := s.tiles.mapVals Tile.reset (fun x => { x with prim := at_ x.prim }) }
    (s.wr R.FB_STATUS_FROZEN 1).emit 0x030F [.w8 f]

/-- Everything that can happen now in a tile: packets enter the local port, the primary context issues, then the side context in what is
left (R149). -/
def State.advance (s : State) (t : Nat) : State :=
  let p := siteOf t false
  let q := siteOf t true
  (((((s.pumpOut p).pumpOut q).turnsOf p turnLimit).turnsOf q turnLimit |>.pumpOut p).pumpOut q).freezeCheck

/-- Everything that can happen now in every tile. -/
def State.advanceAll (s : State) : State := s.each (s.tiles.map (·.1)) State.advance

/-- A beat in which the issue of a tile's primary context is held counts one slip; the beats that a meaning can compute are counted at its issue, and
the rest, which wait for flits, results or corrections, at each beat of the tile's router (R86, R87, R93, R148, R204, R306; log 207). -/
def State.heldSlip (s : State) (t : Nat) : State :=
  let a := siteOf t false
  let c := s.ctx a
  let stuck := !(c.due.filter (fun e => s.reached a e.1)).isEmpty || decide (1 < (s.tile t).corr.length)
  if s.fab.started && c.running && s.moving && stuck && (s.nextTurn a).isNone then s.slip t 1 else s

/-! ## The markers as instructions (R152, R154, R156, R180) -/

/-- PHASE: the router's switch to the phase at router beat TC is noted, and at that beat the primary's census slots are flushed and bound
anew (R180, R259). A phase that the ROUTE section lacks switches nothing and raises the schedule fault (R164). -/
def execPhase (at_ : Site) (f : SFmt) (s : State) : Host.Outcome State Fault Refusal :=
  .next ((s.instr at_ (wordOf 7 7 (sLow f)) [] noFault (fun pc s =>
    let p := f.imm.toNat
    let b := (s.ctx at_).tc.toNat
    if max 1 (s.tile at_.tile).router.phases.length ≤ p ∧ at_.side then s.seqFault at_.tile true 8 pc
    else
      let s := s.onTile at_.tile (fun x =>
        if max 1 x.router.phases.length ≤ p then x
        else { x with router := { x.router with switches := x.router.switches ++ [(s.fromStart at_ b, p)] } })
      s.onCtx at_ (fun c => { c with binds := c.binds ++ [(pc, b, p)] }))).advance at_.tile)

/-- WOPEN: the primary schedule enters a matrix-free window at beat TC, and a side MOWN that waits for it moves its buffer (R152). -/
def execWopen (at_ : Site) (f : SFmt) (s : State) : Host.Outcome State Fault Refusal :=
  .next ((s.marker at_ 8 f .wopen).advance at_.tile)

/-- WCLOSE (R152). -/
def execWclose (at_ : Site) (f : SFmt) (s : State) : Host.Outcome State Fault Refusal :=
  .next ((s.marker at_ 9 f .wclose).advance at_.tile)

/-- END at beat TC; nothing of the context is decoded after it (R148, R154, R156). -/
def execEndOp (at_ : Site) (f : SFmt) (s : State) : Host.Outcome State Fault Refusal :=
  .next ((s.instr at_ (wordOf 7 0xB (sLow f)) [] noFault (fun pc s =>
    s.onCtx at_ (fun c => { c.enqueue .endOp pc c.tc 0 0 with closing := true }))).advance at_.tile)

/-- WAITB: TC = TC + IMM (R147); what was held for a beat that decode had not reached may now issue. -/
def execWaitb (at_ : Site) (f : SFmt) (s : State) : Host.Outcome State Fault Refusal :=
  .next ((s.branch at_ 6 f [] (fun c => { c with tc := c.tc + f.imm.setWidth 64 })).advance at_.tile)

/-! ## The matrix class (R157) -/

/-- MRUN (R157). -/
def execMrun (at_ : Site) (f : MRunF) (ecc bufEcc : Ecc) (ups : List (Nat × Upset)) (s : State) :
    Host.Outcome State Fault Refusal :=
  .next ((s.timed at_ (wordOf 1 1 (mrunLow f)) f.dt (.mrun f ecc bufEcc ups) f.ga f.gs [f.ga, f.gs]).advance at_.tile)

/-- MFILL (R157). -/
def execMfill (at_ : Site) (f : MFillF) (ecc : Ecc) (s : State) : Host.Outcome State Fault Refusal :=
  .next ((s.timed at_ (wordOf 1 2 (mfillLow f)) f.dt (.mfill f ecc) f.ga 0 [f.ga]).advance at_.tile)

/-- MOWN (R152, R157). -/
def execMown (at_ : Site) (f : MOwnF) (s : State) : Host.Outcome State Fault Refusal :=
  .next ((s.timed at_ (wordOf 1 3 (mownLow f)) f.dt (.mown f) 0 0 []).advance at_.tile)

/-- QUEUE_SLOT_FREED: a step held for a queue entry reserves one that a pop freed, and the rest of its run issues; the beats
between its target and the beat after the pop are slips (R87, R130). -/
def execQueueSlotFreed (tile : Nat) (side : Bool) (s : State) : Host.Outcome State Fault Refusal :=
  .next ((s.turnsOf (siteOf tile side) turnLimit).advance tile)

/-- FILL_BUFFER_RELEASE: the buffer that a fill waits for is free, and the fill goes on (R74). -/
def execFillBufferRelease (tile : Nat) (buf : BitVec 1) (s : State) : Host.Outcome State Fault Refusal :=
  let go := fun (c : Ctx) => { c with fill := c.fill.map (fun h => if h.f.buf = buf then { h with go := true } else h) }
  .next (if s.moving then (s.onTile tile (fun x => { x with prim := go x.prim, side := go x.side })).advance tile else s)

/-! ## The vector class (R160, R161) -/

/-- A vector instruction of an opcode. -/
def State.vector (s : State) (a : Site) (op : Nat) (f : VFmt) (up : Option Upset) : State :=
  (s.timed a (wordOf 2 op (vLow f)) f.dt (.vec op f up) 0 0 []).advance a.tile

def execVAdd (at_ : Site) (f : VFmt) (up : Option Upset) (s : State) : Host.Outcome State Fault Refusal :=
  .next (s.vector at_ 0x00 f up)
def execVSub (at_ : Site) (f : VFmt) (up : Option Upset) (s : State) : Host.Outcome State Fault Refusal :=
  .next (s.vector at_ 0x01 f up)
def execVMul (at_ : Site) (f : VFmt) (up : Option Upset) (s : State) : Host.Outcome State Fault Refusal :=
  .next (s.vector at_ 0x02 f up)
/-- FMA: VD = VA × VB + VC, rounded once (R113). -/
def execVFma (at_ : Site) (f : VFmt) (up : Option Upset) (s : State) : Host.Outcome State Fault Refusal :=
  .next (s.vector at_ 0x03 f up)
def execVMin (at_ : Site) (f : VFmt) (up : Option Upset) (s : State) : Host.Outcome State Fault Refusal :=
  .next (s.vector at_ 0x04 f up)
def execVMax (at_ : Site) (f : VFmt) (up : Option Upset) (s : State) : Host.Outcome State Fault Refusal :=
  .next (s.vector at_ 0x05 f up)
def execVAbs (at_ : Site) (f : VFmt) (up : Option Upset) (s : State) : Host.Outcome State Fault Refusal :=
  .next (s.vector at_ 0x06 f up)
def execVNeg (at_ : Site) (f : VFmt) (up : Option Upset) (s : State) : Host.Outcome State Fault Refusal :=
  .next (s.vector at_ 0x07 f up)
def execVDiv (at_ : Site) (f : VFmt) (up : Option Upset) (s : State) : Host.Outcome State Fault Refusal :=
  .next (s.vector at_ 0x08 f up)
def execVSqrt (at_ : Site) (f : VFmt) (up : Option Upset) (s : State) : Host.Outcome State Fault Refusal :=
  .next (s.vector at_ 0x09 f up)
def execVRcp (at_ : Site) (f : VFmt) (up : Option Upset) (s : State) : Host.Outcome State Fault Refusal :=
  .next (s.vector at_ 0x0A f up)
def execVRsq (at_ : Site) (f : VFmt) (up : Option Upset) (s : State) : Host.Outcome State Fault Refusal :=
  .next (s.vector at_ 0x0B f up)
/-- EQ into a mask (R113, R160). -/
def execVEq (at_ : Site) (f : VFmt) (s : State) : Host.Outcome State Fault Refusal := .next (s.vector at_ 0x0C f none)
/-- LT into a mask (R113, R160). -/
def execVLt (at_ : Site) (f : VFmt) (s : State) : Host.Outcome State Fault Refusal := .next (s.vector at_ 0x0D f none)
/-- LE into a mask (R113, R160). -/
def execVLe (at_ : Site) (f : VFmt) (s : State) : Host.Outcome State Fault Refusal := .next (s.vector at_ 0x0E f none)
/-- UNORD into a mask (R113, R160). -/
def execVUnord (at_ : Site) (f : VFmt) (s : State) : Host.Outcome State Fault Refusal := .next (s.vector at_ 0x0F f none)
def execIadd (at_ : Site) (f : VFmt) (up : Option Upset) (s : State) : Host.Outcome State Fault Refusal :=
  .next (s.vector at_ 0x10 f up)
def execIsub (at_ : Site) (f : VFmt) (up : Option Upset) (s : State) : Host.Outcome State Fault Refusal :=
  .next (s.vector at_ 0x11 f up)
def execIand (at_ : Site) (f : VFmt) (up : Option Upset) (s : State) : Host.Outcome State Fault Refusal :=
  .next (s.vector at_ 0x12 f up)
def execIor (at_ : Site) (f : VFmt) (up : Option Upset) (s : State) : Host.Outcome State Fault Refusal :=
  .next (s.vector at_ 0x13 f up)
def execIxor (at_ : Site) (f : VFmt) (up : Option Upset) (s : State) : Host.Outcome State Fault Refusal :=
  .next (s.vector at_ 0x14 f up)
def execIshl (at_ : Site) (f : VFmt) (up : Option Upset) (s : State) : Host.Outcome State Fault Refusal :=
  .next (s.vector at_ 0x15 f up)
def execIshr (at_ : Site) (f : VFmt) (up : Option Upset) (s : State) : Host.Outcome State Fault Refusal :=
  .next (s.vector at_ 0x16 f up)
def execIsar (at_ : Site) (f : VFmt) (up : Option Upset) (s : State) : Host.Outcome State Fault Refusal :=
  .next (s.vector at_ 0x17 f up)
def execImin (at_ : Site) (f : VFmt) (up : Option Upset) (s : State) : Host.Outcome State Fault Refusal :=
  .next (s.vector at_ 0x18 f up)
def execImax (at_ : Site) (f : VFmt) (up : Option Upset) (s : State) : Host.Outcome State Fault Refusal :=
  .next (s.vector at_ 0x19 f up)
/-- RSUM (R114). -/
def execRsum (at_ : Site) (f : VFmt) (up : Option Upset) (s : State) : Host.Outcome State Fault Refusal :=
  .next (s.vector at_ 0x1A f up)
/-- RMAX (R114). -/
def execRmax (at_ : Site) (f : VFmt) (up : Option Upset) (s : State) : Host.Outcome State Fault Refusal :=
  .next (s.vector at_ 0x1B f up)
/-- RAMAX (R114). -/
def execRamax (at_ : Site) (f : VFmt) (up : Option Upset) (s : State) : Host.Outcome State Fault Refusal :=
  .next (s.vector at_ 0x1C f up)
/-- CVT (R161). -/
def execCvt (at_ : Site) (f : VFmt) (up : Option Upset) (s : State) : Host.Outcome State Fault Refusal :=
  .next (s.vector at_ 0x1D f up)
def execMov (at_ : Site) (f : VFmt) (up : Option Upset) (s : State) : Host.Outcome State Fault Refusal :=
  .next (s.vector at_ 0x1E f up)
/-- SEL: VA where the mask VC[2:0] is 1, else VB. -/
def execSel (at_ : Site) (f : VFmt) (up : Option Upset) (s : State) : Host.Outcome State Fault Refusal :=
  .next (s.vector at_ 0x1F f up)
/-- PERM: VD[i] = VA[VB[i] mod 64]. -/
def execPerm (at_ : Site) (f : VFmt) (up : Option Upset) (s : State) : Host.Outcome State Fault Refusal :=
  .next (s.vector at_ 0x20 f up)
/-- BCAST: every element of VD = VA[VB[0] mod 64]. -/
def execBcast (at_ : Site) (f : VFmt) (up : Option Upset) (s : State) : Host.Outcome State Fault Refusal :=
  .next (s.vector at_ 0x21 f up)
/-- DRAW: 64 draws, zero-extended (R58, R112). -/
def execDraw (at_ : Site) (f : VFmt) (up : Option Upset) (s : State) : Host.Outcome State Fault Refusal :=
  .next (s.vector at_ 0x22 f up)
/-- QPOP (R92, R93, R111). -/
def execQpop (at_ : Site) (f : VFmt) (up : Option Upset) (s : State) : Host.Outcome State Fault Refusal :=
  .next (s.vector at_ 0x23 f up)

/-! ## The memory, mesh and trump classes (R162) -/

/-- LD (R162). -/
def execLd (at_ : Site) (f : LFmt) (ecc : Ecc) (up : Option Upset) (s : State) : Host.Outcome State Fault Refusal :=
  .next ((s.timed at_ (wordOf 3 0 (lLow f)) f.dt (.ld f ecc up) f.ga 0 [f.ga]).advance at_.tile)

/-- ST (R162). -/
def execSt (at_ : Site) (f : LFmt) (s : State) : Host.Outcome State Fault Refusal :=
  .next ((s.timed at_ (wordOf 3 1 (lLow f)) f.dt (.st f) f.ga 0 [f.ga]).advance at_.tile)

/-- SEND (R162). -/
def execSend (at_ : Site) (f : XFmt) (ecc : Ecc) (s : State) : Host.Outcome State Fault Refusal :=
  .next ((s.timed at_ (wordOf 4 0 (xLow f)) f.dt (.send f ecc) f.ga 0 [f.ga]).advance at_.tile)

/-- RECV (R162). -/
def execRecv (at_ : Site) (f : XFmt) (s : State) : Host.Outcome State Fault Refusal :=
  .next ((s.timed at_ (wordOf 4 1 (xLow f)) f.dt (.recv f) f.ga 0 [f.ga]).advance at_.tile)

/-- POTS (R162, R288 to R292). -/
def execPots (at_ : Site) (f : XFmt) (ecc : Ecc) (s : State) : Host.Outcome State Fault Refusal :=
  .next ((s.timed at_ (wordOf 4 2 (xLow f)) f.dt (.pots f ecc) f.ga 0 [f.ga]).advance at_.tile)

/-- TRICK (R162, R204): from its decode on GD waits for the result. -/
def execTrick (at_ : Site) (f : TFmt) (s : State) : Host.Outcome State Fault Refusal :=
  let w := fun (c : Ctx) (n : Nat) => if n < c.uq.length then { c with waits := c.waits ++ [⟨f.tree.toNat, f.gd, false⟩] } else c
  .next (((s.timed at_ (wordOf 5 0 (tLow f)) f.dt (.trick f) f.ga 0 [f.ga]).onCtx at_
    (fun c => w c (s.ctx at_).uq.length)).advance at_.tile)

end Sys2Proof.Machine
end

