-- ==== Sys2Proof/Machine/Pot.lean ====
section
/-! DEFINITION. Gradient reduction: the sending controller with its crib (R291, R304 to R306), the pot adder (R295 to R303), seals and
mirrors (R301, R310), and reneges (R307 to R309). Subpackets that a controller forwards on its own seat reach their adders in the
same command (log 40). -/

namespace Sys2Proof
open Machine

/-! ## Packets -/

/-- Whether a packet's CRC is right (R289). -/
def CPkt.crcOk (p : CPkt) : Bool := p.crc == pktCrc p.hdr p.payload
/-- The packet with its CRC recomputed. -/
def CPkt.fresh (p : CPkt) : CPkt := { p with crc := pktCrc p.hdr p.payload }
/-- Whether a header flag is set: 0 NONFIN, 1 REBUILD, 2 CORRECTED, 3 RESENT (R289). -/
def CHdr.flag (h : CHdr) (b : Nat) : Bool := bitOf h.flags.toNat b
/-- A header with a flag set. -/
def CHdr.setFlag (h : CHdr) (b : Nat) : CHdr := { h with flags := h.flags ||| BitVec.ofNat 8 (2 ^ b) }
/-- The entries of a subpacket with what each adds; an entry of a drain whose MASK bit is 0 adds nothing (R290, R292, R295). -/
def CPkt.addends (p : CPkt) : List (Nat × Option W32) :=
  let st := p.hdr.start.toNat
  let n := p.hdr.count.toNat
  (List.range n).map (fun i =>
    if p.hdr.typ = 2 then
      let neg := bitOf (p.payload.getD (i / 8) 0).toNat (i % 8)
      let m := BitVec.ofNat 16 (field p.payload (32 * (n / 256) + 2 * (i / 256)) 2)
      let w := ofBf16 m
      (st + i, some (if (f32 w).isNan then w else if neg then w ^^^ 0x80000000 else w))
    else
      let w := BitVec.ofNat 32 (field p.payload (4 * i) 4)
      (st + i, if p.hdr.typ = 3 && !p.hdr.mask.getLsbD i then none else some w))
/-- Bytes that a packet takes in the crib region. -/
def CPkt.size (p : CPkt) : Nat := 64 + roundUp p.payload.length 64

end Sys2Proof

namespace Sys2Proof.Machine

/-- The payload of the part of a packet from entry `lo` up to `hi` (R290, R291). -/
def partPayload (p : CPkt) (lo hi : Nat) : Bytes :=
  let a := lo - p.hdr.start.toNat
  let n := hi - lo
  if p.hdr.typ = 2 then
    let B := p.hdr.count.toNat / 256
    slice p.payload (32 * (a / 256)) (32 * (n / 256)) ++ slice p.payload (32 * B + 2 * (a / 256)) (2 * (n / 256))
  else slice p.payload (4 * a) (4 * n)

/-- The subpackets of a packet: split at pot unit boundaries, each with its own header (R291). -/
def subpackets (p : CPkt) : List CPkt :=
  let st := p.hdr.start.toNat
  let en := st + p.hdr.count.toNat
  (List.range ((en + 1023) / 1024 - st / 1024)).map (fun i =>
    let u := st / 1024 + i
    let lo := max st (1024 * u)
    let hi := min en (1024 * u + 1024)
    let h : CHdr := { p.hdr with
      start := BitVec.ofNat 64 lo, count := BitVec.ofNat 32 (hi - lo)
      mask := if p.hdr.typ = 3 then p.hdr.mask >>> (lo - st) else p.hdr.mask }
    { mkPkt h (partPayload p lo hi) with poison := p.poison })

/-! ## The crib (R37, R304, R305) -/

/-- Bytes that an open round takes in the open-round area (R296 to R298). -/
def Round.size (ordered : Bool) (r : Round) : Nat :=
  if ordered then (r.held.map CPkt.size).sum else ((r.buf.map (fun e => e.1 / 1024)).eraseDups).length * 4096
/-- Size of the crib region (R37). -/
def cribSize : Nat := 2560 * 2 ^ 20
/-- Bytes of the crib region in use at a position (R296; log 202, 223). -/
def State.cribUsed (s : State) (k : Nat) : Nat :=
  let a := (s.posn k).pot
  (a.crib.map (fun c => c.pkt.size)).sum + (a.rounds.map (Round.size s.ordered)).sum

/-- Keep the peak of the crib region (R374). -/
def State.cribNote (s : State) (k : Nat) : State :=
  let n := s.cribUsed k
  s.onPos k (fun p => { p with pot := { p.pot with cribPeak := max p.pot.cribPeak n } })

/-- Change a pot adder. -/
def State.onPot (s : State) (k : Nat) (f : PotAdder → PotAdder) : State := s.onPos k (fun p => { p with pot := f p.pot })

/-- Free what a seal notice of a pot's round from a stack of its owner frees (R305). -/
def State.sealFree (s : State) (pot round owner stack : Nat) : State :=
  s.each allPos (fun s k =>
    if ((s.posn k).pot.crib).isEmpty then s
    else
      let drop := fun (c : Crib) =>
        if c.pkt.hdr.pot.toNat = pot ∧ c.pkt.hdr.round.toNat = round then { c with await := c.await.filter (· != (owner, stack)) } else c
      s.onPot k (fun a => { a with crib := (a.crib.map drop).filter (fun c => !c.await.isEmpty) }))

/-! ## The pot adder (R295 to R303) -/

/-- Tracking entries of an adder (R296). -/
def trackMax : Nat := 16384
/-- Contributions that an entry receives in a round (R300). -/
def State.need (s : State) (p : PotEnt) : Nat := p.hps * (if p.cseats = 0 then s.rd R.PT_SEATS_S else p.cseats)

/-- NONFIN in a packet that an adder adds: the seat's flag, and POT_NONFIN once for its layer in a hand (R314). -/
def State.potNonfin (s : State) (layer pot : Nat) : State :=
  let s := s.nonfin
  if s.hand.potNonfin.contains layer then s
  else ({ s with hand := { s.hand with potNonfin := layer :: s.hand.potNonfin } } : State).emit 0x0209 [.w4 layer, .w4 pot]

/-- The open round of a pot at an adder; one that is not open yet starts at +0, at the layer's epoch (R297). -/
def PotAdder.open_ (a : PotAdder) (pot round epoch : Nat) : Round :=
  (a.rounds.find? (fun r => r.pot == pot && r.round == round)).getD
    { pot := pot, round := round, epoch := epoch, buf := [], cnt := [], held := [], complete := false, rebuild := false, senders := [] }
/-- Put an open round. -/
def PotAdder.setRound (a : PotAdder) (r : Round) : PotAdder :=
  { a with rounds := a.rounds.filter (fun x => !(x.pot == r.pot && x.round == r.round)) ++ [r] }

/-- A round with a subpacket added: into its round buffer, or kept for the seal in ORDERED mode; every entry of it is received
(R297, R298, R300). -/
def Round.take (r : Round) (ordered : Bool) (p : CPkt) : Round :=
  let es := p.addends
  let buf := if ordered then r.buf else es.foldl (fun (m : Map W32) e => match e.2 with
    | none => m.ins e.1 (m.get e.1 0)
    | some w => m.ins e.1 (fAdd (m.get e.1 0) w)) r.buf
  { r with
    buf := buf
    cnt := es.foldl (fun (m : Map Nat) e => m.ins e.1 (m.get e.1 0 + 1)) r.cnt
    held := if ordered then r.held ++ [p] else r.held
    senders := setIns r.senders p.hdr.seat.toNat }

/-- Add a subpacket of the current epoch to its round at adder `k` (R295, R297, R298, R300). -/
def State.accAdd (s : State) (k : Nat) (pe : PotEnt) (p : CPkt) : State :=
  let pot := p.hdr.pot.toNat
  let rd := p.hdr.round.toNat
  let n := s.need pe
  let r := ((s.posn k).pot.open_ pot rd p.hdr.epoch.toNat).take s.ordered p
  let s := s.bumpI R.PT_PPKT_COUNT k 1
  let s := if p.hdr.flag 0 then s.potNonfin p.hdr.layer.toNat pot else s
  if r.cnt.any (fun e => decide (n < e.2)) then
    ((s.onPot k (fun a => a.setRound r)).emit 0x0205 [.w4 pot, .w4 rd, .w4 k]).misdeal 7
  else
    let full := (pe.entriesOn k).all (fun i => r.cnt.get i 0 == n)
    let s := (s.onPot k (fun a => a.setRound { r with complete := full, rebuild := r.rebuild && !full })).cribNote k
    if full && r.rebuild then (s.bump R.PT_REBUILDS_COUNT 1).emit 0x0202 [.w4 pot, .w4 rd, .w4 r.epoch] else s

/-- STRAY_PACKET (R303). -/
def State.stray (s : State) (p : CPkt) : State := s.emit 0x0208 [.w8 p.hdr.hand.toNat, .w4 p.hdr.pot.toNat, .w4 p.hdr.seat.toNat]

/-- Note the tracking entries in use at an adder (R296, R317). -/
def State.trackNote (s : State) (k : Nat) : State :=
  let n := min ((s.posn k).pot.ahead.length + 1) trackMax
  if s.getI R.PT_PTRACK_PEAK k < n then s.setI R.PT_PTRACK_PEAK k n else s

/-- The table of an adder is full, or the input waits already: the REDUCE input is held, with the subpacket in its order (R296). -/
def State.holdInput (s : State) (k : Nat) (p : CPkt) : State :=
  let s := (s.bumpI R.PT_PHELD_BEATS k 1).onPot k (fun a => { a with input := a.input ++ [p] })
  if (s.posn k).pot.trackFull then s else (s.onPot k (fun a => { a with trackFull := true })).emit 0x020B [.w4 k]

/-- Whether an adder's input is held (R296). -/
def State.inputHeld (s : State) (k : Nat) : Bool :=
  !(s.posn k).pot.input.isEmpty || decide (trackMax ≤ (s.posn k).pot.ahead.length)

/-- A subpacket that an adder of the plan's takes: ahead of the layer's epoch it is held, of an old epoch discarded, else added (R303, R307). -/
def State.accTake (s : State) (k : Nat) (pe : PotEnt) (p : CPkt) : State :=
  let e := s.epoch (s.potLayer p.hdr.pot.toNat)
  if p.hdr.epoch.toNat < e then s
  else if e < p.hdr.epoch.toNat then (s.trackNote k).onPot k (fun a => { a with ahead := a.ahead ++ [p] })
  else (s.trackNote k).accAdd k pe p

/-- A subpacket whose CRC is right, at adder `k`: stray, held at the input, or taken (R296, R303, R307, R315). -/
def State.accIn (s : State) (k : Nat) (p : CPkt) : State :=
  let h := p.hdr
  let pot := h.pot.toNat
  if s.hand.running.isNone || s.hand.outcome.isSome then s.stray p
  else if s.inputHeld k then s.holdInput k p
  else match s.potEnt pot with
    | none => s.stray p
    | some pe =>
      let inPlan := pe.kind == 0 && decide (h.round.toNat < s.rounds) && decide (0 < h.count.toNat) &&
        decide (h.start.toNat + h.count.toNat ≤ pe.entries) && pe.stackOf (h.start.toNat / 1024) == k &&
        pe.stackOf ((h.start.toNat + h.count.toNat - 1) / 1024) == k
      if h.hand != s.hand.hand || !inPlan || decide (h.round.toNat < (s.posn k).pot.sealed.get pot 0) then s.stray p
      else s.accTake k pe p

/-- What waits at an adder's input goes on once a tracking entry is free (R296). -/
def State.drainInput (s : State) (k : Nat) : State :=
  if trackMax ≤ (s.posn k).pot.ahead.length then s
  else
    let l := (s.posn k).pot.input
    (s.onPot k (fun a => { a with input := [] })).each l (fun s p => s.accIn k p)

/-- The record that a subpacket comes from: its number, and the seat and the controller that keep it (R303). -/
def recOf (h : CHdr) : Nat := h.crec.toNat + 2 ^ 32 * h.seat.toNat + 2 ^ 48 * h.cstack.toNat

/-- A subpacket whose CRC is right comes to adder `k`: of a record that is sent again only the part that failed is taken, and once (R303; log 41). -/
def State.accRight (s : State) (k : Nat) (p : CPkt) : State :=
  let key := (recOf p.hdr, p.hdr.start.toNat, p.hdr.pot.toNat)
  if p.hdr.flag 3 then
    if (s.posn k).pot.resent.contains key then (s.onPot k (fun a => { a with resent := a.resent.erase key })).accIn k p else s
  else s.accIn k p

/-- POISON_USED at a controller or an adder: a fabric fault (R172, R229). -/
def State.potPoison (s : State) (k : Nat) : State := (s.emit 0x0314 [.w4 (0x10000 + k)]).misdeal 7

/-- Forward the subpackets of a crib record: to the adders of this seat, or over the links to the owner (R291). A record that was read poisoned is not sent on
(R229). -/
def State.forward (s : State) (p : CPkt) : State :=
  if p.poison then s.potPoison p.hdr.cstack.toNat
  else match s.potEnt p.hdr.pot.toNat with
    | none => s
    | some pe =>
      s.each (subpackets p) (fun s q =>
        if pe.owner = s.rank then s.accRight (pe.stackOf (q.hdr.start.toNat / 1024)) q
        else s.sendHand pe.owner 3 0x10 (hdrBytes q.hdr ++ leBytes 4 q.crc.toNat ++ q.payload))

/-- Whether a read of the crib region meets a poisoned line (log 224). -/
def cribBad (ecc : LineEcc) : Bool := !(eccIn ecc cribOff cribSize).ue.isEmpty

/-- A controller reads its crib: what the code reports over it (R228, R554). -/
def State.cribEcc (s : State) (k : Nat) (ecc : LineEcc) : State := s.rangeEcc true k cribOff cribSize ecc (requester 8 k)

/-- Send a crib record again with RESENT set (R303). -/
def State.resend (s : State) (k crec : Nat) (ecc : LineEcc) : State :=
  match (s.posn k).pot.crib.find? (fun c => c.crec.toNat == crec) with
  | none => s
  | some c => (s.cribEcc k ecc).forward
      { ({ c.pkt with hdr := c.pkt.hdr.setFlag 3 } : CPkt).fresh with poison := cribBad ecc }

/-- The 13 bytes of RESEND_REQ (R360). -/
def resendBody (hand : W64) (crec cstack : Nat) : Bytes := leBytes 8 hand.toNat ++ leBytes 4 crec ++ leBytes 1 cstack

/-- A subpacket reaches adder `k` (R172, R303). A poisoned one is a fabric fault. One whose CRC fails is not added, and its record is
asked for again; the record's second failure is a fault. -/
def State.accept (s : State) (k : Nat) (p : CPkt) : State :=
  let h := p.hdr
  if p.poison then s.potPoison k
  else if p.crcOk then s.accRight k p
  else if (s.posn k).pot.failed.contains (recOf h) then (s.emit 0x0207 [.w4 h.pot.toNat, .w4 h.seat.toNat, .w4 h.crec.toNat]).misdeal 7
  else
    let s := s.onPot k (fun a => { a with
      failed := a.failed ++ [recOf h], resent := a.resent ++ [(recOf h, h.start.toNat, h.pot.toNat)] })
    if h.seat.toNat = s.rank then s.resend h.cstack.toNat h.crec.toNat ⟨[], [], []⟩
    else s.sendHand h.seat.toNat 1 0x21 (resendBody h.hand h.crec.toNat h.cstack.toNat)

/-- ACC_FP32, ACC_DRAIN and ACC_ONEBIT: a subpacket of the named type reaches an adder (R295). -/
def State.acc (s : State) (k typ : Nat) (p : CPkt) : State := if p.hdr.typ.toNat = typ then s.accept k p else s

/-- ACC_FP32 (R295). -/
def execAccFp32 (pos : Nat) (p : CPkt) (s : State) : Host.Outcome State Fault Refusal := .next (s.acc pos 1 p)
/-- ACC_DRAIN (R295). -/
def execAccDrain (pos : Nat) (p : CPkt) (s : State) : Host.Outcome State Fault Refusal := .next (s.acc pos 3 p)
/-- ACC_ONEBIT (R295). -/
def execAccOnebit (pos : Nat) (p : CPkt) (s : State) : Host.Outcome State Fault Refusal := .next (s.acc pos 2 p)

/-! ## The sending controller (R291, R304) -/

/-- Take a packet's flits off the edge port lane that they wait in, if they do. -/
def State.edgeTake (s : State) (k : Nat) (p : CPkt) : State :=
  let fl := pktFlits p
  let keys := (List.range 3).map (fun i => 2 * (3 * k + i))
  match keys.find? (fun i => (s.fab.edgeOut.get i []).take fl.length == fl) with
  | none => s
  | some i => { s with fab := { s.fab with edgeOut := s.fab.edgeOut.put i ((s.fab.edgeOut.get i []).drop fl.length) [] } }

/-- The stacks of the owner that a packet's subpackets reach: those whose seal notices the record awaits (R305). -/
def awaits (pe : PotEnt) (p : CPkt) : List (Nat × Nat) :=
  ((subpackets p).map (fun q => (pe.owner, pe.stackOf (q.hdr.start.toNat / 1024)))).eraseDups

/-- CONTRIB_PACKET: the sending controller checks the packet, copies it into its crib, splits it and forwards it (R291). With no room
in the crib region the packet stays in its lane. A packet of a pot that the plan does not name reaches no adder: STRAY_PACKET. -/
def execContribPacket (pos : Nat) (p : CPkt) (s : State) : Host.Outcome State Fault Refusal :=
  .next (
    if p.poison then (s.edgeTake pos p).potPoison pos
    else if !p.crcOk then (s.edgeTake pos p).misdeal 7
    else match s.potEnt p.hdr.pot.toNat with
      | none => (s.edgeTake pos p).stray p
      | some pe =>
        if cribSize < s.cribUsed pos + p.size then
          let s := s.bumpI R.PT_PHELD_BEATS pos 1
          if (s.posn pos).pot.cribFull then s
          else (s.onPot pos (fun a => { a with cribFull := true })).emit 0x020A [.w4 pos]
        else
          let n := (s.posn pos).pot.nextCrec
          let h : CHdr := { p.hdr with cstack := BitVec.ofNat 8 pos, crec := n }
          let q := ({ p with hdr := h } : CPkt).fresh
          let s := s.edgeTake pos p
          let s := s.onPot pos (fun a => { a with nextCrec := n + 1, crib := a.crib ++ [⟨n, q, awaits pe q, 0⟩] })
          (s.cribNote pos).forward q)

/-! ## Seals (R297, R298, R301, R310) -/

/-- The order in which ORDERED mode adds a round's subpackets (R298). -/
def orderKey (p : CPkt) : Nat :=
  ((p.hdr.seat.toNat * 2 ^ 16 + p.hdr.tile.toNat) * 2 ^ 8 + p.hdr.gl.toNat) * 2 ^ 64 + p.hdr.start.toNat
/-- Put a packet into its place. -/
def insertPkt (p : CPkt) : List CPkt → List CPkt
  | [] => [p]
  | q :: t => if orderKey p < orderKey q then p :: q :: t else q :: insertPkt p t
/-- A round's subpackets in their order. -/
def sortPkts (l : List CPkt) : List CPkt := l.foldr insertPkt []

/-- Pair accumulation of one value (R70). -/
def pairAdd (a : W32 × W32) (x : W32) : W32 × W32 :=
  let r := twoSum a.1 x
  (r.1, fAdd a.2 r.2)

/-- Store a word of a near stack. -/
def State.nearPutW (s : State) (k off : Nat) (w : W32) : State := s.nearWr k off (leBytes 4 w.toNat)

/-- Fold a round into the pot on its stack (R297, R298). -/
def State.foldRound (s : State) (k : Nat) (pe : PotEnt) (r : Round) : State :=
  if s.ordered then
    let ps := sortPkts r.held
    s.each (pe.entriesOn k) (fun s i =>
      let o := pe.hiOff true i
      let start : W32 × W32 := if r.round = 0 then (0, 0) else (s.nearW k o, s.nearW k (o + 4096))
      let sum := ps.foldl (fun a p => match (p.addends.find? (fun e => e.1 == i)) with
        | some (_, some w) => pairAdd a w
        | _ => a) start
      if r.round + 1 = s.rounds then (s.nearPutW k o (fAdd sum.1 sum.2)).nearPutW k (o + 4096) 0
      else (s.nearPutW k o sum.1).nearPutW k (o + 4096) sum.2)
  else
    s.each (pe.entriesOn k) (fun s i =>
      let o := pe.hiOff false i
      let b := r.buf.get i 0
      s.nearPutW k o (if r.round = 0 then b else fAdd (s.nearW k o) b))

/-- The 15 bytes of SEAL_NOTICE (R360). -/
def sealBody (hand : W64) (pot round stack : Nat) : Bytes :=
  leBytes 8 hand.toNat ++ leBytes 4 pot ++ leBytes 2 round ++ leBytes 1 stack

/-- The seal checksum of a pot: the XOR over its stacks of the CRC-64 of their hi words (R310). -/
def State.sealSum (s : State) (pe : PotEnt) : W64 := pe.stacks.foldl (fun a k => a ^^^ crc64 (s.hiBytes pe k)) 0

/-- Send a pot's hi words to its mirror seat: a packet for each pot unit (R310, R360). The mirror rank is that of the pot
owner's home slot, this seat's own (R363). -/
def State.mirrorSend (s : State) (pot : Nat) (pe : PotEnt) : State :=
  let m := s.getI R.LK_HOME_MIRROR s.rank
  s.each pe.stacks (fun s k =>
    let unit := if s.ordered then 8192 else 4096
    s.each ((pe.unitsOn k).zipIdx) (fun s e =>
      let n := min 1024 (pe.entries - 1024 * e.1)
      let b := (List.range n).flatMap (fun i => leBytes 4 (s.hiWord pe k (1024 * e.1 + i)).toNat)
      s.sendTo m 3 0x11 (leBytes 8 s.hand.hand.toNat ++ leBytes 4 pot ++ leBytes 1 k ++ zeros 3 ++
        leBytes 8 (pe.mirrorBase.toNat * 4096 + e.2 * unit) ++ zeros 24 ++ b)))

/-- Whether a pot is mirrored (R310). -/
def State.mirrored (s : State) (pe : PotEnt) : Bool :=
  (match s.hand.plan with | none => false | some p => p.mirrorSeal) && s.on R.PT_CTRL_MIRROR_SEAL && s.on R.LK_CTRL_MIRROR &&
    pe.mirrorBase != 0xFFFFFFFF && !s.alone && s.getI R.LK_HOME_MIRROR s.rank != s.rank

/-- Whether every round of a pot is sealed on each of its stacks. -/
def State.sealedAll (s : State) (pot : Nat) (pe : PotEnt) : Bool :=
  pe.stacks.all (fun k => decide (s.rounds ≤ (s.posn k).pot.sealed.get pot 0))

/-- What follows the last seal of a pot in a hand: its checksum is kept on each stack, and a mirrored pot goes to the mirror seat
(R310, R311). -/
def State.potSealed (s : State) (pot : Nat) (pe : PotEnt) : State :=
  if !s.sealedAll pot pe then s
  else
    let s := s.each pe.stacks (fun s k =>
      let c := crc64 (s.hiBytes pe k)
      s.onPot k (fun a => { a with mirrorSum := a.mirrorSum.ins pot c }))
    if s.mirrored pe then s.mirrorSend pot pe else s

/-- SEAL: a complete round on a stack, whose earlier rounds are sealed, is folded into the pot; notices go to every seat that sent to
it (R301). SEAL_Q has passed without a renege when the command comes; a round that is not complete is left. What the code reports over
the pot's lines is the adder's read (R228, R554). -/
def execSealRound (pos pot : Nat) (round : EccAt) (s : State) : Host.Outcome State Fault Refusal :=
  let a := (s.posn pos).pot
  .next (match s.potEnt pot, a.rounds.find? (fun r => r.pot == pot && r.round == round.at_) with
    | some pe, some r =>
      if !r.complete || a.sealed.get pot 0 != round.at_ then s
      else
        let o := (pe.entriesOn pos).map (pe.hiOff s.ordered)
        let s := (s.rangeEcc true pos (o.headD 0) (o.getLastD 0 + 4 - o.headD 0) round.ecc (requester 7 pos)).foldRound pos pe r
        let s := s.onPot pos (fun a => { a with
          rounds := a.rounds.filter (fun x => !(x.pot == pot && x.round == round.at_)), sealed := a.sealed.ins pot (round.at_ + 1) })
        let s := s.each r.senders (fun s seat =>
          if seat = s.rank then s.sealFree pot round.at_ s.rank pos else s.sendHand seat 1 0x20 (sealBody s.hand.hand pot round.at_ pos))
        (s.potSealed pot pe).sealCheck
    | _, _ => s)

/-- ROUND_TIMEOUT: a round that is open and not complete misdeals the hand; the timeout pauses while the wafer stands (R302). -/
def execRoundTimeout (pos pot round : Nat) (s : State) : Host.Outcome State Fault Refusal :=
  .next (match (s.posn pos).pot.rounds.find? (fun r => r.pot == pot && r.round == round) with
    | none => s
    | some r => if r.complete || !s.moving then s else (s.emit 0x0204 [.w4 pot, .w4 round, .w4 pos]).misdeal 7)

/-! ## Reneges (R306 to R309, R313) -/

/-- CLEAR of a layer's open rounds at an adder (R307): each is open again at the new epoch, with nothing in it, and
awaits no part again. -/
def State.clearRounds (s : State) (k layer epoch : Nat) : State :=
  s.onPot k (fun a => { a with
    rounds := a.rounds.map (fun r =>
      if s.potLayer r.pot = layer then { r with epoch := epoch, buf := [], cnt := [], held := [], complete := false, rebuild := true }
      else r)
    resent := a.resent.filter (fun e => s.potLayer e.2.2 != layer) })

/-- Subpackets that were held ahead of an epoch that is reached now are taken, and the input goes on (R296, R307). -/
def State.takeAhead (s : State) (k layer epoch : Nat) : State :=
  let due := fun (p : CPkt) => s.potLayer p.hdr.pot.toNat == layer && decide (p.hdr.epoch.toNat ≤ epoch)
  let l := (s.posn k).pot.ahead.filter due
  let take := fun (s : State) (p : CPkt) => match s.potEnt p.hdr.pot.toNat with | none => s | some pe => s.accTake k pe p
  ((s.onPot k (fun a => { a with ahead := a.ahead.filter (fun p => !due p) })).each l take).drainInput k

/-- Send again, in their order, a controller's crib records of a layer that `pick` names, with REBUILD and the new epoch (R307). -/
def State.rebuildFrom (s : State) (k epoch : Nat) (ecc : LineEcc) (pick : Crib → Bool) : State :=
  let l := (s.posn k).pot.crib.filter pick
  let again := fun (c : Crib) => ({ c.pkt with hdr := { c.pkt.hdr.setFlag 1 with epoch := BitVec.ofNat 8 epoch } } : CPkt).fresh
  let s := s.onPot k (fun a => { a with crib := a.crib.map (fun c => if pick c then { c with pkt := again c } else c) })
  s.each l (fun s c => s.forward { again c with poison := cribBad ecc })

/-- Whether a correction belongs to a layer. -/
def State.corrOf (s : State) (tile layer : Nat) (c : Corr) : Bool := (s.listEnt tile c.gl).any (fun e => s.potLayer e.pot == layer)

/-- The round that a renege names: that of the correction which waits in this seat's tile (R306); that of another seat's tile comes with it (log 42). -/
def State.renegeRound (s : State) (seat tile layer round : Nat) : Nat :=
  if seat ≠ s.rank then round else (((s.tile tile).corr.find? (s.corrOf tile layer)).map (·.round)).getD round

/-- Whether a renege comes late to an adder for a pot: its round is sealed there (R309). -/
def State.lateAt (s : State) (k pot round : Nat) : Bool := decide (round < (s.posn k).pot.sealed.get pot 0)

/-- A renege that is not late: the layer's epoch rises, its rounds are cleared, subpackets of the new epoch are taken, and every controller sends its
records of the layer again, those of the named tile once its corrections have replaced them (R307). -/
def State.rebuild (s : State) (seat tile layer epoch : Nat) (ecc : SeatEcc) : State :=
  let s := { s with hand := { s.hand with epochs := s.hand.epochs.put layer epoch 0 } }
  let s := s.each allPos (fun s k => s.clearRounds k layer epoch)
  let s := s.each allPos (fun s k => s.takeAhead k layer epoch)
  let n := if seat = s.rank then ((s.tile tile).corr.filter (s.corrOf tile layer)).length else 0
  let s := s.each allPos (fun s k => s.onPot k (fun a => { a with crib := a.crib.map (fun c =>
    if c.pkt.hdr.layer.toNat = layer ∧ c.pkt.hdr.tile.toNat = tile ∧ seat = s.rank then { c with fix := n } else c) }))
  s.each allPos (fun s k => (s.cribEcc k (eccOf ecc k)).rebuildFrom k epoch (eccOf ecc k) (fun c => c.pkt.hdr.layer.toNat == layer && c.fix == 0))

/-- A renege reaches this seat (R307, R309, R313). -/
def State.renegeIn (s : State) (seat tile layer round : Nat) (ecc : SeatEcc) : State :=
  if s.hand.running.isNone || s.hand.outcome.isSome then s
  else
    let e := s.epoch layer + 1
    let s := (s.bump R.PT_RENEGES_COUNT 1).emit 0x0201 [.w4 layer, .w4 seat, .w4 tile, .w4 e]
    if 255 < e then (s.emit 0x0206 [.w4 layer]).misdeal 7
    else
      let ps := (s.pots_.zipIdx).filter (fun p => s.potLayer p.2 == layer)
      match ps.find? (fun p => p.1.kind == 1) with
      | some p => (s.emit 0x020E [.w4 p.2, .w4 layer]).misdeal 7
      | none =>
        let rd := s.renegeRound seat tile layer round
        let mine := ps.filter (fun p => p.1.owner == s.rank)
        match allPos.find? (fun k => mine.any (fun p => p.1.stacks.contains k && s.lateAt k p.2 rd)) with
        | some k => (s.emit 0x0203 [.w4 layer, .w4 seat, .w4 tile, .w4 k]).misdeal 7
        | none => s.rebuild seat tile layer e ecc

/-- RENEGE: a renege reaches this seat's adders and controllers from the trump root; one of this seat's tiles is flooded to the table
as well (R307, R308, R368). -/
def execRenege (seat tile : Nat) (layer : RenegePkt) (s : State) : Host.Outcome State Fault Refusal :=
  .next (s.hop layer.hop 0xA (fun s =>
    let s1 := s.renegeIn seat tile layer.layer layer.round layer.ecc
    if seat = s.rank ∧ !s.alone ∧ s.hand.running.isSome ∧ s.hand.outcome.isNone then
      (s1.flood s.rank 0x32 0 (leBytes 8 s.hand.hand.toNat ++ leBytes 2 layer.layer ++ leBytes 2 tile ++ leBytes 2 seat) none).1
    else s1))

/-- CORRECTION_DELIVERY: the tile's corrected accumulator tile replaces the payload of its crib record, with CORRECTED set and the CRC
recomputed; the tile's records that waited for it alone are sent again, and the tile may issue again (R306, R307). A controller that does not hold the record is
not where the access network delivers it, and nothing happens. -/
def execCorrectionDelivery (tile : Nat) (pos : CorrAt) (s : State) : Host.Outcome State Fault Refusal :=
  .next (match (s.tile tile).corr with
    | [] => s
    | c :: rest =>
      let isRec := fun (r : Crib) => r.pkt.hdr.tile.toNat == tile && r.pkt.hdr.gl.toNat == c.gl &&
        r.pkt.hdr.round.toNat == c.round && r.pkt.hdr.start.toNat == c.start
      match (s.posn pos.pos).pot.crib.find? isRec with
      | none => s
      | some r =>
        let h : CHdr := { r.pkt.hdr.setFlag 2 with mask := c.mask }
        let b := (List.range 128).flatMap (fun l => leBytes 4 (c.vals.get l 0).toNat)
        let fixed := mkPkt h b
        let s := s.onTile tile (fun x => { x with corr := rest })
        let s := s.onPot pos.pos (fun a => { a with crib := a.crib.map (fun x => if isRec x then { x with pkt := fixed } else x) })
        let layer := r.pkt.hdr.layer.toNat
        let mine := fun (x : Crib) => x.pkt.hdr.tile.toNat == tile && x.pkt.hdr.layer.toNat == layer
        let due := fun (x : Crib) => mine x && x.fix == 1
        let s := s.each allPos (fun s k => (s.cribEcc k (eccOf pos.ecc k)).rebuildFrom k (s.epoch layer) (eccOf pos.ecc k) due)
        (s.each allPos (fun s k => s.onPot k (fun a => { a with crib := a.crib.map (fun x =>
          if mine x then { x with fix := x.fix - 1 } else x) }))).advance tile)

end Sys2Proof.Machine
end

