-- ==== Sys2Proof/Machine/Dealer.lean ====
section
/-! DEFINITION. The dealers (R233 to R249): stream descriptors in list order, weight fills with their conversions and checker rows,
lines, stores, gathers with their retries, the moves of the sweep with the delta coder (R335 to R337), and the patrol scrubbers of near
memory and the stock (R230). The command carries the descriptor that the dealer reads (log 30). -/

namespace Sys2Proof
open Machine

/-! ## Reserved values and source addresses of a descriptor (R235, R236, R241) -/

/-- Number of edge ports that a descriptor names. -/
def SDesc.nports (d : SDesc) : Nat := (onesOf d.ports.toNat 3).length
/-- Whether a descriptor holds a reserved value for its kind (R235, R236). -/
def SDesc.reserved (d : SDesc) : Bool :=
  let f := d.flags.toNat
  let conv := d.ctl != 0 || d.srcf != 0 || d.dstf != 0 || d.stride != 0 || d.stride2 != 0 || d.mask != 0
  let noTensor := d.tensor != 0 && d.tensor != 0xFFFFFFFF
  let noShard := d.shard != 0 && d.shard != 0xFFFFFFFF
  decide (8 ≤ f) || decide (8 ≤ d.ports.toNat) || bitsOf f 0 2 == 3 ||
    (match d.kind.toNat with
     | 1 => bitOf f 2 || d.nports == 0 || d.nports == 3 || d.mask == 0 || !isMatrixFmt (d.dstf.setWidth 5) ||
         (elemOf (d.srcf.setWidth 5)).isNone || decide (32 ≤ d.srcf.toNat) || decide (32 ≤ d.dstf.toNat) ||
         (!isMx (d.srcf.setWidth 5) && (d.addr2 != 0 || d.stride2 != 0)) || decide (16 ≤ d.ctl.toNat) || d.ctl.toNat % 4 == 3
     | 2 => bitOf f 2 || d.nports != 1 || conv || d.addr2 != 0 || noTensor
     | 3 => bitOf f 0 || bitOf f 1 || d.nports != 1 || conv || d.addr2 != 0 || noTensor
     | 4 => bitOf f 2 || d.ports != 0 || conv || d.addr != 0 || noTensor
     | 5 => f != 0 || d.ports != 0 || conv || noTensor || noShard
     | 6 => f != 0 || d.ports != 0 || conv || noTensor || noShard
     | _ => true)
/-- Bytes from where a lane's source elements of chunk `j` lie. -/
def SDesc.elemAt (d : SDesc) (e b l j : Nat) : Nat := d.addr.toNat + l * d.stride.toNat + j * (e * b / 8)
/-- Where a lane's source scales of chunk `j` lie. -/
def SDesc.scaleAt (d : SDesc) (e l j : Nat) : Nat := d.addr2.toNat + l * d.stride2.toNat + j * (e / 32)
/-- Lines as a run: the first, and the first beyond. -/
abbrev Run := Nat × Nat
/-- The lines of `n` bytes from an offset. -/
def runOf (off n : Nat) : Run := (off / 64, (off + n + 63) / 64)
/-- Whether runs of two lists share a line. -/
def runsMeet (a b : List Run) : Bool := a.any (fun x => b.any (fun y => decide (x.1 < y.2) && decide (y.1 < x.2)))
/-- Lines that a part of a descriptor accesses: reads and writes of its stack, reads and writes of its slice. -/
structure Access where
  rd : List Run
  wr : List Run
  srd : List Run
  swr : List Run
  deriving DecidableEq, Repr
/-- Whether two accesses must keep their order: one of them writes a line that they share (R238). -/
def Access.conflicts (a b : Access) : Bool :=
  runsMeet a.wr b.rd || runsMeet a.rd b.wr || runsMeet a.wr b.wr || runsMeet a.swr b.srd || runsMeet a.srd b.swr || runsMeet a.swr b.swr
/-- The lines that fills or lines `lo` to `lo` + `n` − 1 of a descriptor access; `off` is where its piece lies (R235, R241, R246). -/
def SDesc.access (d : SDesc) (off lo n : Nat) : Access :=
  let ln := fun (a : Nat) => runOf (a + 64 * lo) (64 * n)
  match d.kind.toNat with
  | 1 =>
    let e := chunkOf (d.dstf.setWidth 5)
    let b := match elemOf (d.srcf.setWidth 5) with | none => 0 | some x => x.bits
    let sc := if isMx (d.srcf.setWidth 5) then (lanesOf d.mask).map (fun l => runOf (d.scaleAt e l lo) (n * (e / 32))) else []
    ⟨(lanesOf d.mask).map (fun l => runOf (d.elemAt e b l lo) (n * (e * b / 8))) ++ sc, [], [], []⟩
  | 2 => ⟨[ln d.addr.toNat], [], [], []⟩
  | 3 => ⟨[], [ln d.addr.toNat], [], []⟩
  | 4 => ⟨[], [ln (off + 64 * d.addr2.toNat)], [], []⟩
  | 5 => ⟨[], [ln d.addr2.toNat], [ln d.addr.toNat], []⟩
  | _ => ⟨[ln d.addr.toNat], [], [], [ln d.addr2.toNat]⟩

end Sys2Proof

namespace Sys2Proof.Machine

/-- Change a dealer. -/
def State.onDealer (s : State) (k : Nat) (f : Dealer → Dealer) : State := s.onPos k (fun p => { p with dealer := f p.dealer })
/-- The dealer of a position. -/
def State.dealer (s : State) (k : Nat) : Dealer := (s.posn k).dealer
/-- Descriptor that a dealer is reading. -/
def State.descIndex (s : State) (k : Nat) : Nat := s.getI R.DL_PDESC_INDEX k

/-- STREAM_FAULT (R235). -/
def State.streamFault (s : State) (k : Nat) : State := (s.emit 0x040F [.w4 k, .w4 (s.descIndex k)]).misdeal 7

/-! ## Pieces and versions (R244, R245) -/

/-- The piece of a shard at a dealer. -/
def Dealer.piece (d : Dealer) (shard : W32) : Option Piece := d.pieces.find? (fun p => p.shard == shard)
/-- Set the version of a shard's piece. -/
def Dealer.setVersion (d : Dealer) (shard : W32) (v : W64) : Dealer :=
  { d with pieces := d.pieces.map (fun p => if p.shard = shard then { p with version := v } else p) }

/-- The version rule (R245): record with VREC, compare with VCMP; none for a stale deal. -/
def State.versions (s : State) (k : Nat) (flags : BitVec 8) (shard : W32) (v : W64) : Option State :=
  if bitOf flags.toNat 1 then
    if (s.dealer k).vrec.find? shard.toNat = some v then some s else none
  else if bitOf flags.toNat 0 then some (s.onDealer k (fun d => { d with vrec := d.vrec.ins shard.toNat v }))
  else some s

/-- STALE_DEAL (R245). With no record in this hand the recorded version that the event names is stated by no rule. -/
def State.staleDeal (s : State) (k : Nat) (shard : W32) (found : W64) : State :=
  let r := match (s.dealer k).vrec.find? shard.toNat with | some v => (v, s) | none => s.freeL
  (r.2.emit 0x040C [.w4 shard.toNat, .w4 k, .w8 r.1.toNat, .w8 found.toNat]).misdeal 3

/-! ## List order (R233, R236 to R239) -/

/-- End of the part of a list that runs now: the sweep part runs in the sweep schedule alone (R233). -/
def State.dealEnd (s : State) (k : Nat) : Nat :=
  if s.hand.sweep then (s.dealer k).descs.length else if s.rounds = 0 then 0 else (s.dealer k).sweepFirst

/-- Whether the dealer of a position works: a schedule runs, the position is in service, its clock is on. -/
def State.working (s : State) (k : Nat) : Bool :=
  s.hand.running.isSome && s.hand.outcome.isNone && s.fab.started && s.inSvc k &&
    bitOf (s.rd64 R.CK_EN_NEAR_LO_EN R.CK_EN_NEAR_HI_EN) k

/-- Whether the dealer of a position has a descriptor of its list to read now. -/
def State.dealing (s : State) (k : Nat) : Bool := s.working k && decide (s.descIndex k < s.dealEnd k)

/-- The wait beat of the descriptor that a dealer reads (R237). -/
def State.waitBeat (s : State) (k : Nat) (d : SDesc) : Nat :=
  let l := s.dealer k
  let i := s.descIndex k
  let per := match s.curImage with | none => 0 | some m => m.beatsPerMb
  256 * d.wait.toNat + (if s.hand.sweep || decide (i < l.loopFirst) then 0
    else if i < l.loopEnd then l.pass * per else (s.rounds - 1) * per)

/-- Go on to the next descriptor: at the loop's end, back to its first while passes are left (R233). -/
def State.nextDesc (s : State) (k : Nat) : State :=
  let l := s.dealer k
  let i := s.descIndex k + 1
  if !s.hand.sweep && i == l.loopEnd && decide (l.loopFirst < l.loopEnd) && decide (l.pass + 1 < s.rounds) then
    (s.setI R.DL_PDESC_INDEX k l.loopFirst).onDealer k (fun d => { d with pass := d.pass + 1 })
  else s.setI R.DL_PDESC_INDEX k i

/-- A descriptor `n` fills or lines further: at the end of a run the next begins; none after the last (R234). -/
def OpenDesc.on (o : OpenDesc) (n : Nat) : Option OpenDesc :=
  if o.at_ + n < o.d.count.toNat then some { o with at_ := o.at_ + n, begun := true }
  else if 1 < o.runs then some { o with at_ := 0, runs := o.runs - 1, begun := true }
  else none

/-- Put a descriptor in its place among those that the dealer has read; none takes it out. -/
def State.putOpen (s : State) (k id : Nat) (x : Option OpenDesc) : State :=
  s.onDealer k (fun d => { d with opened := d.opened.filterMap (fun e => if e.id = id then x else some e) })

/-- Where the piece of a descriptor's shard lies. -/
def State.pieceOff (s : State) (k : Nat) (d : SDesc) : Nat := match (s.dealer k).piece d.shard with | none => 0 | some p => p.off

/-- What a descriptor has still to access. -/
def State.restOf (s : State) (k : Nat) (o : OpenDesc) : Access :=
  let lo := if 1 < o.runs ∨ o.d.kind = 4 then 0 else o.at_
  o.d.access (s.pieceOff k o.d) lo (o.d.count.toNat - lo)

/-- Whether one of a dealer's 8 Ki tracking entries is free: gathers and served requests that wait hold them (R239). -/
def State.hasEntry (s : State) (k : Nat) : Bool :=
  decide ((s.dealer k).gathers.length + (s.link.parked.filter (fun q => q.req.pos == k)).length < 8192)

/-- Flits that a dealer's read-ahead buffer of an edge port holds, 1 MiB (R239). -/
def readAhead : Nat := 16384

/-- The lanes of a dealer's edge ports: of primary flits. -/
def edgeKey (k p : Nat) : Nat := 2 * (3 * k + p)

/-- Whether the read-ahead buffers of a position hold no more than they can. -/
def State.aheadFits (s : State) (k : Nat) : Bool :=
  (List.range 3).all (fun p => decide ((s.fab.edgeIn.get (edgeKey k p) []).length ≤ readAhead))

/-- Whether the gate line is written (R324, R327). -/
def State.gateWritten (s : State) : Bool := s.hand.sweep || s.hand.result.any (fun r => r.decision != 0)

/-- Whether a descriptor whose turn on its ports and lines has come may start: its wait beat is reached (R237), and the gate line is written if it reads
it (R327). -/
def State.mayBegin (s : State) (k : Nat) (o : OpenDesc) : Bool :=
  decide (o.wait ≤ (s.tile (edgeTile k 0)).router.rb) &&
    (s.gateWritten || !runsMeet (s.restOf k o).rd [runOf gateOff 64])

/-- Whether a descriptor must wait for an earlier one that is not done: one that names an edge port of its own, one whose accesses conflict with what it would
access next (R238), a conversion that draws before it (R58), and for a STOCK_OUT every one of its block (R328; log 221). -/
def State.behind (s : State) (k : Nat) (earlier : List OpenDesc) (d : SDesc) (a : Access) : Bool :=
  earlier.any (fun e => (e.d.ports &&& d.ports) != 0 || (s.restOf k e).conflicts a ||
    (d.kind == 1 && e.d.kind == 1 && ctlSr d.ctl.toNat && ctlSr e.d.ctl.toNat)) ||
  (d.kind == 6 && earlier.getLast?.any (fun e => e.d.kind != 6))

/-! ## Lines of memory -/

/-- Whether a line of a stack is poisoned. -/
def State.badNear (s : State) (k line : Nat) : Bool := (s.posn k).nearBad.contains line
/-- Whether a line of a slice is poisoned. -/
def State.badStock (s : State) (k line : Nat) : Bool := (s.posn k).stockBad.contains line
/-- Write a line of a stack with its poison mark: a write of the whole line clears it, a copy of a poisoned line carries it (R229). -/
def State.putLine (s : State) (k off : Nat) (b : Bytes) (bad : Bool) : State :=
  let s := s.nearWr k off b
  if bad then s.onPos k (fun p => { p with nearBad := setIns p.nearBad (off / 64) }) else s
/-- Write a line of a slice with its poison mark. -/
def State.putStock (s : State) (k off : Nat) (b : Bytes) (bad : Bool) : State :=
  let s := s.stockWr k off b
  if bad then s.onPos k (fun p => { p with stockBad := setIns p.stockBad (off / 64) }) else s
/-- Whether a line lies in a list of runs. -/
def inRuns (l : List Run) (line : Nat) : Bool := l.any (fun r => decide (r.1 ≤ line) && decide (line < r.2))
/-- What the code reports over the lines that a part of a descriptor reads, once for each (R228, R229). -/
def State.dealEcc (s : State) (k : Nat) (o : OpenDesc) (a : Access) : State × OpenDesc :=
  let near := o.d.kind != 5
  let hit := inRuns (if near then a.rd else a.srd)
  (s.lineEcc near k { o.ecc with ce := o.ecc.ce.filter hit, ue := o.ecc.ue.filter hit } (requester 6 k),
   { o with ecc := { o.ecc with ce := o.ecc.ce.filter (fun l => !hit l), ue := o.ecc.ue.filter (fun l => !hit l) } })

/-- Whether a stack offset lies in the tracked window (R335). -/
def tracked (off : Nat) : Bool := decide (sweepOff ≤ off) && decide (off < shadowOff)
/-- A tracked line's shadow (R335). -/
def shadowOf (off : Nat) : Nat := off + (shadowOff - sweepOff)

/-- Send flits of position `k` on an edge port toward the wafer. -/
def State.toEdge (s : State) (k p : Nat) (l : List Flit) : State :=
  let key := edgeKey k p
  { s with fab := { s.fab with edgeIn := s.fab.edgeIn.put key (s.fab.edgeIn.get key [] ++ l) [] } }

/-! ## WEIGHT (R241 to R243) -/

/-- The source bytes of a lane's chunk, elements then scales, and whether a line of them is poisoned. -/
def State.chunkSrc (s : State) (k : Nat) (d : SDesc) (e b l j : Nat) : Bytes × Bytes × Bool :=
  let mx := isMx (d.srcf.setWidth 5)
  let a := d.elemAt e b l j
  let n := e * b / 8
  let c := d.scaleAt e l j
  let m := if mx then e / 32 else 0
  let bad := (s.posn k).nearBad
  (s.nearRd k a n, s.nearRd k c m, anyBad bad a n || (mx && anyBad bad c m))

/-- A lane's row converted (R242): its bytes, and the class and magnitude of what was converted. -/
def convRow (dst : Elem) (mx : Bool) (code : Option Nat) (ctl : Nat) (draws : List Nat) (base : Nat) (vals : List FV) :
    Bytes × List Cls :=
  let n := vals.length
  if mx then
    let bs := (List.range (n / 32)).map (fun b =>
      let vs := (vals.drop (32 * b)).take 32
      let rs := (List.range 32).map (fun j => ctlRnd ctl draws (base + 32 * b + j))
      encBlock dst (code.getD (localScale dst vs)) (ctlIeee ctl) rs vs)
    (packCodes dst.bits (bs.flatMap (fun x => x.2.map (·.1))) ++ bs.map (fun x => BitVec.ofNat 8 x.1),
     bs.flatMap (fun x => x.2.map (·.2)))
  else
    let es := (vals.zipIdx).map (fun v => dst.enc (ctlRnd ctl draws (base + v.2)) (ctlIeee ctl) v.1)
    (packCodes dst.bits (es.map (·.1)), es.map (·.2))

/-- Count a conversion of a dealer for its tensor; a non-finite element of a GATE tensor raises NONFIN (R262, R272). -/
def State.dealCensus (s : State) (k tensor : Nat) (ks : List Cls) (amax : Nat × Int) : State :=
  let r := s.amaxWord amax
  let s := r.2.onDealer k (fun d => { d with
    cens := d.cens.put tensor ((d.cens.get tensor CSlot.reset).count ks r.1) CSlot.reset })
  match s.tensor tensor with
  | none => s
  | some t => if t.flag 1 && ks.contains .nonfin then s.nonfin else s

/-- The scale code of a tensor under HISTORY; no rule gives one for a tensor that the table lacks. -/
def State.tensorCode (s : State) (i : Nat) : Nat × State :=
  match s.num.scale.find? i with
  | some c => (c.code, s)
  | none => (s.freeB.1.toNat, s.freeB.2)

/-- Whether an element of a descriptor's lane rows is padding (R51): the row's length in its tensor is not a multiple of 32, and the element lies beyond it in
the row's final block. The rows begin at ADDR (log 211). -/
def State.padded (s : State) (d : SDesc) (x : Nat) : Bool :=
  match s.tensor d.tensor.toNat with
  | none => false
  | some t =>
    let n := t.dims.headD 0
    n % 32 != 0 && decide (n ≤ x % roundUp n 32)

/-- The rows of a fill, each with its scaled values, and whether a source line was poisoned (R241, R242). Padding becomes code 0 and is not counted
(R51, R64). -/
def State.fillRows (s : State) (k : Nat) (d : SDesc) (j : Nat) : State × List Bytes × Bool :=
  let src := d.srcf.setWidth 5
  let dst := d.dstf.setWidth 5
  let e := chunkOf dst
  let ls := lanesOf d.mask
  match elemOf src, elemOf dst with
  | some se, some de =>
    let raw := ls.map (fun l => s.chunkSrc k d e se.bits l j)
    let bad := raw.any (fun x => x.2.2)
    if src = dst then (s, raw.map (fun x => x.1 ++ x.2.1), bad)
    else
      let vals := raw.map (fun x => (List.range e).map (fun i =>
        let v := se.dec (codeAt x.1 se.bits i)
        if s.padded d (j * e + i) then .num false 0 0
        else if isMx src then scaled (x.2.1.getD (i / 32) 0).toNat v else v))
      let ctl := d.ctl.toNat
      let g := if ctlSr ctl then draws (e * ls.length / 4) (s.dealer k).gen else ((s.dealer k).gen, [])
      let s := s.onDealer k (fun x => { x with gen := g.1 })
      let c := if ctlHistory ctl && isMx dst then (let r := s.tensorCode d.tensor.toNat; (some r.1, r.2)) else (none, s)
      let out := (vals.zipIdx).map (fun v => convRow de (isMx dst) c.1 ctl g.2 (e * v.2) v.1)
      let counted := fun (ks : List Cls) => ((ks.zipIdx).filter (fun x => !s.padded d (j * e + x.2))).map (·.1)
      (c.2.dealCensus k d.tensor.toNat (out.flatMap (fun x => counted x.2)) (amaxOf vals.flatten), out.map (·.1), bad)
  | _, _ => (s, [], false)

/-- The bytes of a fill: rows, then the checker rows, padded to whole flits (R76, R95, R243). -/
def fillBytes (dst : BitVec 5) (rows : List Bytes) : Bytes :=
  let e := chunkOf dst
  let vals := rows.map (chunkVals dst)
  let b := rows.flatten ++ (sumRowOf e vals).flatMap (fun w => leBytes 4 w.toNat) ++
    (magRowOf e vals).flatMap (fun w => leBytes 2 w.toNat)
  slice b 0 (roundUp b.length 64)

/-- Send one fill (R243). -/
def State.sendFill (s : State) (k : Nat) (d : SDesc) (j : Nat) : State :=
  let r := s.fillRows k d j
  let fl := (flitsOf (fillBytes (d.dstf.setWidth 5) r.2.1)).map (fun f => { f with poison := r.2.2 })
  match onesOf d.ports.toNat 3 with
  | [p] => r.1.toEdge k p fl
  | p :: q :: _ =>
    let pick := fun (o : Nat) => ((fl.zipIdx).filter (fun x => x.2 % 2 == o)).map (·.1)
    (r.1.toEdge k p (pick 0)).toEdge k q (pick 1)
  | [] => r.1

/-! ## Lines and stores (R243, R311, R335) -/

/-- Whether a list entry, from a part on, reads a line of a pot on a stack. -/
def State.readsPot (s : State) (k : Nat) (pe : PotEnt) (a : Access) : Bool :=
  (pe.entriesOn k).any (fun i => inRuns a.rd (pe.hiOff s.ordered i / 64))

/-- Whether the sweep has still to read a pot on a stack: a descriptor that is not done, or not read yet. -/
def State.potUnread (s : State) (pe : PotEnt) (k : Nat) : Bool :=
  ((s.dealer k).opened.map (fun o => s.restOf k o) ++
    ((s.dealer k).descs.drop (s.descIndex k)).map (fun d => d.access 0 0 d.count.toNat)).any (s.readsPot k pe)

/-- A descriptor of the sweep part is done. Where it made the sweep's last read of a sealed pot of this seat, the seal checksum is made again over the pot's
hi words; a difference is SEAL_MISMATCH, and a fault (R311). -/
def State.sealRead (s : State) (k : Nat) (d : SDesc) : State :=
  if !(s.hand.sweep && s.on R.PT_CTRL_SEAL_CHK) then s
  else
    s.each (s.pots_.zipIdx) (fun s p =>
      let pe := p.1
      let kept := pe.stacks.foldl (fun (a : W64) k => a ^^^ (s.posn k).pot.mirrorSum.get p.2 0) 0
      if pe.kind = 0 ∧ pe.owner = s.rank ∧ pe.stacks.contains k ∧ s.readsPot k pe (d.access 0 0 d.count.toNat) ∧
          !pe.stacks.any (s.potUnread pe) ∧ s.sealSum pe ≠ kept then
        (s.freeW.2.emit 0x020D [.w4 p.2, .w4 s.freeW.1.toNat]).misdeal 7
      else s)

/-- Store one line: a tracked line's shadow takes the XOR of the new and the old contents (R335). -/
def State.storeLine (s : State) (k off : Nat) (f : Flit) : State :=
  let old := s.nearRd k off 64
  let b := flitBytes f
  let s := s.putLine k off b f.poison
  if tracked off then s.nearWr k (shadowOf off) (List.zipWith (· ^^^ ·) b old) else s

/-- The 24 bytes of a gather request (R360). -/
def greqBytes (r : GReq) : Bytes :=
  leBytes 8 r.hand.toNat ++ leBytes 4 r.shard.toNat ++ leBytes 4 r.first ++ leBytes 2 r.lines ++ leBytes 1 r.pos ++ zeros 1 ++
    leBytes 4 r.tag.toNat

/-- Answer a gather request from lines of a piece at a position, with a version (R246, R364). -/
def State.serve (s : State) (src : Nat) (r : GReq) (p : Piece) (v : W64) (ecc : LineEcc) : State :=
  let off := p.off + 64 * r.first
  let s := s.rangeEcc true r.pos off (64 * r.lines) ecc (requester 10 src)
  let bad := (List.range r.lines).foldl (fun n i => n + b2n (s.badNear r.pos ((off + 64 * i) / 64)) * 2 ^ i) 0
  s.sendTo src 2 0x02 (greqBytes r ++ leBytes 8 v.toNat ++ leBytes 8 bad ++ zeros 8 ++ s.nearRd r.pos off (64 * r.lines))

/-- Whether a STORE with VSET is writing a piece (R246). -/
def State.vsetOpen (s : State) (k : Nat) (shard : W32) : Bool :=
  (s.dealer k).opened.any (fun o => o.begun && o.d.kind == 3 && bitOf o.d.flags.toNat 2 && o.d.shard == shard)

/-- Whether a request waits at its owner: for the STORE that writes the piece (R246), or, of a stage piece, for its hand's version (R365). -/
def State.waitsAt (s : State) (p : Piece) (r : GReq) : Bool :=
  s.vsetOpen r.pos r.shard || (bitOf r.shard.toNat 31 && decide (p.version.toNat < r.hand.toNat))

/-- Answer the requests that wait at a position and need wait no longer (R246, R365). -/
def State.unpark (s : State) (k : Nat) : State :=
  let due := fun (q : ParkedReq) => q.req.pos == k && ((s.dealer k).piece q.req.shard).any (fun p => !s.waitsAt p q.req)
  let l := s.link.parked.filter due
  let s := { s with link := { s.link with parked := s.link.parked.filter (fun q => !due q) } }
  s.each l (fun s q => match (s.dealer k).piece q.req.shard with
    | none => s
    | some p => s.serve q.src q.req p p.version q.ecc)

/-! ## GATHER (R246, R247, R363) -/

/-- The home slot of a shard. -/
def homeSlot (shard : W32) : Nat := shard.toNat % 1024
/-- Whether a shard is a stage piece. -/
def stagePiece (shard : W32) : Bool := bitOf shard.toNat 31
/-- Owner rank of a shard. -/
def State.ownerOf (s : State) (shard : W32) : Nat := s.getI R.LK_HOME_OWNER (homeSlot shard)
/-- Mirror rank of a shard. -/
def State.mirrorOf (s : State) (shard : W32) : Nat := s.getI R.LK_HOME_MIRROR (homeSlot shard)

/-- Send one gather request of a dealer to a rank, under the dealer's next tag. -/
def State.askLines (s : State) (k rank : Nat) (g : OpenGather) : State :=
  let tag := (s.dealer k).nextTag
  let s := s.onDealer k (fun d => { d with nextTag := tag + 1, gathers := d.gathers ++ [{ g with tag := tag }] })
  s.sendHand rank 2 0x01 (greqBytes ⟨s.hand.hand, g.shard, g.first, g.lines, k, tag⟩)

/-- GATHER_FAIL (R247): the seats tried, and the hand is misdealt. -/
def State.gatherFail (s : State) (k : Nat) (g : OpenGather) : State :=
  (({ s with } : State).onDealer k (fun d => { d with gathers := d.gathers.erase g })
    |>.emit 0x040E [.w4 g.shard.toNat, .w4 (if g.retried then 2 else 1)]).misdeal 7

/-- GATHER_TIMEOUT: a request that drew no response goes once to the mirror seat, or fails; one that is parked does not time out here
(R247, R363, R365). -/
def execGatherTimeout (pos : Nat) (tag : W32) (s : State) : Host.Outcome State Fault Refusal :=
  .next (match (s.dealer pos).gathers.find? (fun g => g.tag == tag) with
    | none => s
    | some g =>
      if g.parked then s
      else
        let m := s.mirrorOf g.shard
        let o := s.ownerOf g.shard
        if g.retried || !s.on R.LK_CTRL_MIRROR || !s.on R.DL_CTRL_MIRROR_RETRY || m == o || stagePiece g.shard then s.gatherFail pos g
        else
          let s := s.onDealer pos (fun d => { d with gathers := d.gathers.erase g })
          (s.emit 0x040D [.w4 g.shard.toNat, .w4 o, .w4 m]).askLines pos m { g with retried := true })

/-! ## Deltas (R335, R337) -/

/-- The tracked part of a STOCK_OUT's source: its first line's index and how many lines. -/
def trackedPart (a n : Nat) : Nat × Nat :=
  let l := (List.range n).filter (fun i => tracked (a + 64 * i))
  (l.headD 0, l.length)

/-- Whether a later STOCK_OUT of the list writes tracked lines. -/
def State.moreOut (s : State) (k idx : Nat) : Bool :=
  ((s.dealer k).descs.drop (idx + 1)).any (fun d => d.kind == 6 && d.count != 0 &&
    decide (0 < (trackedPart d.addr.toNat d.count.toNat).2))

/-- The delta segments of a STOCK_OUT, parts of at most 4 MiB, as (base, words, body, whether it is the last part) (R337). -/
def State.deltaParts (s : State) (k : Nat) (d : SDesc) : List (Nat × Nat × Bytes × Bool) :=
  let t := trackedPart d.addr.toNat d.count.toNat
  let n := (t.2 + segLines - 1) / segLines
  (List.range n).map (fun i =>
    let lo := t.1 + segLines * i
    let m := min segLines (t.2 - segLines * i)
    let x := wordsOf (s.nearRd k (shadowOf (d.addr.toNat + 64 * lo)) (64 * m))
    (d.addr2.toNat + 64 * lo, 16 * m, deltaRuns 0 [] x, i + 1 == n))

/-- Stage the delta of a STOCK_OUT; none while staging has no room for it (R335, R339). -/
def State.stageDelta (s : State) (k : Nat) (o : OpenDesc) : Option State :=
  if !s.deltaCodes then some s
  else
    let ps := s.deltaParts k o.d
    let more := s.moreOut k o.idx || decide (1 < o.runs)
    let t := s.each ps (fun s p => s.stage k 1 (s.segment
      ⟨1, k, 0, p.2.2.2 && !more, s.segSeq k 1, p.1, p.2.1⟩ p.2.2.1))
    if t.staged k ≤ stagingSize then some t else none

/-! ## What a dealer does next (R238 to R249, R328, R329, R335) -/

/-- A fill goes out (R241 to R243); none without room for it in the read-ahead buffers. -/
def State.weightUnit (s : State) (k : Nat) (o : OpenDesc) (a : Access) : Option State :=
  let r := s.dealEcc k o a
  let t := r.1.sendFill k o.d o.at_
  if t.aheadFits k then some (t.putOpen k o.id (r.2.on 1)) else none

/-- A line goes out as one flit; a poisoned line's flit carries POISON (R229, R243). -/
def State.linesUnit (s : State) (k : Nat) (o : OpenDesc) (a : Access) : Option State :=
  let r := s.dealEcc k o a
  let off := o.d.addr.toNat + 64 * o.at_
  let t := r.1.toEdge k ((onesOf o.d.ports.toNat 3).headD 0) [{ flitOf (r.1.nearRd k off 64) with poison := r.1.badNear k (off / 64) }]
  if t.aheadFits k then some (t.putOpen k o.id (r.2.on 1)) else none

/-- An arriving flit becomes one line; with VSET the version of the piece becomes the hand when the last line is written (R243, R244). A line that an
export of the previous state has not read waits for it (R345). -/
def State.storeUnit (s : State) (k : Nat) (o : OpenDesc) : Option State :=
  let key := edgeKey k ((onesOf o.d.ports.toNat 3).headD 0)
  let off := o.d.addr.toNat + 64 * o.at_
  match s.fab.edgeOut.get key [] with
  | [] => none
  | f :: l =>
    if s.exporting k 1 off 1 then none
    else
      let s := { s with fab := { s.fab with edgeOut := s.fab.edgeOut.put key l [] } }
      let s := (s.storeLine k off f).putOpen k o.id (o.on 1)
      some (if bitOf o.d.flags.toNat 2 && (o.on 1).isNone then s.onDealer k (fun x => x.setVersion o.d.shard s.hand.hand) else s)

/-- A request of up to 64 lines goes to the shard's owner (R246). -/
def State.gatherUnit (s : State) (k : Nat) (o : OpenDesc) : State :=
  let n := min 64 (o.d.count.toNat - o.at_)
  (s.putOpen k o.id (some { o with at_ := o.at_ + n, begun := true })).askLines k (s.ownerOf o.d.shard)
    ⟨0, o.d.shard, o.d.addr2.toNat + o.at_, n, o.d.flags, false, false, o.id⟩

/-- A slice line moves into sweep staging; the shadow of a tracked line is written as zero (R248, R335). -/
def State.stockInUnit (s : State) (k : Nat) (o : OpenDesc) (a : Access) : State :=
  let r := s.dealEcc k o a
  let src := o.d.addr.toNat + 64 * o.at_
  let dst := o.d.addr2.toNat + 64 * o.at_
  let s := r.1.putLine k dst (r.1.stockRd k src 64) (r.1.badStock k (src / 64))
  (if tracked dst then s.nearWr k (shadowOf dst) (zeros 64) else s).putOpen k o.id (r.2.on 1)

/-- A sweep block's lines go back to the stock, and the delta coder stages what changed (R328, R335, R337). It waits while an export of the previous
state has not read the lines, and while staging has no room, with DELTA_HELD (R329, R339). Once begun it is done whole (R328). -/
def State.stockOutUnit (s : State) (k : Nat) (o : OpenDesc) (a : Access) : Option State :=
  let n := o.d.count.toNat
  if s.exporting k 0 o.d.addr2.toNat n then none
  else
    let r := s.dealEcc k o a
    match r.1.stageDelta k o with
    | none => if s.hand.deltaHeld then none else some (s.deltaHeld k)
    | some t => some ((t.each (List.range n) (fun s i =>
        let src := o.d.addr.toNat + 64 * i
        s.putStock k (o.d.addr2.toNat + 64 * i) (s.nearRd k src 64) (s.badNear k (src / 64)))).putOpen k o.id (r.2.on n))

/-- What a descriptor that has its turn does next, by its kind. -/
def State.kindUnit (s : State) (k : Nat) (o : OpenDesc) (a : Access) : Option State :=
  match o.d.kind.toNat with
  | 1 => s.weightUnit k o a
  | 2 => s.linesUnit k o a
  | 3 => s.storeUnit k o
  | 4 => some (s.gatherUnit k o)
  | 5 => some (s.stockInUnit k o a)
  | _ => s.stockOutUnit k o a

/-- The version rule at a start (R245): a stale deal consumes nothing. A GATHER has it as its responses arrive. -/
def State.versionUnit (s : State) (k : Nat) (o : OpenDesc) (run : State → Option State) : Option State :=
  if o.begun ∨ o.d.kind = 4 ∨ bitsOf o.d.flags.toNat 0 2 = 0 then run s
  else match (s.dealer k).piece o.d.shard with
    | none => some ((s.streamFault k).putOpen k o.id none)
    | some p => match s.versions k o.d.flags o.d.shard p.version with
      | none => some ((s.staleDeal k o.d.shard p.version).putOpen k o.id none)
      | some t => run t

/-- One step of a descriptor: a fill, a line, a request or a whole STOCK_OUT; none while it must wait. A GATHER is done with its last response. -/
def State.unit (s : State) (k : Nat) (earlier : List OpenDesc) (o : OpenDesc) : Option State :=
  let n := o.d.count.toNat
  if o.d.kind = 4 ∧ n ≤ o.at_ then
    if (s.dealer k).gathers.any (fun g => g.by_ == o.id) then none else some (s.putOpen k o.id (o.on 0))
  else
    let a := o.d.access (s.pieceOff k o.d) o.at_ (if o.d.kind = 4 then min 64 (n - o.at_) else if o.d.kind = 6 then n else 1)
    if !(o.begun || s.mayBegin k o) || !s.hasEntry k || s.behind k earlier o.d a then none
    else s.versionUnit k o (fun s => s.kindUnit k o a)

/-- The next thing that a dealer can do, in list order; none when every descriptor must wait. -/
def State.nextUnit (s : State) (k : Nat) (earlier : List OpenDesc) : List OpenDesc → Option State
  | [] => none
  | o :: l => match s.unit k earlier o with
    | some t => some (if (t.dealer k).opened.any (fun e => e.id == o.id) then t else t.sealRead k o.d)
    | none => s.nextUnit k (earlier ++ [o]) l

/-- Everything that a dealer can do now, at most `n` steps. -/
def State.units (s : State) (k : Nat) : Nat → State
  | 0 => s
  | n + 1 =>
    if !s.working k then s
    else match s.nextUnit k [] (s.dealer k).opened with
      | none => s
      | some t => t.units k n

/-- More steps than a dealer's buffers, lines and requests let it take at once. -/
def unitLimit : Nat := 2 ^ 50

/-- Everything that can happen now at the dealer of a position: its descriptors, then the requests that wait there (R246), then the end of the sweep. -/
def State.pump (s : State) (k : Nat) : State := ((s.units k unitLimit).unpark k).settle

/-! ## Descriptors (R233 to R236) -/

/-- The dealer reads the next descriptor of its list: a reserved value is the stream fault (R235); one with COUNT 0 is done at once (R236;
log 228). -/
def State.readDesc (s : State) (k : Nat) (d : SDesc) (kind : Nat) (ecc : LineEcc) : State :=
  if !s.dealing k then s
  else if d.reserved then s.streamFault k
  else if d.kind.toNat ≠ kind then s
  else if d.count = 0 then (s.nextDesc k).settle
  else
    let o : OpenDesc := ⟨(s.dealer k).nextId, d, s.descIndex k, s.waitBeat k d, ecc, d.rept.toNat + 1, 0, false, none⟩
    ((s.nextDesc k).onDealer k (fun x => { x with opened := x.opened ++ [o], nextId := o.id + 1 })).pump k

/-- WEIGHT: COUNT fills, one for each chunk (R241 to R243). -/
def execWeight (pos : Nat) (d : SDesc) (ecc : LineEcc) (s : State) : Host.Outcome State Fault Refusal := .next (s.readDesc pos d 1 ecc)

/-- LINES: each line leaves as one flit (R243). -/
def execLines (pos : Nat) (d : SDesc) (ecc : LineEcc) (s : State) : Host.Outcome State Fault Refusal := .next (s.readDesc pos d 2 ecc)

/-- STORE: each arriving flit becomes one line (R243). -/
def execStore (pos : Nat) (d : SDesc) (s : State) : Host.Outcome State Fault Refusal := .next (s.readDesc pos d 3 ⟨[], [], []⟩)

/-- GATHER: requests of up to 64 lines each to the shard's owner (R246). -/
def execGather (pos : Nat) (d : SDesc) (s : State) : Host.Outcome State Fault Refusal := .next (s.readDesc pos d 4 ⟨[], [], []⟩)

/-- STOCK_IN: slice lines move into sweep staging (R248, R335). -/
def execStockIn (pos : Nat) (d : SDesc) (ecc : LineEcc) (s : State) : Host.Outcome State Fault Refusal := .next (s.readDesc pos d 5 ecc)

/-- STOCK_OUT: a sweep block's lines go back to the stock (R328, R335). -/
def execStockOut (pos : Nat) (d : SDesc) (ecc : LineEcc) (s : State) : Host.Outcome State Fault Refusal := .next (s.readDesc pos d 6 ecc)

/-! ## Patrol scrubbers (R228 to R230) -/

/-- What a scrubber's pass reports of one position: corrected lines, lines that it poisons in place with UE_READ and UE_SCRUB, and
SCRUB_PASS at its end (R229, R230, R554). -/
def State.scrub (s : State) (near : Bool) (k reader : Nat) (e : LineEcc) : State :=
  let s := s.corrected near k e.ce.length
  let s := s.each e.ue (fun s l => (s.newUe near k l reader).emit 0x0404 [.w4 k, .w8 (64 * l)])
  s.emit 0x0406 [.w4 k, .w4 (b2n !near)]

/-- NEAR_SCRUB: a pass over a stack; not with the scrubber off, a period of 0, or the stack out of service (R230). -/
def execNearScrub (pos : Nat) (ecc : LineEcc) (s : State) : Host.Outcome State Fault Refusal :=
  .next (if s.on R.DL_CTRL_SCRUB_N && s.rd R.DL_SCRUB_NEAR_H != 0 && s.inSvc pos then s.scrub true pos (requester 8 pos) ecc else s)

/-- STOCK_SCRUB: a pass over both slices of a far controller (R226, R230). -/
def execStockScrub (far : Nat) (ecc : LineEcc) (ecc2 : LineEcc) (s : State) : Host.Outcome State Fault Refusal :=
  let one := fun (s : State) (k : Nat) (e : LineEcc) => if s.inSvc k then s.scrub false k (requester 9 far) e else s
  .next (if s.on R.DL_CTRL_SCRUB_S && s.rd R.DL_SCRUB_STOCK_H != 0 then one (one s (2 * far) ecc) (2 * far + 1) ecc2 else s)

end Sys2Proof.Machine
end

