-- ==== Sys2Proof/Machine/Census.lean ====
section
/-! DEFINITION. The census collector (R263 to R266), the scale chooser (R267, R268), the silence watch (R269 to R271), and the stage and
noise reports of the census series (R374, R376). -/

namespace Sys2Proof.Machine

/-! ## Counts of a hand (R259, R262, R263, R266) -/

/-- Add the counts of one slot to another's, saturating, and keep the larger amax (R259). -/
def CSlot.join (a b : CSlot) : CSlot :=
  { a with
    total := min (a.total + b.total) sat48
    zero := min (a.zero + b.zero) sat48
    uflow := min (a.uflow + b.uflow) sat48
    sat := min (a.sat + b.sat) sat48
    nonfin := min (a.nonfin + b.nonfin) sat48
    amax := if a.amax.toNat < b.amax.toNat then b.amax else a.amax }

/-- The counts that a census line holds; an AMAX that is no finite magnitude gives 0 (R258). -/
def lineCounts (b : Bytes) : CSlot :=
  let w := BitVec.ofNat 32 (field b 0x28 4)
  { CSlot.reset with
    total := field b 0 6, zero := field b 8 6, uflow := field b 16 6, sat := field b 24 6, nonfin := field b 32 6
    amax := if (f32 w).finite && decide (w.toNat < 2 ^ 31) then w else 0 }

/-- The census lines that the plan uses, once each: tile, line index, tensor. -/
def State.planLines (s : State) : List (Nat × Nat × Nat) := (s.num.plan.map (fun p => (p.tile, p.index, p.tensor))).eraseDups

/-- Whether a census line of the hand cannot be read: its tile has no clocks, or a word of it is uncorrectable (R120, R266). -/
def State.lineBad (s : State) (t i : Nat) : Bool :=
  !s.fieldOn (tileField t) || ((s.tile t).ueIn (64 * s.censusLine i s.hand.hand.toNat) 64).isSome

/-- Whether a dealer's counters for a tensor are lost with its position (R279). -/
def State.countsLost (s : State) (k tensor : Nat) : Bool :=
  (!s.inSvc k || (s.posn k).leave != 0) && (s.dealer k).descs.any (fun d => d.kind == 1 && d.srcf != d.dstf && d.tensor.toNat == tensor)

/-- The counts of a tensor over the hand. -/
def State.tally (s : State) (tensor : Nat) : CSlot :=
  let a := (s.planLines.filter (fun p => p.2.2 == tensor && !s.lineBad p.1 p.2.1)).foldl (fun (c : CSlot) p =>
    c.join (lineCounts ((s.tile p.1).sram.bytes (64 * s.censusLine p.2.1 s.hand.hand.toNat) 64))) CSlot.reset
  (allPos.filter (fun k => !s.countsLost k tensor)).foldl (fun c k => c.join ((s.dealer k).cens.get tensor CSlot.reset)) a

/-- Where counts of a tensor could not be read: tiles, then positions (R266). -/
def State.unread (s : State) (tensor : Nat) : List Nat :=
  (s.planLines.filter (fun p => p.2.2 == tensor && s.lineBad p.1 p.2.1)).map (·.1) ++ allPos.filter (fun k => s.countsLost k tensor)

/-! ## The scale chooser (R267) -/

/-- The smallest e with amax × 2^HEAD at most the element format's largest magnitude × 2^e, as the code e + 127. -/
def baseCode (el : Elem) (head : Nat) (amax : FV) : Int :=
  match amax with
  | .num _ m x =>
    let a := (m, x + (head : Int))
    let mx := el.maxMag
    let e0 := topBit a.1 a.2 - topBit mx.1 mx.2
    (if magLe a.1 a.2 mx.1 (mx.2 + e0) then e0 else e0 + 1) + 127
  | _ => 127

/-- What one run of the chooser gives: the tensor's new state, whether a floor applies, whether one was set, whether the code was
clamped. -/
structure Chosen where
  st : Scale
  applies : Bool
  set : Bool
  clamped : Bool
  deriving DecidableEq, Repr

/-- One run of the chooser for a tensor with its counts (R267); with CHOOSER_EN 0 only the history moves (R281). -/
def choose (en : Bool) (head backoff hold : Nat) (t : Tensor) (c : CSlot) (x : Scale) : Chosen :=
  let hist := if 0 < c.total then (x.hist ++ [c.amax]).drop (x.hist.length + 1 - 16) else x.hist
  let x := { x with hist := hist }
  if !en then ⟨x, false, false, false⟩
  else
    let hmax := hist.foldl (fun (a : W32) w => if a.toNat < w.toNat then w else a) 0
    let base : Int := if hmax = 0 then t.initCode.toNat
      else match elemOf t.fmt with | none => t.initCode.toNat | some el => baseCode el head (f32 hmax)
    let set := decide (0 < c.sat) || decide (0 < c.nonfin)
    let x := if set then { x with floor := x.code + backoff, floorHands := hold } else x
    let applies := decide (0 < x.floorHands)
    let next := if applies then max base (x.floor : Int) else base
    let clamp := min (max next 0) 0xFE
    let code := if x.pinned then x.pinCode else clamp.toNat
    ⟨{ x with code := code, floorHands := x.floorHands - 1 }, applies, set, decide (clamp ≠ next)⟩

/-! ## The silence watch (R269, R270) -/

/-- Whether a tensor is empty (R255). -/
def Tensor.empty (t : Tensor) : Bool := t.dims.contains 0
/-- Whether a hand is silent for a tensor (R269). -/
def CSlot.silent (c : CSlot) (ppm : Nat) : Bool := decide (ppm * c.total ≤ (c.zero + c.uflow) * 1000000)
/-- Whether every counted element of a tensor is zero or underflows (R265). -/
def CSlot.allZero (c : CSlot) : Bool := decide (0 < c.total) && decide (c.zero + c.uflow = c.total)

/-- RUN after a hand (R269). -/
def runAfter (ppm : Nat) (empty : Bool) (c : CSlot) (run : Nat) : Nat :=
  if empty then run else if c.silent ppm then min (run + 1) 65535 else 0

/-! ## Records (R264, R265) -/

/-- Bytes of delta and census staging in all positions in service, and what is staged (R37). -/
def State.stagingRoom (s : State) : Bool :=
  decide (64 * s.num.recs.length + (s.num.segs.map List.length).sum + 64 ≤ s.svc.length * gib)

/-- Write one record of the census series, whose bytes depend on its SEQ; with the staging full it is dropped and counted (R264). -/
def State.record (s : State) (b : W32 → Bytes) : State :=
  let q := BitVec.ofNat 32 (s.rd R.NM_REC_SEQ_SEQ) + 1
  let s := s.wr R.NM_REC_SEQ_SEQ q.toNat
  let s := s.wr64 R.NM_HAND_LO_HAND R.NM_HAND_HI_HAND s.hand.hand.toNat
  let body := slice (b q) 0 60
  if s.stagingRoom then
    { s with num := { s.num with recs := s.num.recs ++ [body ++ leBytes 4 (crc32c body).toNat] } }
  else ({ s with num := { s.num with lostNow := s.num.lostNow + 1 } } : State).bump R.NM_LOST_COUNT 1

/-- The first 60 bytes of a census record (R265). -/
def censusBody (hand : W64) (i : Nat) (t : Tensor) (flags : Nat) (c : CSlot) (code next run : Nat) (q : W32) : Bytes :=
  leBytes 8 hand.toNat ++ leBytes 4 i ++ leBytes 2 t.layer ++ leBytes 1 t.kind ++ leBytes 1 flags ++ leBytes 6 c.total ++
    leBytes 6 c.zero ++ leBytes 6 c.uflow ++ leBytes 6 c.sat ++ leBytes 6 c.nonfin ++ leBytes 1 code ++ leBytes 1 next ++
    leBytes 4 c.amax.toNat ++ leBytes 2 run ++ zeros 2 ++ leBytes 4 q.toNat

/-- What the hand's outcome says of its records. -/
def State.misdealtHand (s : State) : Bool := match s.hand.outcome with | some (0x47, _) => true | _ => false
def State.skippedHand (s : State) : Bool := match s.hand.outcome with | some (0x04, _) => true | _ => false

/-- One tensor of the collection: the chooser, the watch, its record and its events (R264 to R270; log 229). The result also says whether a
floor was set. -/
def State.collectOne (s : State) (i : Nat) (t : Tensor) : State × Bool :=
  let c := s.tally i
  let bad := s.unread i
  let mis := s.misdealtHand
  let hist := t.flag 0
  let x := (s.num.scale.get i Scale.reset)
  let old := if hist then x.code else 0
  let ch : Chosen := if mis || !hist then ⟨x, false, false, false⟩
    else choose (s.on R.NM_CTRL_CHOOSER_EN) (s.rd R.NM_CHOOSER_HEAD) (s.rd R.NM_CHOOSER_BACKOFF) (s.rd R.NM_CHOOSER_HOLD) t c x
  let empty := t.empty || c.total == 0
  let run := if mis || !t.flag 2 then x.run else runAfter (s.rd R.NM_SIL_SHARE_PPM) empty c x.run
  let N := s.rd R.NM_SIL_HANDS_N
  let st := { ch.st with run := run }
  let s := { s with num := { s.num with scale := s.num.scale.ins i st } }
  let s := s.each bad (fun s u => s.emit 0x0108 [.w4 i, .w4 u])
  let s := if ch.clamped then s.emit 0x0104 [.w4 i, .w4 st.code] else s
  let watch := s.on R.NM_CTRL_WATCH_EN && decide (0 < N)
  let s := if watch && decide (x.run < run) && run % N == 0 then s.emit 0x0105 [.w4 i, .w4 run] else s
  let s := if watch && run == 0 && decide (N ≤ x.run) then s.emit 0x0106 [.w4 i, .w4 x.run] else s
  let flags := b2n empty + 2 * b2n c.allZero + 4 * b2n (decide (N ≤ run)) + 8 * b2n ch.applies + 16 * b2n s.skippedHand +
    32 * b2n mis + 64 * b2n (!bad.isEmpty)
  let s := if s.on R.NM_CTRL_CENSUS_EN then
      s.record (censusBody s.hand.hand i t flags c old (if hist then st.code else 0) run)
    else s
  (s, ch.set)

/-- NONFIN_SEEN, SAT_SEEN or BACKOFF: how many tensors, and the lowest (R267, R273). -/
def State.seen_ (s : State) (code : Nat) (l : List Nat) : State :=
  match l with
  | [] => s
  | i :: _ => s.emit code [.w8 s.hand.hand.toNat, .w4 l.length, .w4 i]

/-- LAYER_SILENT of every layer whose WATCH tensors that are not EMPTY are all ALLZERO, at least one being there (R271). -/
def State.layerSilent (s : State) : State :=
  let ts := (s.num.tensors.zipIdx).filter (fun t => t.1.flag 2)
  let tag := ts.map (fun t => (t.1.layer, t.1.empty || (s.tally t.2).total == 0, (s.tally t.2).allZero))
  let full := tag.filter (fun t => !t.2.1)
  let layers := (full.map (·.1)).eraseDups
  s.each (layers.filter (fun l => (full.filter (fun t => t.1 == l)).all (·.2.2))) (fun s l =>
    s.emit 0x0107 [.w4 l, .w8 s.hand.hand.toNat])

/-- The stage report's first 60 bytes (R374). -/
def State.stageBody (s : State) (peak tile : Nat) (q : W32) : Bytes :=
  let fp := s.footprint
  let n := max 1 fp.length
  let play := match s.curImage, s.hand.running with
    | some m, some d => m.beatsFixed + d.d.mbCount.toNat * m.beatsPerMb
    | _, _ => 0
  let crib := (allPos.map (fun k => (s.posn k).pot.cribPeak)).foldl max 0
  leBytes 8 s.hand.hand.toNat ++ leBytes 4 0xFFFFFFFE ++ leBytes 2 (s.rd R.LK_STAGE_STAGE) ++ leBytes 1 0 ++
    leBytes 1 (32 * b2n s.misdealtHand) ++ leBytes 4 peak ++ leBytes 2 tile ++ leBytes 2 (crib / 2 ^ 20) ++ zeros 8 ++
    leBytes 8 play ++ leBytes 8 ((fp.map (fun t => (s.tile t).mtxBeats)).sum / n) ++
    leBytes 8 ((fp.map (fun t => (s.tile t).sideBeats)).sum / n) ++ leBytes 4 q.toNat

/-- The stage report (R374). Where no tile wrote a line, no tile recorded the peak, and the value is free. -/
def State.stageReport (s : State) : State :=
  if !s.on R.LK_CTRL_STAGE_EN then s
  else
    let best := s.footprint.foldl (fun (b : Option (Nat × Nat)) t => match (s.tile t).maxLine, b with
      | none, b => b
      | some l, none => some (l, t)
      | some l, some c => if c.1 < l then some (l, t) else some c) none
    match best with
    | some (l, t) => s.record (s.stageBody ((l + 1) * 64) t)
    | none => let r := s.freeW; r.2.record (r.2.stageBody 0 (r.1.toNat % 2 ^ 16))

/-- A natural number as binary64. -/
def natD (n : Nat) : W64 := toD64 (.num false n 0)

/-- The noise record's first 60 bytes (R376). -/
def State.noiseBody (s : State) (r : GateRec) (q : W32) : Bytes :=
  let M := r.seats.toNat * r.rounds.toNat
  let nan : W64 := 0x7FF8000000000000
  let sub := fun (a b : W64) => toD64 ((d64 a).sub (d64 b))
  let g2 := if M < 2 then nan else dDiv (sub r.rnorm r.lnorm) (sub (dMul (natD M) (natD M)) (natD M))
  let sc := if M < 2 then nan else dDiv (sub r.lnorm (dDiv r.rnorm (natD M))) (sub (natD M) (natD 1))
  let nonpos := !(d64 g2).isNan && decide ((d64 g2).cmp (.num false 0 0) ≤ 0)
  let flags := b2n (decide (M < 2)) + 2 * b2n nonpos + 16 * b2n s.skippedHand + 32 * b2n s.misdealtHand
  leBytes 8 s.hand.hand.toNat ++ leBytes 4 0xFFFFFFFD ++ leBytes 2 r.seats.toNat ++ leBytes 1 0 ++ leBytes 1 flags ++
    leBytes 8 r.lnorm.toNat ++ leBytes 8 r.rnorm.toNat ++ leBytes 8 g2.toNat ++ leBytes 8 sc.toNat ++ leBytes 4 r.rounds.toNat ++
    zeros 4 ++ leBytes 4 q.toNat

/-- The noise record of a hand whose gate trick completed (R376). -/
def State.noiseReport (s : State) : State :=
  match s.hand.result with
  | none => s
  | some r => if s.on R.LK_CTRL_NOISE_EN then s.record (s.noiseBody r) else s

/-- The hand whose parity the next hand's lines have: the replay of a misdealt hand takes the same number (R263, R279, R326). -/
def State.nextParityHand (s : State) : Nat := if s.misdealtHand then s.hand.hand.toNat else s.hand.hand.toNat + 1

/-- Clear the counts of the next hand's census lines and write its codes (R263). -/
def State.writeCodes (s : State) : State :=
  s.each s.planLines (fun s p =>
    if !s.fieldOn (tileField p.1) then s
    else
      let hist := match s.tensor p.2.2 with | none => false | some t => t.flag 0
      let code := if hist then (s.num.scale.get p.2.2 Scale.reset).code else 0
      s.onTile p.1 (fun x => x.sramWr (64 * s.censusLine p.2.1 s.nextParityHand) (zeros 44 ++ leBytes 1 code)))

/-- The collection of a hand (R263 to R273, R374, R376). -/
def State.collectNow (s : State) : State :=
  let ts := s.num.tensors.zipIdx
  let tallies := ts.map (fun t => (t.2, s.tally t.2))
  let r := ts.foldl (fun (a : State × List Nat) t =>
    let o := a.1.collectOne t.2 t.1
    (o.1, if o.2 then a.2 ++ [t.2] else a.2)) (s, [])
  let s := r.1
  let s := if s.on R.NM_CTRL_WATCH_EN && !s.misdealtHand then s.layerSilent else s
  let non := (tallies.filter (fun c => decide (0 < c.2.nonfin))).map (·.1)
  let sat := (tallies.filter (fun c => decide (0 < c.2.sat))).map (·.1)
  let s := if non.isEmpty then s else s.bump R.NM_NONFIN_HANDS_COUNT 1
  let s := ((s.seen_ 0x0101 non).seen_ 0x0102 sat).seen_ 0x0103 r.2
  let N := s.rd R.NM_SIL_HANDS_N
  let s := s.wr R.NM_SILENT_COUNT ((ts.filter (fun t => decide (N ≤ (s.num.scale.get t.2 Scale.reset).run))).length)
  let s := s.stageReport.noiseReport
  let s := if s.num.lostNow = 0 then s else ({ s with num := { s.num with lostNow := 0 } } : State).emit 0x0109 [.w4 s.num.lostNow]
  let s := s.writeCodes
  let s := s.each allPos (fun s k => if (s.dealer k).cens.isEmpty then s else s.onDealer k (fun d => { d with cens := [] }))
  { s with num := { s.num with collected := true } }

/-- Whether the running hand is over and not collected: its outcome is known (R263). A recovery deal is no hand, and is not
collected. -/
def State.collectDue (s : State) : Bool := s.hand.running.isSome && s.hand.outcome.isSome && !s.num.collected && !s.recovering

/-- CENSUS_COLLECT (R263): after the last END of a hand, or after a misdeal. -/
def execCensusCollect (s : State) : Host.Outcome State Fault Refusal := .next (if s.collectDue then s.collectNow else s)

end Sys2Proof.Machine
end

