-- ==== Sys2Proof/Machine/Rights.lean ====
section
/-! DEFINITION. Who may write a register (R213, R440, R467, R501, R518, R531). -/

namespace Sys2Proof.Machine

/-- The enable registers of CK, which only the supervisor and the debug port write (R440). -/
def isEnable (off : Nat) : Bool := decide (R.CK_EN_FIELD_LO_EN.off ≤ off) && decide (off ≤ R.CK_EN_MISC_PCIE_A.off)

/-- The right of the debug port that a write of a register takes (R518, R531): bit 0 SUPV, 1 WAFER, 2 MEMORY, 3 INJECT. -/
def tapRight (off : Nat) : Nat :=
  if off / 0x100000 = 9 then 0
  else if off = R.FB_TRUMP_CMD_CMD.off then 1
  else if isEnable off || off == R.PW_FUSE_FUSE_A.off || off == R.PW_THERM_THR_C.off then 3
  else if off / 0x100000 = 12 then
    (if R.DB_TSEL_TILE.off ≤ off ∧ off < R.DB_SBP_LO_EN.off then 1 else 0)
  else 2

/-- Whether the host may write a register (R213, R440, R467, R501, R531). -/
def State.hostMayReg (s : State) (off : Nat) : Bool :=
  if off = R.FB_TRUMP_CMD_CMD.off then s.right 1
  else if off / 0x100000 = 9 then off == R.SP_HAND_TO_S.off || off == R.SP_TRANS_LIMIT_LIMIT.off
  else !(isEnable off || off == R.PW_FUSE_FUSE_A.off || off == R.PW_THERM_THR_C.off || off / 0x100000 == 12)

/-- Whether an agent's write of a register counts. The supervisor writes every register but those of the debug port, while it runs;
the debug port writes with the right that the register takes, and DB_CTRL with any (R521). -/
def State.mayWrite (s : State) (who : Agent) (off : Nat) : Bool :=
  match who with
  | .host => s.hostMayReg off
  | .supervisor => s.supvRuns && off / 0x100000 != 12
  | .mgmt => s.supvRuns && off / 0x100000 != 12
  | .tap => if off = R.DB_CTRL_LOCK.off then s.dbgOpen else s.right (tapRight off)

end Sys2Proof.Machine
end

