-- ==== Sys2Proof/Machine/Host.lean ====
section
/-! DEFINITION. The host interface: descriptors (R392 to R404), doorbells (R400, R401), rings (R390, R391, R406 to R410), the
aperture (R387), mailboxes (R411 to R415) and the PCIe endpoints (R384, R417). -/

namespace Sys2Proof.Machine

/-! ## Starting a descriptor (R393, R403, R416) -/

/-- Whether a queue and its completion queue are enabled and not stopped, and hold a submitted descriptor and a free slot. -/
def State.sqOpen (s : State) (q : Nat) : Bool :=
  let c := (s.reg (sqOff q + 0xC)).toNat
  bitOf c 0 && !bitOf c 1 && !(s.sq q).stopping &&
    decide (s.reg (sqOff q + 0x18) ≠ s.reg (sqOff q + 0x1C)) &&
    s.ringOn (.cq q) && !s.ringErr (.cq q) &&
    decide ((s.outq (.cq q)).reserved < s.ringRoom (.cq q))

/-- Whether whatever descriptor stands at the front of a queue can start: the queue is open, no earlier descriptor can hold a fence, and
nothing holds a DEAL (R403, R404, R447). What stands there lies in host memory, so of any other queue this is not known (log 214). -/
def State.surelyStarts (s : State) (q : Nat) : Bool :=
  s.sqOpen q && (s.sq q).started.isEmpty && s.pwr.pstate == .run && !s.on R.HI_CTRL_HOLD_DEALS &&
    s.hand.waiting.isNone && s.hand.sideWait.isNone

/-- PRIO of a submission queue (R422). -/
def State.prio (s : State) (q : Nat) : Nat := bitsOf (s.reg (sqOff q + 0xC)).toNat 2 2

/-- A queue's place in the round robin: how many queues stand between it and the queue served last (R403). -/
def State.sqTurn (s : State) (q : Nat) : Nat := (q + 63 - s.host.lastQ) % 64

/-- Whether no other queue whose next descriptor surely can start is served before this one: the highest PRIO first, round robin within
one PRIO (R403). -/
def State.goesFirst (s : State) (q : Nat) : Bool :=
  (List.range 64).all (fun r => r == q || !s.surelyStarts r || decide (s.prio r < s.prio q) ||
    (s.prio r == s.prio q && decide (s.sqTurn q < s.sqTurn r)))

/-- Whether the module may start the descriptor at the front of a queue now: the queue is open and its turn has come, the supervisor runs,
PCIE_A may fetch it, a fence has nothing before it, and the module is READY or in fatal state (R403, R416, R477). -/
def State.mayStart (s : State) (d : DHdr) : Bool :=
  s.sqOpen d.q && s.supvRuns && s.master 0 && (!bitOf d.flags.toNat 0 || (s.sq d.q).started.isEmpty) &&
    (s.on R.HI_STATUS_READY || s.fatalNow) && s.goesFirst d.q

/-- Start the descriptor at the front of its queue: the head moves, and a completion slot is reserved (R403). -/
def State.take (s : State) (d : DHdr) : State :=
  let z := bitsOf (s.reg (sqOff d.q + 8)).toNat 0 17
  let h := (s.reg (sqOff d.q + 0x18)).toNat
  let s := s.setReg (sqOff d.q + 0x18) (BitVec.ofNat 32 ((h + 1) % z))
  let s := s.setSq d.q { s.sq d.q with started := (s.sq d.q).started ++ [d.cid] }
  let o := s.outq (.cq d.q)
  let s := s.setOutq (.cq d.q) { o with reserved := o.reserved + 1 }
  { s with host := { s.host with lastQ := d.q } }

/-- The offset of the first bad byte of a descriptor: a reserved flag, DATA_B where it is reserved, a nonzero reserved byte that
the fetch found, or a field outside its range (R393, R399). -/
def firstBad (d : DHdr) (noB : Bool) (fields : List (Bool × Nat)) : Option Nat :=
  let l := (if 4 ≤ d.flags.toNat || (noB && bitOf d.flags.toNat 1) then [1] else []) ++ d.rsvBad.toList ++
    (fields.filter (·.1)).map (·.2)
  l.foldl (fun m x => some (match m with | none => x | some y => min x y)) none

/-- Carry out a descriptor: in fatal state it completes with NOT_READY, malformed with INVALID, else as `run` says (R393, R416).
A descriptor that may not start changes nothing; in IDLE only NOP
starts (R447). -/
def State.descr (s : State) (d : DHdr) (bad : Option Nat) (run : State → State) (nop : Bool := false) : State :=
  if !s.mayStart d || (s.pwr.pstate == .idle && !nop) then s
  else
    let s := s.take d
    if s.fatalNow then s.complete d.q d.cid 0x4B 0 0
    else match bad with
      | some o => s.complete d.q d.cid 0x40 o 0
      | none => run s

/-- Complete a descriptor with a status alone. -/
def State.done (s : State) (d : DHdr) (status : Nat) : State := s.complete d.q d.cid status 0 0

/-- The kind of requester that a descriptor's DMA is (R554). -/
def dmaKind (d : DHdr) : Nat := if bitOf d.flags.toNat 1 then 2 else 1

/-- The cause code of a host memory error (R557). -/
def hostErrCode : HostErr → Nat
  | .none => 0
  | .timeout => 1
  | .unsupported => 2
  | .abort => 3
  | .poisoned => 4
  | .reset => 5

/-- The uncorrectable error that an endpoint logs under AER for a cause of HOST_MEM, as PCI Express numbers them; 0 for none (log 204). -/
def aerStatus (cause : Nat) : Nat := if cause = 1 then 0x4000 else if cause = 4 then 0x1000 else 0

/-- PCIE_AER (R424): an uncorrectable error was logged under AER (R384; log 204). -/
def State.aerNote (s : State) (ep status : Nat) : State := if status = 0 then s else s.emit 0x090A [.w4 ep, .w4 status]

/-- HOST_MEM of a descriptor's queue (R424), after what its endpoint logs. -/
def State.hostMem (s : State) (d : DHdr) (a : Nat) (cause : Nat) : State :=
  ((s.aerNote (dmaKind d - 1) (aerStatus cause)).wr R.HI_ERR_HOST_MEM 1).emit 0x0905 [.w4 d.q, .w8 a, .w4 cause]

/-- Move bytes that the host supplies to device memory: the status with which the move ends (R394). -/
def State.dmaIn (s : State) (d : DHdr) (hostAddr devAddr n : Nat) (data : HostIn) : State × Nat :=
  match s.reach devAddr n true with
  | .bad a => (s.addrFault a (dmaKind d) d.q, 0x41)
  | .gated a => (s.gatedFault a (dmaKind d) d.q, 0x41)
  | .ok =>
    let b := if data.err = .none then slice data.bytes 0 n else data.bytes.take n
    let s := s.devWr devAddr b
    let s := s.each (data.dirty.filter (· < n)) (fun s o => s.poison (devAddr + o))
    if data.err = .none ∧ data.dirty.isEmpty then (s, 0)
    else
      let cause := if data.err = .none then 4 else hostErrCode data.err
      (s.hostMem d hostAddr cause, 0x43)

/-- WRITE (R394). -/
def execWrite (d : DHdr) (hostAddr devAddr length : W64) (data : HostIn) (s : State) : Host.Outcome State Fault Refusal :=
  .next (s.descr d (firstBad d false [(decide (2 ^ 40 < length.toNat), 0x18)]) (fun s =>
    if length = 0 then s.done d 0x01
    else
      let r := s.dmaIn d hostAddr.toNat devAddr.toNat length.toNat data
      r.1.done d r.2))

/-- The bytes of a range before its first poisoned line, and that line's device address (R394). -/
def State.upTo (s : State) (a n : Nat) : Nat × Option Nat :=
  match (List.range n).find? (fun i => s.poisoned (a + i)) with
  | some i => (i, some ((a + i) / 64 * 64))
  | none => (n, none)

/-- READ (R394). A transfer that the host's side ends with an error moves no byte that the model records (log 9). -/
def execRead (d : DHdr) (hostAddr devAddr length : W64) (ecc : LineEcc) (err : HostErr) (s : State) :
    Host.Outcome State Fault Refusal :=
  .next (s.descr d (firstBad d false [(decide (2 ^ 40 < length.toNat), 0x18)]) (fun s =>
    if length = 0 then s.done d 0x01
    else
      let a := devAddr.toNat
      let n := length.toNat
      match s.reach a n false with
      | .bad x => (s.addrFault x (dmaKind d) d.q).done d 0x41
      | .gated x => (s.gatedFault x (dmaKind d) d.q).done d 0x41
      | .ok =>
        let s := s.viewEcc a n ecc (requester (dmaKind d) d.q)
        if err ≠ .none then (s.hostMem d hostAddr.toNat (hostErrCode err)).done d 0x43
        else
          let u := s.upTo a n
          let s := s.hostWr hostAddr.toNat (s.devRd a u.1)
          match u.2 with
          | none => s.done d 0x00
          | some l => s.complete d.q d.cid 0x42 0 l))

/-- NOP (R393). -/
def execDescNop (d : DHdr) (s : State) : Host.Outcome State Fault Refusal :=
  .next (s.descr d (firstBad d true []) (fun s => s.done d 0x00) (nop := true))

/-- A descriptor whose reads of host memory draw no completion within 50 ms ends with HOST (R384, R399). -/
def execCompletionTimeout (d : DHdr) (hostAddr : W64) (s : State) : Host.Outcome State Fault Refusal :=
  .next (s.descr d none (fun s => (s.hostMem d hostAddr.toNat 1).done d 0x43))

/-! ## State copies (R343, R397) -/

/-- Whether the module is between hands with no deal queued (R343, R344, R377). -/
def State.between (s : State) : Bool := s.hand.running.isNone && s.hand.waiting.isNone

/-- The 16 bytes of a copy request after its header (R360): its tag numbers the 64-line part (log 10). -/
def copyReqBody (addr lines tag : Nat) : Bytes := leBytes 8 addr ++ leBytes 2 lines ++ zeros 2 ++ leBytes 4 tag

/-- COPY (R397): requests of up to 64 lines each leave in the GATHER class. -/
def execCopy (d : DHdr) (srcRank : Nat) (srcAddr dstAddr : W64) (lines : Nat) (s : State) : Host.Outcome State Fault Refusal :=
  .next (s.descr d (firstBad d true
      [(srcRank == s.rank || decide (1023 < srcRank), 8), (srcAddr.toNat % 64 != 0, 0x10), (dstAddr.toNat % 64 != 0, 0x18),
       (decide (2 ^ 24 < lines), 0x20)]) (fun s =>
    if lines = 0 then s.done d 0x01
    else if !s.between then s.complete d.q d.cid 0x45 9 0
    else
      match s.reach dstAddr.toNat (64 * lines) true with
      | .bad a => (s.addrFault a (dmaKind d) d.q).done d 0x41
      | .gated a => (s.gatedFault a (dmaKind d) d.q).done d 0x41
      | .ok =>
        let parts := List.range ((lines + 63) / 64)
        let j : CopyJob := ⟨d.q, d.cid, srcRank, srcAddr.toNat, dstAddr.toNat, lines, parts, false⟩
        let s := { s with host := { s.host with copies := s.host.copies ++ [j] } }
        s.each parts (fun s i =>
          s.sendTo srcRank 2 0x04 (copyReqBody (srcAddr.toNat + 4096 * i) (min 64 (lines - 64 * i)) i))))

/-- A copy request that draws no response in time completes its descriptor with REMOTE; lines already written stay (R397). -/
def execCopyTimeout (q : Nat) (cid : BitVec 16) (s : State) : Host.Outcome State Fault Refusal :=
  .next (match s.host.copies.find? (fun j => j.q == q && j.cid == cid) with
    | none => s
    | some j =>
      ({ s with host := { s.host with copies := s.host.copies.erase j } } : State).complete q cid 0x4C 0 0)

/-! ## Doorbells (R400, R401) -/

/-- Stop a submission queue with QUEUE_ERROR (R400). -/
def State.queueError (s : State) (ring v : Nat) : State := (s.wr R.HI_ERR_DOORBELL 1).emit 0x0902 [.w4 ring, .w4 v]

/-- Tail doorbell of a submission queue (R400). -/
def execSqDoorbell (q : Nat) (v : W32) (s : State) : Host.Outcome State Fault Refusal :=
  let o := sqOff q
  let c := s.reg (o + 0xC)
  if !bitOf c.toNat 0 || (s.sq q).stopping then .next s
  else
    let z := bitsOf (s.reg (o + 8)).toNat 0 17
    let h := (s.reg (o + 0x18)).toNat
    let t := (s.reg (o + 0x1C)).toNat
    if v.toNat < z ∧ (t + z - h) % z ≤ (v.toNat + z - h) % z then .next (s.setReg (o + 0x1C) v)
    else .next ((s.setReg (o + 0xC) (c ||| 2)).queueError q v.toNat)

/-- Move a ring's head under R401; the Bool says whether the value was accepted. -/
def State.headDoorbell (s : State) (r : Ring) (v : Nat) : State × Bool :=
  let z := s.ringSize r
  let h := s.ringHead r
  if v < z ∧ (v + z - h) % z ≤ (s.ringTail r + z - h) % z then (s.setReg (r.off + 0x18) (BitVec.ofNat 32 v), true)
  else ((s.setReg (r.off + 0xC) (s.reg (r.off + 0xC) ||| 2)).queueError r.num v, false)

/-- Head doorbell of a completion queue; a bad value also stops the submission queue it serves (R401). -/
def execCqDoorbell (q : Nat) (v : W32) (s : State) : Host.Outcome State Fault Refusal :=
  if !s.ringOn (.cq q) then .next s
  else
    let r := s.headDoorbell (.cq q) v.toNat
    .next (if r.2 then r.1 else r.1.setReg (sqOff q + 0xC) (r.1.reg (sqOff q + 0xC) ||| 2))

/-- The export ring of a number (R557). -/
def exportRing (ring : Nat) : Option Ring :=
  match ring with
  | 128 => some .evt
  | 129 => some .dlt
  | 130 => some .cen
  | _ => none

/-- Head doorbell of an export ring (R401); room in the event ring lets EVENT_LOST out first (R406). -/
def execExportDoorbell (ring : Nat) (v : W32) (s : State) : Host.Outcome State Fault Refusal :=
  .next (match exportRing ring with
    | none => s
    | some r => if !s.ringOn r then s else (s.headDoorbell r v.toNat).1.eventLost)

/-! ## Enabling and disabling rings (R390, R391) -/

/-- The ring that a number names (R557): a submission queue, or a ring that the module writes. -/
def ringOf (ring : Nat) : Nat ⊕ Ring :=
  if ring < 64 then .inl ring
  else if ring < 128 then .inr (.cq (ring - 64))
  else .inr ((exportRing ring).getD .evt)

/-- Bits of a CTRL register that software writes (R422): EN, PRIO for a submission queue; EN, EP, VEC and the coalescing fields
for an export ring, EN and VEC and those for a completion queue. -/
def ctrlMask (ring : Nat) : W32 :=
  if ring < 64 then 0x0000000D else if ring < 128 then 0xFFFFFF01 else 0xFFFFFF05

/-- BAR0 offset of a ring's register block. -/
def ringBlock (ring : Nat) : Nat := if ring < 64 then sqOff ring else match ringOf ring with
  | .inr r => r.off
  | .inl q => sqOff q

/-- The cause for which a ring is not enabled (R390, R557): 1 SIZE out of range, 2 BASE misaligned. The low bits of a BASE and of
a writeback address are not stored, so only the delta ring can be misaligned. -/
def State.ringCause (s : State) (ring : Nat) : Option Nat :=
  let b := ringBlock ring
  let z := bitsOf (s.reg (b + 8)).toNat 0 17
  let base := (s.reg b).toNat + 2 ^ 32 * (s.reg (b + 4)).toNat
  if ring = 129 then
    if z % 64 < 23 ∨ 37 < z % 64 then some 1 else if base % 2 ^ (z % 64) ≠ 0 then some 2 else none
  else if z < 2 ∨ 65536 < z then some 1 else none

/-- A write of 1 to EN of a ring's CTRL register (R390). -/
def State.enableRing (s : State) (ring : Nat) (v : W32) : State :=
  let b := ringBlock ring
  let old := s.reg (b + 0xC)
  let kept := (old &&& ~~~ (ctrlMask ring)) ||| (v &&& ctrlMask ring)
  if bitOf old.toNat 0 then s.setReg (b + 0xC) (kept ||| 1)
  else
    match s.ringCause ring with
    | some c =>
      ((s.setReg (b + 0xC) (kept &&& 0xFFFFFFFE)).wr R.HI_ERR_CFG 1).emit 0x0901 [.w4 ring, .w4 c]
    | none =>
      let s := s.setReg (b + 0xC) ((kept ||| 1) &&& 0xFFFFFFFD)
      let s := (s.setReg (b + 0x18) 0).setReg (b + 0x1C) 0
      match ringOf ring with
      | .inl q => s.setSq q SubQ.reset
      | .inr r =>
        let s := s.setOutq r { OutQ.reset with paused := (s.outq r).paused }
        let s := if ring = 129 then s.wr R.NM_UPD_CTRL_FULL_NOW 1 else s
        s.eventLost

/-- A write of 0 to EN of a ring's CTRL register (R391). -/
def State.disableRing (s : State) (ring : Nat) (v : W32) : State :=
  let b := ringBlock ring
  let old := s.reg (b + 0xC)
  let kept := (old &&& ~~~ (ctrlMask ring)) ||| (v &&& ctrlMask ring &&& 0xFFFFFFFE)
  match ringOf ring with
  | .inl q =>
    if (s.sq q).started.isEmpty then s.setReg (b + 0xC) kept
    else
      let s := s.setReg (b + 0xC) (if bitOf old.toNat 0 then kept ||| 1 else kept)
      if bitOf old.toNat 0 then s.setSq q { s.sq q with stopping := true } else s
  | .inr (.cq q) => if bitOf (s.reg (sqOff q + 0xC)).toNat 0 then s else s.setReg (b + 0xC) kept
  | .inr _ => s.setReg (b + 0xC) kept

/-- RING_ENABLE: a write of a CTRL register with EN = 1 (R390). -/
def execRingEnable (who : Agent) (ring : Nat) (v : W32) (s : State) : Host.Outcome State Fault Refusal :=
  .next (if s.mayWrite who (ringBlock ring + 0xC) then s.enableRing ring (v ||| 1) else s)

/-- RING_DISABLE: a write of a CTRL register with EN = 0 (R391). -/
def execRingDisable (who : Agent) (ring : Nat) (v : W32) (s : State) : Host.Outcome State Fault Refusal :=
  .next (if s.mayWrite who (ringBlock ring + 0xC) then s.disableRing ring (v &&& 0xFFFFFFFE) else s)

/-! ## Export rings and interrupts (R407 to R410) -/

/-- The census ring takes as many staged records as it has room for, in SEQ order (R407). -/
def execCensusRingWrite (s : State) : Host.Outcome State Fault Refusal :=
  if !s.ringReady .cen then .next s
  else
    let n := min (s.ringRoom .cen) s.num.recs.length
    if n = 0 then .next s
    else
      let b := (s.num.recs.take n).flatMap (fun r => slice r 0 64)
      .next (({ s with num := { s.num with recs := s.num.recs.drop n } } : State).ringPut .cen b)

/-- The coalescing timer of a ring runs out: a message if entries wait to be signalled (R410). -/
def execCoalTimer (ring : Nat) (s : State) : Host.Outcome State Fault Refusal :=
  .next (match ringOf ring with
    | .inl _ => s
    | .inr r =>
      let c := s.rreg r 0xC
      let o := s.outq r
      if bitsOf c 24 8 = 0 ∨ o.unsig = 0 ∨ !s.ringOn r then s else (s.setOutq r { o with unsig := 0 }).msix (bitsOf c 8 8))

/-- Send the message of a vector whose pending bit is set, if it is not masked and PCIE_A may write (R410). -/
def State.sendPending (s : State) (v : Nat) : State :=
  let o := 0xE01000 + 4 * (v / 32)
  if bitOf (s.msixRd o) (v % 32) && !bitOf (s.msixRd (msixOff v + 12)) 0 && s.master 0 then
    (s.msixWr o (setBits (s.msixRd o) (v % 32) 1 0)).msix v
  else s

/-- MSIX_UNMASK: the mask bit of a vector is cleared, and its pending message is sent (R410). -/
def execMsixUnmask (vec : Nat) (s : State) : Host.Outcome State Fault Refusal :=
  .next ((s.msixWr (msixOff vec + 12) (setBits (s.msixRd (msixOff vec + 12)) 0 1 0)).sendPending vec)

/-! ## The aperture (R387) -/

/-- The device address of an aperture offset. -/
def State.aperAddr (s : State) (off : Nat) : Nat :=
  s.rd R.HI_APER_LO_BASE * 2 ^ 20 + s.rd R.HI_APER_HI_BASE * 2 ^ 32 + off

/-- Whether an address lies in the dump region (R39, R224, R482). -/
def State.inDump (s : State) (a : Nat) : Bool :=
  match s.loc a with
  | some (.near k o) => k == s.highPos && decide (dumpOff ≤ o)
  | _ => false

/-- The tile registers as a read sees them (R124 to R128). -/
def tileReg (x : Tile) (t off : Nat) : W32 :=
  match off with
  | 0x00 => BitVec.ofNat 32 (t + tileX t * 2 ^ 16 + tileY t * 2 ^ 22)
  | 0x04 => x.stat
  | 0x08 => x.chkcnt
  | 0x0C => x.unchk
  | 0x10 => x.slip
  | 0x14 => x.inj
  | _ => 0

/-- Why an aperture access is refused: the cause of HOST_ABORT (R387, R482, R557). -/
def State.aperCause (s : State) (off size : Nat) (isWrite : Bool) : Option Nat :=
  let a := s.aperAddr off
  let targets := (List.range size).map (a + ·)
  if ¬(size = 4 ∨ size = 8) ∨ off % size ≠ 0 then some 1
  else if !s.on R.HI_CTRL_APER_EN then some 4
  else if s.fatalNow && !targets.all s.inDump then some 2
  else if targets.any s.gatedAt then some 3
  else if targets.any (fun b => match s.loc b with
      | none => true
      | some l => isWrite && !hostMayWrite l) then some 2
  else none

/-- Bytes that an access by the host, the supervisor or the debug port reads at a device address, tile registers among them. -/
def State.busBytes (s : State) (a n : Nat) : Bytes :=
  (List.range n).map (fun i => match s.loc (a + i) with
    | some (.treg t o) => BitVec.ofNat 8 ((tileReg (s.tile t) t (o / 4 * 4)).toNat / 2 ^ (8 * (o % 4)))
    | some l => s.locRd l
    | none => 0)

/-- A write of a tile register: STAT clears its W1C bits; INJ takes its fields while the debug port has the right INJECT; the
others are read-only (R124 to R128, R518). -/
def State.tregWr (s : State) (t off : Nat) (v : W32) : State :=
  match off with
  | 0x04 => s.onTile t (fun x => { x with stat := x.stat &&& ~~~ (v &&& 0x7C00) })
  | 0x14 => if s.right 3 then s.onTile t (fun x => { x with inj := v &&& 0x0000FFFF }) else s
  | _ => s

/-- Write up to 8 bytes at a device address, tile registers among them. -/
def State.busWr (s : State) (a : Nat) (b : Bytes) : State :=
  match s.loc a with
  | some (.treg t o) =>
    (List.range (b.length / 4)).foldl (fun s i => s.tregWr t (o + 4 * i) (BitVec.ofNat 32 (field b (4 * i) 4))) s
  | _ => s.devWr a b

/-- APERTURE_READ: a read of `size` bytes at aperture offset `off`; the data is what the host gets, none for a completion with
the EP bit set (R387). -/
def execApertureRead (off size : Nat) (ecc : LineEcc) (s : State) : Host.Outcome State Fault Refusal :=
  match s.aperCause off size false with
  | some c => .next (({ s with host := { s.host with rdata := none } } : State).hostAbort (0xF00000 + off) c)
  | none =>
    let a := s.aperAddr off
    let s := s.viewEcc a size ecc (requester 3 0)
    let v : Option W64 := if s.poisoned a then none else some (BitVec.ofNat 64 (leNat (s.busBytes a size)))
    .next { s with host := { s.host with rdata := v } }

/-- APERTURE_WRITE: a posted write; one that cannot be performed is dropped with HOST_ABORT (R387, R439, R553). -/
def execApertureWrite (off size : Nat) (v : W64) (s : State) : Host.Outcome State Fault Refusal :=
  match s.aperCause off size true with
  | some c => .next (s.writeDropped (0xF00000 + off) (if c = 3 then 3 else 6))
  | none => .next (s.busWr (s.aperAddr off) (leBytes size v.toNat))

/-- A read through the aperture that is not answered within 1 ms (R387). -/
def execApertureReadTimeout (off : Nat) (s : State) : Host.Outcome State Fault Refusal :=
  .next (({ s with host := { s.host with rdata := none } } : State).hostAbort (0xF00000 + off) 5)

/-! ## Mailboxes (R411 to R415) -/

/-- Mailbox pair `i`: 0 to 15 of the host, 16 to 19 of the management controller. -/
def State.pair (s : State) (i : Nat) : Pair := s.host.pairs.get i Pair.reset
/-- Put mailbox pair `i`. -/
def State.setPair (s : State) (i : Nat) (p : Pair) : State :=
  { s with host := { s.host with pairs := s.host.pairs.put i p Pair.reset } }
/-- The message of a host pair with IE set (R410). -/
def State.pairMsix (s : State) (i : Nat) : State :=
  let c := (s.pair i).ctrl.toNat
  if i < 16 ∧ bitOf c 0 then s.msix (bitsOf c 8 8) else s

/-- A write of the HI word of a mailbox with its LO word in place: it sends, or it is ignored with OVERRUN (R411, R412). -/
def Box.send (b : Box) (hi : W32) : Box :=
  if b.full then { b with overrun := true }
  else
    { b with hi := hi, word := hi ++ b.lo, full := true, acked := false, timeout := false, aborted := false, overrun := false }

/-- An acknowledge: ignored while FULL is 0 and with code 0xFFFF (R411, R412). -/
def Box.ack (b : Box) (code : BitVec 16) : Box :=
  if !b.full || code == 0xFFFF then b else { b with full := false, acked := true, code := code }

/-- MB_H2S_SEND: the LO word is written, then the HI word (R411). -/
def execMbH2sSend (pair : Nat) (w : W64) (s : State) : Host.Outcome State Fault Refusal :=
  let p := s.pair pair
  .next (s.setPair pair { p with h2s := ({ p.h2s with lo := w.setWidth 32 } : Box).send ((w >>> 32).setWidth 32) })

/-- The supervisor sends a word: the LO word, then the HI word (R411). A word that arrives toward the host signals (R410). -/
def State.s2hSend (s : State) (pair : Nat) (w : W64) : State :=
  let p := s.pair pair
  let b := ({ p.s2h with lo := w.setWidth 32 } : Box).send ((w >>> 32).setWidth 32)
  let s1 := s.setPair pair { p with s2h := b }
  if p.s2h.full then s1 else s1.pairMsix pair

/-- A result word of a service goes out once its mailbox toward the requester is empty (R494). -/
def State.sendResults (s : State) (pair : Nat) : State :=
  if (s.pair pair).s2h.full || !s.supvRuns then s
  else match s.sup.results.find? (fun r => r.1 == pair) with
    | none => s
    | some r => ({ s with sup := { s.sup with results := s.sup.results.erase r } } : State).s2hSend pair r.2

/-- MB_S2H_SEND: the supervisor sends a word (R411). -/
def execMbS2hSend (pair : Nat) (w : W64) (s : State) : Host.Outcome State Fault Refusal :=
  .next (if s.supvRuns then s.s2hSend pair w else s)

/-- MB_H2S_ACK: the supervisor acknowledges a word from the host (R411). -/
def execMbH2sAck (pair : Nat) (code : BitVec 16) (s : State) : Host.Outcome State Fault Refusal :=
  let p := s.pair pair
  if !s.supvRuns then .next s
  else
    let s1 := s.setPair pair { p with h2s := p.h2s.ack code }
    .next (if p.h2s.full && code != 0xFFFF then s1.pairMsix pair else s1)

/-- MB_S2H_ACK: the host acknowledges a word from the supervisor (R411). -/
def execMbS2hAck (pair : Nat) (code : BitVec 16) (s : State) : Host.Outcome State Fault Refusal :=
  let p := s.pair pair
  .next ((s.setPair pair { p with s2h := p.s2h.ack code }).sendResults pair)

/-- Whether the acknowledge timer of a word runs: toward the supervisor while its domain is powered, toward the host while the link of PCIE_A
is up (R413, R445). -/
def State.boxTimer (s : State) (pair : Nat) (fromSupv : Bool) : Bool :=
  if fromSupv then decide (16 ≤ pair) || bitOf s.host.linkUp.toNat 0
  else s.pwr.pstate != .off && (s.pwr.pstate != .watch || s.pwr.entering)

/-- MB_TIMEOUT: no acknowledge within 10 ms while the receiver's domain runs; FULL stays (R413). -/
def execMbTimeout (pair : Nat) (fromSupv : Bool) (s : State) : Host.Outcome State Fault Refusal :=
  let p := s.pair pair
  let b := if fromSupv then p.s2h else p.h2s
  if !b.full || b.timeout || !s.boxTimer pair fromSupv then .next s
  else
    let b' := { b with timeout := true }
    let s1 := s.setPair pair (if fromSupv then { p with s2h := b' } else { p with h2s := b' })
    let s2 := (s1.wr R.HI_ERR_MB_TIMEOUT 1).emit 0x0906 [.w4 pair, .w4 (b2n fromSupv)]
    .next (if fromSupv then s2 else s2.pairMsix pair)

/-- A reset of a mailbox's receiver: a word that waited is aborted (R414). -/
def Box.abort (b : Box) : Box := { b with full := false, aborted := true, code := 0xFFFF }

/-- A supervisor reset at the mailboxes: receiver of every H2S word, sender of every S2H word (R414). -/
def State.supvBoxes (s : State) : State :=
  s.each (List.range 20) (fun s i =>
    let p := s.pair i
    let s := s.setPair i { p with h2s := if p.h2s.full then p.h2s.abort else p.h2s, s2h := { p.s2h with full := false } }
    if p.h2s.full then (s.emit 0x0907 [.w4 i, .w4 0]).pairMsix i else s)

/-- A reset of PCIE_A at the host's mailboxes: their registers return to reset; a word from the supervisor is aborted (R414,
R420). -/
def State.hostBoxes (s : State) : State :=
  s.each (List.range 16) (fun s i =>
    let p := s.pair i
    let s := s.setPair i { Pair.reset with s2h := if p.s2h.full then p.s2h.abort else p.s2h }
    if p.s2h.full then s.emit 0x0907 [.w4 i, .w4 1] else s)

/-! ## PCIe (R384, R417) -/

/-- Clear bit `ep` of a pair of endpoint bits. -/
def epOff (b : BitVec 2) (ep : BitVec 1) : BitVec 2 := if ep = 0 then b &&& 2 else b &&& 1
/-- Set bit `ep` of a pair of endpoint bits. -/
def epOn (b : BitVec 2) (ep : BitVec 1) : BitVec 2 := if ep = 0 then b ||| 1 else b ||| 2

/-- The setup registers of the HI block that a Function Level Reset returns to their reset values: HI_CTRL, HI_ERR, the
aperture base, the last outcome's hand, the lost count, and every ring block. HI_STATUS keeps showing the module (log 11). -/
def hiReset (off : Nat) : Bool := decide (off < 0x100000) && off != 0x04 && off != 0x24

/-- A Function Level Reset of PCIE_A but for its event (R417). -/
def State.flrA (s : State) : State :=
  let s := { s with regs := s.regs.filter (fun e => !(hiReset e.1) && !(decide (0xE00000 ≤ e.1) && decide (e.1 < 0xE02000))) }
  let s := { s with host := { s.host with
    sqs := [], cqs := [], evt := OutQ.reset, cen := OutQ.reset, dlt := { OutQ.reset with paused := s.host.dlt.paused },
    copies := [], bme := epOff s.host.bme 0, evtLostNow := 0 } }
  let s := { s with hand := { s.hand with waiting := none, sideWait := none } }
  s.hostBoxes

/-- A Function Level Reset of PCIE_B but for its event: its Bus Master Enable goes, and export rings on it pause (R417). No
started descriptor is in the middle of a host transfer, each transfer being whole in its command. -/
def State.flrB (s : State) : State :=
  let pause := fun (r : Ring) (o : OutQ) => if s.ringEp r = 1 then { o with paused := true } else o
  { s with host := { s.host with
    bme := epOff s.host.bme 1, evt := pause .evt s.host.evt, cen := pause .cen s.host.cen, dlt := pause .dlt s.host.dlt } }

/-- FLR_PCIE_A (R417). -/
def execFlrPcieA (s : State) : Host.Outcome State Fault Refusal := .next (s.flrA.emit 0x0908 [.w4 0])

/-- FLR_PCIE_B (R417). -/
def execFlrPcieB (s : State) : Host.Outcome State Fault Refusal := .next (s.flrB.emit 0x0908 [.w4 1])

/-- PERST_N of an endpoint goes low: its Function Level Reset, and its link is down (R417, R424). -/
def execPerstAssert (ep : BitVec 1) (s : State) : Host.Outcome State Fault Refusal :=
  let s1 := { s with host := { s.host with perst := epOff s.host.perst ep, linkUp := epOff s.host.linkUp ep } }
  let s2 := if ep = 0 then s1.flrA.emit 0x0908 [.w4 0] else s1.flrB.emit 0x0908 [.w4 1]
  .next (if s.on R.HI_STATUS_READY then s2.emit 0x090B [.w4 ep.toNat] else s2)

/-- PERST_N of an endpoint is released: its configuration space answers (R535, R541). `perst` has a bit set while released. -/
def execPerstRelease (ep : BitVec 1) (s : State) : Host.Outcome State Fault Refusal :=
  .next { s with host := { s.host with perst := epOn s.host.perst ep } }

/-- Whether an endpoint's link can be up: PERST_N is high, its enable is set and its PLL is locked (R384, R433, R438). -/
def State.epReady (s : State) (ep : Nat) : Bool :=
  bitOf s.host.perst.toNat ep && s.getI R.CK_DSTAT_LOCK (136 + ep) == 1 &&
    (if ep = 0 then s.on R.CK_EN_MISC_PCIE_A else s.on R.CK_EN_MISC_PCIE_B)

/-- An endpoint's link comes up or goes down, or changes speed or width: LINK_STATE (R384). -/
def execPcieLinkChange (ep : BitVec 1) (speed width : Nat) (s : State) : Host.Outcome State Fault Refusal :=
  let up := decide (0 < speed) && decide (0 < width) && s.epReady ep.toNat
  let l := if up then epOn s.host.linkUp ep else epOff s.host.linkUp ep
  let s1 := { s with host := { s.host with linkUp := l } }
  .next ((s1.emit 0x0909 [.w4 ep.toNat, .w4 (if up then speed else 0), .w4 (if up then width else 0)]).eventLost)

/-- Software writes an endpoint's Bus Master Enable. With PCIE_A's set, messages that wait go out; with PCIE_B's set, export
rings that paused go on (R405, R410, R417). -/
def execBusMasterEnable (ep : BitVec 1) (on : Bool) (s : State) : Host.Outcome State Fault Refusal :=
  let s1 := { s with host := { s.host with bme := if on then epOn s.host.bme ep else epOff s.host.bme ep } }
  let s2 := if on && ep == 1 then { s1 with host := { s1.host with
    evt := { s1.host.evt with paused := false }, cen := { s1.host.cen with paused := false },
    dlt := { s1.host.dlt with paused := false } } } else s1
  .next (if on then (s2.each (List.range 256) State.sendPending).eventLost else s2)

end Sys2Proof.Machine
end

