-- ==== Sys2Proof/Machine/Router.lean ====
section
/-! DEFINITION. The mesh: route table entries (R174 to R183), flits that enter a lane with their retries (R172, R173), seam handshakes
(R186), the neighbour test with the defect map (R191 to R196), and the geometry table (R197, R198). -/

namespace Sys2Proof.Machine

/-! ## Links -/

/-- The side that faces a side: 0 N, 1 E, 2 S, 3 W. -/
def facing (side : Nat) : Nat := (side + 2) % 4
/-- Whether a link is dead (R195). -/
def State.linkDead (s : State) (l : Nat) : Bool := s.fab.dmap.linkDead.contains l
/-- Whether a position counts as out of service for its edge ports: it is, or it fails in this hand (R187, R249). -/
def State.stackOff (s : State) (k : Nat) : Bool := !s.inSvc k || (s.posn k).leave != 0
/-- Whether the far side of a mesh port is ABSENT: a hole, a dead link, a field that is folded, lost or without its clocks, or a stack out of
service (R187). -/
def State.absent (s : State) (t side : Nat) : Bool :=
  match neighbour t side with
  | some n => s.tileState n == 2 || s.linkDead (linkOf t side) || !s.fieldOn (tileField n)
  | none => match edgeAt t side with
    | some q => s.stackOff (q / 3) || s.linkDead (2232 + q)
    | none => true
/-- Depth of the lane that a mesh output of a tile feeds (R171). -/
def laneDepth (t side : Nat) (sideLane : Bool) : Nat :=
  if sideLane then 2
  else match neighbour t side with
    | some n => if isSeam t n then 32 else 4
    | none => 32
/-- Depth of a lane toward the tile: LOC, FIL0, FIL1 (R171). -/
def tileDepth (o : Nat) : Nat := if o = 0 then 8 else 4

/-- Flits in the lane that an output feeds, those on their way included. Outputs: 0 N, 1 E, 2 S, 3 W, 4 LOC, 5 FIL0, 6 FIL1. -/
def State.ahead (s : State) (t o : Nat) (side : Bool) : Nat :=
  let r := (s.tile t).router
  if o < 4 then
    (r.flight.get (2 * o + b2n side) []).length +
      (match neighbour t o with
       | some n => ((s.tile n).router.lane (laneIn (facing o) side)).length
       | none => match edgeAt t o with
         | some q => (s.fab.edgeOut.get (2 * q + b2n side) []).length
         | none => 0)
  else (r.lane (laneOut (o - 4) side)).length
/-- Whether an output has room for a flit downstream; no more than the 8 flits that the sender keeps are on their way (R172). -/
def State.room (s : State) (t o : Nat) (side : Bool) : Bool :=
  decide (s.ahead t o side < (if o < 4 then laneDepth t o side else tileDepth (o - 4))) &&
    (decide (4 ≤ o) || decide (((s.tile t).router.flight.get (2 * o + b2n side) []).length < 8))

/-- Move a flit out of an output: toward the next router or the near controller of an edge port it is on its way until it enters the lane there; the
tile's own lanes take it at once. The sender keeps its last 8 flits of each output (R172). -/
def State.moveOut (s : State) (t o : Nat) (side : Bool) (f : Flit) : State :=
  let k := 2 * o + b2n side
  if o < 4 then
    s.onTile t (fun x => { x with router := { x.router with
      sent := x.router.sent.put k ((x.router.sent.get k [] ++ [f]).drop ((x.router.sent.get k []).length + 1 - 8)) []
      flight := x.router.flight.put k (x.router.flight.get k [] ++ [f]) [] } })
  else s.onTile t (fun x => { x with router := x.router.push (laneOut (o - 4) side) [f] })

/-! ## Entries (R175 to R183) -/

/-- The source of an output in an entry: 0 none, 1 N to 4 W, 5 LOC (R175). -/
def srcOf (e o : Nat) : Nat := bitsOf e (3 * o) 3
/-- Whether an output of an entry moves a side-lane flit. -/
def sideOf (e o : Nat) : Bool := bitOf e (21 + o)
/-- The outputs that an entry names. -/
def outsOf (e : Nat) (side : Bool) : List Nat := (List.range 7).filter (fun o => srcOf e o != 0 && sideOf e o == side)

/-- The first port that the primary moves of an entry name and that is ABSENT (R187): an input, then an output, in the order of the outputs. A
side move never holds (R177, R179). -/
def State.absentPort (s : State) (t e : Nat) : Option Nat :=
  (outsOf e false).findSome? (fun o =>
    let i := srcOf e o - 1
    if i < 4 ∧ s.absent t i then some i else if o < 4 ∧ s.absent t o then some o else none)

/-- Take the head of an input lane. -/
def State.takeIn (s : State) (t i : Nat) (side : Bool) : State :=
  s.onTile t (fun x => { x with router := x.router.setLane (laneIn i side) ((x.router.lane (laneIn i side)).drop 1) })

/-- The moves of one kind of lane from the inputs that they name: each input gives one flit, which all its outputs share (R176). -/
def State.moves (s : State) (t : Nat) (side : Bool) (ms : List (Nat × Nat)) : State :=
  let r := (s.tile t).router
  let ins := (ms.map (·.1)).eraseDups
  let s := s.each ins (fun s i => s.takeIn t i side)
  s.each ms (fun s m => match (r.lane (laneIn m.1 side)).head? with
    | some f => s.moveOut t m.2 side f
    | none => s)

/-- The side moves of an entry that take place: the side lane holds a flit and the lane downstream has room (R177). -/
def State.sideMoves (s : State) (t e : Nat) : List (Nat × Nat) :=
  ((outsOf e true).map (fun o => (srcOf e o - 1, o))).filter (fun m =>
    !((s.tile t).router.lane (laneIn m.1 true)).isEmpty && s.room t m.2 true)

/-- Apply the PHASE switches that are due at the router's beat (R180). -/
def Router.due (r : Router) : Router :=
  let l := r.switches.filter (fun e => decide (e.1 ≤ r.rb))
  { r with
    switches := r.switches.filter (fun e => decide (r.rb < e.1))
    phase := (l.getLastD (r.b0, r.phase)).2
    b0 := (l.getLastD (r.b0, r.phase)).1 }

/-- The entry that a router uses at its beat (R174). -/
def Router.entry (r : Router) : Nat :=
  let p := r.phases.getD r.phase (0, 1)
  (r.sched.get (p.1 + (r.rb - r.b0) % p.2) 0).toNat

/-- The mode that a router is in: the map's for a tile that is PASS or a hole, whatever an image sets (R182, R183). -/
def State.rmode (s : State) (t : Nat) : RMode :=
  if s.tileState t = 1 then .pass else if s.tileState t = 2 then .hole else (s.tile t).router.mode

/-- Whether a direction of a pass-through router can move a flit of a lane (R183). -/
def State.passes (s : State) (t : Nat) (m : Nat × Nat) (side : Bool) : Bool := s.room t m.2 side && !s.absent t m.2

/-- A pass-through router forwards straight, each direction and lane on its own (R183). A beat in which a primary flit is held is a slip of the
router (R177). -/
def State.passThrough (s : State) (t : Nat) : State :=
  let ways := [(0, 2), (2, 0), (1, 3), (3, 1)]
  let has := fun (s : State) (m : Nat × Nat) (side : Bool) => !((s.tile t).router.lane (laneIn m.1 side)).isEmpty
  let held := ways.any (fun m => has s m false && !s.passes t m false)
  let s := s.each ways (fun s m => s.each [false, true] (fun s side =>
    if has s m side && s.passes t m side then s.moves t side [m] else s))
  if held then s.routerSlip t 1 else s

/-- The positions whose dealers an edge router's held entry waits for (R240): a flit of an edge port that has not arrived, or a STORE that backs up the port's
outward lane. -/
def State.lateDealers (s : State) (t e : Nat) : List Nat :=
  ((outsOf e false).flatMap (fun o =>
    let i := srcOf e o - 1
    let late := fun (side : Nat) (c : Nat → Bool) => match neighbour t side, edgeAt t side with
      | none, some q => if c q then [q / 3] else []
      | _, _ => []
    (if i < 4 then late i (fun _ => ((s.tile t).router.lane (laneIn i false)).isEmpty) else []) ++
    (if o < 4 then late o (fun q => !s.room t o false &&
      (s.posn (q / 3)).dealer.opened.any (fun d => d.d.kind == 3 && bitOf d.d.ports.toNat (q % 3))) else []))).eraseDups

/-- Run a scheduled router's entry, or hold it; one that names an ABSENT port is the absent-port fault in the first beat it would hold; a held
beat that waits for a dealer counts in DL_PLATE (R177, R180, R187, R240). -/
def State.scheduled (s : State) (t : Nat) : State :=
  let s := s.onTile t (fun x => { x with router := x.router.due })
  let x := s.tile t
  let r := x.router
  let e := r.entry
  let prim := (outsOf e false).map (fun o => (srcOf e o - 1, o))
  if x.prim.running && decide (x.prim.tc.toNat < r.rb) then s.routerSlip t 1
  else if prim.all (fun m => !(r.lane (laneIn m.1 false)).isEmpty && s.room t m.2 false) then
    let s := s.moves t false prim
    let s := s.moves t true (s.sideMoves t e)
    s.onTile t (fun x => { x with router := { x.router with rb := x.router.rb + 1 } })
  else match s.absentPort t e with
    | some p => (s.emit 0x0308 [.w4 t, .w4 p]).tileStop t
    | none => (s.each (s.lateDealers t e) (fun s k => s.bumpI R.DL_PLATE_BEATS k 1)).routerSlip t 1

/-- A beat of a router: a stall or a freeze holds it, and one with no schedule or at the end of it does nothing (R177, R180, R181, R211). -/
def State.routerBeat (s : State) (t : Nat) : State :=
  let r := (s.tile t).router
  if !s.fieldOn (tileField t) || s.on R.FB_STATUS_STALLED then s
  else match s.rmode t with
    | .idle => s
    | .hole => s
    | .pass => if s.on R.FB_STATUS_FROZEN then s else s.passThrough t
    | .scheduled => if !s.fab.started || decide (s.endBeat ≤ r.rb) || !s.before r.rb then s else s.scheduled t

/-! ## Flits into a lane (R172, R173) -/

/-- The way that a flit enters a lane by: ports 0 N to 3 W of a router, and 4 + side of a tile for the near controller's end of that side's edge
port. -/
abbrev Port := Nat

/-- The link at a port (R195). -/
def portLink (t : Nat) (port : Port) : Nat := linkOf t (port % 4)

/-- The router output that feeds a port: of the neighbour, or for a near controller the tile's own; none where a near controller feeds it. -/
def feeder (t : Nat) (port : Port) (side : Bool) : Option (Nat × Nat) :=
  if port < 4 then (neighbour t port).map (fun n => (n, 2 * facing port + b2n side)) else some (t, 2 * (port - 4) + b2n side)

/-- Where the sender of a port's flits notes that its receiver awaits a resend. -/
def resendKey (t : Nat) (port : Port) (side : Bool) : Nat × Nat :=
  match feeder t port side with
  | some e => e
  | none => (t, 2 * (4 + port) + b2n side)

/-- The flits on their way to a port, oldest first: those that the sender has let go and that have not entered a lane. -/
def State.onWay (s : State) (t : Nat) (port : Port) (side : Bool) : List Flit :=
  match feeder t port side, edgeAt t (port % 4) with
  | some e, _ => (s.tile e.1).router.flight.get e.2 []
  | none, some q => s.fab.edgeIn.get (2 * q + b2n side) []
  | none, none => []

/-- The oldest of them is no longer on its way. -/
def State.landed (s : State) (t : Nat) (port : Port) (side : Bool) : State :=
  let drop1 := fun (m : Map (List Flit)) (k : Nat) => m.put k ((m.get k []).drop 1) []
  match feeder t port side, edgeAt t (port % 4) with
  | some e, _ => s.onTile e.1 (fun x => { x with router := { x.router with flight := drop1 x.router.flight e.2 } })
  | none, some q => { s with fab := { s.fab with edgeIn := drop1 s.fab.edgeIn (2 * q + b2n side) } }
  | none, none => s

/-- Flits in the lane that a port leads to. -/
def State.laneAt (s : State) (t : Nat) (port : Port) (side : Bool) : List Flit :=
  if port < 4 then (s.tile t).router.lane (laneIn port side)
  else match edgeAt t (port - 4) with
    | some q => s.fab.edgeOut.get (2 * q + b2n side) []
    | none => []

/-- A flit enters a lane of the kind it left (R171). -/
def State.enter (s : State) (t : Nat) (port : Port) (side : Bool) (f : Flit) : State :=
  let s := (s.landed t port side).onTile t (fun x => { x with router := { x.router with
    refused := x.router.refused.put (2 * port + b2n side) 0 0 } })
  if port < 4 then s.onTile t (fun x => { x with router := x.router.push (laneIn port side) [f] })
  else match edgeAt t (port - 4) with
    | some q => { s with fab := { s.fab with
        edgeOut := s.fab.edgeOut.put (2 * q + b2n side) (s.fab.edgeOut.get (2 * q + b2n side) [] ++ [f]) [] } }
    | none => s

/-- A flit as the wires deliver it: `err` flips bits of the payload, and in its upper 16 bits of the CRC. -/
def hitFlit (f : Flit) (err : BitVec 528) : Flit := { f with data := f.data ^^^ err.setWidth 512, crc := f.crc ^^^ (err >>> 512).setWidth 16 }

/-- A CRC error at a port: a refusal, which is a retry of the link, after which the receiver takes nothing until the sender resends; the third
in a row delivers the flit poisoned, with LINK_POISON, and its link dies at the boundary. With RETRY_EN 0 an error poisons at once (R172, R173,
R214; log 208). -/
def State.crcError (s : State) (t : Nat) (port : Port) (side : Bool) (f : Flit) : State :=
  let k := 2 * port + b2n side
  let retry := s.on R.FB_CTRL_RETRY_EN
  let n := (s.tile t).router.refused.get k 0 + 1
  let s := if retry then s.onTile t (fun x => { x with router := { x.router with
    retries := x.router.retries.put port (x.router.retries.get port 0 + 1) 0
    refused := x.router.refused.put k n 0 } }) else s
  if retry && decide (n < 3) then
    let w := resendKey t port side
    s.onTile w.1 (fun x => { x with router := { x.router with resend := setIns x.router.resend w.2 } })
  else
    let s := s.enter t port side { f with poison := true }
    ({ s with fab := { s.fab with dead := s.fab.dead ++ [(portLink t port, 2)] } } : State).emit 0x0305 [.w4 (portLink t port)]

/-- The oldest flit on its way to a port comes to the lane of its kind, and the CRC decides whether it enters (R171, R172). A flit for which
the lane has no room waits on the link. -/
def State.flitIn (s : State) (tile port : Nat) (side : Bool) (err : BitVec 528) : State :=
  let w := resendKey tile port side
  match s.onWay tile port side with
  | [] => s
  | f :: _ =>
    let g := hitFlit f err
    if laneDepth tile (port % 4) side ≤ (s.laneAt tile port side).length || (s.tile w.1).router.resend.contains w.2 then s
    else if g.crc = crc16 (flitBytes g) then s.enter tile port side g
    else s.crcError tile port side g

/-- FLIT_REFUSAL: a sender that receives a refusal resends from the refused flit onward, in order, out of the last 8 that it keeps (R172). The
side is the receiver's; `near` says that the receiver is the near controller at it. -/
def execFlitRefusal (tile port : Nat) (side near : Bool) (s : State) : Host.Outcome State Fault Refusal :=
  let w := resendKey tile (port + 4 * b2n near) side
  .next (s.onTile w.1 (fun x =>
    let r := x.router
    let l := r.sent.get w.2 []
    let n := (r.flight.get w.2 []).length
    { x with router := { r with
      resend := r.resend.filter (· != w.2)
      flight := if n ≤ l.length then r.flight.put w.2 (l.drop (l.length - n)) [] else r.flight } }))

/-- SEAM_TIMEOUT: a handshake on a seam or an edge port does not complete within 256 cycles: a fabric fault, and its link dies at the
boundary (R186). -/
def execSeamTimeout (link : Nat) (s : State) : Host.Outcome State Fault Refusal :=
  .next ((({ s with fab := { s.fab with dead := s.fab.dead ++ [(link, 3)] } } : State).emit 0x0307 [.w4 link]).misdeal 7)

/-! ## The geometry table (R197, R198) -/

/-- A path from an edge port: its latency, its routers and its seams. -/
structure Path where
  lat : Nat
  hops : Nat
  seams : Nat
  deriving DecidableEq, Repr

/-- Whether one path is taken before another (R198); paths of one latency at one port are told apart by no rule. -/
def Path.better (a b : Path) : Bool :=
  decide (a.lat < b.lat) || (a.lat == b.lat && (if Config.geomFewerHops then decide (a.hops < b.hops) else decide (b.hops < a.hops)))

/-- The best path found to each place: a tile with the side it was entered by, numbered 4 × tile + side. -/
abbrev Paths := Array (Option Path)

/-- Keep the better path to a place, and list the place when it has changed. -/
def keepPath (a : Paths × List Nat) (k : Nat) (p : Path) : Paths × List Nat :=
  let (m, l) := a
  match m.getD k none with
  | none => (m.setIfInBounds k (some p), k :: l)
  | some q => if p.better q then (m.setIfInBounds k (some p), k :: l) else (m, l)

/-- Whether a path may pass from a tile by a side: no hole, no dead link, no excluded field (R198). -/
def State.passable (s : State) (t side : Nat) : Bool :=
  match neighbour t side with
  | none => false
  | some n => !(s.linkDead (linkOf t side)) && s.tileState n != 2 && !s.fieldOff (tileField n)

/-- The ways out of a tile: whether it passes straight through only (R183), and its sides with the neighbour and the seams crossed. -/
abbrev Ways := Bool × List (Nat × Nat × Nat)
/-- The ways out of each tile (R198). -/
def State.ways (s : State) : Array Ways :=
  (allTiles.map (fun t => (s.tileState t == 1, (List.range 4).filterMap (fun d =>
    if s.passable t d then (neighbour t d).map (fun n => (d, n, b2n (isSeam t n))) else none)))).toArray

/-- One round of relaxing: from each place of a list to its neighbours. A pass-through router does not turn (R183, R198). The places whose
path has become better come with it. -/
def relax (w : Array Ways) (m : Paths) (l : List Nat) : Paths × List Nat :=
  l.foldl (fun a k => match a.1.getD k none with
    | none => a
    | some p =>
      let x := w.getD (k / 4) (false, [])
      x.2.foldl (fun a e =>
        if e.1 = k % 4 ∨ (x.1 ∧ e.1 ≠ facing (k % 4)) then a
        else keepPath a (4 * e.2.1 + facing e.1) ⟨p.lat + 2 + 6 * e.2.2, p.hops + 1, p.seams + e.2.2⟩) a) (m, [])

/-- Relax until nothing changes, at most once for each place. -/
def relaxAll (w : Array Ways) : Nat → Paths × List Nat → Paths
  | 0, a => a.1
  | n + 1, (m, l) => if l.isEmpty then m else relaxAll w n (relax w m l)

/-- The paths from an edge port. -/
def State.pathsFrom (s : State) (w : Array Ways) (q : Nat) : Paths :=
  let t := edgeTile (q / 3) (q % 3)
  if !s.inSvc (q / 3) || s.linkDead (2232 + q) || s.tileState t == 2 || s.fieldOff (tileField t) then #[]
  else relaxAll w 4608 (keepPath (Array.replicate 4608 none, []) (4 * t + edgeSide (q / 3)) ⟨9, 1, 0⟩)

/-- The best path to a tile from an edge port, if it may end there. -/
def State.bestTo (s : State) (m : Paths) (t : Nat) : Option Path :=
  if s.tileState t == 1 || s.tileState t == 2 || s.fieldOff (tileField t) then none
  else (List.range 4).foldl (fun b d => match m.getD (4 * t + d) none, b with
    | some p, some q => if p.better q then some p else some q
    | some p, none => some p
    | none, b => b) none

/-- The entry of a tile and a stack, from the paths of the stack's three ports: of equal latency the lower port (R197, R198). -/
def State.geomEntry (s : State) (ms : List Paths) (t : Nat) : Nat :=
  let c := (ms.zipIdx.foldl (fun (b : Option (Path × Nat)) e => match s.bestTo e.1 t, b with
    | some p, some q => if p.lat < q.1.lat then some (p, e.2) else some q
    | some p, none => some (p, e.2)
    | none, b => b) none)
  match c with
  | none => 0xFFFF00FF
  | some (p, i) => p.hops + min p.seams 15 * 2 ^ 8 + i * 2 ^ 12 + p.lat * 2 ^ 16

/-- The bytes of the geometry table. -/
def State.geomBytes (s : State) : Bytes :=
  let w := s.ways
  let ms := allPos.map (fun k => (List.range 3).map (fun p => s.pathsFrom w (3 * k + p)))
  let ents := allTiles.flatMap (fun t => ms.flatMap (fun m => leBytes 4 (s.geomEntry m t)))
  let h := leBytes 4 0x47445844 ++ leBytes 2 0x0100 ++ zeros 2 ++ leBytes 8 s.fab.dmap.generation.toNat ++
    leBytes 8 (s.folded ||| s.lost) ++ zeros 36
  h ++ leBytes 4 (crc32c (h ++ ents)).toNat ++ ents

/-- Rebuild the geometry table in the system tables (R197, R198, R224). -/
def State.geomBuild (s : State) : State :=
  (s.nearWr s.lowPos bandOff s.geomBytes).emit 0x0313 [.w8 s.fab.dmap.generation.toNat]

/-! ## The defect map (R194 to R196) -/

/-- Make a changed defect map the map: GENERATION rises, the record is committed, the working copy is written (R195, R196). -/
def State.dmapSet (s : State) (d : DefectMap) : State :=
  let d := { d with generation := s.fab.dmap.generation + 1 }
  let s : State := { s with fab := { s.fab with dmap := d } }
  let s := s.nearWr s.lowPos (bandOff + 0x40000) s.dmapBytes
  let s := s.ledger 0x0003 s.dmapBytes
  let s := s.wr R.FB_STATUS_GOOD_TILES s.goodTiles
  s.emit 0x0312 [.w8 d.generation.toNat]

/-- GOOD_LOW when the number of good tiles falls below 1,088 (R194). -/
def State.goodLow (s : State) (before : Nat) : State :=
  if 1088 ≤ before ∧ s.goodTiles < 1088 then s.emit 0x0303 [.w4 s.goodTiles] else s

/-! ## The neighbour test (R191 to R194) -/

/-- Whether a partner of a tile abstains (R192). -/
def State.abstains (s : State) (r : NtIn) (t side : Nat) : Bool :=
  match neighbour t side with
  | some n => r.selfBad.contains n || s.fieldOff (tileField n) || !bitOf (s.rd64 R.PW_RAIL_LO_ON R.PW_RAIL_HI_ON) (tileField n)
  | none => match edgeAt t side with
    | some q => !s.inSvc (q / 3)
    | none => true
/-- Whether a partner that does not abstain fails a tile: a direction of their link failed, or the signature reached it wrong (R192). -/
def partnerFails (r : NtIn) (t side : Nat) : Bool := r.linkFail.contains (linkOf t side) || r.sigFail.contains (t, side)

/-- The partners of a tile that fail it (R192). -/
def State.failers (s : State) (r : NtIn) (t : Nat) : List Nat :=
  (List.range 4).filter (fun d => !s.abstains r t d && partnerFails r t d)

/-- Whether the test finds a tile bad (R192). -/
def State.ntBad (s : State) (r : NtIn) (t : Nat) : Bool :=
  let judges := (List.range 4).filter (fun d => !s.abstains r t d)
  let fails := s.failers r t
  r.selfBad.contains t || decide (2 ≤ fails.length) || fails.length == judges.length

/-- The links that the test marks dead: one partner alone fails it, between two tiles that are not bad (R192; log 209 for the links of edge
ports). -/
def State.ntDead (s : State) (r : NtIn) (bad : Nat → Bool) : List Nat :=
  allTiles.foldl (fun (a : List Nat) t =>
    if bad t then a
    else (s.failers r t).foldl (fun a d =>
      if s.linkDead (linkOf t d) || (neighbour t d).any bad then a else setIns a (linkOf t d)) a) []

/-- How bad a state of the map is: a tile is never made better (R194). -/
def stateRank (b : Byte) : Nat := if b = 0 then 0 else if b = 3 then 1 else if b = 1 then 2 else 3

/-- The verdict of the test on a tile that it finds bad: PASS, or a hole where a straight path failed (R193). -/
def ntVerdict (r : NtIn) (t : Nat) : Byte := if r.pathFail.contains t then 2 else 1

/-- The neighbour test is over: the map only gains (R192 to R194), and every part of step 5 follows (R191). The map record and the working copy are
written whether or not the map has changed. -/
def State.neighbourTest (s : State) (r : NtIn) : State :=
  let before := s.goodTiles
  let live := fun (t : Nat) => !s.fieldOff (tileField t) && bitOf (s.rd64 R.PW_RAIL_LO_ON R.PW_RAIL_HI_ON) (tileField t)
  let found := allTiles.filter (fun t => live t && s.ntBad r t)
  let news := found.filter (fun t => decide (stateRank (s.fab.dmap.tiles.get t 0) < stateRank (ntVerdict r t)))
  let links := s.ntDead r (fun t => found.contains t || s.tileState t == 1 || s.tileState t == 2)
  let d := s.fab.dmap
  let d' : DefectMap := { d with
    tiles := news.foldl (fun (m : Map Byte) t => m.put t (ntVerdict r t) 0) d.tiles
    linkDead := links.foldl setIns d.linkDead }
  let s := s.each links (fun s l => s.emit 0x0306 [.w4 l, .w4 5])
  let s := if d' = d then (s.nearWr s.lowPos (bandOff + 0x40000) s.dmapBytes).ledger 0x0003 s.dmapBytes else s.dmapSet d'
  let s := s.each news (fun s t => s.emit 0x0302 [.w4 t, .w4 (ntVerdict r t).toNat])
  let s := s.geomBuild.goodLow before
  let s := (((s.wr R.FB_CTRL_NT_START 0).wr R.FB_STATUS_NT_BUSY 0).wr R.FB_STATUS_NT_DONE 1).wr R.FB_STATUS_GOOD_TILES s.goodTiles
  s.emit 0x0301 [.w4 s.goodTiles]

/-- Reference ticks of the neighbour test, 20 s (R191). -/
def ntTicks : Nat := 2000000000

/-- The neighbour test ends. At start-up stage 3 is over with it (R544). -/
def State.ntEnd (s : State) : State :=
  match s.fab.nt with
  | none => s
  | some (r, _) =>
    let t := ({ s with fab := { s.fab with nt := none } } : State).neighbourTest r
    if s.rd R.HI_STATUS_STAGE = 3 then t.wr R.HI_STATUS_STAGE 4 else t

/-- The neighbour test ends once its 20 s have passed (R191). -/
def State.ntCheck (s : State) : State :=
  match s.fab.nt with
  | some (_, a) => if a + ntTicks ≤ s.ticks then s.ntEnd else s
  | none => s

/-- What cannot go on before the neighbour test has ended: the reference goes on to its end (log 210). -/
def State.ntWait (s : State) : State :=
  match s.fab.nt with
  | some (_, a) => ({ s with ticks := max s.ticks (a + ntTicks) } : State).ntEnd
  | none => s

/-- NT_START: a write of FB_CTRL.NT_START; ignored unless the module is between hands with no deal queued (R191, R214). The test of start-up is
over when the next stage begins. -/
def execNtStart (who : Agent) (r : NtIn) (s : State) : Host.Outcome State Fault Refusal :=
  .next (
    if s.mayWrite who R.FB_CTRL_NT_START.off && s.hand.running.isNone && s.hand.waiting.isNone && s.fab.nt.isNone then
      let t := ({ s with fab := { s.fab with nt := some (r, s.ticks) } } : State).wr R.FB_CTRL_NT_START 1
      let t := t.wr R.FB_STATUS_NT_BUSY 1
      if s.rd R.HI_STATUS_STAGE = 3 then t.ntWait else t
    else s)

end Sys2Proof.Machine
end

