-- ==== Sys2Proof/Machine/Mesh.lean ====
section
/-! DEFINITION. The edges of the mesh with their dealers: a router's entry and a flit that enters a lane, and what the dealers do upon
them (R177, R237 to R240). -/

namespace Sys2Proof.Machine

/-- The positions whose edge ports a tile has (R174). -/
def edgePositions (t : Nat) : List Nat := ((List.range 4).filterMap (fun d => (edgeAt t d).map (· / 3))).eraseDups

/-- The dealers at a tile's edge ports go on: a wait beat may have come, a lane may have room or a flit (R237 to R240). -/
def State.pumpEdge (s : State) (t : Nat) : State := s.each (edgePositions t) State.pump

/-- ROUTER_ENTRY: the router runs its next entry once the lanes hold flits and the outputs have room (R177). The beat is one of its tile too: an
issue that the tile holds slips by it, and what waited for the router's flits goes on (R86, R148). -/
def execRouterEntry (tile : Nat) (s : State) : Host.Outcome State Fault Refusal :=
  .next ((((s.heldSlip tile).routerBeat tile).advance tile).pumpEdge tile)

/-- FLIT_RECEIVE: the oldest flit on its way to a port comes to the lane of its kind (R171, R172). -/
def execFlitReceive (tile port : Nat) (side : Bool) (err : BitVec 528) (s : State) : Host.Outcome State Fault Refusal :=
  .next ((s.flitIn tile port side err).pumpEdge tile)

end Sys2Proof.Machine
end

