-- ==== Sys2Proof/Machine/Trump.lean ====
section
/-! DEFINITION. The trump network (R199 to R215): STOP, STALL, UNSTALL, START, FREEZE, STEP, THAW, flags, tricks at the root with their
timeout, and FB_TRUMP_CMD. -/

namespace Sys2Proof.Machine

/-! ## START (R180, R209, R327) -/

/-- Registers that count over a hand and return to 0 at the START of the play schedule (R215, R251, R317, R381): one register, or
one of each field, position or port. -/
def startZero : List Fld :=
  [R.FB_STALL_BEATS_BEATS, R.FB_FSLIP_SLIPS, R.DL_PLATE_BEATS, R.PT_STATUS_ALL_SEALED, R.PT_RENEGES_COUNT, R.PT_REBUILDS_COUNT,
   R.PT_PTRACK_PEAK, R.PT_PHELD_BEATS, R.PT_PPKT_COUNT, R.LK_PRETRY_COUNT, R.LK_PHELD_SLOTS]

/-- Write 0 to every register of an array. -/
def State.zeroFld (s : State) (f : Fld) : State := s.each (List.range f.count) (fun s i => s.setI f i 0)

/-- A router at START: phase 0 at RB 0. Switches that its tile decoded ahead of START stay noted (R148, R180). -/
def Router.start (r : Router) : Router := { r with phase := 0, b0 := 0, rb := 0 }

/-- A tile at START: BC of the primary is 0, and the side context's beat is noted; `counts`: its slips return to 0 as well (R127, R209, R327). -/
def Tile.start (counts : Bool) (x : Tile) : Tile :=
  { x with
    prim := if x.prim.running then { x.prim with bc := 0 } else x.prim
    side0 := x.side.bc.toNat
    slip := if counts then 0 else x.slip
    router := x.router.start }

/-- START: the schedule that was set up begins. At the START of a play schedule, and of a recovery deal's sweep, the counts of the
hand return to 0 (R327). -/
def State.startNow (s : State) : State :=
  let counts := !s.hand.sweep || (match s.hand.running with | none => false | some d => bitOf d.d.dflags.toNat 0)
  let s := { s with tiles := s.tiles.mapVals Tile.reset (Tile.start counts) }
  let s := { s with fab := { s.fab with started := true, slipped := if counts then [] else s.fab.slipped } }
  (if counts then s.each startZero State.zeroFld else s).advanceAll

/-- Whether a schedule is set up that START begins: none that runs already, and a recovery deal has no play schedule (R209, R342). -/
def State.startable (s : State) : Bool :=
  s.hand.running.isSome && !s.fab.started && s.hand.outcome.isNone && !(s.recovering && !s.hand.sweep)

/-- START (R209): at its tick every unit of the footprint and every router begins the schedule that the hand boundary, or the sweep's
start, set up. -/
def execStart (tick : TrumpPkt) (s : State) : Host.Outcome State Fault Refusal :=
  .next (s.hop tick.hop 0xB (fun s => let s := s.atTick tick.arg; if s.startable then s.startNow else s))

/-! ## FREEZE, STEP and THAW (R211, R212) -/

/-- The beat at which a context that runs stops when the wafer freezes now: the one after the beat it is in. -/
def Ctx.stopBeat (c : Ctx) : Nat := if c.running then c.bc.toNat + 1 else 0
/-- The highest stopping beat that tree 0xFF gathers over the tiles and the scheduled routers of the footprint (R203, R211). -/
def State.topBeat (s : State) : Nat :=
  if !s.fab.started then 0
  else s.tiles.foldl (fun n e =>
    max n (max e.2.prim.stopBeat (if e.2.router.mode == .scheduled then e.2.router.rb else 0))) 0

/-- FREEZE of units that may run (R211): F_eff is the greater of the target and the highest stopping beat; the units run on to it. A freeze in
force keeps the greatest F_eff. -/
def State.freezeNow (s : State) (target : Nat) : State :=
  let in_ := s.on R.FB_STATUS_FROZEN || s.fab.freezing
  let old := if in_ then s.fEff else 0
  let e := max (max old target) (if in_ then 0 else s.topBeat) % 2 ^ 48
  if in_ && e == old then s
  else
    let s := (s.wr64 R.FB_FREEZE_BEAT_LO_FE_LO R.FB_FREEZE_BEAT_HI_FE_HI e).wr R.DB_STATUS_BREAK 0
    let s := ({ s with fab := { s.fab with freezing := true } } : State).wr R.FB_STATUS_FROZEN 0
    (s.deliverAll.advanceAll).freezeCheck

/-- FREEZE (R211). On a stalled wafer the target is recorded (R212). -/
def State.freezeAt (s : State) (target : Nat) : State :=
  if s.on R.FB_STATUS_STALLED then
    { s with fab := { s.fab with freezePend := some (max (s.fab.freezePend.getD 0) target) } }
  else s.freezeNow target

/-- FREEZE (R211). -/
def execFreeze (target : Nat) (hop : Hop) (s : State) : Host.Outcome State Fault Refusal :=
  .next (s.hop hop 0x4 (fun s => s.freezeAt target))

/-- STEP n (R211): F_eff of a frozen wafer rises by n. -/
def State.stepBy (s : State) (n : Nat) : State :=
  if s.on R.FB_STATUS_FROZEN && decide (0 < n) then s.freezeAt (s.fEff + n) else s

/-- STEP (R211). -/
def execStep (n : TrumpPkt) (s : State) : Host.Outcome State Fault Refusal := .next (s.hop n.hop 0x5 (fun s => s.stepBy n.arg))

/-- THAW (R209, R211, R212): the freeze ends, and the units run on; a stalled wafer stays until UNSTALL. -/
def State.thawNow (s : State) : State :=
  (({ s with fab := { s.fab with freezePend := none, freezing := false } } : State).wr R.FB_STATUS_FROZEN 0).deliverAll.advanceAll

/-- THAW at its tick (R209). -/
def execThaw (tick : TrumpPkt) (s : State) : Host.Outcome State Fault Refusal :=
  .next (s.hop tick.hop 0x6 (fun s => (s.atTick tick.arg).thawNow))

/-! ## STALL and UNSTALL (R208, R209, R212) -/

/-- UNSTALL: the stall's beats are counted, a freeze recorded meanwhile takes effect, results that were held are written, and the units run on
(R209, R212). -/
def State.unstallNow (s : State) : State :=
  if s.fab.stallAt.isNone then s
  else
    let p := s.fab.freezePend
    let s := ({ s with fab := { s.fab with freezePend := none } } : State).stallEnd
    (match p with | none => s | some f => s.freezeNow f).deliverAll.advanceAll

/-- STALL at its tick (R209). -/
def execStall (cause : Nat) (tick : TrumpPkt) (s : State) : Host.Outcome State Fault Refusal :=
  .next (s.hop tick.hop 0x7 (fun s => (s.atTick tick.arg).stallNow cause))

/-- UNSTALL at its tick (R209). -/
def execUnstall (tick : TrumpPkt) (s : State) : Host.Outcome State Fault Refusal :=
  .next (s.hop tick.hop 0x8 (fun s => (s.atTick tick.arg).unstallNow))

/-! ## STOP (R210, R556) -/

/-- STOP (R210). -/
def execStop (cause : TrumpPkt) (s : State) : Host.Outcome State Fault Refusal :=
  .next (s.hop cause.hop 0x9 (fun s => s.stopFor cause.arg))

/-! ## Flags (R207, R208) -/

/-- A flag of the root set by a packet's bit. -/
def State.flagBit (s : State) (flags : BitVec 3) (i : Nat) (f : Fld) : State := if flags.getLsbD i then s.wr f 1 else s

/-- FLAG from a tile: OR flags at the root (R207); FAULT stalls the wafer with no software involved (R208). The supervisor's STOP is a command of
its own, and until it comes the stall, and a freeze, stand (R212). -/
def execFlag (tile : Nat) (flags : BitVec 3) (hop : Hop) (s : State) : Host.Outcome State Fault Refusal :=
  .next (s.hop hop 0x3 (fun s =>
    let s := s.onTile tile (fun x => { x with flags := x.flags ||| flags })
    let s := (s.flagBit flags 0 R.FB_TRUMP_FLAGS_NONFIN).flagBit flags 1 R.FB_TRUMP_FLAGS_RENEGE
    if flags.getLsbD 2 then s.faultFlag else s))

/-! ## Tricks (R203 to R206) -/

/-- CONTRIB: a contribution reaches the root and is combined (R204). -/
def execContrib (tree member : Nat) (fn : BitVec 4) (v : W32) (hop : Hop) (s : State) : Host.Outcome State Fault Refusal :=
  .next (s.hop hop 0x1 (fun s => s.contribIn tree member fn v))

/-- RESULT: the result of a complete instance reaches every member (R204), and what waited for it goes on. -/
def execResult (tree : Nat) (hop : Hop) (s : State) : Host.Outcome State Fault Refusal :=
  .next (s.hop hop 0x2 (fun s => (s.deliver tree).advanceAll))

/-- TRICK_TIMEOUT of an open instance of a wafer tree: the hand is misdealt; with every member lost the contributor count is 0,
which is fatal (R23, R206). While the wafer stands the timeout pauses (R212). A table tree has the timeout of R370 in its
place. -/
def execTrickTimeout (tree : Nat) (s : State) : Host.Outcome State Fault Refusal :=
  let t := s.trickOf tree
  .next (
    if 0xF0 ≤ tree ∨ t.got.isEmpty ∨ t.done.isSome ∨ !s.moving then s
    else
      let s := s.emit 0x030B [.w4 tree]
      if (s.members tree).isEmpty then s.fatal 0x030B 0xFFFF else s.misdeal 5)

/-! ## FB_TRUMP_CMD (R213, R214) -/

/-- Whether an agent's write of FB_TRUMP_CMD counts (R213, R518). -/
def State.mayTrump (s : State) (who : Agent) : Bool := s.mayWrite who R.FB_TRUMP_CMD_CMD.off

/-- CMD 0x1: FREEZE at FB_FREEZE_AT (R214). The stopping beats come as contributions on tree 0xFF (R203, R211); where a node refuses them, no
freeze comes about (R200, R201; log 232). -/
def execCmdFreeze (who : Agent) (_v : W32) (gather : Hop) (s : State) : Host.Outcome State Fault Refusal :=
  .next (if s.mayTrump who then
    s.hop gather 0x1 (fun s => s.freezeAt (s.rd64 R.FB_FREEZE_AT_LO_F_LO R.FB_FREEZE_AT_HI_F_HI)) else s)

/-- CMD 0x2: STEP by STEPS; 0 does nothing (R214). -/
def execCmdStep (who : Agent) (v : W32) (s : State) : Host.Outcome State Fault Refusal :=
  .next (if s.mayTrump who then s.stepBy (v.toNat / 2 ^ 16) else s)

/-- CMD 0x3: THAW, at the first tick that the root may name (R209, R214). -/
def execCmdThaw (who : Agent) (_v : W32) (s : State) : Host.Outcome State Fault Refusal :=
  .next (if s.mayTrump who then (s.atTick s.nextTick).thawNow else s)

/-- CMD 0x4: STALL, at the first tick that the root may name; its cause is 2 (R209, R214, R555). -/
def execCmdStall (who : Agent) (_v : W32) (s : State) : Host.Outcome State Fault Refusal :=
  .next (if s.mayTrump who then (s.atTick s.nextTick).stallNow 2 else s)

/-- CMD 0x5: UNSTALL, at the first tick that the root may name (R209, R214). -/
def execCmdUnstall (who : Agent) (_v : W32) (s : State) : Host.Outcome State Fault Refusal :=
  .next (if s.mayTrump who then (s.atTick s.nextTick).unstallNow else s)

/-- CMD 0x6: STOP, by the supervisor alone; with no fault behind it its cause is 7 (R214, R556). -/
def execCmdStop (who : Agent) (_v : W32) (s : State) : Host.Outcome State Fault Refusal :=
  .next (if (who == .supervisor) && s.mayTrump who then s.stopFor 7 else s)

end Sys2Proof.Machine
end

