-- ==== Sys2Proof/Machine/Gate.lean ====
section
/-! DEFINITION. The gate trick and its decision (R319 to R325), the start of the sweep schedule (R327), its watchdog (R330), full deals
(R338), pushes (R340) and restores (R344). -/

namespace Sys2Proof.Machine

/-! ## The contribution (R319, R320) -/

/-- Whether the play schedule of a hand is over and its gate record may be made: END issued on every tile of the footprint, with the
supervisor there to contribute (R319, R477). -/
def State.gateDue (s : State) : Bool :=
  s.hand.running.isSome && s.hand.outcome.isNone && !s.hand.sweep && !s.hand.contributed && s.allEnded && s.supvRuns

/-- The seat's gate record (R320). -/
def State.gateRec (s : State) (unsealed : Bool) : GateRec :=
  let fl := fun (f : Fld) (b : Nat) => 2 ^ b * b2n (s.on f)
  gateCrc {
    hand := s.hand.hand
    flags := BitVec.ofNat 32 (fl R.FB_TRUMP_FLAGS_NONFIN 0 + fl R.FB_TRUMP_FLAGS_RENEGE 1 + fl R.FB_TRUMP_FLAGS_FAULT 2 +
      8 * b2n unsealed + fl R.NM_UPD_CTRL_SKIP_NEXT 4)
    contrib := 1
    seats := BitVec.ofNat 16 (s.rd R.PT_SEATS_S)
    reneges := BitVec.ofNat 32 (s.rd R.PT_RENEGES_COUNT)
    rounds := BitVec.ofNat 32 s.rounds
    lnorm := BitVec.ofNat 64 (s.rd64 R.PT_LNORM_LO_BITS R.PT_LNORM_HI_BITS)
    rnorm := BitVec.ofNat 64 (s.rd64 R.PT_RNORM_LO_BITS R.PT_RNORM_HI_BITS)
    k := 0
    lr := BitVec.ofNat 32 (s.rd R.NM_LR_LR)
    step := BitVec.ofNat 64 (s.rd64 R.NM_STEP_LO_STEP R.NM_STEP_HI_STEP)
    decision := 0, cause := 0, crc := 0 }

/-- GATE_CONTRIBUTE (R319): with every pot sealed, or, `waited`, once PT_ROUND_TO has passed since the last END without that; then the
reduced norm is taken over the hi words as they stand and the record says UNSEALED. SKIP_NEXT clears as it is taken (R320). -/
def execGateContribute (waited : Bool) (s : State) : Host.Outcome State Fault Refusal :=
  let sealed := s.on R.PT_STATUS_ALL_SEALED
  .next (
    if !s.gateDue || !(sealed || waited) then s
    else
      let s := if sealed then s else s.setRnorm
      let r := s.gateRec (!sealed)
      let s := s.wr R.NM_UPD_CTRL_SKIP_NEXT 0
      ({ s with hand := { s.hand with contributed := true } } : State).tableGate r)

/-! ## The decision (R322 to R325) -/

/-- What the gate decides: DECISION, CAUSE and K, where K is given (R322, R323). -/
structure GateVerdict where
  decision : Nat
  cause : Nat
  k : W32
  deriving DecidableEq, Repr

/-- The gradient scale, and whether the ceiling test fails (R323). A failed test gives no K: the record's 0 stays (log 50). -/
def gateScale (mean : Bool) (clip ceil : W32) (r : GateRec) : W32 × Bool :=
  let one : W64 := toD64 (.num false 1 0)
  let k0 := if mean then dDiv one (natD (r.seats.toNat * r.rounds.toNat)) else one
  let norm := dMul (dSqrt r.rnorm) k0
  let above := fun (lim : W32) => (f32 lim).cmp (.num false 0 0) > 0 && !(d64 norm).isNan && decide ((d64 norm).cmp (f32 lim) > 0)
  if above ceil then (0, true)
  else if above clip then (toF32 (d64 (dDiv (dMul k0 (toD64 (f32 clip))) norm)), false)
  else (toF32 (d64 k0), false)

/-- The first row of R322 whose condition holds; none for CONTRIB 0. -/
def gateVerdict (mean : Bool) (clip ceil : W32) (r : GateRec) : Option GateVerdict :=
  let g := gateScale mean clip ceil r
  let f := fun b => bitOf r.flags.toNat b
  if r.contrib = 0 then none
  else some (
    if f 5 then ⟨3, 1, g.1⟩
    else if f 2 then ⟨3, 2, g.1⟩
    else if f 3 then ⟨3, 3, g.1⟩
    else if r.contrib ≠ r.seats then ⟨3, 4, g.1⟩
    else if f 0 || !(d64 r.lnorm).finite || !(d64 r.rnorm).finite then ⟨2, 5, g.1⟩
    else if f 4 then ⟨2, 6, g.1⟩
    else if g.2 then ⟨2, 7, g.1⟩
    else ⟨1, 0, g.1⟩)

/-- Write the gate line on every position in service (R324). -/
def State.writeGateLine (s : State) (r : GateRec) : State := s.each s.svc (fun s k => s.nearWr k gateOff (gateLine r))

/-- Raise NM_STEP by 1 (R325). -/
def State.stepUp (s : State) : State :=
  s.wr64 R.NM_STEP_LO_STEP R.NM_STEP_HI_STEP ((s.rd64 R.NM_STEP_LO_STEP R.NM_STEP_HI_STEP + 1) % 2 ^ 64)

/-- No sweep follows: every dealer is done with its list (R233, R251). -/
def State.dealsDone (s : State) : State := s.each allPos (fun s k => s.setI R.DL_PDESC_INDEX k (s.dealer k).descs.length)

/-- Act on a decision (R322, R324, R325). A fault of this seat after its contribution tears the sweep that APPLY calls for (R328,
R371). -/
def State.decide_ (s : State) (v : GateVerdict) (r : GateRec) : State :=
  let r := gateCrc { r with k := v.k, decision := BitVec.ofNat 8 v.decision, cause := BitVec.ofNat 8 v.cause }
  let s := (s.wr R.NM_UPD_STATUS_DECISION v.decision).wr R.NM_UPD_STATUS_CAUSE v.cause
  let s := s.writeGateLine r
  let s := { s with hand := { s.hand with result := some r } }
  match v.decision with
  | 1 =>
    let s := ({ s with hand := { s.hand with kept := some r } } : State).stepUp
    if s.hand.misdealt then s.tear else s
  | 2 =>
    let s := s.dealsDone.emit 0x0A10 [.w8 s.hand.hand.toNat, .w4 v.cause]
    { s with hand := { s.hand with outcome := some (0x04, v.cause) } }
  | _ =>
    let s := s.dealsDone.stopWafer.emit 0x0A11 [.w8 s.hand.hand.toNat, .w4 v.cause]
    { s with hand := { s.hand with misdealt := true, outcome := some (0x47, 0x10 + v.cause) } }

/-- GATE_DECIDE (R322): the seat decides from the record that tree 0xFF returned to it, once. CONTRIB 0 is a fatal table error, whose
cause code no rule states (R23). -/
def execGateDecide (r : GateRec) (s : State) : Host.Outcome State Fault Refusal :=
  .next (
    if !(s.hand.running.isSome && s.hand.outcome.isNone && s.hand.contributed && !s.recovering && s.hand.result == some r &&
        r.decision == 0 && s.supvRuns) then s
    else match gateVerdict (s.on R.NM_UPD_CTRL_MEAN) (BitVec.ofNat 32 (s.rd R.NM_CLIP_CLIP)) (BitVec.ofNat 32 (s.rd R.NM_CEIL_CEIL)) r with
      | some v => s.decide_ v r
      | none => s.freeW.2.fatal (s.freeW.1.toNat % 65536) 0xFFFF)

/-! ## The sweep (R327, R330) -/

/-- The state that a generator is loaded with (R57). -/
def seedGen (seed hand : W64) (unit : Nat) : W64 :=
  let x := seed ^^^ (hand * 0xB7E151628AED2A6B) ^^^ (BitVec.ofNat 64 unit * 0x6C8E9CF57032B1A9)
  if x = 0 then 1 else x

/-- The seed of the image that runs. -/
def State.seed (s : State) : W64 := match s.curImage with | none => 0 | some m => m.seed

/-- A tile set up for a schedule of its primary context from a word: registers, scratch and SIG 0, M0 all ones, both buffers empty and
the primary's, no queue entry of the primary (R74, R109, R144, R327). `beats`: those of the schedules of the hand before it. What the side context has
under way goes on unchanged (R165). -/
def Tile.setUp (x : Tile) (pc : BitVec 14) (gen : W64) (banks : Nat × Nat) (beats : Nat) : Tile :=
  { x with
    beats := beats
    prim := { Ctx.reset with pc := pc, gen := gen, running := true }
    bufA := WBuf.empty, bufB := WBuf.empty, useA := 0, useB := 0
    popped := x.popped.filter (·.1), recHold := none
    router := { x.router with switches := [] }
    queue := x.queue.filter (·.side)
    opHist := [], stepHist := []
    acc := x.acc.filter (fun e => !(decide (banks.1 ≤ e.1 / 64) && decide (e.1 / 64 < banks.2))) }

/-- Set up the sweep schedule (R57, R259, R327): every tile of the footprint resumes at the word after the END of its play schedule, the
generators are loaded for the hand of the gate line, the slots of phase 0 are bound, and the dealers go on to their sweep parts. -/
def State.sweepSetUp (s : State) (h : W64) : State :=
  let b := s.banks false
  let fp := s.footprint
  let s := s.each fp (fun s t =>
    (s.onTile t (fun x => { (x.setUp x.prim.pc (seedGen s.seed h (t + 0x40000)) b (x.beats + x.prim.bc.toNat)) with accEpoch := x.accEpoch + 1 })).bind t 0)
  let s := s.each allPos (fun s k =>
    if (s.dealer k).descs.isEmpty then s
    else
      (s.setI R.DL_PDESC_INDEX k (s.dealer k).sweepFirst).onDealer k (fun d => { d with
        gen := seedGen s.seed h (0x20000 + k + 0x40000), pass := 0, opened := d.opened.map (fun o => { o with wait := 0 }) }))
  let s := { s with hand := { s.hand with sweep := true }, fab := { s.fab with started := false } }
  s.wr R.NM_UPD_STATUS_SWEEP_BUSY 1

/-- SWEEP_START (R327): after APPLY the sweep schedule is set up, and the root's START begins it. It waits until the mirror seat has
acknowledged the push of the previous state, and each beat of the wait counts in DL_PLATE (R340). A fault of the seat meanwhile has torn it
(R328). -/
def execSweepStart (s : State) : Host.Outcome State Fault Refusal :=
  .next (match s.hand.result with
    | none => s
    | some r =>
      if !(s.hand.running.isSome && s.hand.outcome.isNone && s.hand.contributed && !s.hand.sweep && r.decision == 1) then s
      else if s.hand.misdealt then s.tear
      else if s.pushing then s.each s.svc (fun s k => s.bumpI R.DL_PLATE_BEATS k 1)
      else s.sweepSetUp r.hand)

/-- SWEEP_TIMEOUT (R330): the sweep watchdog, which pauses while the wafer stands, expires: STOP, the shard is torn. -/
def execSweepTimeout (s : State) : Host.Outcome State Fault Refusal :=
  .next (if s.hand.sweep && s.hand.outcome.isNone && s.fab.started && s.moving then s.tear.emit 0x0A13 [.w8 s.hand.hand.toNat] else s)

/-! ## Full deals (R336 to R339) -/

/-- The FULL segment of a part: a header of the hand, the image and the step whose state it exports (R336). -/
def State.fullSegment (s : State) (e : Export) (p : Part) (seq : Nat) : Bytes :=
  let body := if p.space = 0 then s.stockRd p.pos p.base (64 * p.lines) else s.nearRd p.pos p.base (64 * p.lines)
  let b := leBytes 4 0x53445844 ++ leBytes 2 0x0100 ++ leBytes 1 2 ++ leBytes 1 p.pos ++ leBytes 8 e.hand.toNat ++
    leBytes 2 s.rank ++ leBytes 1 p.space ++ leBytes 1 (b2n p.last) ++ leBytes 4 seq ++ leBytes 8 e.image ++ leBytes 8 p.base ++
    leBytes 4 (16 * p.lines) ++ leBytes 4 body.length ++ leBytes 8 e.step ++ zeros 4
  b ++ leBytes 4 (crc32c (b ++ body)).toNat ++ slice body 0 (roundUp body.length 8)

/-- The dealers go on: lines that an export has read may be written, segments that staging took room for may follow (R329, R339). -/
def State.pumpAll (s : State) : State := (s.each s.svc State.pump).settle

/-- The delta ring takes the segment staged first, padded to 64 bytes, once its free space holds it (R408); what waited for room in staging goes on
(R339). -/
def execDeltaRingWrite (s : State) : Host.Outcome State Fault Refusal :=
  match s.num.segs with
  | [] => .next s
  | g :: t =>
    let n := roundUp g.length 64
    if s.ringReady .dlt ∧ n / 64 ≤ s.ringRoom .dlt then
      .next ((({ s with num := { s.num with segs := t } } : State).ringPut .dlt (slice g 0 n)).pumpAll)
    else .next s

/-- Stage the parts of a full deal while their positions have room, with what the code reports over the lines read (R228, R554); the parts left, how many were staged. `seqs` holds each position's
next number. -/
def State.stageFull (s : State) (e : Export) (ecc : SeatEcc) : List Part → Map Nat → State × List Part × Nat
  | [], _ => (s, [], 0)
  | p :: t, seqs =>
    let g := s.fullSegment e p (seqs.get p.pos 0)
    if s.staged p.pos + g.length ≤ stagingSize then
      let s := s.rangeEcc (p.space == 1) p.pos p.base (64 * p.lines) (eccOf ecc (2 * p.pos + p.space)) (requester 8 p.pos)
      let r := State.stageFull { s with num := { s.num with segs := s.num.segs ++ [g] } } e ecc t (seqs.put p.pos (seqs.get p.pos 0 + 1) 0)
      (r.1, r.2.1, r.2.2 + 1)
    else (s.deltaHeld p.pos, p :: t, 0)

/-- The full deal under way is over: FULL_BUSY clears (R347). -/
def State.endFull (s : State) : State :=
  let s := s.wr R.NM_UPD_STATUS_FULL_BUSY 0
  { s with hand := { s.hand with full := none, deltaSeq := s.hand.deltaSeq.filter (fun x => x.1 % 2 == 0) } }

/-- FULL_DEAL (R338): the state set leaves as FULL segments, in order, as long as staging has room; the last ends it, with
FULL_DEAL_DONE. One that the disable of the delta ring met makes no more segments and ends without it (R408; log 215). -/
def execFullDeal (s : State) : Host.Outcome State Fault Refusal :=
  .next (match s.hand.full with
    | none => s
    | some e => State.pumpAll (if !s.ringOn .dlt then s.endFull else
      let seqs := s.hand.deltaSeq.filter (fun x => x.1 % 2 == 1)
      let next := seqs.foldl (fun (m : Map Nat) x => m.ins (x.1 / 2) x.2) []
      let r := s.stageFull e s.hand.exports e.parts next
      let gone := e.parts.take r.2.2
      let seq' := gone.foldl (fun (m : Map Nat) p => m.put (2 * p.pos + 1) (m.get (2 * p.pos + 1) 0 + 1) 0) r.1.hand.deltaSeq
      let s := { r.1 with hand := { r.1.hand with deltaSeq := seq' } }
      let sent := e.sent + r.2.2
      if r.2.1.isEmpty then
        let s := s.wr64 R.NM_FULL_HAND_LO_HAND R.NM_FULL_HAND_HI_HAND e.hand.toNat
        s.endFull.emit 0x0A15 [.w8 e.hand.toNat, .w4 sent]
      else { s with hand := { s.hand with full := some { e with parts := r.2.1, sent := sent } } }))

/-! ## Pushes (R340, R341) -/

/-- The version of the piece that holds a stack offset. -/
def State.versionAt (s : State) (k off : Nat) : W64 :=
  match (s.dealer k).pieces.find? (fun p => decide (p.off ≤ off) && decide (off < p.off + 64 * p.lines)) with
  | none => 0
  | some p => p.version

/-- Send one part of a push (R340, R360). -/
def State.pushPart (s : State) (m : Nat) (e : Export) (p : Part) : State :=
  let body := if p.space = 0 then s.stockRd p.pos p.base (64 * p.lines) else s.nearRd p.pos p.base (64 * p.lines)
  let v : Nat := if p.space = 1 then (s.versionAt p.pos p.base).toNat else 0
  s.sendTo m 3 0x12 (leBytes 8 e.hand.toNat ++ leBytes 1 p.pos ++ leBytes 1 p.space ++ zeros 6 ++ leBytes 8 p.base ++ leBytes 8 v ++
    zeros 16 ++ body)

/-- PUSH_START (R340): the owner sends its state set to the mirror seat; every position in service has at least one packet, so that
each is acknowledged (log 51). A mirror seat that cannot be reached fails the push (R345). -/
def execPushStart (s : State) : Host.Outcome State Fault Refusal :=
  .next (match s.hand.push with
    | none => s
    | some e =>
      if !s.hand.pushPend then s
      else
        let m := s.ownMirror
        let s := { s with hand := { s.hand with pushPend := false } }
        if !s.reachable m then (s.sendTo m 3 0x12 []).pushFail e.hand
        else
          let bare := (s.svc.filter (fun k => !e.parts.any (fun p => p.pos == k))).map (fun k => (⟨k, 0, 0, 0, true⟩ : Part))
          let s := s.each (e.parts ++ bare) (fun s p =>
            (s.rangeEcc (p.space == 1) p.pos p.base (64 * p.lines) (eccOf s.hand.exports (2 * p.pos + p.space)) (requester 8 p.pos)).pushPart m e p)
          let s := { s with hand := { s.hand with
            push := some { e with parts := [], sent := e.parts.length + bare.length }, pushOpen := s.svc } }
          (s.wr R.NM_UPD_STATUS_PUSH_BUSY 1).pumpAll)

/-- PUSH_LATE (R340): the owner's next sweep has waited longer than 1 ms for the mirror seat's acknowledge. -/
def execPushLate (s : State) : Host.Outcome State Fault Refusal :=
  let waits := s.hand.running.isSome && s.hand.outcome.isNone && !s.hand.sweep &&
    (match s.hand.result with | some r => r.decision == 1 | none => false)
  .next (if s.pushing && waits then s.emit 0x0A16 [.w8 s.hand.hand.toNat, .w4 s.ownMirror] else s)

/-! ## Restore (R344) -/

/-- GO (R344): a write of 1 to NM_RESTORE_CMD.GO; ignored unless the module is between hands with no deal queued and no push is under
way from this seat or toward it (R345). -/
def execGo (who : Agent) (s : State) : Host.Outcome State Fault Refusal :=
  .next (
    if !s.mayWrite who R.NM_RESTORE_CMD_GO.off || !s.between || s.pushing || s.link.mirror.hand.isSome then s
    else
      let h := s.rd64 R.NM_RESTORE_HAND_LO_HAND R.NM_RESTORE_HAND_HI_HAND
      let s := s.each allPos (fun s k =>
        if (s.dealer k).pieces.isEmpty then s
        else s.onDealer k (fun d => { d with pieces := d.pieces.map (fun p => { p with version := BitVec.ofNat 64 h }) }))
      let s := s.wr64 R.NM_STEP_LO_STEP R.NM_STEP_HI_STEP (s.rd64 R.NM_RESTORE_STEP_LO_STEP R.NM_RESTORE_STEP_HI_STEP)
      let s := (s.wr R.NM_UPD_STATUS_TORN 0).wr R.NM_UPD_STATUS_MIRROR_VALID 0
      let s : State := { s with
        hand := { s.hand with next := BitVec.ofNat 64 (h + 1), fullPend := true, appliedFull := 0 }
        link := { s.link with mirror := { s.link.mirror with active := none } } }
      s.emit 0x0A18 [.w8 h])

end Sys2Proof.Machine
end

