-- ==== Sys2Proof/Machine/LinkPort.lean ====
section
/-! DEFINITION. Link ports (R348 to R358, R546, R547): training, HELLO, frames, going down, the start-up soak, and the commit of a table
configuration (R377). -/

namespace Sys2Proof.Machine

/-! ## Port state -/

/-- Change a link port. -/
def State.onLport (s : State) (p : Nat) (f : LPort → LPort) : State := s.setLport p (f (s.lport p))
/-- Set a port's state: 0 DOWN, 1 MODULE, 2 TRAINING, 3 UP, 4 UP_HALF, 5 FOREIGN, 6 FAILED; LK_STATUS counts the ports that are up. -/
def State.setPort (s : State) (p v : Nat) : State :=
  let s := s.setI R.LK_PSTAT_STATE p v
  s.wr R.LK_STATUS_PORTS_UP (allPorts.filter s.portUp).length
/-- Whether the clocks of a port run (R439, R440). -/
def State.portOn (s : State) (p : Nat) : Bool := bitOf (s.rd R.CK_EN_LINK_EN) p
/-- Whether a port is enabled. -/
def State.portEn (s : State) (p : Nat) : Bool := s.getI R.LK_PCTRL_EN p == 1

/-- The 17 bytes of a HELLO (R360). -/
def State.helloBody (s : State) (p : Nat) : Bytes :=
  leBytes 8 (s.rd64 R.LK_TABLE_ID_LO_ID R.LK_TABLE_ID_HI_ID) ++ leBytes 4 (s.rd R.LK_TGEN_GEN) ++ leBytes 2 s.rank ++
    leBytes 2 (s.rd R.LK_SEATS_S) ++ leBytes 1 p
/-- Send a HELLO on a port (R353). Its DEST, which no rule gives, is the peer's rank as the port knows it. -/
def State.sendHello (s : State) (p : Nat) : State :=
  s.linkOut ⟨p, 1, 0, s.getI R.LK_PSTAT_PEER_RANK p, s.rank, 0x24, 0, BitVec.ofNat 32 (s.rd R.LK_TGEN_GEN), s.helloBody p⟩

/-! ## Going down (R352, R378, R379) -/

/-- Whether a table configuration is broken without a port: a rank of the table has no port that is up, or an enabled tree lost this
port (R379). -/
def State.tableHurt (s : State) (p : Nat) : Bool :=
  (List.range (s.rd R.LK_SEATS_S)).any (fun d => d != s.rank && s.getI R.LK_ROUTE_PORTS d != 0 && !s.reachable d) ||
    (List.range 16).any (fun n => s.getI R.LK_TREE_EN n == 1 && (s.getI R.LK_TREE_PARENT n == p || bitOf (s.getI R.LK_TREE_CHILDREN n) p))

/-- A port that is up goes down (R352): PORT_DOWN, SEAT_LOST when the last port to its peer goes, a hand in progress is misdealt with
PORT, but the loss of another seat lets this seat's sweep complete (R32, R345), a push whose mirror seat is lost fails (R345), and between hands a table that it breaks is no longer committed. `dst` is the state that it goes to. -/
def State.goesDown (s : State) (p cause dst : Nat) : State :=
  let wasUp := s.portUp p
  if !wasUp && s.getI R.LK_PSTAT_STATE p != 5 then s.setPort p dst
  else
    let peer := s.getI R.LK_PSTAT_PEER_RANK p
    let s := (s.setPort p dst).onLport p (fun x => { x with unackN := 0, waiting := 0, resends := 0, crcRun := 0, nakDue := false, used := [] })
    let s := s.emit 0x0502 [.w4 p, .w4 cause]
    if !wasUp then s
    else
      let lost := !(s.alone || allPorts.any (fun q => s.portUp q && s.getI R.LK_PSTAT_PEER_RANK q == peer))
      let s := if lost then s.emit 0x050C [.w4 peer] else s
      let s := if s.between && !s.alone && s.tableHurt p then s.wr R.LK_STATUS_TABLE_OK 0 else s
      let s := s.pushLost
      if lost && s.hand.sweep then s else s.misdeal 6

/-- The state of a port that is no longer up: it retrains while it is enabled (R352). -/
def State.downTo (s : State) (p : Nat) : Nat := if s.portEn p && s.portOn p then 2 else 0

/-- A port goes down for a reason whose code in PORT_DOWN no rule gives. -/
def State.dropPort (s : State) (p dst : Nat) : State := s.freeW.2.goesDown p s.freeW.1.toNat dst

/-- PORT_DOWN (R352): the lock of a lane is lost, or another reason of the physical layer, named by its code. -/
def execPortDown (port cause : Nat) (s : State) : Host.Outcome State Fault Refusal :=
  .next (if s.portUp port || s.getI R.LK_PSTAT_STATE port == 5 then s.goesDown port cause (s.downTo port) else s)

/-! ## Training (R350 to R352, R536) -/

/-- Whether lanes that failed leave the port a half: all of them lie in one half (R350). -/
def halfOk (bad : BitVec 8) : Bool := bad &&& 0x0F == 0 || bad &&& 0xF0 == 0

/-- The step that training fails at, if it does: step 1 without a pluggable or with one above 25 W, three attempts that fail, or lanes
that leave no width (R350 to R352, R536). -/
def State.trainFails (s : State) (p : Nat) (t : TrainIn) : Option Nat :=
  let a := t.fails.take 3
  if !(s.lport p).cage || 25 < t.powerClass then some 1
  else if a.length = 3 ∧ a.all (· != 0) then a.getLast?
  else if t.badLanes ≠ 0 ∧ !(s.getI R.LK_PCTRL_DEGRADE_EN p == 1 && halfOk t.badLanes) then some 5
  else none

/-- Training up to its step 6: the port then waits for its peer's HELLO and has sent its own; after three attempts that failed it is
FAILED, with TRAIN_FAIL (R351, R352). -/
def State.train (s : State) (p : Nat) (t : TrainIn) : State :=
  if !s.portEn p || !s.portOn p then s
  else match s.trainFails p t with
    | some n => ((s.setPort p 6).onLport p (fun x => { x with cause := 1 })).emit 0x0503 [.w4 p, .w4 n]
    | none =>
      let s := (s.setPort p 2).setI R.LK_PBER_ERRORS p t.ber.toNat
      let s := (s.setI R.LK_PSTAT_PRECODE p (b2n t.precode)).setI R.LK_PSTAT_HALF_HI p (b2n (t.badLanes &&& 0x0F != 0))
      (s.onLport p (fun x => { x with half := t.badLanes != 0, cause := 0 })).sendHello p

/-- PORT_ENABLE: a write of LK_PCTRL. EN going to 1 trains the port from step 1; EN at 0 takes it down (R351, R352, R381). -/
def State.portCtrl (s : State) (who : Agent) (port : Nat) (v : W32) (t : TrainIn) : State :=
  if !s.mayWrite who (R.LK_PCTRL_EN.addr port) then s
  else
    let old := s.portEn port
    let s := s.setReg (R.LK_PCTRL_EN.addr port) (v &&& 0x1F)
    if v &&& 1 = 0 then (s.dropPort port 0).setPort port 0
    else if old then s
    else s.train port t

/-- A RETRAIN: training restarts from step 2; a port that is up goes down first (R381). -/
def State.retrain (s : State) (p : Nat) (t : TrainIn) : State :=
  if !s.portEn p then s
  else
    let s := if s.portUp p || s.getI R.LK_PSTAT_STATE p == 5 then s.dropPort p 2 else s
    s.train p t

/-- RETRAIN (R381). -/
def State.retrainCmd (s : State) (who : Agent) (port : Nat) (t : TrainIn) : State :=
  if s.mayWrite who (R.LK_PCTRL_EN.addr port) then s.retrain port t else s

/-- PERIODIC_RETRAIN: every 10 s the supervisor retrains the FAILED ports whose cages hold a pluggable or cable, those that failed with
HELLO excepted (R547). -/
def State.retrainAll (s : State) (ts : List (Nat × TrainIn)) : State :=
  if !s.supvRuns then s
  else s.each ts (fun s e =>
    if s.getI R.LK_PSTAT_STATE e.1 == 6 && (s.lport e.1).cage && (s.lport e.1).cause != 2 then s.retrain e.1 e.2 else s)

/-! ## HELLO (R351 step 6, R353) -/

/-- Sequence numbers and credits at their start values (R351, R357). -/
def LPort.fresh (x : LPort) : LPort :=
  { x with expect := 0, txSeq := 0, unackN := 0, waiting := 0, resends := 0, crcRun := 0, nakDue := false, used := [], credit := 0, freed := [] }

/-- A port that has trained comes up: PORT_UP with its width in lanes, and at half width PORT_DEGRADED, whose lanes no rule codes
(R350, R351). -/
def State.comesUp (s : State) (p rank v : Nat) : State :=
  let h := (s.lport p).half
  let s := ((s.setPort p v).onLport p LPort.fresh).emit 0x0501 [.w4 p, .w4 rank, .w4 (if h then 4 else 8)]
  if h then s.freeW.2.emit 0x0504 [.w4 p, .w4 s.freeW.1.toNat] else s

/-- HELLO (R353): it reaches a port that trains or is up, and decides what the port is. A HELLO of the wrong class or without a chunk
is STRAY_LINK (R359). -/
def State.helloIn (s : State) (h : LHdr) (m : HelloIn) : State :=
  let p := h.port
  let st := s.getI R.LK_PSTAT_STATE p
  if st < 2 ∨ st = 6 then s
  else if h.cls ≠ 1 ∨ h.len = 0 then s.emit 0x050F [.w4 h.src, .w4 0x24, .w4 h.tgen.toNat]
  else if m.seats = 0 ∨ 1024 < m.seats ∨ m.seats ≤ m.rank ∨ 15 < m.port then
    let s := if 3 ≤ st then s.dropPort p 6 else s
    (s.setPort p 6).onLport p (fun x => { x with cause := 2 })
  else
    let s := (s.setI R.LK_PSTAT_PEER_RANK p m.rank).setI R.LK_PSTAT_PEER_PORT p m.port
    let same := m.tableId.toNat == s.rd64 R.LK_TABLE_ID_LO_ID R.LK_TABLE_ID_HI_ID && m.tgen.toNat == s.rd R.LK_TGEN_GEN
    let v := if same then (if (s.lport p).half then 4 else 3) else 5
    let s := if st = 2 then s.comesUp p m.rank v else s.setPort p v
    if same then s else s.emit 0x0505 [.w4 p, .w4 (m.tableId.toNat % 2 ^ 32)]

/-! ## Frames (R354, R355, R357) -/

/-- An ACK and a CREDIT from the peer: frames up to the one named are acknowledged, and chunks of each pair are free again. -/
def LPort.acked (x : LPort) (ack : Nat) (credit : W32) : LPort :=
  let oldest := (x.txSeq + 2 ^ 24 - x.unackN) % 2 ^ 24
  let n := (ack + 1 + 2 ^ 24 - oldest) % 2 ^ 24
  let y := if 0 < n ∧ n ≤ x.unackN then { x with unackN := x.unackN - n, resends := 0 } else x
  let used := (List.range 8).foldl (fun (m : Map Nat) i =>
    let d := (bitsOf credit.toNat (4 * i) 4 + 16 - bitsOf x.credit.toNat (4 * i) 4) % 16
    m.put i (m.get i 0 - 8 * d) 0) y.used
  ({ y with used := used, credit := credit } : LPort).fill

/-- Send again from the oldest unacknowledged frame; where that frame has been sent 8 times the port goes down instead (R352, R355). -/
def State.resendFrames (s : State) (p : Nat) : State :=
  let x := s.lport p
  if x.unackN = 0 then s
  else if 7 ≤ x.resends then s.dropPort p (s.downTo p)
  else (s.setLport p { x with resends := x.resends + 1 }).bumpI R.LK_PRETRY_COUNT p x.unackN

/-- FRAME_RECEIVE (R355): a frame in order is accepted, and its chunks are freed; one that fails its CRC or leaves a gap is discarded
with a NAK, the fourth CRC failure in a row taking the port down (R352); one with IDLE set carries ACK and CREDIT alone. -/
def execFrameReceive (port : Nat) (f : FrameIn) (s : State) : Host.Outcome State Fault Refusal :=
  let x := s.lport port
  .next (
    if !s.portUp port && s.getI R.LK_PSTAT_STATE port != 5 then s
    else if !f.crcOk then
      let s := s.setLport port { x with crcRun := x.crcRun + 1, nakDue := true }
      if 4 ≤ x.crcRun + 1 then s.dropPort port (s.downTo port) else s
    else
      let y := ({ x with crcRun := 0 } : LPort).acked f.ack f.credit
      let y :=
        if f.idle then y
        else if f.seq % 2 ^ 24 = y.expect then
          { y with expect := (y.expect + 1) % 2 ^ 24, nakDue := false, freed := f.chunks.foldl (fun (m : Map Nat) c => m.put c.1 (m.get c.1 0 + c.2) 0) y.freed }
        else if (y.expect + 2 ^ 24 - f.seq) % 2 ^ 24 ≤ 1024 then y
        else { y with nakDue := true }
      let s := s.setLport port y
      if f.nak then s.resendFrames port else s)

/-- FRAME_RESEND_TIMER (R355): the oldest unacknowledged frame has waited 2 µs. -/
def execFrameResendTimer (port : Nat) (s : State) : Host.Outcome State Fault Refusal :=
  .next (if s.portUp port || s.getI R.LK_PSTAT_STATE port == 5 then s.resendFrames port else s)

/-! ## The start-up soak (R546) -/

/-- START_UP_SOAK: a port that is up in stage 5 has soaked. The first failure takes it down with SOAK and it trains again; the second
leaves it FAILED, with step 7. -/
def State.soakEnd (s : State) (port : Nat) (pass : Bool) (t : TrainIn) : State :=
  let x := s.lport port
  if s.rd R.HI_STATUS_STAGE ≠ 5 ∨ !s.portUp port ∨ x.soaked then s
  else if pass then s.setLport port { x with soaked := true }
  else
    let s := s.setLport port { x with soaks := x.soaks + 1 }
    if x.soaks = 0 then (s.dropPort port 2).train port t
    else ((s.dropPort port 6).onLport port (fun x => { x with cause := 3 })).emit 0x0503 [.w4 port, .w4 7]

/-! ## The commit of a table (R377) -/

/-- The check of one enabled tree: its SUM of ones came to the number of seats. -/
def State.treeCheck (s : State) (results : List (Nat × Option W32)) (n : Nat) : State × Bool :=
  match results.find? (fun e => e.1 == 0xF0 + n) with
  | some (_, some v) => if v.toNat = s.rd R.LK_SEATS_S then (s, true) else (s.emit 0x050D [.w4 (0xF0 + n), .w4 v.toNat], false)
  | _ =>
    let a := s.freeW
    let b := a.2.freeW
    (b.2.emit 0x0509 [.w4 (0xF0 + n), .w4 a.1.toNat, .w4 b.1.toNat], false)

/-- COMMIT (R377): between hands with no deal queued, TABLE_OK goes, HELLO is sent again on every port that is up, and every enabled tree
is checked; a table of more than one seat needs tree 0xFF. `results` is what each tree's SUM returned, none for one that timed out. -/
def execCommit (who : Agent) (results : List (Nat × Option W32)) (s : State) : Host.Outcome State Fault Refusal :=
  .next (
    if !s.mayWrite who R.LK_CMD_COMMIT.off || !s.between then s
    else
      let s := s.wr R.LK_STATUS_TABLE_OK 0
      let s := s.each (allPorts.filter (fun p => s.portUp p || s.getI R.LK_PSTAT_STATE p == 5)) State.sendHello
      let trees := (List.range 16).filter (fun n => s.getI R.LK_TREE_EN n == 1)
      let r := trees.foldl (fun (a : State × Bool) n => let o := a.1.treeCheck results n; (o.1, a.2 && o.2)) (s, true)
      let s := r.1
      if 1 < s.rd R.LK_SEATS_S ∧ !trees.contains 15 then s.freeW.2.emit 0x050D [.w4 0xFF, .w4 s.freeW.1.toNat]
      else if r.2 then (s.wr R.LK_STATUS_TABLE_OK 1).emit 0x050E [.w4 (s.rd R.LK_TGEN_GEN), .w4 (s.rd R.LK_SEATS_S)]
      else s)

end Sys2Proof.Machine
end

