-- ==== Sys2Proof/Machine/Reset.lean ====
section
/-! DEFINITION. The resets of the module (R448, R455, R477, R521, R550, R551): locking the debug port, a module reset, a supply reset, the
entry into WATCH, and a supervisor reset. -/

namespace Sys2Proof.Machine

/-! ## The supervisor's events and the debug port -/

/-- Events that waited while the supervisor was down or halted go to its queue, and what was lost meanwhile is reported (R10, R477, R520). -/
def State.flushEvents (s : State) : State :=
  if !s.supvRuns then s
  else
    let l := s.sup.evBuf
    (({ s with sup := { s.sup with evBuf := [] } } : State).each l State.manage).lostNote

/-- The payload of a DEBUG record: slot, rights, lifetime, and 1 for an unlock or 0 for a lock (R525). The places are the model's. -/
def debugPayload (slot : BitVec 2) (rights : BitVec 5) (life : Nat) (unlock : Bool) : Bytes :=
  leBytes 1 slot.toNat ++ leBytes 1 rights.toNat ++ leBytes 4 life ++ leBytes 1 (b2n unlock)

/-- Disable every breakpoint (R521). -/
def State.clearBreaks (s : State) : State :=
  let s := { s with tiles := s.tiles.mapVals Tile.reset (fun x => { x with tbp := x.tbp.mapVals 0 (fun w => w &&& 0x7FFF) }) }
  s.each (List.range 8) (fun s i => s.setI R.DB_SBP_LO_EN i 0)

/-- The debug port locks (R521): a halted supervisor is released, breakpoints are disabled, a frozen wafer thaws, a DEBUG record is committed,
and DEBUG_LOCK names a cause whose code no rule gives. -/
def State.lockDebug (s : State) : State :=
  if !s.sec.unlocked then s
  else
    let s := { s with
      sec := { s.sec with unlocked := false, rights := 0, lifetime := 0 }
      sup := { s.sup with halted := false } }
    let s := s.flushEvents.clearBreaks
    let s := if s.on R.FB_STATUS_FROZEN || s.fab.freezing then s.thawNow else s
    let s := s.ledger 0x000E (debugPayload s.sec.dbgSlot 0 0 false)
    s.freeW.2.emit 0x0809 [.w4 s.freeW.1.toNat]

/-! ## Module reset (R550, R551) -/

/-- The bits of a register that the always-on domain keeps through a module reset (R442, R448, R466). -/
def keptMask (off : Nat) : W32 :=
  if off = R.CK_STATUS_RUN.off then 0x1F0F
  else if off = R.CK_XTAL_COUNT.off ∨ off = R.PW_WAKE_CAUSE.off ∨ off = R.PW_WATCH_PERIOD_S.off ∨ off = R.PW_WATCH_LIM_VLO.off ∨
      off = R.PW_VIN_CV.off ∨ off = R.PW_CONV_OK.off then 0xFFFFFFFF
  else if off = R.PW_STATE_LEAK.off then 0x20
  else 0

/-- The registers that the always-on domain keeps, in address order. -/
def keptRegs : List Nat :=
  [R.CK_STATUS_RUN.off, R.CK_XTAL_COUNT.off, R.PW_STATE_LEAK.off, R.PW_WAKE_CAUSE.off, R.PW_WATCH_PERIOD_S.off, R.PW_WATCH_LIM_VLO.off,
   R.PW_VIN_CV.off, R.PW_CONV_OK.off]

/-- Every register at its Reset column but for what the always-on domain keeps. -/
def State.resetRegs (s : State) : Map W32 :=
  keptRegs.foldl (fun (m : Map W32) o =>
    m.put o ((regReset o &&& ~~~ keptMask o) ||| (s.reg o &&& keptMask o)) (regReset o)) []

/-- Fields lost since the last boundary go into the map before a reset clears their registers, since a lost field is never powered again (R196, R458;
log 71). -/
def State.mapLost (s : State) : State :=
  let d := { s.fab.dmap with lost := s.fab.dmap.lost ||| BitVec.ofNat 48 s.lost }
  if d = s.fab.dmap then s else s.dmapSet d

/-- SCALE_RESET (R268); how its event tells a reset from a new digest no rule codes. -/
def State.scaleReset (s : State) : State := s.freeW.2.emit 0x010A [.w4 s.freeW.1.toNat]

/-- A module reset (R550, R551). The scale state is cleared with the rest, with SCALE_RESET (R268). The debug port locks; every register but the always-on ones returns to its Reset column; any hand, sweep,
push or export is abandoned; what SRAM and memory hold is undefined, and reads as memory that nothing has written (log 2). Fuses,
ledger, firmware banks, the boot hint, the pins, and what the module wrote to the host's memory stay. -/
def State.moduleReset (s : State) : State :=
  let s := s.lockDebug.mapLost
  State.scaleReset { s with
    regs := s.resetRegs
    tiles := []
    pos := []
    fab := Fabric.reset s.fab.dmap
    num := Numerics.reset
    hand := Hand.reset
    host := HostIf.reset s.host.mem s.host.perst
    link := { Links.reset with ports := s.link.ports.mapVals LPort.reset (fun x => { LPort.reset with cage := x.cage }) }
    clk := { Clocks.reset with prev := s.clk.prev, stable := s.clk.stable, failed := s.clk.failed, holdover := s.clk.holdover }
    pwr := { Power.reset with
      convOn := s.pwr.convOn, convBad := s.pwr.convBad, busSense := s.pwr.busSense, modReset := s.pwr.modReset,
      overvolt := s.pwr.overvolt, leakSeen := s.pwr.leakSeen, entering := s.pwr.entering, wakeTarget := s.pwr.wakeTarget }
    sup := { Supv.reset with dynAddr := s.sup.dynAddr, banks := s.sup.banks }
    sec := { s.sec with
      keyPend := none, runSlot := 0, nonce := none, rights := 0, unlocked := false, lifetime := 0, verifying := none, unlocks := 0,
      fails := 0, dr := 0, deniedAt := none, dapStatus := 0, dapData := 0, supvMem := [], compacting := false, torn := false, must := false, waits := [] }
    resetTick := s.ticks }

/-- The converters that run, in PW_CONV (R457, R467). -/
def State.setConv (s : State) : State :=
  let ok := if s.pwr.convOn then ~~~ s.pwr.convBad else 0
  (s.wr R.PW_CONV_OK ok.toNat).wr R.PW_CONV_K ((List.range 16).filter (bitOf ok.toNat)).length

/-- Everything but the always-on domain loses power (R455): a module reset with the converters stopped. -/
def State.powerLost (s : State) : State :=
  let s := s.moduleReset
  ({ s with pwr := { s.pwr with convOn := false, pwrgd := false } } : State).setConv

/-- A supply reset (R455): SUPPLY_RESET names its cause and the input voltage. -/
def State.supplyReset (s : State) (cause cv : Nat) : State := s.powerLost.emit 0x0606 [.w4 cause, .w4 cv]

/-- The crystal is to be judged again: the judgement starts from its first window, on the trimmed oscillator (R426, R549). -/
def State.judgeAgain (s : State) : State :=
  let s := { s with clk := { s.clk with prev := 0, stable := false, failed := false, holdover := false } }
  let s := (((s.wr R.CK_STATUS_REF_XTAL 0).wr R.CK_STATUS_XTAL_OK 0).wr R.CK_STATUS_XTAL_LOST 0).wr R.CK_STATUS_RUN 0
  s.setReg R.CK_XTAL_COUNT.off 0

/-- A power state as STATE_CHANGE and LEAK name it (R558). -/
def PState.num : PState → Nat
  | .run => 0
  | .hold => 1
  | .idle => 2
  | .watch => 3
  | .off => 4

/-- The module enters WATCH without a call, or at the end of one (R445, R446, R448): only the always-on domain stays, the crystal is powered
down (R549), and STATE_CHANGE names the state that it left. -/
def State.enterWatch (s : State) : State :=
  let old := s.pwr.pstate
  let s := s.powerLost.judgeAgain
  let s := { s with pwr := { s.pwr with pstate := .watch, entering := false } }
  if old = .watch then s else s.emit 0x0601 [.w4 old.num, .w4 3]

/-! ## Supervisor reset (R477, R478) -/

/-- Reference ticks in 60 s. -/
def minuteTicks : Nat := 6000000000

/-- A supervisor reset with its cause in SP_RESETS (R477): its firmware stops, its mailboxes are treated under R414, a staging that is
verified is lost, and an SPDM session ends. The third within 60 s is fatal, from the boot ROM (R478); the event that R484 asks of its cause is
the SUPV_RESET of the loop. -/
def State.supvReset (s : State) (cause : Nat) : State :=
  let s := (s.bump R.SP_RESETS_COUNT 1).wr R.SP_RESETS_CAUSE cause
  let open1 := s.sup.session
  let times := s.sup.resetTimes.filter (fun t => decide (s.ticks < t + minuteTicks)) ++ [s.ticks]
  let s := { s with sup := { s.sup with
    down := true, halted := false, resetTimes := times, session := false, sessionVia := none, handshake := none, negotiated := false, open_ := [], results := [],
    stagedImg := if s.on R.SP_STATUS_STAGED then s.sup.stagedImg else none } }
  let s := ((s.wr R.SP_STATUS_UP 0).wr R.SP_STATUS_SESSION 0).supvBoxes
  let s := if open1 then s.emit 0x0A2C [.w4 3, .w4 0] else s
  if 3 ≤ times.length then ({ s with sup := { s.sup with romOnly := true } } : State).fatal 0x0A23 0xFFFF (rom := true) else s

/-- Whether the module is up far enough for its firmware to be reset: the converters run and the firmware does. -/
def State.supvUp (s : State) : Bool := s.pwr.convOn && !s.sup.down

end Sys2Proof.Machine
end

