-- ==== Sys2Proof/Machine/Clock.lean ====
section
/-! DEFINITION. Clock sources, islands and gating (R425 to R444): the crystal and its judgement, source switches, lock loss, throttle,
spread spectrum, the frequency counters and the block enables. -/

namespace Sys2Proof.Machine

/-! ## Domains (R430, R438) -/

/-- Every domain. -/
def allDomains : List Nat := List.range 141
/-- The domain of the always-on clock. -/
def alwaysOnDomain : Nat := 140
/-- The nominal rate of the clock that a domain's counter counts, in MHz (R430, R437). -/
def nominalMHz (d : Nat) : Nat :=
  if d < 96 then 1200 else if d < 120 then 800 else if d < 136 then 1200 else if d < 138 then 800 else if d < 140 then 1200 else 100

/-- Whether a domain's block is enabled (R438): a field that is folded or lost is gated, and a field island of HOLD has no clock (R445). -/
def State.domainOn (s : State) (d : Nat) : Bool :=
  if d < 48 then s.fieldOn d
  else if d < 96 then bitOf (s.rd64 R.CK_EN_NEAR_LO_EN R.CK_EN_NEAR_HI_EN) (d - 48)
  else if d < 120 then bitOf (s.rd R.CK_EN_FAR_EN) (d - 96)
  else if d < 136 then bitOf (s.rd R.CK_EN_LINK_EN) (d - 120)
  else match d with
    | 136 => s.on R.CK_EN_MISC_PCIE_A
    | 137 => s.on R.CK_EN_MISC_PCIE_B
    | 138 => s.on R.CK_EN_MISC_SUPV
    | 139 => s.on R.CK_EN_MISC_RING
    | _ => true

/-- Note that something happened in the gate under way for which a domain's comparison is skipped (R437). -/
def State.disturb (s : State) (d : Nat) : State := { s with clk := { s.clk with disturbed := setIns s.clk.disturbed d } }
/-- Note it for every field island. -/
def State.disturbFields (s : State) : State := s.each allFields State.disturb

/-- A domain's root source changes: 0 REF or trimmed oscillator, 1 PLL or crystal, 2 BACKUP. The domain loses 2 cycles of the old source and
8 of the new (R432), in which its units neither run nor slip. -/
def State.switchTo (s : State) (d src : Nat) : State := (s.setI R.CK_DSTAT_SRC d src).disturb d

/-- A domain's clocks start: its PLL is its source, and locked (R428, R440, R545). -/
def State.startDomain (s : State) (d : Nat) : State :=
  let s := (s.setI R.CK_DSTAT_SRC d 1).setI R.CK_DSTAT_LOCK d 1
  (({ s with clk := { s.clk with dead := s.clk.dead.filter (· != d), backup := if d < 48 then s.clk.backup &&& ~~~ ((1 : BitVec 48) <<< d) else s.clk.backup } } :
    State).disturb d)

/-! ## The crystal (R426 to R429) -/

/-- Whether the crystal is being judged: neither judged stable nor given up, and the module not in WATCH or OFF (R549). -/
def State.judging (s : State) : Bool := !s.clk.stable && !s.clk.failed && !(s.pwr.pstate == .watch && !s.pwr.entering) && s.pwr.pstate != .off

/-- The clocks of the I/O ring during supervisor boot (R426, R428, R541): the supervisor runs from the reference and its PLL locks; the PLLs of the
I/O-ring control and of both endpoints start only from a stable crystal, and with them MOD_PWRGD rises. -/
def State.ioClocks (s : State) : State :=
  if !s.pwr.convOn || s.pwr.modReset || !s.on R.CK_EN_MISC_SUPV then s
  else
    let s := s.setI R.CK_DSTAT_LOCK 138 1
    if !s.clk.stable then s
    else
      let s := ((s.startDomain 136).startDomain 137).startDomain 139
      { s with pwr := { s.pwr with pwrgd := true } }

/-- Steps 6 and 7 of start-up (R544, R438): the supervisor's reset is released, and the boot ROM sets the enables of the supervisor, the I/O-ring
control and both endpoints. Nothing starts without the converters, or while MOD_RESET_N is held low (R551). -/
def State.bootStart (s : State) : State :=
  if !s.pwr.convOn || s.pwr.modReset then s
  else
    let s := (s.wr R.HI_STATUS_STAGE 1).wr R.CK_EN_MISC_SUPV 1
    (((s.wr R.CK_EN_MISC_RING 1).wr R.CK_EN_MISC_PCIE_A 1).wr R.CK_EN_MISC_PCIE_B 1).ioClocks

/-- The crystal is stable: the always-on domain switches to it, for which the tick counter adds 10 (R428). XTAL_OK names the mode as FIXED
has it. -/
def State.crystalStable (s : State) : State :=
  let s : State := { s with clk := { s.clk with stable := true }, ticks := s.ticks + 10 }
  let s := ((s.switchTo alwaysOnDomain 1).wr R.CK_STATUS_REF_XTAL 1).wr R.CK_STATUS_XTAL_OK 1
  let s := s.ioClocks
  s.emit 0x0701 [.w4 (s.rd R.CK_STATUS_FIXED), .w4 (s.rd R.CK_XTAL_WINDOWS)]

/-- A window's count in CK_XTAL. -/
def State.windowDone (s : State) (c : Nat) : State := (s.bump R.CK_XTAL_WINDOWS 1).wr R.CK_XTAL_COUNT (min c 0x1FFFF)

/-- Whether a window's count lies in range (R426). -/
def inRange (c : Nat) : Bool := decide (97500 ≤ c) && decide (c ≤ 102500)

/-- The run of R426 after a window. -/
def nextRun (run prev c : Nat) : Nat :=
  let diff := if c ≤ prev then prev - c else c - prev
  if !inRange c then 0
  else if 0 < run ∧ 0 < prev ∧ diff * 1000000 < 50 * prev then run + 1
  else 1

/-- XTAL_WINDOW (R426): a counting window ends. 16 in a row make the crystal stable; the 500th without gives XTAL_FAIL. -/
def execXtalWindow (c : Nat) (s : State) : Host.Outcome State Fault Refusal :=
  .next (
    if !s.judging || s.on R.CK_STATUS_FIXED then s
    else
      let run := nextRun (s.rd R.CK_STATUS_RUN) s.clk.prev c
      let s := (s.windowDone c).wr R.CK_STATUS_RUN run
      let s := { s with clk := { s.clk with prev := c } }
      if run = 16 then s.crystalStable
      else if 500 ≤ s.rd R.CK_XTAL_WINDOWS then
        ({ s with clk := { s.clk with failed := true } } : State).emit 0x0702 [.w4 c]
      else s)

/-- XTAL_FIXED_COUNT (R427): after 65,536 cycles the crystal is taken as stable; the window taken then may bring XTAL_SUSPECT. -/
def execXtalFixedCount (c : Nat) (s : State) : Host.Outcome State Fault Refusal :=
  .next (
    if !s.judging || !s.on R.CK_STATUS_FIXED then s
    else
      let s := s.crystalStable.windowDone c
      if inRange c then s else s.emit 0x0703 [.w4 c])

/-- XTAL_LOST (R429): the always-on domain and the supervisor run on the trimmed oscillator at once, every PLL is in holdover, and the loss is
fatal. -/
def execXtalLost (s : State) : Host.Outcome State Fault Refusal :=
  .next (
    if !s.on R.CK_STATUS_REF_XTAL || s.on R.CK_STATUS_XTAL_LOST then s
    else
      let s := (s.switchTo alwaysOnDomain 0).switchTo 138 0
      let s := (s.wr R.CK_STATUS_REF_XTAL 0).wr R.CK_STATUS_XTAL_LOST 1
      let s : State := { s with clk := { s.clk with holdover := true } }
      (s.emit 0x0704 [.w8 s.ticks]).fatal 0x0704 0xFFFF)

/-! ## Source switches and lock loss (R432, R433) -/

/-- Whether a change of source is one that R432 names and the state allows: the always-on domain to a stable crystal, the supervisor to its locked
PLL, a field island to BACKUP or back to a locked PLL. -/
def State.maySwitch (s : State) (d : Nat) (src : Nat) : Bool :=
  let now := s.getI R.CK_DSTAT_SRC d
  let lock := s.getI R.CK_DSTAT_LOCK d == 1
  if d < 48 then s.fieldOn d && ((now == 1 && src == 2) || (now == 2 && src == 1 && lock && !bitOf s.clk.backup.toNat d))
  else if d = 138 then now == 0 && src == 1 && lock
  else d == 140 && now == 0 && src == 1 && s.clk.stable && !s.on R.CK_STATUS_XTAL_LOST

/-- SOURCE_SWITCH (R432). The tick counter adds 10 for the always-on domain's switch (R428). -/
def execSourceSwitch (d : Nat) (src : BitVec 2) (s : State) : Host.Outcome State Fault Refusal :=
  .next (
    if !s.maySwitch d src.toNat then s
    else
      let s := s.switchTo d src.toNat
      if d = 140 then ({ s with ticks := s.ticks + 10 } : State).wr R.CK_STATUS_REF_XTAL 1 else s)

/-- A position leaves service at the next boundary (R232), for a cause; the first stands. -/
def State.leavePos (s : State) (k cause : Nat) : State := s.onPos k (fun p => { p with leave := if p.leave = 0 then cause else p.leave })
/-- A position leaves service at the next boundary for a cause that DL_PSTAT has no code for: its CAUSE is open. -/
def State.leaveOpen (s : State) (k : Nat) : State := s.freeW.2.leavePos k (16 + s.freeW.1.toNat % 16)

/-- An endpoint's link goes down: LINK_STATE (R384, R433). -/
def State.pcieDown (s : State) (ep : Nat) : State :=
  let up := bitOf s.host.linkUp.toNat ep
  let s := { s with host := { s.host with linkUp := epOff s.host.linkUp (BitVec.ofNat 1 ep) } }
  if up then s.emit 0x0909 [.w4 ep, .w4 0, .w4 0] else s

/-- What a loss of lock does to its domain (R433). Which cause the PORT_DOWN of a link port names as CLOCK no rule codes. -/
def State.lockLost (s : State) (d : Nat) : State :=
  if d < 48 then (if s.getI R.CK_DSTAT_SRC d = 1 then s.switchTo d 2 else s)
  else if d < 120 then s.misdeal 7
  else if d < 136 then s.dropPort (d - 120) 0
  else if d < 138 then s.pcieDown (d - 136)
  else s.fatal 0x0705 0xFFFF

/-- PLL_UNLOCK (R433). -/
def execPllUnlock (d : Nat) (s : State) : Host.Outcome State Fault Refusal :=
  .next (
    if 140 ≤ d ∨ s.getI R.CK_DSTAT_LOCK d = 0 ∨ !s.domainOn d then s
    else (((s.setI R.CK_DSTAT_LOCK d 0).bump R.CK_UNLOCKS_COUNT 1).emit 0x0705 [.w4 d]).lockLost d)

/-- PLL_RELOCK (R433): a field island switches back, a port that is enabled retrains. A domain whose relock failed stays as RELOCK_FAIL left it
until its enable is set again (log 72). -/
def execPllRelock (d us : Nat) (s : State) : Host.Outcome State Fault Refusal :=
  .next (
    if 140 ≤ d ∨ s.getI R.CK_DSTAT_LOCK d = 1 ∨ !s.domainOn d ∨ s.clk.dead.contains d then s
    else
      let s := (s.setI R.CK_DSTAT_LOCK d 1).emit 0x0706 [.w4 d, .w4 us]
      if d < 48 then s.switchTo d 1
      else if 120 ≤ d ∧ d < 136 ∧ s.getI R.LK_PSTAT_STATE (d - 120) = 0 then s.setPort (d - 120) (s.downTo (d - 120))
      else s)

/-- A field's fold request is set, with FOLD_REQUEST (R461 to R463): cause 1 temperature, 2 RELOCK_FAIL, 3 hard trip. -/
def State.foldRequest (s : State) (f cause temp : Nat) : State :=
  let v := s.rd64 R.PW_FOLDREQ_LO_REQ R.PW_FOLDREQ_HI_REQ
  (s.wr64 R.PW_FOLDREQ_LO_REQ R.PW_FOLDREQ_HI_REQ (v ||| 2 ^ f)).emit 0x060C [.w4 f, .w4 cause, .w4 temp]

/-- Whether a field's fold request is set. -/
def State.foldPending (s : State) (f : Nat) : Bool := bitOf (s.rd64 R.PW_FOLDREQ_LO_REQ R.PW_FOLDREQ_HI_REQ) f

/-- RELOCK_FAIL (R433): a field stays on BACKUP to the end of the hand and asks to be folded, unless it has asked (R441); a controller's positions
leave service at the boundary; a port is FAILED until RETRAIN. -/
def execRelockFail (d : Nat) (s : State) : Host.Outcome State Fault Refusal :=
  .next (
    if 138 ≤ d ∨ s.getI R.CK_DSTAT_LOCK d = 1 ∨ !s.domainOn d ∨ s.clk.dead.contains d then s
    else
      let s : State := { s with clk := { s.clk with dead := setIns s.clk.dead d } }
      let s := s.emit 0x0707 [.w4 d]
      if d < 48 then
        let s : State := { s with clk := { s.clk with backup := s.clk.backup ||| (1 : BitVec 48) <<< d } }
        if s.foldPending d then s else s.foldRequest d 2 0
      else if d < 96 then s.leaveOpen (d - 48)
      else if d < 120 then (s.leaveOpen (2 * (d - 96))).leaveOpen (2 * (d - 96) + 1)
      else if d < 136 then (s.setPort (d - 120) 6).onLport (d - 120) (fun x => { x with cause := 1 })
      else s)

/-! ## Throttle (R434, R435, R453, R454) -/

/-- The level that the three requests ask for. -/
def State.thrAsked (s : State) : Nat := max (s.rd R.CK_THROTTLE_SW) (max (s.rd R.CK_THROTTLE_THERM) (s.rd R.CK_THROTTLE_SUPPLY))

/-- Reference ticks in 1 ms. -/
def msTicks : Nat := 100000

/-- THROTTLE, at most once in a ms, names the level in force as it is emitted (R435). -/
def State.thrNote (s : State) : State :=
  let l := s.rd R.CK_THROTTLE_LEVEL
  let due := match s.clk.thrTick with | none => true | some t => decide (t + msTicks ≤ s.ticks)
  if l = s.clk.thrNoted ∨ !due then s
  else
    ({ s with clk := { s.clk with thrNoted := l, thrTick := some s.ticks } } : State).emit 0x0709
      [.w4 l, .w4 (s.rd R.CK_THROTTLE_SW), .w4 (s.rd R.CK_THROTTLE_THERM), .w4 (s.rd R.CK_THROTTLE_SUPPLY)]

/-- THROTTLE_CHANGE (R435): the highest request comes into force on every island at once. -/
def execThrottleChange (s : State) : Host.Outcome State Fault Refusal :=
  .next (
    if s.thrAsked = s.rd R.CK_THROTTLE_LEVEL then s
    else ((s.wr R.CK_THROTTLE_LEVEL s.thrAsked).disturbFields).thrNote)

/-- SUPPLY is the greater of the sag request and the cap request (R454). -/
def State.setSupply (s : State) : State := s.wr R.CK_THROTTLE_SUPPLY (max (if s.pwr.sag then 8 else 0) (s.rd R.PW_PLIMIT_CAP))

/-! ## Spread spectrum (R436) -/

/-- CK_SSC_WRITE (R436, R443): a DEPTH above 10 is ignored. The new setting waits for the boundary, or the spread moves to it at once while no
hand runs. -/
def execCkSscWrite (who : Agent) (v : W32) (s : State) : Host.Outcome State Fault Refusal :=
  .next (
    if !s.mayWrite who R.CK_SSC_DEPTH.off then s
    else
      let d := bitsOf v.toNat 0 4
      let s := (if d ≤ 10 then s.wr R.CK_SSC_DEPTH d else s).wr R.CK_SSC_RATE (bitsOf v.toNat 4 2)
      let s := { s with clk := { s.clk with sscPend := some (s.rd R.CK_SSC_DEPTH, s.rd R.CK_SSC_RATE), sscGo := s.hand.running.isNone } }
      if s.clk.sscGo then s.disturbFields else s)

/-- SSC_CHANGE (R436): the spread has reached its new setting. -/
def execSscChange (s : State) : Host.Outcome State Fault Refusal :=
  .next (match s.clk.sscPend with
    | none => s
    | some (d, r) =>
      if !s.clk.sscGo then s
      else
        let s := (s.wr R.CK_SSC_DEPTH_ACT d).wr R.CK_SSC_RATE_ACT r
        ({ s with clk := { s.clk with sscPend := none, sscGo := false } } : State).disturbFields.emit 0x070A [.w4 d, .w4 r])

/-! ## Frequency counters (R437) -/

/-- The count that a domain should reach in a gate, as a fraction (numerator, denominator). -/
def State.expected (s : State) (d : Nat) : Nat × Nat :=
  let n := nominalMHz d * s.rd R.CK_FMEAS_GATE_US
  if d < 48 then (n * (16 - s.rd R.CK_THROTTLE_LEVEL) * (4000 - s.rd R.CK_SSC_DEPTH_ACT), 64000) else (n, 1)

/-- Whether a gate's count of a domain is compared (R437). -/
def State.compares (s : State) (d : Nat) : Bool :=
  s.on R.CK_FMEAS_WATCH_EN && s.domainOn d && s.getI R.CK_DSTAT_SRC d != 2 && s.getI R.CK_DSTAT_LOCK d == 1 &&
    !s.clk.disturbed.contains d && !(decide (d < 48) && (s.clk.sscGo || s.pwr.pstate == .hold))

/-- Whether a count differs from its expected value by more than PPM (R437). -/
def offBy (count : Nat) (e : Nat × Nat) (ppm : Nat) : Bool :=
  let a := count * e.2
  let diff := if a ≤ e.1 then e.1 - a else a - e.1
  decide (ppm * e.1 < diff * 1000000)

/-- A domain's counter at the end of a gate: FREQ_OUT names the expected count, whose rounding is open where it is no whole number. -/
def State.gateOf (s : State) (d count : Nat) : State :=
  let s := s.setI R.CK_DCOUNT_COUNT d count
  if !s.compares d then s
  else
    let e := s.expected d
    let out := offBy count e (s.rd R.CK_FTOL_PPM)
    let s := s.setI R.CK_DSTAT_FOUT d (b2n out)
    if !out then s
    else if e.1 % e.2 = 0 then s.emit 0x0708 [.w4 d, .w4 count, .w4 (e.1 / e.2)]
    else s.freeW.2.emit 0x0708 [.w4 d, .w4 count, .w4 s.freeW.1.toNat]

/-- FREQ_GATE (R437): a gate ends, and each counter is stored and compared; a domain that `counts` does not list counted nothing. -/
def execFreqGate (counts : List (Nat × Nat)) (s : State) : Host.Outcome State Fault Refusal :=
  let s1 := s.each (List.range 140) (fun s d => s.gateOf d (((counts.find? (fun e => e.1 == d)).map (·.2)).getD 0))
  .next { s1 with clk := { s1.clk with disturbed := [] } }

/-! ## Block enables (R438, R440) -/

/-- The enable registers with the first domain of their bit 0. -/
def enableRegs : List (Nat × Nat) :=
  [(R.CK_EN_FIELD_LO_EN.off, 0), (R.CK_EN_FIELD_HI_EN.off, 32), (R.CK_EN_NEAR_LO_EN.off, 48), (R.CK_EN_NEAR_HI_EN.off, 80),
   (R.CK_EN_FAR_EN.off, 96), (R.CK_EN_LINK_EN.off, 120), (R.CK_EN_MISC_PCIE_A.off, 136)]
/-- The bits of an enable register that software writes. -/
def enableMask (reg : Nat) : Nat :=
  if reg = R.CK_EN_FIELD_HI_EN.off ∨ reg = R.CK_EN_NEAR_HI_EN.off ∨ reg = R.CK_EN_LINK_EN.off then 0xFFFF
  else if reg = R.CK_EN_FAR_EN.off then 0xFFFFFF
  else if reg = R.CK_EN_MISC_PCIE_A.off then 2
  else 0xFFFFFFFF

/-- Whether a position takes part in the hand that runs: a STREAMS section or a pot (R440). -/
def State.posUsed (s : State) (k : Nat) : Bool := !(s.dealer k).descs.isEmpty || s.pots_.any (fun p => p.kind == 0 && p.stacks.contains k)

/-- Whether the hand that runs uses the block of a domain (R440). -/
def State.blockUsed (s : State) (d : Nat) : Bool :=
  s.hand.running.isSome &&
    (if d < 48 then s.footprint.any (fun t => tileField t == d)
     else if d < 96 then s.posUsed (d - 48)
     else if d < 120 then s.posUsed (2 * (d - 96)) || s.posUsed (2 * (d - 96) + 1)
     else decide (d < 136) && s.portUp (d - 120))

/-- Whether a domain's enable bit reads 1. -/
def State.enableBit (s : State) (reg i : Nat) : Bool := bitOf (s.reg reg).toNat i
/-- Write an enable bit. -/
def State.putEnable (s : State) (reg i : Nat) (v : Bool) : State := s.setReg reg (BitVec.ofNat 32 (setBits (s.reg reg).toNat i 1 (b2n v)))
/-- Whether a clear waits for the boundary, in CK_STATUS.EN_PEND. -/
def State.notePend (s : State) : State := s.wr R.CK_STATUS_EN_PEND (b2n (!s.clk.enPend.isEmpty))

/-- Clear an enable bit: the block's clocks stop; a link port that is up goes down, and so does the link of PCIE_B. -/
def State.gateBlock (s : State) (reg i d : Nat) : State :=
  let s := s.putEnable reg i false
  if 120 ≤ d ∧ d < 136 then (if s.getI R.LK_PSTAT_STATE (d - 120) = 0 then s else (s.dropPort (d - 120) 0).setPort (d - 120) 0)
  else if d = 137 then s.pcieDown 1
  else s

/-- One bit of a write of an enable register: 1 starts the block's clocks, ignored for a lost field; 0 gates the block, at the next
boundary where the running hand uses it (R438, R440). -/
def State.enableTo (s : State) (reg first : Nat) (v : Nat) (i : Nat) : State :=
  let d := first + i
  let key := 32 * reg + i
  let now := s.enableBit reg i
  if bitOf v i then
    let s : State := { s with clk := { s.clk with enPend := s.clk.enPend.del key } }
    if now || (decide (d < 48) && bitOf s.lost d) then s else (s.putEnable reg i true).startDomain d
  else if !now then s
  else if s.blockUsed d then { s with clk := { s.clk with enPend := s.clk.enPend.ins key () } }
  else s.gateBlock reg i d

/-- A write of an enable register (R440). -/
def State.writeEnable (s : State) (reg : Nat) (v : W32) : State :=
  match enableRegs.find? (fun e => e.1 == reg) with
  | none => s
  | some (_, first) => (s.each (onesOf (enableMask reg) 32) (fun s i => s.enableTo reg first v.toNat i)).notePend

/-- ENABLE_SET (R440): a write of an enable register. -/
def execEnableSet (who : Agent) (reg : Nat) (v : W32) (s : State) : Host.Outcome State Fault Refusal :=
  .next (if isEnable reg && s.mayWrite who reg then s.writeEnable reg v else s)

/-- ENABLE_CLEAR (R440): a write of an enable register. -/
def execEnableClear (who : Agent) (reg : Nat) (v : W32) (s : State) : Host.Outcome State Fault Refusal :=
  .next (if isEnable reg && s.mayWrite who reg then s.writeEnable reg v else s)

/-- The clears that waited for a boundary (R440). -/
def State.applyPend (s : State) : State :=
  let keys := s.clk.enPend.map (·.1)
  let s : State := { s with clk := { s.clk with enPend := [] } }
  (s.each keys (fun s key =>
    match enableRegs.find? (fun e => e.1 == key / 32) with
    | none => s
    | some (reg, first) => s.gateBlock reg (key % 32) (first + key % 32))).notePend

/-- A spread setting that waited for the boundary: the spread begins to move (R436). -/
def State.sscBoundary (s : State) : State :=
  if s.clk.sscPend.isSome && !s.clk.sscGo then ({ s with clk := { s.clk with sscGo := true } } : State).disturbFields else s

end Sys2Proof.Machine
end

