-- ==== Sys2Proof/Machine/Power.lean ====
section
/-! DEFINITION. Power states and the call (R445 to R451), the 56 V input (R452 to R457), field rails, fuses, folds and unfolds (R458,
R459), and thermal protection with leaks (R460 to R464). -/

namespace Sys2Proof.Machine

/-! ## States -/

/-- Whether the module rests in WATCH: no start-up of a wake is under way. -/
def State.inWatch (s : State) : Bool := s.pwr.pstate == .watch && !s.pwr.entering
/-- Whether the module has its supply on: neither OFF nor at rest in WATCH, with the bus converters running. -/
def State.powered (s : State) : Bool := s.pwr.convOn && s.pwr.pstate != .off && !s.inWatch

/-- Whether the start-up of a wake waits for a sag to end (R465; log 220). -/
def State.wakeWaits (s : State) : Bool := s.pwr.entering && s.pwr.sag

/-- A temperature as an event names it (R560). -/
def tempArg (q4 : Int) : Arg := .w4 (toBits q4 32)

/-! ## Field rails (R458, R459) -/

/-- Whether a field's rail is powered. -/
def State.railOn (s : State) (f : Nat) : Bool := bitOf (s.rd64 R.PW_RAIL_LO_ON R.PW_RAIL_HI_ON) f
/-- Write one field's bit in a pair of registers. -/
def State.fieldBit (s : State) (lo hi : Fld) (f : Nat) (v : Bool) : State := s.wr64 lo hi (setBits (s.rd64 lo hi) f 1 (b2n v))

/-- A field's fuse opens: its enable reads 0, its rail is off, its sensors are unpowered, and what its tiles held is gone (R458, R459, R462, R467). -/
def State.openFuse (s : State) (f : Nat) : State :=
  let s := s.fieldBit R.CK_EN_FIELD_LO_EN R.CK_EN_FIELD_HI_EN f false
  let s := s.fieldBit R.PW_RAIL_LO_ON R.PW_RAIL_HI_ON f false
  let s := s.setI R.PW_TEMP_VALID f 0
  let key := if f < 32 then 32 * R.CK_EN_FIELD_LO_EN.off + f else 32 * R.CK_EN_FIELD_HI_EN.off + (f - 32)
  let s := { s with clk := { s.clk with enPend := s.clk.enPend.del key } }
  ({ s with tiles := s.tiles.filter (fun e => tileField e.1 != f) } : State).notePend

/-- Trees whose last member goes with the fields that are off: each such tree's contributor count is 0, which is a fatal table error (R23,
R206). -/
def State.treesLost (s : State) : Bool :=
  let trees := fun (l : List (Nat × Tile)) => l.foldl (fun (v : BitVec 256) e => v ||| e.2.router.trees) 0
  s.hand.running.isSome && s.hand.sweep == false && s.fab.started &&
    trees s.tiles &&& ~~~ trees (s.tiles.filter (fun e => !s.fieldOff (tileField e.1))) != 0

/-- A field fuse trip (R458): the field is lost, and a hand in progress is misdealt with FUSE, or its sweep torn; a tree in use that loses every member is fatal (R206). -/
def State.fieldLost (s : State) (f cause peak : Nat) : State :=
  let s := s.fieldBit R.FB_LOST_LO_FIELDS R.FB_LOST_HI_FIELDS f true
  let none_ := s.treesLost
  let s := ((s.emit 0x060B [.w4 f, .w4 cause, .w4 peak]).misdeal 1).openFuse f
  if none_ then s.fatal 0x030B 0xFFFF else s

/-- A fold (R459). -/
def State.fold (s : State) (f : Nat) : State :=
  ((s.openFuse f).fieldBit R.FB_FOLDED_LO_FIELDS R.FB_FOLDED_HI_FIELDS f true).emit 0x0310 [.w4 f]

/-- A field's rail ramps, its enable is set and its PLL locks (R459, R545). -/
def State.powerField (s : State) (f : Nat) : State :=
  let s := s.fieldBit R.PW_RAIL_LO_ON R.PW_RAIL_HI_ON f true
  let s := s.fieldBit R.FB_FOLDED_LO_FIELDS R.FB_FOLDED_HI_FIELDS f false
  (s.fieldBit R.CK_EN_FIELD_LO_EN R.CK_EN_FIELD_HI_EN f true).startDomain f

/-- An unfold (R459) with its link test (R188): links that fail are dead, and tiles found not good PASS or HOLE, from the boundary's map on (R196). A fuse that trips during it makes the field
lost; cause and peak of that trip are open. -/
def State.unfold (s : State) (f : Nat) (fails bad : List (Nat × Nat)) (trips : List Nat) : State :=
  let s := s.powerField f
  if trips.contains f then
    let a := s.freeW
    let b := a.2.freeW
    b.2.fieldLost f a.1.toNat b.1.toNat
  else
    let ls := (fails.filter (fun e => e.1 == f)).map (·.2)
    let s := { s with fab := { s.fab with
      dead := s.fab.dead ++ ls.map (fun l => (l, 4)), found := s.fab.found ++ bad.filter (fun (e : Nat × Nat) => tileField e.1 == f) } }
    s.emit 0x0311 [.w4 f, .w4 ls.length]

/-! ## The call (R449) -/

/-- Blocks that the call asks: 48 fields, 48 dealers, 48 pot adders, 16 link ports, 24 far controllers (R449, R467). -/
def callBlocks : List Nat := List.range 184

/-- Whether a block answers ACCEPT at once: it is gated, or its position is out of service. -/
def State.acceptsAtOnce (s : State) (b : Nat) : Bool :=
  if b < 48 then !s.fieldOn b
  else if b < 144 then !s.domainOn (48 + b % 48) || !s.inSvc (b % 48)
  else if b < 160 then !s.domainOn (b - 24)
  else !s.domainOn (b - 64) || (!s.inSvc (2 * (b - 160)) && !s.inSvc (2 * (b - 160) + 1))

/-- Why a block refuses in a call toward HOLD, IDLE or WATCH, from the state (R449). -/
def State.mustRefuse (s : State) (b target : Nat) : Option Nat :=
  if b < 48 then
    (if s.hand.running.isSome || s.hand.sideRun.isSome || s.hand.waiting.isSome || s.hand.sideWait.isSome then some 1 else none)
  else if 144 ≤ b ∧ b < 160 ∧ 2 ≤ target ∧ s.portUp (b - 144) ∧ !s.alone then some 4
  else none

/-- Whether a block delays, from the state (R449): exports in a dealer's staging, an open round or a mirror copy in a pot adder, frames
unacknowledged on a port. -/
def State.mustDelay (s : State) (b : Nat) : Bool :=
  if b < 48 then false
  else if b < 96 then
    let k := b - 48
    s.staged k != 0 || (s.hand.pushPend && s.inSvc k) || s.hand.pushOpen.contains k || (s.hand.full.elim false (fun e => e.parts.any (fun p => p.pos == k))) ||
      (s.hand.push.elim false (fun e => e.parts.any (fun p => p.pos == k)))
  else if b < 144 then !((s.posn (b - 96)).pot.rounds.isEmpty && (s.posn (b - 96)).pot.mirrorTries.isEmpty)
  else if b < 160 then (s.lport (b - 144)).unackN != 0
  else false

/-- A block's answer in one round: none for ACCEPT, some 0 for a DELAY, some reason for a REFUSE. -/
def State.blockAnswer (s : State) (c : CallIn) (target round b : Nat) : Option Nat :=
  if s.acceptsAtOnce b then none
  else
    let said : Option CallAns := ((c.rounds.getD round []).find? (fun e => e.1 == b)).map (·.2)
    if target = 0 then
      match said with
      | some .silent => some 8
      | _ => if s.rd R.CK_THROTTLE_SUPPLY ≠ 0 then some 6 else none
    else match s.mustRefuse b target, said with
      | some r, _ => some r
      | none, some .silent => some 8
      | none, some (.refuse r) => some r
      | none, some (.delay _) => some 0
      | none, none => if s.mustDelay b then some 0 else none

/-- The rounds of the call from round `r` on, at most `n`: the block and the reason that abort it, and the rounds run. Each asked block has
delayed in every round before; the fifth delay is a refusal. -/
def State.rounds_ (s : State) (c : CallIn) (target : Nat) : Nat → Nat → List Nat → Option (Nat × Nat) × Nat
  | 0, r, _ => (none, r)
  | n + 1, r, asked =>
    let ans := asked.map (fun b => (b, s.blockAnswer c target r b))
    match ans.find? (fun e => e.2.any (· != 0)) with
    | some (b, some why) => (some (b, why), r + 1)
    | _ =>
      let again := (ans.filter (fun e => e.2 == some 0)).map (·.1)
      match again with
      | [] => (none, r + 1)
      | b :: _ => if n = 0 then (some (b, 7), r + 1) else State.rounds_ s c target n (r + 1) again

/-! ## Transitions (R446 to R448) -/

/-- Entering IDLE (R445): the field rails go off, with all that the tiles hold; the link ports are disabled. -/
def State.toIdle (s : State) : State :=
  let s := s.each allFields (fun s f => if s.railOn f then s.openFuse f else s)
  let s := { s with
    tiles := []
    fab := { s.fab with tricks := [], edgeIn := [], edgeOut := [] }
    hand := { s.hand with installed := none, sideInst := none } }
  s.each allPorts (fun s p => if s.getI R.LK_PSTAT_STATE p = 0 then s else (s.dropPort p 0).setPort p 0)

/-- Leaving IDLE (R447): every field that is neither folded nor lost is powered and tested; ports that are enabled train again. -/
def State.fromIdle (s : State) (c : CallIn) : State :=
  let s := s.each (allFields.filter (fun f => !s.fieldOff f)) (fun s f => s.unfold f c.unfoldFails c.unfoldBad c.unfoldTrips)
  s.each allPorts (fun s p => if s.getI R.LK_PSTAT_STATE p = 0 then s.setPort p (s.downTo p) else s)

/-- The transition that a call has let through; STATE_CHANGE names both states. -/
def State.moveTo (s : State) (target : PState) (c : CallIn) : State :=
  let old := s.pwr.pstate
  if target = .watch then s.enterWatch
  else
    let s := if target = .idle then s.toIdle else if old = .idle then s.fromIdle c else s
    ({ s with pwr := { s.pwr with pstate := target } } : State).emit 0x0601 [.w4 old.num, .w4 target.num]

/-- Whether R446 lists a transition that PW_CMD requests. -/
def mayMove (old target : PState) : Bool :=
  match old, target with
  | .run, .hold => true
  | .hold, .run => true
  | .run, .idle => true
  | .hold, .idle => true
  | .idle, .run => true
  | .run, .watch => true
  | .hold, .watch => true
  | .idle, .watch => true
  | _, _ => false

/-- A write of PW_CMD: a transition that R446 does not list, or a write before READY, is PW_REFUSED (R446, R552); else the call runs (R449), and
the module moves or stays. While the supervisor does not run nobody runs the call. -/
def State.pwCmd (s : State) (target : PState) (c : CallIn) : State :=
  if s.rd R.HI_STATUS_STAGE < 6 || !mayMove s.pwr.pstate target then s.emit 0x0602 [.w4 target.num]
  else if !s.supvRuns then s
  else
    let r := s.rounds_ c target.num 5 0 callBlocks
    let s := s.wr R.PW_CALL_ROUNDS r.2
    match r.1 with
    | some (b, why) =>
      let res := if why = 7 then 3 else if why = 8 then 4 else 2
      let s := ((s.wr R.PW_CALL_RESULT res).wr R.PW_CALL_BLOCK b).wr R.PW_CALL_REASON why
      s.emit 0x0603 [.w4 b, .w4 why, .w4 r.2]
    | none => (((s.wr R.PW_CALL_RESULT 1).wr R.PW_CALL_BLOCK 0).wr R.PW_CALL_REASON 0).moveTo target c

/-- Whether an agent's write of PW_CMD counts. -/
def State.mayPower (s : State) (who : Agent) : Bool := s.mayWrite who R.PW_CMD_TARGET.off

/-- PW_CMD RUN (R446). -/
def execPwCmdRun (who : Agent) (c : CallIn) (s : State) : Host.Outcome State Fault Refusal :=
  .next (if s.mayPower who then s.pwCmd .run c else s)
/-- PW_CMD HOLD (R446). -/
def execPwCmdHold (who : Agent) (c : CallIn) (s : State) : Host.Outcome State Fault Refusal :=
  .next (if s.mayPower who then s.pwCmd .hold c else s)
/-- PW_CMD IDLE (R446). -/
def execPwCmdIdle (who : Agent) (c : CallIn) (s : State) : Host.Outcome State Fault Refusal :=
  .next (if s.mayPower who then s.pwCmd .idle c else s)
/-- PW_CMD WATCH (R446). -/
def execPwCmdWatch (who : Agent) (c : CallIn) (s : State) : Host.Outcome State Fault Refusal :=
  .next (if s.mayPower who then s.pwCmd .watch c else s)

/-! ## WATCH and waking (R450, R451) -/

/-- A wake from WATCH (R450, R451, R549): not while a leak is set, nor above 60.0 V after an overvoltage shutdown (R456, R464). It acts as a module
reset, and the crystal is judged again; WAKE names the cause. -/
def State.wake (s : State) (cause : Nat) : State :=
  if !s.inWatch || s.on R.PW_STATE_LEAK || (s.pwr.overvolt && decide (6000 < s.rd R.PW_VIN_CV)) then s
  else
    let s := s.moduleReset.judgeAgain
    let s := s.wr R.PW_WAKE_CAUSE cause
    ({ s with pwr := { s.pwr with entering := true, wakeTarget := s.on R.PW_WAKE_TARGET, overvolt := false } } : State).emit 0x0611 [.w4 cause]

/-- Whether a wake source is enabled. -/
def State.wakeIf (s : State) (en : Fld) (cause : Nat) : State := if s.on en then s.wake cause else s

/-- WAKE_I3C (R450). -/
def execWakeI3c (s : State) : Host.Outcome State Fault Refusal := .next (s.wakeIf R.PW_WAKE_I3C_EN 1)
/-- WAKE_MAILBOX (R450). -/
def execWakeMailbox (s : State) : Host.Outcome State Fault Refusal := .next (s.wakeIf R.PW_WAKE_MB_EN 2)
/-- WAKE_WAKEN (R450). -/
def execWakeWaken (s : State) : Host.Outcome State Fault Refusal := .next (s.wakeIf R.PW_WAKE_WAKEN_EN 3)

/-- A leak (R464): LEAK names the state, PW_STATE.LEAK is set, and a hand in progress is misdealt. -/
def State.leakFound (s : State) : State :=
  ((s.emit 0x0612 [.w4 s.pwr.pstate.num]).wr R.PW_STATE_LEAK 1).misdeal 7

/-- WATCH_SAMPLE (R450, R464): the input monitor is powered for it, so PW_VIN reads what it measured (log 217); a breach wakes the module as far as supervisor boot. A wet sample is a leak, whose own sample is the last that may
wake (log 73). -/
def execWatchSample (volts temp : Int) (leak : Bool) (s : State) : Host.Outcome State Fault Refusal :=
  .next (
    if !s.inWatch || s.on R.PW_STATE_LEAK then s
    else
      let s := s.wr R.PW_VIN_CV (min (100 * volts.toNat) 0xFFFF)
      let wet := leak && s.on R.PW_WATCH_LIM_LEAK_EN
      let breach := wet || decide (volts < s.rd R.PW_WATCH_LIM_VLO) || decide ((s.rd R.PW_WATCH_LIM_VHI : Int) < volts) ||
        decide ((s.rd R.PW_WATCH_LIM_TMAX : Int) < temp)
      let w := if breach && s.on R.PW_WAKE_BREACH_EN then s.wake 4 else s
      let w := if w.inWatch then w else { w with pwr := { w.pwr with breach := some (volts, temp, wet) } }
      if wet then w.leakFound else w)

/-- BREACH_WAIT_TIMEOUT (R451): no management command came in 10 s, and the module returns to WATCH without a call. -/
def execBreachWaitTimeout (s : State) : Host.Outcome State Fault Refusal :=
  .next (if s.pwr.breachWait then s.enterWatch else s)

/-- LEAK (R464): 50 ms of continuous indication in RUN, HOLD or IDLE, or during start-up (R552), send the module to WATCH. -/
def execLeak (s : State) : Host.Outcome State Fault Refusal :=
  .next (if s.pwr.pstate == .off || s.inWatch then s else s.leakFound.enterWatch)

/-! ## The 56 V input (R452 to R457) -/

/-- A voltage that the input monitor has read, in units of 10 mV. -/
def State.volts (s : State) (cv : Nat) : State :=
  (s.wr R.PW_VIN_CV (min cv 0xFFFF)).wr R.PW_VMIN_CV (min (s.rd R.PW_VMIN_CV) cv)

/-- VIN_HIGH (R452): 60.0 to 62.0 V for 10 ms, once per minute. -/
def execVinHigh (cv : Nat) (s : State) : Host.Outcome State Fault Refusal :=
  .next (
    if !s.powered then s
    else
      let s := s.volts cv
      let due := match s.pwr.vinHighMin with | none => true | some t => decide (t + minuteTicks ≤ s.ticks)
      if due then ({ s with pwr := { s.pwr with vinHighMin := some s.ticks } } : State).emit 0x0608 [.w4 cv] else s)

/-- SAG (R453): the input falls through 48.0 V; while a sag is in force nothing changes. -/
def execSag (cv : Nat) (s : State) : Host.Outcome State Fault Refusal :=
  .next (
    if !s.powered || s.pwr.sag then s
    else
      let s : State := { s with pwr := { s.pwr with sag := true } }
      (((s.bump R.PW_SAGS_COUNT 1).volts cv).setSupply).emit 0x0604 [.w4 cv])

/-- SAG_END (R453). -/
def execSagEnd (us lowest : Nat) (s : State) : Host.Outcome State Fault Refusal :=
  .next (
    if !s.pwr.sag then s
    else
      let s : State := { s with pwr := { s.pwr with sag := false } }
      let s := s.wr R.PW_VMIN_CV (min (s.rd R.PW_VMIN_CV) lowest)
      s.setSupply.emit 0x0605 [.w4 us, .w4 lowest])

/-- SUPPLY_RESET (R455): the input falls through 45.0 V. At rest in WATCH, and in OFF, nothing is powered that it could reset. -/
def execSupplyReset (cv : Nat) (s : State) : Host.Outcome State Fault Refusal :=
  .next (if s.pwr.pstate == .off || s.inWatch then s else (s.supplyReset 1 cv).wr R.PW_VIN_CV (min cv 0xFFFF))

/-- OVERVOLT (R456): the input rises through 62.0 V; a supply reset that ends in WATCH. -/
def execOvervolt (cv : Nat) (s : State) : Host.Outcome State Fault Refusal :=
  .next (
    if s.pwr.pstate == .off || s.inWatch then s
    else
      let s := (s.enterWatch.emit 0x0607 [.w4 cv]).wr R.PW_VIN_CV (min cv 0xFFFF)
      { s with pwr := { s.pwr with overvolt := true } })

/-- INPUT_OFF (R446, R452): below 20 V the module is OFF. -/
def execInputOff (s : State) : Host.Outcome State Fault Refusal :=
  .next (let t := s.powerLost; { t with pwr := { t.pwr with pstate := .off, entering := false } })

/-- The cap in W (R454): the lower of PLIMIT and 875 W for each converter that works. -/
def State.cap (s : State) : Nat := min (s.rd R.PW_PLIMIT_W) (875 * s.rd R.PW_CONV_K)

/-- Set the cap request; POWER_CAP when it leaves 0 and when it returns (R454). -/
def State.setCap (s : State) (v : Nat) : State :=
  let old := s.rd R.PW_PLIMIT_CAP
  let s := (s.wr R.PW_PLIMIT_CAP v).setSupply
  if (old = 0) = (v = 0) then s else s.emit 0x0609 [.w4 s.cap, .w4 (if v = 0 then 0 else 1)]

/-- OVERCURRENT (R454): above 300 A for 10 µs the cap request is at least 8 at once. -/
def execOvercurrent (s : State) : Host.Outcome State Fault Refusal :=
  .next (if s.powered then s.setCap (max 8 (s.rd R.PW_PLIMIT_CAP)) else s)

/-- CAP_SAMPLE (R454): a millisecond's input power, current and voltage; the power is compared with the cap. -/
def execCapSample (watts da cv : Nat) (s : State) : Host.Outcome State Fault Refusal :=
  .next (
    if !s.powered then s
    else
      let s := ((s.wr R.PW_PIN_W (min watts 0xFFFF)).wr R.PW_PIN_DA (min da 0xFFFF)).volts cv
      let low := fun (n : Nat) (s : State) => ({ s with pwr := { s.pwr with capLow := n } } : State)
      let c := s.rd R.PW_PLIMIT_CAP
      if s.cap < watts then low 0 (s.setCap (min 15 (c + 1)))
      else if watts * 100 < 95 * s.cap then
        if 10 ≤ s.pwr.capLow + 1 then low 0 (s.setCap (c - 1)) else low (s.pwr.capLow + 1) s
      else low 0 s)

/-- CONV_FAIL (R457): a converter is removed; with fewer than 12 the error is fatal, and the module goes to WATCH. -/
def execConvFail (i cause : Nat) (s : State) : Host.Outcome State Fault Refusal :=
  .next (
    if !s.powered || !bitOf (s.rd R.PW_CONV_OK) i then s
    else
      let s : State := { s with pwr := { s.pwr with convBad := s.pwr.convBad ||| (1 : BitVec 16) <<< i } }
      let s := s.setConv
      let k := s.rd R.PW_CONV_K
      let s := s.emit 0x060A [.w4 i, .w4 cause, .w4 k]
      if k < 12 then (s.fatal 0x060A 0xFFFF).enterWatch else s)

/-- FUSE_TRIP (R458). Of a field that a hard trip has just opened it is the same opening, but the field is marked lost, for a short outranks heat
(R465; log 216). -/
def execFuseTrip (field cause peak : Nat) (s : State) : Host.Outcome State Fault Refusal :=
  .next (
    if s.railOn field then s.fieldLost field cause peak
    else if bitOf s.folded field && s.foldPending field && !bitOf s.lost field then
      (s.fieldBit R.FB_LOST_LO_FIELDS R.FB_LOST_HI_FIELDS field true).emit 0x060B [.w4 field, .w4 cause, .w4 peak]
    else s)

/-! ## Thermal protection (R460 to R463) -/

/-- HOT_TRIP (R462): the fuse opens as a fuse trip does, and the field is folded from then on with its fold request set. -/
def execHotTrip (field : Nat) (q4 : Int) (s : State) : Host.Outcome State Fault Refusal :=
  .next (
    if !s.railOn field then s
    else (((s.emit 0x060D [.w4 field, tempArg q4]).misdeal 1).fold field).foldRequest field 3 (toBits q4 32))

/-- The middle of up to three readings; of two, the higher (log 74). -/
def median (l : List Int) : Option Int :=
  match l with
  | [] => none
  | [a] => some a
  | [a, b] => some (max a b)
  | a :: b :: c :: _ => some (max (min a b) (min (max a b) c))

/-- Keys of sensors: junction sensor j of field n is 4 n + j, near stack k is 200 + k, far device d is 300 + d, the I/O ring is 400. -/
def nearKey : Nat := 200
def farKey : Nat := 300
def ringKey : Nat := 400

/-- A sensor's reading: one outside −40 to 150 °C counts for nothing (R539). -/
def State.sense (s : State) (key : Nat) (q4 : Int) : State :=
  let ok := decide (-160 ≤ q4) && decide (q4 ≤ 600)
  let l := if ok then ((s.pwr.last3.get key []) ++ [q4]).drop ((s.pwr.last3.get key []).length - 2) else []
  let m := match median l with | none => s.pwr.sensors.del key | some v => s.pwr.sensors.ins key v
  { s with pwr := { s.pwr with last3 := s.pwr.last3.put key l [], sensors := m } }

/-- A field's temperature: the highest of its sensors' medians (R460). -/
def State.fieldTemp (s : State) (n : Nat) : Option Int :=
  (List.range 4).foldl (fun (a : Option Int) j => match a, s.pwr.sensors.find? (4 * n + j) with
    | some x, some y => some (max x y)
    | none, y => y
    | x, none => x) none

/-- A temperature register (R467). -/
def State.tempReg (s : State) (q v : Fld) (i : Nat) (t : Option Int) : State :=
  match t with
  | none => s.setI v i 0
  | some x => (s.setI q i (toBits x 11)).setI v i 1

/-- Whether a sensor newly reads at or above FOLD_C. -/
def State.newlyHot (s : State) (key : Nat) (t : Option Int) : Bool :=
  (t.any (fun x => decide (4 * (s.rd R.PW_THERM_FOLD_C : Int) ≤ x))) && !s.pwr.hot.contains key
/-- Keep which sensors read at or above FOLD_C. -/
def State.keepHot (s : State) (key : Nat) (t : Option Int) : State :=
  let h := t.any (fun x => decide (4 * (s.rd R.PW_THERM_FOLD_C : Int) ≤ x))
  { s with pwr := { s.pwr with hot := if h then setIns s.pwr.hot key else s.pwr.hot.filter (· != key) } }

/-- What a field's temperature does (R461): at FOLD_C its fold request is set, with FOLD_REQUEST once in a hand. -/
def State.fieldHeat (s : State) (n : Nat) : State :=
  let t := s.fieldTemp n
  let s := s.tempReg R.PW_TEMP_Q4 R.PW_TEMP_VALID n t
  let s := { s with pwr := { s.pwr with badField :=
    if t.isNone then s.pwr.badField ||| (1 : BitVec 48) <<< n else s.pwr.badField &&& ~~~ ((1 : BitVec 48) <<< n) } }
  match t with
  | none => s
  | some x =>
    if x < 4 * (s.rd R.PW_THERM_FOLD_C : Int) then s
    else if s.pwr.foldSeen.getLsbD n then
      s.fieldBit R.PW_FOLDREQ_LO_REQ R.PW_FOLDREQ_HI_REQ n true
    else
      ({ s with pwr := { s.pwr with foldSeen := s.pwr.foldSeen ||| (1 : BitVec 48) <<< n } } : State).foldRequest n 1 (toBits x 32)

/-- What the temperature of a near stack or a far device does (R461): MEM_HOT, and the position leaves service at the boundary; at 115 °C the
hand is misdealt as well. MEM_HOT comes as the sensor reaches FOLD_C. -/
def State.memHeat (s : State) (key k stock : Nat) : State :=
  let t := s.pwr.sensors.find? key
  let new := s.newlyHot key t
  let s := s.keepHot key t
  match t with
  | none => s
  | some x =>
    let s := if new then (s.emit 0x060E [.w4 k, .w4 stock, tempArg x]).leaveOpen k else s
    if 4 * (s.rd R.PW_THERM_HOT_C : Int) ≤ x then s.misdeal 7 else s

/-- What the temperature of the I/O ring does (R461): RING_HOT as it reaches FOLD_C; at 115 °C a fatal error, then WATCH without a call. -/
def State.ringHeat (s : State) : State :=
  let t := s.pwr.sensors.find? ringKey
  let new := s.newlyHot ringKey t
  let s := s.keepHot ringKey t
  match t with
  | none => s
  | some x =>
    let s := if new then s.emit 0x060F [tempArg x] else s
    if 4 * (s.rd R.PW_THERM_HOT_C : Int) ≤ x then (s.fatal 0x060F 0xFFFF).enterWatch else s

/-- SENSOR_READ (R460, R461): a reading of the sensors. A field whose rail is off has no powered sensor. -/
def execSensorRead (r : SensorIn) (s : State) : Host.Outcome State Fault Refusal :=
  .next (
    if !s.powered then s
    else
      let s := s.each (r.field.filter (fun e => s.railOn (e.1 / 4))) (fun s e => s.sense e.1 e.2)
      let off := fun (key : Nat) => decide (key < 192) && !s.railOn (key / 4)
      let s := { s with pwr := { s.pwr with
        sensors := s.pwr.sensors.filter (fun e => !off e.1), last3 := s.pwr.last3.filter (fun e => !off e.1) } }
      let s := s.each r.near (fun s e => s.sense (nearKey + e.1) e.2)
      let s := s.each r.far (fun s e => s.sense (farKey + e.1) e.2)
      let s := s.sense ringKey r.ring
      let s := s.each allFields (fun s n =>
        if s.railOn n && r.field.any (fun e => e.1 / 4 == n) then s.fieldHeat n
        else if s.railOn n then s else s.setI R.PW_TEMP_VALID n 0)
      let s := s.each (r.near.map (·.1)) (fun s k => (s.tempReg R.PW_NTEMP_Q4 R.PW_NTEMP_VALID k (s.pwr.sensors.find? (nearKey + k))).memHeat (nearKey + k) k 0)
      let s := s.each (r.far.map (·.1)) (fun s d => s.memHeat (farKey + d) (d / 2) 1)
      s.ringHeat)

/-- THERM_STEP (R461, R539): each ms THERM rises while a sensor is at THR_C, a field with no valid sensor counting as one; it falls each 10 ms
while every sensor is 2 °C below. -/
def execThermStep (s : State) : Host.Outcome State Fault Refusal :=
  .next (
    if !s.powered then s
    else
      let thr := 4 * (s.rd R.PW_THERM_THR_C : Int)
      let noneOf := allFields.any (fun n => s.railOn n && s.pwr.badField.getLsbD n)
      let hot := noneOf || s.pwr.sensors.any (fun e => decide (thr ≤ e.2))
      let cool := s.pwr.sensors.all (fun e => decide (e.2 ≤ thr - 8))
      let low := fun (n : Nat) (s : State) => ({ s with pwr := { s.pwr with coolLowMs := n } } : State)
      let v := s.rd R.CK_THROTTLE_THERM
      if hot then low 0 (s.wr R.CK_THROTTLE_THERM (min 15 (v + 1)))
      else if !cool then low 0 s
      else if 10 ≤ s.pwr.coolLowMs + 1 then low 0 (s.wr R.CK_THROTTLE_THERM (v - 1))
      else low (s.pwr.coolLowMs + 1) s)

/-- FOLDREQ_COOL (R463): a field has stayed folded for COOL_S, and its fold request clears. -/
def execFoldreqCool (field : Nat) (s : State) : Host.Outcome State Fault Refusal :=
  .next (
    if s.foldPending field && bitOf s.folded field then s.fieldBit R.PW_FOLDREQ_LO_REQ R.PW_FOLDREQ_HI_REQ field false
    else s)

end Sys2Proof.Machine
end

