-- ==== Sys2Proof/Machine/Policy.lean ====
section
/-! DEFINITION. The deal image policy (R512, R513): SC_KEYCMD, its permissions, and the POLICY record. -/

namespace Sys2Proof.Machine

/-- The payload of a POLICY record: REQUIRE, LOCKED, then for each of the four slots whether it is filled and the key's 388 bytes. The manual
gives the content and not the places (log 78). -/
def Security.policyBytes (c : Security) : Bytes :=
  leBytes 1 (b2n c.require) ++ leBytes 1 (b2n c.locked) ++
    (List.range 4).flatMap (fun i => match c.keys.find? i with
      | none => zeros 389
      | some k => 1 :: slice k 0 388)

/-- Whether an operation that LOCKED guards may run (R513): with LOCKED 0 for the host or the debug port, with LOCKED 1 for the debug port with
its right POLICY alone. -/
def State.guarded (s : State) (who : Agent) : Bool :=
  if s.sec.locked then (who == .tap) && s.right 4 else who == .host || who == .tap

/-- Whether an operation may run for an agent (R513): 1 ENROLL, 2 REMOVE, 3 REQUIRE, 4 UNREQUIRE, 5 LOCK, 6 UNLOCKPOL. -/
def State.keyAllowed (s : State) (who : Agent) (op : Nat) : Bool :=
  if op = 1 ∨ op = 4 ∨ op = 6 then s.guarded who else who == .host || who == .tap

/-- The key of an ENROLL: 388 bytes of near memory at SC_KEYADDR, none where the address is in error or unreadable, or where the exponent is not
65,537 (R513). -/
def State.keyAt (s : State) : Option Bytes :=
  let a := s.rd64 R.SC_KEYADDR_LO_ADDR R.SC_KEYADDR_HI_ADDR
  let ok := (List.range 388).all (fun i => match s.loc (a + i) with
    | some (.near _ _) => !s.gatedAt (a + i) && !s.poisoned (a + i)
    | _ => false)
  let b := s.devRd a 388
  if ok && field b 384 4 == 65537 then some b else none

/-- The outcome of an operation, in SC_KEYRES (R513, R529). -/
def State.keyRes (s : State) (r : Nat) : State := s.wr R.SC_KEYRES_RESULT r

/-- A change that succeeds: a POLICY record, POLICY_CHANGE, RESULT done (R513). -/
def State.policyChanged (s : State) (op slot : Nat) : State :=
  ((s.ledger 0x000B s.sec.policyBytes).emit 0x0806 [.w4 op, .w4 slot]).keyRes 1

/-- Carry out an operation that is allowed (R513). -/
def State.keyRun (s : State) (op slot : Nat) (keyOk : Bool) : State :=
  let put := fun (c : Security) => ({ s with sec := c } : State).policyChanged op slot
  match op with
  | 1 => match s.keyAt with
    | some k => if keyOk then put { s.sec with keys := s.sec.keys.ins slot k } else s.keyRes 3
    | none => s.keyRes 3
  | 2 => put { s.sec with keys := s.sec.keys.del slot }
  | 3 => put { s.sec with require := true }
  | 4 => put { s.sec with require := false }
  | 5 => put { s.sec with locked := true }
  | 6 => put { s.sec with locked := false }
  | _ => s

/-- A write of SC_KEYCMD (R513, R529): DENIED where the operation is not allowed, BUSY while another is under way, which is so as long as the
supervisor that carries it out does not run. -/
def State.keyCmd (s : State) (who : Agent) (op : Nat) (v : W32) (keyOk : Bool) : State :=
  if !s.mayWrite who R.SC_KEYCMD_OP.off then s
  else
    let slot := bitsOf v.toNat 3 2
    if s.sec.keyPend.isSome then s.keyRes 4
    else if !s.keyAllowed who op then s.keyRes 2
    else if !s.supvRuns then { s with sec := { s.sec with keyPend := some (op, slot, keyOk) } }
    else s.keyRun op slot keyOk

/-- An operation that waited for the supervisor runs. -/
def State.keyResume (s : State) : State :=
  match s.sec.keyPend with
  | none => s
  | some (op, slot, ok) => if s.supvRuns then ({ s with sec := { s.sec with keyPend := none } } : State).keyRun op slot ok else s

/-- ENROLL (R513): a slot is filled with the key at SC_KEYADDR. -/
def execEnroll (who : Agent) (v : W32) (keyOk : Bool) (s : State) : Host.Outcome State Fault Refusal := .next (s.keyCmd who 1 v keyOk)
/-- REMOVE (R513): a slot is emptied. -/
def execRemove (who : Agent) (v : W32) (s : State) : Host.Outcome State Fault Refusal := .next (s.keyCmd who 2 v true)
/-- REQUIRE (R513): unsigned images are refused. -/
def execRequire (who : Agent) (v : W32) (s : State) : Host.Outcome State Fault Refusal := .next (s.keyCmd who 3 v true)
/-- UNREQUIRE (R513). -/
def execUnrequire (who : Agent) (v : W32) (s : State) : Host.Outcome State Fault Refusal := .next (s.keyCmd who 4 v true)
/-- LOCK (R513). -/
def execLockPolicy (who : Agent) (v : W32) (s : State) : Host.Outcome State Fault Refusal := .next (s.keyCmd who 5 v true)
/-- UNLOCKPOL (R513). -/
def execUnlockpol (who : Agent) (v : W32) (s : State) : Host.Outcome State Fault Refusal := .next (s.keyCmd who 6 v true)

end Sys2Proof.Machine
end

