-- ==== Sys2Proof/Machine/Supv.lean ====
section
/-! DEFINITION. The supervisor (R474 to R488): its checks and its watchdog, its return after a reset, the hand watchdog, fatal errors, and the
acknowledgement of event messages. -/

namespace Sys2Proof.Machine

/-! ## Posting an outcome (R30 order 1, R404) -/

/-- Post the outcome of the hand that ended: its descriptor completes, and HI_HAND names the hand (R30, R398, R421). Nothing is posted while the
supervisor does not run (R477, R520). -/
def State.postOutcome (s : State) : State :=
  match s.hand.running, s.hand.outcome with
  | some d, some (status, detail) =>
    if s.hand.posted || !s.supvRuns then s
    else
      let s := { s with hand := { s.hand with posted := true } }
      (s.wr64 R.HI_HAND_LO_HAND R.HI_HAND_HI_HAND s.hand.hand.toNat).complete d.q d.cid status detail s.hand.hand.toNat
  | _, _ => s

/-! ## Supervisor resets (R474 to R478) -/

/-- SUPV_ECC (R474): a double-bit error of the supervisor's SRAM. -/
def execSupvEcc (addr : W64) (s : State) : Host.Outcome State Fault Refusal :=
  .next (if s.supvUp then (s.emit 0x0A22 [.w8 addr.toNat]).supvReset 3 else s)

/-- SUPV_CFLOW (R475): a branch signature differs. A halted supervisor takes no branch. -/
def execSupvCflow (addr : W64) (s : State) : Host.Outcome State Fault Refusal :=
  .next (if s.supvUp && !s.sup.halted then (s.emit 0x0A21 [.w8 addr.toNat]).supvReset 2 else s)

/-- SUPV_WDOG (R476): the watchdog, which pauses while the supervisor is halted (R520), expires. Its event names the count of resets that this
one makes. -/
def execSupvWdog (s : State) : Host.Outcome State Fault Refusal :=
  .next (
    if s.supvUp && !s.sup.halted && s.on R.SP_CTRL_WDOG_EN then
      (s.emit 0x0A20 [.w4 (min 0xFFFF (s.rd R.SP_RESETS_COUNT + 1))]).supvReset 1
    else s)

/-- KICK (R476): the watchdog starts again; the field reads 0. How long it has run is not state (log 75). -/
def execKick (who : Agent) (s : State) : Host.Outcome State Fault Refusal :=
  .next (if s.mayWrite who R.SP_CTRL_KICK.off then s.wr R.SP_CTRL_KICK 0 else s)

/-- Whether the supervisor can come back: it is down after a reset, the module has booted and is powered, its running bank boots, and no firmware
is on trial. -/
def State.mayReturn (s : State) : Bool :=
  s.sup.down && s.powered && !s.pwr.modReset && !s.sup.romOnly && !s.sup.trial && decide (2 ≤ s.rd R.HI_STATUS_STAGE)

/-- The supervisor is back (R477): what waited goes to its queue, an outcome is posted, and SUPV_RESET names the cause and the count. -/
def State.supvBack (s : State) : State :=
  let s : State := { s with sup := { s.sup with down := false } }
  let s := ((((s.wr R.SP_STATUS_UP 1).flushEvents).postOutcome).keyResume).supvStop
  s.emit 0x0A23 [.w4 (s.rd R.SP_RESETS_CAUSE), .w4 (s.rd R.SP_RESETS_COUNT)]

/-- SUPERVISOR_BACK (R477). -/
def execSupervisorBack (s : State) : Host.Outcome State Fault Refusal :=
  .next (if s.mayReturn then s.supvBack else s)

/-! ## The hand watchdog (R479) and fatal errors (R481) -/

/-- Whether the hand watchdog runs: from the START of the play schedule to the outcome, not while the wafer stands or the supervisor is
halted (R479, R520). -/
def State.handTimed (s : State) : Bool :=
  s.hand.running.isSome && s.hand.outcome.isNone && !s.recovering && s.supvRuns && s.moving &&
    (s.fab.started || s.hand.contributed)

/-- HAND_WATCHDOG (R479): the supervisor misdeals the hand with FAULT. -/
def execHandWatchdog (s : State) : Host.Outcome State Fault Refusal :=
  .next (if s.handTimed then (s.emit 0x0A24 [.w8 s.hand.hand.toNat]).misdeal 7 else s)

/-- FATAL (R481): a fatal error that a block detects. -/
def execFatal (code origin : Nat) (s : State) : Host.Outcome State Fault Refusal :=
  .next (if s.powered then s.fatal code origin else s)

/-! ## The management queue (R486, R487) -/

/-- PLDM_EVENT_ACK (R487): an acknowledged record leaves the management queue. EVT_QUEUE_LOST names the records dropped, once room returns. -/
def execPldmEventAck (seq : W32) (s : State) : Host.Outcome State Fault Refusal :=
  .next (
    if !s.supvRuns || !s.sup.queue.any (fun e => e.seq == seq) then s
    else
      let s : State := { s with sup := { s.sup with queue := s.sup.queue.filter (fun e => e.seq != seq) } }
      s.lostNote)

end Sys2Proof.Machine
end

