-- ==== Sys2Proof/Machine/Mgmt.lean ====
section
/-! DEFINITION. The services that the supervisor offers through its mailboxes (R493 to R498): their acknowledge codes, their results, firmware
staging, and the resets that they ask for. -/

namespace Sys2Proof.Machine

/-! ## Reaching the supervisor (R489, R493) -/

/-- Whether a transport carries requests now (R489): I3C in every state but OFF, Ethernet while its link is up with the supply on, DOE while PCIE_A
is up. -/
def State.viaUp (s : State) (via : Transport) : Bool :=
  match via with
  | .i3c => s.pwr.pstate != .off
  | .ethernet => s.powered && s.on R.SP_STATUS_ETH_UP
  | .doe => bitOf s.host.linkUp.toNat 0

/-- Whether somebody answers on the management interface: the firmware, or the boot ROM's minimal responder (R478). -/
def State.answers (s : State) : Bool := s.powered && (s.supvRuns || s.sup.romOnly)

/-- Whether a command that changes state is accepted over a transport (R493): over I3C, and over Ethernet inside a session. -/
def State.mayChange (s : State) (via : Transport) : Bool :=
  match via with
  | .i3c => true
  | .ethernet => s.sup.session && s.sup.sessionVia == some .ethernet
  | .doe => false

/-- A management command has come: the wait of a wake by breach is over (R451). -/
def State.heard (s : State) : State := { s with pwr := { s.pwr with breachWait := false } }

/-! ## A service word (R411, R494) -/

/-- What a service answers: its acknowledge code, its result word's [55:0] if one follows, and what it does then. -/
structure Served where
  code : Nat
  result : Option Nat
  act : State → State

/-- A service that only answers. -/
def Served.only (code : Nat) : Served := ⟨code, none, id⟩

/-- A service word. -/
def serviceWord (svc arg : Nat) : W64 := BitVec.ofNat 64 (svc * 2 ^ 56 + arg % 2 ^ 56)

/-- A result word goes to the requester, at once or when its mailbox is empty (R494). -/
def State.sendResult (s : State) (pair : Nat) (w : W64) : State :=
  if (s.pair pair).s2h.full then { s with sup := { s.sup with results := s.sup.results ++ [(pair, w)] } } else s.s2hSend pair w

/-- Whether the requester's path to the mailbox works: PCIE_A is up for a host pair, the transport for a management pair. -/
def State.pathUp (s : State) (pair : Nat) (via : Transport) : Bool :=
  if pair < 16 then bitOf s.host.linkUp.toNat 0 else s.viaUp via

/-- A request for a service (R411, R494): its word goes into the mailbox of the pair, a word that finds the mailbox full is ignored with OVERRUN; the
supervisor serves it once it runs, acknowledges it, returns a result word, and acts. While it does not run, the word stays FULL. -/
def State.service (s : State) (pair svc : Nat) (arg : BitVec 56) (via : Transport) (run : State → Served) : State :=
  if !s.pathUp pair via then s
  else
    let w := serviceWord svc arg.toNat
    let p := s.pair pair
    if p.h2s.full && p.h2s.word != w then s.setPair pair { p with h2s := { p.h2s with overrun := true } }
    else
      let s := if p.h2s.full then s
        else s.setPair pair { p with h2s := ({ p.h2s with lo := w.setWidth 32 } : Box).send ((w >>> 32).setWidth 32) }
      if !(if pair < 16 then s.supvRuns && s.powered else s.answers) then s
      else
        let s := if pair < 16 then s else s.heard
        let r := run s
        let q := s.pair pair
        let s := (s.setPair pair { q with h2s := q.h2s.ack (BitVec.ofNat 16 r.code) }).pairMsix pair
        let s := match r.result with
          | none => s
          | some v => s.sendResult pair (serviceWord svc v)
        r.act s

/-- A service that takes ARG 0 alone: BAD_ARG else (R494, R495). -/
def argZero (arg : BitVec 56) (r : Served) : Served := if arg = 0 then r else Served.only 2
/-- A service of the firmware, which the boot ROM's responder answers with STATE (log 76). -/
def State.firmware (s : State) (r : Served) : Served := if s.supvRuns then r else Served.only 7
/-- A service that a host pair is denied, and that Ethernet is outside a session (R493, R495). -/
def State.mgmtOnly (s : State) (pair : Nat) (via : Transport) (r : Served) : Served :=
  if pair < 16 || !s.mayChange via then Served.only 6 else r
/-- A service that changes state: a host pair, or a transport that may (R493). -/
def State.changes (s : State) (pair : Nat) (via : Transport) (r : Served) : Served :=
  if 16 ≤ pair && !s.mayChange via then Served.only 6 else r

/-- INFO (R495): the running version, the bank, and whether a staged image is valid. -/
def execInfo (pair : Nat) (arg : BitVec 56) (s : State) : Host.Outcome State Fault Refusal :=
  .next (s.service pair 0x01 arg .i3c (fun s => argZero arg
    ⟨0, some (s.rd R.SP_FW_RUN_VERSION + s.rd R.HI_STATUS_BANK * 2 ^ 32 + s.rd R.SP_STATUS_STAGED * 2 ^ 48), id⟩))

/-! ## Firmware staging (R496, R497, R507, R508) -/

/-- The checks of R508 in their order: 0, or the acknowledge code of the first failure. -/
def State.fwVerify (s : State) (f : FwImage) : Nat :=
  if !f.fmtOk || f.revoke.getLsbD f.slot.toNat then 4
  else if s.sec.revoked.getLsbD f.slot.toNat || s.sec.slotHash.get f.slot.toNat 0 != f.keyHash then 4
  else if !f.sigOk then 4
  else if f.svn < s.sec.counter then 5
  else 0

/-- The bank that does not run. -/
def State.otherBank (s : State) : Nat := 1 - s.rd R.HI_STATUS_BANK

/-- A staging ends (R497): the verified image goes into the inactive bank and the shadow memory with FW_STAGED; else FW_STAGE_FAIL with the
code. -/
def State.stageEnd (s : State) (img : FwImage) : State × Nat :=
  let c := s.fwVerify img
  if c ≠ 0 then (s.emit 0x0A28 [.w4 c], c)
  else
    let b := s.otherBank
    let s := { s with sup := { s.sup with stagedImg := some img, banks := s.sup.banks.ins b img } }
    (((s.wr R.SP_STATUS_STAGED 1).wr R.SP_FW_STAGED_VERSION img.fwver.toNat).emit 0x0A27 [.w4 img.fwver.toNat, .w4 b], 0)

/-- Whether a staging is open (R494). -/
def State.stagingOpen (s : State) : Bool := s.sup.open_.any (fun o => o.1 == 0x02)

/-- FW_STAGE (R495, R497): its ARG is a device address in near memory, a multiple of 4 KiB. -/
def execFwStage (pair : Nat) (arg : BitVec 56) (via : Transport) (s : State) : Host.Outcome State Fault Refusal :=
  .next (s.service pair 0x02 arg via (fun s => s.changes pair via (s.firmware (
    let a := arg.toNat
    if a % 4096 ≠ 0 || decide (0x048000000000 ≤ a) || (s.nearLoc a).isNone then Served.only 2
    else if s.stagingOpen then Served.only 3
    else ⟨0, none, fun s => { s with sup := { s.sup with open_ := s.sup.open_ ++ [(0x02, pair)] } }⟩))))

/-- FW_STAGE_DONE (R497): the staging that a pair asked for ends, and its result word carries the code. A supervisor reset has lost a staging that
was open (R500). -/
def execFwStageDone (pair : Nat) (img : FwImage) (s : State) : Host.Outcome State Fault Refusal :=
  .next (
    if !s.supvRuns || !s.sup.open_.contains (0x02, pair) then s
    else
      let r := ({ s with sup := { s.sup with open_ := s.sup.open_.erase (0x02, pair) } } : State).stageEnd img
      r.1.sendResult pair (serviceWord 0x02 r.2))

/-- No staged image is left. -/
def State.unstage (s : State) : State :=
  let s := { s with sup := { s.sup with stagedImg := none } }
  ((s.wr R.SP_STATUS_STAGED 0).wr R.SP_FW_STAGED_VERSION 0).wr R.SP_STATUS_SWITCH_PEND 0

/-- FW_SWITCH (R495, R498, R500): STATE with no valid staged image. -/
def execFwSwitch (pair : Nat) (arg : BitVec 56) (via : Transport) (s : State) : Host.Outcome State Fault Refusal :=
  .next (s.service pair 0x03 arg via (fun s => s.changes pair via (s.firmware (argZero arg
    (if s.sup.stagedImg.isNone then Served.only 7 else ⟨0, none, fun s => s.wr R.SP_STATUS_SWITCH_PEND 1⟩)))))

/-- FW_CANCEL (R495, R497): a staged image that has not been switched is discarded. -/
def execFwCancel (pair : Nat) (arg : BitVec 56) (via : Transport) (s : State) : Host.Outcome State Fault Refusal :=
  .next (s.service pair 0x04 arg via (fun s => s.changes pair via (s.firmware (argZero arg ⟨0, none, State.unstage⟩))))

/-- The supervisor starts again for a firmware switch, with its cause in SP_RESETS (R498, R502): its mailboxes are treated under R414, and an SPDM
session ends. -/
def State.switchReset (s : State) (cause : Nat) : State :=
  let open1 := s.sup.session
  let s := (s.bump R.SP_RESETS_COUNT 1).wr R.SP_RESETS_CAUSE cause
  let s := { s with sup := { s.sup with
    session := false, sessionVia := none, handshake := none, negotiated := false, open_ := [], results := [] } }
  let s := (s.wr R.SP_STATUS_SESSION 0).supvBoxes
  if open1 then s.emit 0x0A2C [.w4 3, .w4 0] else s

/-- FW_FALLBACK (R498): the firmware on trial has not reported ready, and the old bank runs again. A halted supervisor's trial pauses (R520). The
staged image, whose version the event names, stays. -/
def execFwFallback (s : State) : Host.Outcome State Fault Refusal :=
  .next (
    if !s.sup.trial || s.sup.halted then s
    else
      let s := s.switchReset 6
      let s := { s with sup := { s.sup with trial := false, down := false } }
      let s := ((s.wr R.SP_STATUS_UP 1).wr R.SP_STATUS_SWITCH_PEND 0).flushEvents
      s.emit 0x0A2A [.w4 (s.rd R.SP_FW_STAGED_VERSION)])

/-! ## The dump (R495) -/

/-- DUMP_INFO (R495): the hand and COMPLETE as the dump's header has them, and DUMP_VALID. -/
def execDumpInfo (pair : Nat) (arg : BitVec 56) (s : State) : Host.Outcome State Fault Refusal :=
  .next (s.service pair 0x05 arg .i3c (fun s => argZero arg
    (let h := s.nearRd s.highPos dumpOff 256
    ⟨0, some (field h 8 8 % 2 ^ 48 + s.rd R.HI_STATUS_DUMP_VALID * 2 ^ 48 + field h 0x3C 4 % 2 * 2 ^ 49), id⟩)))

/-- DUMP_CLEAR (R495). -/
def execDumpClear (pair : Nat) (arg : BitVec 56) (via : Transport) (s : State) : Host.Outcome State Fault Refusal :=
  .next (s.service pair 0x06 arg via (fun s => s.changes pair via (argZero arg ⟨0, none, fun s => s.wr R.HI_STATUS_DUMP_VALID 0⟩)))

/-! ## Power, leak and resets (R495, R550) -/

/-- The state that a TARGET names. -/
def powerTarget (n : Nat) : Option PState :=
  match n with
  | 0 => some .run
  | 1 => some .hold
  | 2 => some .idle
  | 3 => some .watch
  | _ => none

/-- POWER (R495): TARGET of PW_CMD. -/
def execPower (pair : Nat) (arg : BitVec 56) (via : Transport) (c : CallIn) (s : State) : Host.Outcome State Fault Refusal :=
  .next (s.service pair 0x10 arg via (fun s => s.mgmtOnly pair via (s.firmware (match powerTarget arg.toNat with
    | none => Served.only 2
    | some t => ⟨0, none, fun s => s.pwCmd t c⟩))))

/-- LEAK_CLEAR (R464, R495): STATE while the leak is still sensed. At rest in WATCH the always-on domain hears it, and no mailbox is powered to
answer. -/
def execLeakClear (pair : Nat) (arg : BitVec 56) (via : Transport) (sensed : Bool) (s : State) : Host.Outcome State Fault Refusal :=
  .next (
    if s.inWatch && s.on R.PW_STATE_LEAK then
      (if 16 ≤ pair && via == .i3c && arg == 0 && !sensed then s.wr R.PW_STATE_LEAK 0 else s)
    else
      s.service pair 0x11 arg via (fun s => s.mgmtOnly pair via (argZero arg
        (if sensed then Served.only 7 else ⟨0, none, fun s => s.wr R.PW_STATE_LEAK 0⟩))))

/-- SUPV_RESET (R495). -/
def execSupvReset (pair : Nat) (arg : BitVec 56) (via : Transport) (s : State) : Host.Outcome State Fault Refusal :=
  .next (s.service pair 0x12 arg via (fun s => s.mgmtOnly pair via (s.firmware (argZero arg ⟨0, none, fun s => s.supvReset 4⟩))))

/-- A module reset that resumes at step 6 of start-up; the crystal is judged again if the always-on domain has run on the trimmed
oscillator (R549, R550). -/
def State.moduleAgain (s : State) : State :=
  let judge := !s.on R.CK_STATUS_REF_XTAL
  let s := s.moduleReset
  (if judge then s.judgeAgain else s).bootStart

/-- MODULE_RESET (R495, R550): ARG 0 for a module reset, ARG 1 for a supply reset, after which the converters start again under step 4. -/
def execModuleReset (pair : Nat) (arg : BitVec 56) (via : Transport) (s : State) : Host.Outcome State Fault Refusal :=
  .next (s.service pair 0x13 arg via (fun s => s.mgmtOnly pair via (
    if arg = 0 then ⟨0, none, State.moduleAgain⟩
    else if arg = 1 then ⟨0, none, fun s => s.supplyReset 3 (s.rd R.PW_VIN_CV)⟩
    else Served.only 2)))

end Sys2Proof.Machine
end

