-- ==== Sys2Proof/Machine/Spdm.lean ====
section
/-! DEFINITION. The management interface beside the mailboxes (R487 to R493, R514, R515, R539): MCTP control, PLDM, SPDM, and the links of I3C and
Ethernet. The responses that a command sends stand in `resp`, value by value in the order of the rules; their framing is that of the DMTF
standards, and no response leaves it empty (log 77). -/

namespace Sys2Proof.Machine

/-! ## Requests and responses -/

/-- Answer a request, if its transport carries it and somebody answers. DOE carries SPDM only (R489). -/
def State.mctp (s : State) (via : Transport) (run : State → State × List Bytes) : State :=
  if via = .doe || !s.viaUp via || !s.answers then s
  else
    let r := run s.heard
    { r.1 with sup := { r.1.sup with resp := r.2 } }

/-- A response that carries a completion code 0. -/
def okResp : List Bytes := [[0]]
/-- A response of a value that no rule gives. -/
def State.freeResp (s : State) (n : Nat) : State × List Bytes := (s.freeW.2, [leBytes n s.freeW.1.toNat])

/-! ## MCTP control (R490) -/

/-- SET_ENDPOINT_ID (R490): the I3C bus owner assigns the ID; nobody else is answered. -/
def execSetEndpointId (via : Transport) (eid : Byte) (s : State) : Host.Outcome State Fault Refusal :=
  .next (s.mctp via (fun s =>
    if via = .i3c then ({ s with sup := { s.sup with eid := eid } }, okResp ++ [[eid]]) else (s, [])))

/-- GET_ENDPOINT_ID (R490). -/
def execGetEndpointId (via : Transport) (s : State) : Host.Outcome State Fault Refusal :=
  .next (s.mctp via (fun s => (s, okResp ++ [[s.sup.eid]])))

/-- The message types of R490. -/
def messageTypes : Bytes := [0x00, 0x01, 0x05, 0x06, 0x7F]

/-- GET_MCTP_VERSION_SUPPORT (R490): SPDM is 1.2; of another type the manual names no version. -/
def execGetMctpVersionSupport (via : Transport) (typ : Byte) (s : State) : Host.Outcome State Fault Refusal :=
  .next (s.mctp via (fun s =>
    if !messageTypes.contains typ then (s, [])
    else if typ = 0x05 then (s, okResp ++ [[1, 2]])
    else ((s.freeResp 4).1, okResp ++ (s.freeResp 4).2)))

/-- GET_MESSAGE_TYPE_SUPPORT (R490). -/
def execGetMessageTypeSupport (via : Transport) (s : State) : Host.Outcome State Fault Refusal :=
  .next (s.mctp via (fun s => (s, okResp ++ [messageTypes])))

/-- GET_VENDOR_DEFINED_MESSAGE_SUPPORT (R490): one set, by IANA enterprise number, which the manual does not give. -/
def execGetVendorDefinedMessageSupport (via : Transport) (sel : Byte) (s : State) : Host.Outcome State Fault Refusal :=
  .next (s.mctp via (fun s => if sel = 0 then ((s.freeResp 4).1, okResp ++ (s.freeResp 4).2) else (s, [])))

/-! ## PLDM (R487, R491) -/

/-- SET_EVENT_RECEIVER (R487). -/
def execSetEventReceiver (via : Transport) (receiver : Byte) (s : State) : Host.Outcome State Fault Refusal :=
  .next (s.mctp via (fun s => ({ s with sup := { s.sup with receiver := some receiver } }, okResp)))

/-- A temperature register as a sensor's reading; unavailable while VALID is 0. -/
def State.tempSensor (s : State) (q v : Fld) (i : Nat) : Option Nat := if s.getI v i = 1 then some (s.getI q i) else none

/-- The readings of the sensors of R491: numeric ones of input voltage, current and power, each field, each near stack, the I/O ring, the carrier
and the good tiles; state sensors of the power state, each field's fold request, each converter and the leak. Kinds number them in the order of
the rule, which numbers none itself. The carrier's temperature is measured outside, and open. -/
def State.sensorValue (s : State) (kind index : Nat) : State × Option Nat :=
  match kind with
  | 0 => (s, some (s.rd R.PW_VIN_CV))
  | 1 => (s, some (s.rd R.PW_PIN_DA))
  | 2 => (s, some (s.rd R.PW_PIN_W))
  | 3 => (s, if index < 48 then s.tempSensor R.PW_TEMP_Q4 R.PW_TEMP_VALID index else none)
  | 4 => (s, if index < 48 then s.tempSensor R.PW_NTEMP_Q4 R.PW_NTEMP_VALID index else none)
  | 5 => (s, (s.pwr.sensors.find? ringKey).map (fun t => toBits t 11))
  | 6 => (s.freeW.2, some (s.freeW.1.toNat % 2 ^ 11))
  | 7 => (s, some s.goodTiles)
  | 8 => (s, some s.pwr.pstate.num)
  | 9 => (s, if index < 48 then some (b2n (s.foldPending index)) else none)
  | 10 => (s, if index < 16 then some (b2n (bitOf (s.rd R.PW_CONV_OK) index)) else none)
  | 11 => (s, some (s.rd R.PW_STATE_LEAK))
  | _ => (s, none)

/-- PLDM_SENSOR_READ (R491): a sensor that is unavailable answers with code 1 and no value. The boot ROM's responder has no sensors. -/
def execPldmSensorRead (via : Transport) (kind index : Nat) (s : State) : Host.Outcome State Fault Refusal :=
  .next (s.mctp via (fun s =>
    if !s.supvRuns then (s, [])
    else
      let r := s.sensorValue kind index
      (r.1, match r.2 with | some v => okResp ++ [leBytes 4 v] | none => [[1]])))

/-- PLDM_FW_UPDATE (R491, R493): firmware into staging, as FW_STAGE does; DENIED over Ethernet outside a session, BUSY while a staging is open. The
response carries the acknowledge code. -/
def execPldmFwUpdate (via : Transport) (img : FwImage) (s : State) : Host.Outcome State Fault Refusal :=
  .next (s.mctp via (fun s =>
    if !s.mayChange via then (s, [[6]])
    else if !s.supvRuns then (s, [[7]])
    else if s.stagingOpen then (s, [[3]])
    else
      let r := s.stageEnd img
      (r.1, [[BitVec.ofNat 8 r.2]])))

/-! ## SPDM (R492, R514, R515) -/

/-- Answer an SPDM request, which DOE carries as well. The boot ROM's responder has none. -/
def State.spdm (s : State) (via : Transport) (run : State → State × List Bytes) : State :=
  if !s.viaUp via || !s.supvRuns || !s.powered then s
  else
    let r := run (if via = .doe then s else s.heard)
    { r.1 with sup := { r.1.sup with resp := r.2 } }

/-- A request that needs the identity key: one that cannot be read gives an error and, after MANUFACTURE, LEDGER_FAIL with a cause no rule codes
(R514). -/
def State.signed (s : State) (run : State → State × List Bytes) : State × List Bytes :=
  if s.sec.identity then run s else (if s.sec.lifecycle = 0 then s else s.freeW.2.emit 0x080E [.w4 s.freeW.1.toNat], [])

/-- A request that counts only once the algorithms are negotiated. -/
def State.negotiated (s : State) (run : State → State × List Bytes) : State × List Bytes := if s.sup.negotiated then run s else (s, [])

/-- GET_VERSION (R490, R492): SPDM 1.2. -/
def execGetVersion (via : Transport) (s : State) : Host.Outcome State Fault Refusal :=
  .next (s.spdm via (fun s => (s, okResp ++ [[1, 2]])))

/-- GET_CAPABILITIES (R492): the flags' values are those of the standard. -/
def execGetCapabilities (via : Transport) (s : State) : Host.Outcome State Fault Refusal :=
  .next (s.spdm via (fun s => ((s.freeResp 4).1, okResp ++ (s.freeResp 4).2)))

/-- NEGOTIATE_ALGORITHMS (R492): RSASSA-3072 with SHA-256 only. -/
def execNegotiateAlgorithms (via : Transport) (rsa3072 sha256 : Bool) (s : State) : Host.Outcome State Fault Refusal :=
  .next (s.spdm via (fun s =>
    let ok := rsa3072 && sha256
    ({ s with sup := { s.sup with negotiated := ok } }, if ok then okResp else [])))

/-- A SHA-256 value as bytes, most significant first. -/
def digestBytes (d : BitVec 256) : Bytes := (leBytes 32 d.toNat).reverse

/-- GET_DIGESTS (R492): the chain of slot 0. -/
def execGetDigests (via : Transport) (s : State) : Host.Outcome State Fault Refusal :=
  .next (s.spdm via (fun s => s.negotiated (fun s => (s, okResp ++ [digestBytes (Config.sha256 Config.certChain)]))))

/-- GET_CERTIFICATE (R492): part of the chain of slot 0. -/
def execGetCertificate (via : Transport) (slot off len : Nat) (s : State) : Host.Outcome State Fault Refusal :=
  .next (s.spdm via (fun s => s.negotiated (fun s =>
    if slot = 0 then (s, okResp ++ [(Config.certChain.drop off).take len]) else (s, []))))

/-- SPDM_CHALLENGE (R492, R514): signed with the identity key over the chain's digest and the nonce. -/
def execSpdmChallenge (via : Transport) (slot : Nat) (nonce : Bytes) (s : State) : Host.Outcome State Fault Refusal :=
  .next (s.spdm via (fun s => s.negotiated (fun s =>
    if slot ≠ 0 then (s, [])
    else s.signed (fun s =>
      let d := digestBytes (Config.sha256 Config.certChain)
      (s, okResp ++ [d, Config.rsaSign (Config.sha256 (d ++ nonce))])))))

/-- The payload of the newest committed record of a type. -/
def State.newest (s : State) (typ : Nat) : Option Bytes :=
  ((s.sec.recs.filter (fun r => r.committed && r.typ == BitVec.ofNat 16 typ)).getLast?).map (·.payload)

/-- The running firmware image. -/
def State.runImage (s : State) : Option FwImage := s.sup.banks.find? (s.rd R.HI_STATUS_BANK)

/-- A measurement block's content (R515). -/
def State.measure (s : State) (index : Nat) : Option Bytes :=
  match index with
  | 1 => some (digestBytes Config.romDigest)
  | 2 => some (digestBytes (Config.sha256 ((s.runImage.map (·.body)).getD [])))
  | 3 => some (leBytes 4 (s.rd R.SP_FW_RUN_VERSION) ++ leBytes 1 ((s.runImage.map (·.svn)).getD 0) ++ leBytes 1 s.sec.counter ++
      leBytes 1 (s.rd R.HI_STATUS_BANK) ++ leBytes 1 s.sec.runSlot.toNat)
  | 4 => some (leBytes 1 s.sec.revoked.toNat)
  | 5 => some (leBytes 1 s.sec.lifecycle.toNat ++ leBytes 1 (b2n s.dbgOpen) ++ leBytes 1 (if s.sec.lifecycle = 0 then 31 else s.sec.rights.toNat) ++ leBytes 1 s.sec.unlocks)
  | 6 => some (digestBytes (Config.sha256 ((s.newest 0x000B).getD [])))
  | 7 => some (match s.hand.installed with
      | none => zeros 32
      | some i => match s.hand.images.find? (fun m => m.id == i) with | none => zeros 32 | some m => digestBytes m.digest)
  | 8 => some (digestBytes (Config.sha256 s.dmapBytes))
  | _ => none

/-- GET_MEASUREMENTS (R514, R515): one block by its index, or all of them with 0xFF, signed. -/
def execGetMeasurements (via : Transport) (index : Nat) (s : State) : Host.Outcome State Fault Refusal :=
  .next (s.spdm via (fun s => s.negotiated (fun s =>
    let ms := if index = 0xFF then (List.range 9).filterMap s.measure else (s.measure index).toList
    if ms.isEmpty then (s, []) else s.signed (fun s => (s, okResp ++ ms ++ [Config.rsaSign (Config.sha256 ms.flatten)])))))

/-- KEY_EXCHANGE (R492, R514): a session is being set up over this transport. -/
def execKeyExchange (via : Transport) (exchange : Bytes) (s : State) : Host.Outcome State Fault Refusal :=
  .next (s.spdm via (fun s => s.negotiated (fun s => s.signed (fun s =>
    ({ s with sup := { s.sup with handshake := some via } }, okResp ++ [Config.rsaSign (Config.sha256 exchange)])))))

/-- The SPDM session closes: MGMT_LINK (R503, R559). -/
def State.closeSession (s : State) : State :=
  if !s.sup.session then s
  else
    let s := { s with sup := { s.sup with session := false, sessionVia := none } }
    (s.wr R.SP_STATUS_SESSION 0).emit 0x0A2C [.w4 3, .w4 0]

/-- FINISH (R492): the session opens on the transport of its KEY_EXCHANGE, and MGMT_LINK says so; one that was open closes. -/
def execFinish (via : Transport) (ok : Bool) (s : State) : Host.Outcome State Fault Refusal :=
  .next (s.spdm via (fun s =>
    let shaken := s.sup.handshake == some via
    let s := { s with sup := { s.sup with handshake := if shaken then none else s.sup.handshake } }
    if !shaken || !ok then (s, [])
    else
      let s := s.closeSession
      let s := { s with sup := { s.sup with session := true, sessionVia := some via } }
      ((s.wr R.SP_STATUS_SESSION 1).emit 0x0A2C [.w4 3, .w4 1], okResp)))

/-! ## I3C and Ethernet (R489, R539) -/

/-- ENTDAA (R489): the bus owner assigns the dynamic address; MGMT_LINK as I3C comes up. -/
def execEntdaa (addr : BitVec 7) (s : State) : Host.Outcome State Fault Refusal :=
  .next (
    if s.pwr.pstate == .off then s
    else
      let up := s.sup.dynAddr.isSome
      let s : State := { s with sup := { s.sup with dynAddr := some addr } }
      if up then s else s.emit 0x0A2C [.w4 1, .w4 1])

/-- I3C_TIMEOUT (R539): the transaction is abandoned and the module answers nothing further in it. A request is whole in its command, so that
nothing of an abandoned one is state. -/
def execI3cTimeout (s : State) : Host.Outcome State Fault Refusal := .next s

/-- I3C_SCL_LOW (R539): the target's bus logic resets; its address is no part of it. -/
def execI3cSclLow (s : State) : Host.Outcome State Fault Refusal := .next s

/-- ETHERNET_LINK_CHANGE (R502, R539, R559): up with an address, or down; a session over it ends. -/
def execEthernetLinkChange (up : Bool) (s : State) : Host.Outcome State Fault Refusal :=
  .next (
    if !s.powered || (up && s.on R.SP_STATUS_ETH_UP) then s
    else
      let s := s.wr R.SP_STATUS_ETH_UP (b2n up)
      let s := if !up && s.sup.sessionVia == some .ethernet then s.closeSession else s
      s.emit 0x0A2C [.w4 2, .w4 (b2n up)])

end Sys2Proof.Machine
end

