-- ==== Sys2Proof/Machine/Stage.lean ====
section
/-! DEFINITION. Stage 5 of start-up and its end (R544 steps 17 to 20, R546), the commands of a link port that may end it, and what a tick of the
reference brings about. -/

namespace Sys2Proof.Machine

/-! ## The end of start-up (R544, R546, R451) -/

/-- Whether every port whose cage holds a pluggable or cable is up and has passed its soak, or is FAILED (R546). -/
def State.portsSettled (s : State) : Bool :=
  allPorts.all (fun p => !(s.lport p).cage || (s.portUp p && (s.lport p).soaked) || s.getI R.LK_PSTAT_STATE p == 6)

/-- The geometry table is rebuilt, with the working copy of the defect map beside it; STAGE 6 and READY (R198, R544 step 20). A start-up that a
wake began ends in the state that PW_WAKE.TARGET named (R451). -/
def State.finishStart (s : State) : State :=
  let s := (s.nearWr s.lowPos (bandOff + 0x40000) s.dmapBytes).geomBuild
  let s := (s.wr R.HI_STATUS_STAGE 6).wr R.HI_STATUS_READY 1
  if !s.pwr.entering then s
  else
    let target := if s.pwr.wakeTarget then PState.idle else PState.run
    let s := if s.pwr.wakeTarget then s.toIdle else s
    ({ s with pwr := { s.pwr with pstate := target, entering := false } } : State).emit 0x0601 [.w4 3, .w4 target.num]

/-- Reference ticks of the limit of stage 5, 130 s (R544). -/
def stage5Ticks : Nat := 13000000000

/-- Stage 5 ends once its ports have settled, or at its limit (R544, R546). -/
def State.stage5Check (s : State) : State :=
  if s.rd R.HI_STATUS_STAGE = 5 && !s.wakeWaits && (s.portsSettled || decide (s.pwr.stage5At + stage5Ticks ≤ s.ticks)) then s.finishStart
  else s

/-- What the tick of the reference brings about: a THROTTLE that waited (R435), the end of a neighbour test (R191), and the limit of stage 5
(R546). -/
def State.onTick (s : State) : State :=
  s.thrNote.ntCheck.stage5Check

/-! ## Link ports that settle (R351, R353, R381, R546, R547) -/

/-- PORT_ENABLE: a write of LK_PCTRL (R351, R352, R381). -/
def execPortEnable (who : Agent) (port : Nat) (v : W32) (t : TrainIn) (s : State) : Host.Outcome State Fault Refusal :=
  .next (s.portCtrl who port v t).stage5Check

/-- RETRAIN (R381). -/
def execRetrain (who : Agent) (port : Nat) (t : TrainIn) (s : State) : Host.Outcome State Fault Refusal :=
  .next (s.retrainCmd who port t).stage5Check

/-- PERIODIC_RETRAIN (R547). -/
def execPeriodicRetrain (ts : List (Nat × TrainIn)) (s : State) : Host.Outcome State Fault Refusal := .next (s.retrainAll ts)

/-- HELLO (R353). -/
def execHello (h : LHdr) (m : HelloIn) (s : State) : Host.Outcome State Fault Refusal := .next (s.helloIn h m).stage5Check

/-- START_UP_SOAK (R546). -/
def execStartUpSoak (port : Nat) (pass : Bool) (t : TrainIn) (s : State) : Host.Outcome State Fault Refusal :=
  .next (s.soakEnd port pass t).stage5Check

/-- PLUGGABLE_REPLACED (R351, R536): the port returns to MODULE, and while it is enabled it trains again from step 1. A port that was up goes
down first. -/
def execPluggableReplaced (port : Nat) (t : TrainIn) (s : State) : Host.Outcome State Fault Refusal :=
  .next (
    let s := s.onLport port (fun x => { x with cage := true })
    if !s.portEn port || !s.portOn port then s
    else
      let s := if s.portUp port || s.getI R.LK_PSTAT_STATE port == 5 then s.dropPort port 1 else s.setPort port 1
      (s.train port t).stage5Check)

end Sys2Proof.Machine
end

