-- ==== Sys2Proof/Machine/Debug.lean ====
section
/-! DEFINITION. The debug port (R516 to R521) but for its DAP, and the journal's own commands (R523, R526). -/

namespace Sys2Proof.Machine

/-! ## The TAP (R516) -/

/-- Whether the TAP answers: its domain is powered and not held in reset. -/
def State.tapUp (s : State) : Bool := s.powered && !s.pwr.modReset

/-- Select an instruction and capture its data register. -/
def State.capture (s : State) (ir : Byte) (dr : Nat) : State := { s with sec := { s.sec with ir := ir, dr := BitVec.ofNat 384 dr } }

/-- The word of DB_STATUS (R531); in MANUFACTURE the port behaves as unlocked with every right (R518). -/
def State.dbStatus (s : State) : Nat :=
  b2n s.dbgOpen + (if s.sec.lifecycle = 0 then 31 else s.sec.rights.toNat) * 2 + b2n s.sup.halted * 64 + s.rd R.FB_STATUS_FROZEN * 128 +
    s.rd R.DB_STATUS_BREAK * 256 + b2n s.sec.verifying.isSome * 512 + min s.sec.fails 255 * 65536

/-- IDCODE (R516). -/
def execIdcode (s : State) : Host.Outcome State Fault Refusal :=
  .next (if s.tapUp then s.capture 0x01 (Config.stepping.toNat % 16 * 2 ^ 28 + 0x0A48 * 2 ^ 12 + 1) else s)

/-- A nonce: 256 bits that no rule fixes. -/
def State.drawNonce (s : State) : BitVec 256 × State :=
  let a := s.freeL
  let b := a.2.freeL
  let c := b.2.freeL
  let d := c.2.freeL
  (d.1 ++ c.1 ++ b.1 ++ a.1, d.2)

/-- Reference ticks in 1 s. -/
def secondTicks : Nat := 100000000

/-- CHALLENGE (R516, R518): a new nonce voids the one before it; with it the serial and the count of failures. None is served within 1 s of a
DEBUG_DENY. -/
def execChallenge (s : State) : Host.Outcome State Fault Refusal :=
  .next (
    if !s.tapUp || s.sec.deniedAt.any (fun t => decide (s.ticks < t + secondTicks)) then s
    else
      let n := s.drawNonce
      let s := n.2
      ({ s with sec := { s.sec with nonce := some n.1 } } : State).capture 0x10
        (n.1.toNat + Config.serial.toNat * 2 ^ 256 + s.sec.fails % 2 ^ 64 * 2 ^ 320))

/-- UNLOCK (R516, R518): the token is shifted in, and its verification starts. -/
def execUnlock (t : TokenIn) (s : State) : Host.Outcome State Fault Refusal :=
  .next (
    if !s.tapUp || s.sec.verifying.isSome then s
    else { s with sec := { s.sec with ir := 0x11, verifying := some t } })

/-- The checks of a token (R508 steps 1 to 3, R517, R518). -/
def State.tokenOk (s : State) (t : TokenIn) : Bool :=
  t.fmtOk && t.rights.toNat < 32 && !s.sec.revoked.getLsbD t.slot.toNat && s.sec.slotHash.get t.slot.toNat 0 == t.keyHash && t.sigOk &&
    t.serial == Config.serial && s.sec.nonce == some t.nonce

/-- TOKEN_VERIFIED (R518): the port unlocks with the token's rights, a DEBUG record and DEBUG_UNLOCK; or DEBUG_DENY, with a cause no rule codes, and
the nonce is void. -/
def execTokenVerified (s : State) : Host.Outcome State Fault Refusal :=
  .next (match s.sec.verifying with
    | none => s
    | some t =>
      let s : State := { s with sec := { s.sec with verifying := none } }
      if s.tokenOk t then
        let r := t.rights.setWidth 5
        let s := { s with sec := { s.sec with
          unlocked := true, rights := r, lifetime := t.lifetime.toNat, dbgSlot := t.slot, unlocks := s.sec.unlocks + 1 } }
        (s.ledger 0x000E (debugPayload t.slot r t.lifetime.toNat true)).emit 0x0807 [.w4 t.slot.toNat, .w4 r.toNat, .w4 t.lifetime.toNat]
      else
        let s := { s with sec := { s.sec with fails := s.sec.fails + 1, nonce := none, deniedAt := some s.ticks } }
        s.freeW.2.emit 0x0808 [.w4 s.freeW.1.toNat])

/-- STATUS (R516): a capture of DB_STATUS. -/
def execTapStatus (s : State) : Host.Outcome State Fault Refusal := .next (if s.tapUp then s.capture 0x12 s.dbStatus else s)

/-- BYPASS (R516): one bit. -/
def execBypass (bit : BitVec 1) (s : State) : Host.Outcome State Fault Refusal := .next (if s.tapUp then s.capture 0xFF bit.toNat else s)

/-- TAP_RESET by TMS or TRST_N (R516): the instruction register returns to IDCODE; the port does not lock. -/
def execTapReset (_trstN : Bool) (s : State) : Host.Outcome State Fault Refusal := .next { s with sec := { s.sec with ir := 0x01 } }

/-! ## Locking (R521) -/

/-- DB_LOCK (R521, R531): a write of DB_CTRL.LOCK by any unlocked TAP. -/
def execDbLock (who : Agent) (s : State) : Host.Outcome State Fault Refusal :=
  .next (if s.mayWrite who R.DB_CTRL_LOCK.off then s.lockDebug.postOutcome.keyResume.supvStop else s)

/-- LIFETIME_EXPIRE (R521): LIFETIME_S of the token has passed; 0 lasts until module reset. -/
def execLifetimeExpire (s : State) : Host.Outcome State Fault Refusal :=
  .next (if s.sec.unlocked && s.sec.lifetime != 0 then s.lockDebug.postOutcome.keyResume.supvStop else s)

/-! ## The supervisor under debug (R520) -/

/-- Whether the debug port may act on the supervisor. -/
def State.mayDebug (s : State) (who : Agent) : Bool := s.mayWrite who R.DB_SUPV_HALT.off && s.supvUp

/-- The supervisor halts; `brk`: at a breakpoint. -/
def State.halt (s : State) (brk : Bool) : State :=
  ({ s with sup := { s.sup with halted := true } } : State).wr R.DB_STATUS_BREAK (b2n brk)

/-- SUPV_HALT (R520). -/
def execSupvHalt (who : Agent) (s : State) : Host.Outcome State Fault Refusal :=
  .next (if s.mayDebug who && !s.sup.halted then s.halt false else s)

/-- SUPV_RESUME (R520): events that waited go out, an outcome is posted, and a FAULT flag that the wafer is stalled for is answered with STOP (R208). -/
def execSupvResume (who : Agent) (s : State) : Host.Outcome State Fault Refusal :=
  .next (
    if s.mayDebug who && s.sup.halted then
      ((({ s with sup := { s.sup with halted := false } } : State).flushEvents.postOutcome).keyResume).supvStop
    else s)

/-- SUPV_STEP (R520): one instruction, and the supervisor stops again. What its firmware's instruction does is not state of the model. -/
def execSupvStep (who : Agent) (s : State) : Host.Outcome State Fault Refusal := .next (if s.mayDebug who then s.halt false else s)

/-- Whether an enabled supervisor breakpoint matches an instruction address (R531). -/
def State.sbpHit (s : State) (addr : Nat) : Bool :=
  (List.range 8).any (fun i => s.getI R.DB_SBP_LO_EN i == 1 &&
    s.getI R.DB_SBP_LO_ADDR i + s.getI R.DB_SBP_HI_ADDR i * 2 ^ 30 == addr / 4)

/-- SUPV_BREAKPOINT (R520): the supervisor halts before the matching instruction; BREAK_HIT names its address. -/
def execSupvBreakpoint (addr : BitVec 48) (s : State) : Host.Outcome State Fault Refusal :=
  .next (
    if s.supvUp && !s.sup.halted && s.sbpHit addr.toNat then (s.halt true).emit 0x080A [.w8 addr.toNat] else s)

/-! ## Tile breakpoints (R520, R528) -/

/-- Whether an enabled breakpoint of a tile matches a PC in a context (R531). -/
def Tile.bpHit (x : Tile) (side : Bool) (pc : BitVec 14) : Bool :=
  (List.range 4).any (fun i =>
    let w := (x.tbp.get i 0).toNat
    bitOf w 15 && bitOf w 14 == side && bitsOf w 0 14 == pc.toNat)

/-- TILE_BREAKPOINT (R520, R528): the root sends FREEZE with target 0; BREAK_HIT names the tile, the PC and F_eff. Of two in one beat the second
finds the wafer frozen and adds its event alone. -/
def execTileBreakpoint (tile : Nat) (side : Bool) (pc : BitVec 14) (s : State) : Host.Outcome State Fault Refusal :=
  let x := s.tile tile
  let c := if side then x.side else x.prim
  .next (
    if !(c.running && x.bpHit side pc) || s.on R.FB_STATUS_STALLED then s
    else
      let s := if s.on R.FB_STATUS_FROZEN then s else s.freezeAt 0
      (s.wr R.DB_STATUS_BREAK 1).emit 0x080A [.w4 tile, .w4 pc.toNat, .w8 (s.rd64 R.FB_FREEZE_BEAT_LO_FE_LO R.FB_FREEZE_BEAT_HI_FE_HI)])

/-! ## The journal (R522, R523, R526) -/

/-- LEDGER_WRITE (R523): the supervisor writes a record. One that does not read back is abandoned, and the half is compacted before the next
write. -/
def execLedgerWrite (r : LedgerIn) (s : State) : Host.Outcome State Fault Refusal :=
  .next (
    if !s.supvRuns || r.payload.isEmpty || decide (1048576 < r.payload.length) then s
    else if r.readsBack then s.ledger r.typ.toNat r.payload
    else
      let s := s.compactFirst
      let q := s.sec.seq + 1
      { s with sec := { s.sec with seq := q, recs := s.sec.recs ++ [⟨r.typ, q, r.payload, false⟩], must := true } })

/-- COMPACT (R526): LG_CTRL.COMPACT, or the supervisor of itself: a compaction, one under way among them, runs to its end (log 79). -/
def execCompact (who : Agent) (s : State) : Host.Outcome State Fault Refusal :=
  .next (if s.mayWrite who R.LG_CTRL_COMPACT.off && s.supvRuns then s.compactBegin.compactEnd else s)

end Sys2Proof.Machine
end

