-- ==== Sys2Proof/Machine/TileEvents.lean ====
section
/-! DEFINITION. The patrol scrubber of a tile (R118, R120), external accesses to a tile (R119, R122, R123), and writes of the
injection register (R128). -/

namespace Sys2Proof.Machine

/-! ## The patrol scrubber -/

/-- PATROL_SCRUB: a pass over a tile's SRAM in free beats; corrected words are written back and noted (R118, R120, R126). A tile of
a field that does not run is not scrubbed. -/
def execPatrolScrub (tile : Nat) (corrected : List Nat) (s : State) : Host.Outcome State Fault Refusal :=
  .next (if s.fieldOn (tileField tile) && !corrected.isEmpty then s.onTile tile (fun x => { x with stat := x.stat ||| 0x1000 }) else s)

/-! ## External accesses -/

/-- The device address of an offset in a tile's window (R17). -/
def tileAddr (t off : Nat) : Nat := 0x200000000000 + t * 0x4000000 + off

/-- The requester kind of an agent (R554). -/
def agentKind : Agent → Nat
  | .host => 3
  | .supervisor => 4
  | .mgmt => 4
  | .tap => 5

/-- Whether an agent may make the access: the debug port with its right MEMORY, the supervisor while it runs (R477, R518). -/
def State.mayReach (s : State) : Agent → Bool
  | .host => true
  | .supervisor => s.supvRuns
  | .mgmt => s.supvRuns
  | .tap => s.right 2

/-- Store what an access answered. -/
def State.answer (s : State) (v : Option W64) : State := { s with host := { s.host with rdata := v } }

/-- Refuse an access by an agent: to the host a Completer Abort, or a dropped posted write; inside the module a bus error with its event
(R122, R387, R439). -/
def State.refuse (s : State) (who : Agent) (t off : Nat) (isWrite gated : Bool) : State :=
  let s := s.answer none
  if who = .host then
    if isWrite then s.writeDropped (0xF00000 + off % 2 ^ 20) (if gated then 3 else 6)
    else s.hostAbort (0xF00000 + off % 2 ^ 20) (if gated then 3 else 2)
  else if gated then s.gatedFault (tileAddr t off) (agentKind who) 0
  else s.addrFault (tileAddr t off) (agentKind who) 0

/-- Whether an access of `n` bytes reaches only the SRAM, or only the registers, of a tile that may be reached (R122). -/
def State.tileHits (s : State) (t off n : Nat) : Bool :=
  s.tileReach t && (decide (off + n ≤ 0x2800000) || (decide (0x3000000 ≤ off) && decide (off + n ≤ 0x3000100)))

/-- A read of a tile served in free beats; an uncorrectable word is returned as such and the hand goes on (R9, R120). -/
def State.tileGet (s : State) (t off n : Nat) (ecc : Ecc) : State :=
  if 0x2800000 ≤ off then s.answer (some (BitVec.ofNat 64 (leNat (s.busBytes (tileAddr t off) (min n 8)))))
  else
    let x := s.tile t
    let old := x.sramBad.find? (fun w => decide (8 * w < off + n) && decide (off < 8 * w + 8))
    match old, ecc with
    | some w, _ => (s.sramUe t (8 * w)).answer none
    | none, .double => (s.sramUe t (off / 8 * 8)).answer none
    | none, e =>
      let s := if e = .corrected then s.onTile t (fun x => { x with stat := x.stat ||| 0x1000 }) else s
      s.answer (some (BitVec.ofNat 64 (leNat (x.sram.bytes off (min n 8)))))

/-- EXTERNAL_ACCESS: a read or a write of a tile's window by the host, the supervisor or the debug port (R122, R123). A tile in a folded
or lost field, or one whose clocks are off, is a gated block, which takes precedence. -/
def execExternalAccess (who : Agent) (tile : Nat) (off : Nat) (write : Option Bytes) (len : Nat) (ecc : Ecc) (s : State) :
    Host.Outcome State Fault Refusal :=
  let n := match write with | none => len | some b => b.length
  .next (
    if !s.mayReach who then s
    else if !s.fieldOn (tileField tile) then s.refuse who tile off write.isSome true
    else if !s.tileHits tile off n then s.refuse who tile off write.isSome false
    else match write with
      | none => s.tileGet tile off n ecc
      | some b => s.busWr (tileAddr tile off) b)

/-- FB_TILE_INJ: a write of the injection register, ignored without the right INJECT (R128, R518). -/
def execFbTileInj (who : Agent) (tile : Nat) (v : W32) (s : State) : Host.Outcome State Fault Refusal :=
  .next (
    if !s.mayReach who then s
    else if !s.fieldOn (tileField tile) then s.refuse who tile 0x3000014 true true
    else if !s.tileReach tile then s.refuse who tile 0x3000014 true false
    else s.tregWr tile 0x14 v)

end Sys2Proof.Machine
end

