-- ==== Sys2Proof/Machine/Regs.lean ====
section
/-! DEFINITION. Reading and writing the registers (R20, R21, R385, R386, R388, R420 to R423, R439): what a read shows, the ranges that a write
keeps to, and what a write brings about. An offset below 0x100_0000 lies in BAR0; one above it is 0x100_0000 plus an offset in BAR2. -/

namespace Sys2Proof.Machine

/-! ## Reading -/

/-- The pin of the selected tensor (R267, R281). -/
def State.pinOf (s : State) : Scale := s.num.scale.get (s.rd R.NM_PIN_SEL_TENSOR) Scale.reset

/-- Every open round of the pots. -/
def State.openRounds (s : State) : List Round := s.pos.flatMap (fun e => e.2.pot.rounds)

/-- What a read shows of a field that other state decides; none for one that its register holds. -/
def State.computed (s : State) (f : Fld) (i : Nat) : Option Nat :=
  if f.ty = .wo then some 0
  else if f = R.FB_STALL_BEATS_BEATS then some (min (s.getI f i + s.stallBeats) 0xFFFFFFFF)
  else if f = R.HI_ID_STEPPING then some Config.stepping.toNat
  else if f = R.HI_STATUS_HAND_RUN then some (b2n s.hand.running.isSome)
  else if f = R.HI_STATUS_DEAL_WAIT then some (b2n s.hand.waiting.isSome)
  else if f = R.HI_STATUS_SIDE_RUN then some (b2n s.hand.sideRun.isSome)
  else if f = R.HI_EVT_SEQ_SEQ then some s.seq.toNat
  else if f = R.CK_DSTAT_GATED then some (b2n (!s.domainOn i))
  else if f = R.PW_STATE_STATE then some (if s.pwr.pstate.num < 3 then s.pwr.pstate.num else 0)
  else if f = R.PW_STATE_CALLING then some (b2n s.pwr.entering)
  else if f = R.PW_STATE_SAG then some (b2n s.pwr.sag)
  else if f = R.PW_STATE_PROTECT then some (b2n (s.rd R.CK_THROTTLE_SUPPLY != 0))
  else if f = R.PW_STATE_CARRIER_WAIT then some (b2n (s.pwr.carrier != 0))
  else if f = R.SP_STATUS_I3C_UP then some (b2n s.sup.dynAddr.isSome)
  else if f = R.SP_EVTQ_DEPTH then some s.sup.queue.length
  else if f = R.SC_STATUS_LIFECYCLE then some s.sec.lifecycle.toNat
  else if f = R.SC_STATUS_REVOKED then some s.sec.revoked.toNat
  else if f = R.SC_STATUS_RUN_SLOT then some s.sec.runSlot.toNat
  else if f = R.SC_STATUS_COUNTER then some s.sec.counter
  else if f = R.SC_POLICY_KEYS then some ((List.range 4).foldl (fun v j => v + b2n (s.sec.keys.find? j).isSome * 2 ^ j) 0)
  else if f = R.SC_POLICY_REQUIRE then some (b2n s.sec.require)
  else if f = R.SC_POLICY_LOCKED then some (b2n s.sec.locked)
  else if f = R.LG_STATUS_HALF then some (b2n s.sec.half)
  else if f = R.LG_STATUS_COMPACTING ∨ f = R.LG_CTRL_COMPACT then some (b2n s.sec.compacting)
  else if f = R.LG_STATUS_TORN then some (b2n s.sec.torn)
  else if f = R.LG_STATUS_FULL then some (b2n (!s.sec.waits.isEmpty))
  else if f = R.LG_STATUS_USED then some (s.sec.used * 100 / halfSize)
  else if f = R.LG_GEN_GEN then some s.sec.gen
  else if f = R.LG_SEQ_LO_SEQ then some (s.sec.seq.toNat % 2 ^ 32)
  else if f = R.LG_SEQ_HI_SEQ then some (s.sec.seq.toNat / 2 ^ 32)
  else if f.off = R.DB_STATUS_UNLOCKED.off then some (bitsOf s.dbStatus f.lsb f.width)
  else if f.off = R.DB_TBP_PC.off then some (bitsOf ((s.tile (s.rd R.DB_TSEL_TILE)).tbp.get i 0).toNat f.lsb f.width)
  else if f = R.NM_STATUS_COLLECT_BUSY then some (b2n s.collectDue)
  else if f = R.NM_PIN_CODE then some s.pinOf.pinCode
  else if f = R.NM_PIN_EN then some (b2n s.pinOf.pinned)
  else if f = R.PT_STATUS_ORDERED then some (b2n s.ordered)
  else if f = R.PT_STATUS_REBUILD then some (b2n (s.openRounds.any (·.rebuild)))
  else if f = R.PT_STATUS_OPEN then some (min s.openRounds.length 0xFFFF)
  else if f = R.PT_PSTAT_TRACK then some (s.posn i).pot.ahead.length
  else if f = R.PT_PSTAT_OPEN then some (min (s.posn i).pot.rounds.length 0xFFFF)
  else if f = R.PT_PCRIB_MIB then some ((s.cribUsed i + 2 ^ 20 - 1) / 2 ^ 20)
  else if f = R.DL_PSTAT_INSVC then some (b2n (s.inSvc i))
  else if f = R.DL_STATUS_MODE_PEND then some (b2n (s.rd R.DL_CTRL_MODE != s.rd R.DL_STATUS_MODE_ACT))
  else none

/-- The word that a read of a register returns (R20); a reserved offset reads 0. -/
def State.regView (s : State) (off : Nat) : W32 :=
  BitVec.ofNat 32 ((regFields off).foldl (fun v f =>
    let i := f.index off
    v + ((s.computed f i).getD (s.getI f i)) % 2 ^ f.width * 2 ^ f.lsb) 0)

/-! ## Ranges (R214, R251, R281, R317, R347, R381, R443, R467, R502) -/

/-- Whether a value lies in a range. -/
def within (lo hi v : Nat) : Bool := decide (lo ≤ v) && decide (v ≤ hi)

/-- An FP32 value that is neither negative nor non-finite. -/
def fpLimit (v : Nat) : Bool := bitsOf v 23 8 != 255 && (!bitOf v 31 || v == 0x80000000)

/-- Whether the entry and the ring of a ring register are disabled, so that its BASE, SIZE and writeback address take writes (R390). -/
def State.ringFree (s : State) (f : Fld) (i : Nat) : Bool :=
  let o := f.addr i % 0x20
  if decide (0x100 ≤ f.off) && decide (f.off < 0x2000) && (decide (o < 0x0C) || decide (0x10 ≤ o)) then
    !bitOf (s.reg (f.addr i - o + 0x0C)).toNat 0
  else true

/-- Whether a written value of an RW field is one that the field takes; any other is ignored. -/
def State.accepts (s : State) (f : Fld) (i v : Nat) : Bool :=
  if f = R.FB_TRICK_TO_MS ∨ f = R.PT_SEAL_Q_US ∨ f = R.PT_ROUND_TO_MS ∨ f = R.LK_TRICK_TO_MS ∨ f = R.LK_PARK_TO_MS then within 1 1000 v
  else if f = R.DL_GATHER_TO_MS then within 1 100 v
  else if f = R.NM_CHOOSER_HEAD then within 0 4 v
  else if f = R.NM_CHOOSER_HOLD then within 1 16 v
  else if f = R.NM_SIL_SHARE_PPM then within 0 1000000 v
  else if f = R.NM_CLIP_CLIP ∨ f = R.NM_CEIL_CEIL then fpLimit v
  else if f = R.NM_SWEEP_TO_S then within 1 3600 v
  else if f = R.LK_SEATS_S then within 1 1024 v
  else if f = R.LK_ARB_GATHER ∨ f = R.LK_ARB_REDUCE ∨ f = R.CK_FMEAS_GATE_US ∨ f = R.PW_THERM_COOL_S ∨ f = R.SP_HAND_TO_S then v != 0
  else if f = R.LK_TREE_PARENT then !within 0x10 0x1E v
  else if f = R.LK_ROUTE_PORTS then i != s.rank
  else if f = R.CK_FTOL_PPM then within 1 50000 v
  else if f = R.PW_WATCH_PERIOD_S then within 1 60 v
  else if f = R.PW_WATCH_LIM_VLO then within 20 56 v
  else if f = R.PW_WATCH_LIM_VHI then within 56 62 v
  else if f = R.PW_WATCH_LIM_TMAX then within 20 100 v
  else if f = R.PW_PLIMIT_W then within 2000 14000 v
  else if f = R.PW_THERM_THR_C then within 60 95 v
  else if f = R.PW_THERM_FOLD_C then within 70 105 v && decide (s.rd R.PW_THERM_THR_C < v)
  else if f = R.PW_FUSE_FUSE_A then within 200 400 v
  else if f = R.SP_WDOG_MS then within 10 60000 v
  else if f = R.SP_CTRL_WDOG_EN then v == 1 || s.right 0
  else s.ringFree f i

/-! ## Writing -/

/-- Write one field of a register by its type (R20). -/
def State.fieldWrite (s : State) (f : Fld) (i : Nat) (w : W32) : State :=
  let v := bitsOf w.toNat f.lsb f.width
  match f.ty with
  | .rw => if s.accepts f i v then s.setI f i v else s
  | .w1c => s.setI f i (s.getI f i - (s.getI f i &&& v))
  | .w1s => s.setI f i (s.getI f i ||| v)
  | .ro => s
  | .wo => s

/-- Store a write in a register by the types of its fields. -/
def State.plainWrite (s : State) (off : Nat) (w : W32) : State :=
  s.each (regFields off) (fun s f => s.fieldWrite f (f.index off) w)

/-- The state that a command answers. -/
def stateOf (o : Host.Outcome State Fault Refusal) (s : State) : State :=
  match o with
  | .next t => t
  | _ => s

/-- The ring whose CTRL register lies at an offset (R420). -/
def ctrlRing (off : Nat) : Option Nat :=
  if off = 0x10C then some 128
  else if off = 0x12C then some 130
  else if off = 0x14C then some 129
  else if 0x1000 ≤ off ∧ off < 0x2000 then
    (if off % 0x40 = 0x0C then some ((off - 0x1000) / 0x40) else if off % 0x40 = 0x2C then some (64 + (off - 0x1000) / 0x40) else none)
  else none

/-- The port whose LK_PCTRL lies at an offset (R380). -/
def pctrlPort (off : Nat) : Option Nat :=
  if 0x800100 ≤ off ∧ off < 0x800500 ∧ off % 0x40 = 0 then some ((off - 0x800100) / 0x40) else none

/-- Lanes that all train at once, for a training that a plain register write starts. -/
def cleanTrain : TrainIn := ⟨[], 0, false, 0, 0⟩

/-- A write of NM_PIN: the pin of the selected tensor (R267, R281). -/
def State.pinWrite (s : State) (w : W32) : State :=
  let t := s.rd R.NM_PIN_SEL_TENSOR
  let x := s.pinOf
  let c := bitsOf w.toNat 0 8
  let hist := (s.tensor t).any (fun e => bitOf e.flags.toNat 0)
  let y := { x with
    pinCode := if c = 0xFF then x.pinCode else c
    pinned := if hist then bitOf w.toNat 8 else x.pinned }
  { s with num := { s.num with scale := s.num.scale.put t y Scale.reset } }

/-- A write of FB_TRUMP_CMD (R214); what a freeze gathers comes whole. -/
def State.trumpWrite (s : State) (who : Agent) (w : W32) : State :=
  match bitsOf w.toNat 0 4 with
  | 1 => stateOf (execCmdFreeze who w ⟨0, 0, 1⟩ s) s
  | 2 => stateOf (execCmdStep who w s) s
  | 3 => stateOf (execCmdThaw who w s) s
  | 4 => stateOf (execCmdStall who w s) s
  | 5 => stateOf (execCmdUnstall who w s) s
  | 6 => stateOf (execCmdStop who w s) s
  | _ => s

/-- A write of DB_SUPV (R520, R531). -/
def State.supvWrite (s : State) (who : Agent) (w : W32) : State :=
  let s := if bitOf w.toNat 0 then stateOf (execSupvHalt who s) s else s
  let s := if bitOf w.toNat 1 then stateOf (execSupvResume who s) s else s
  if bitOf w.toNat 2 then stateOf (execSupvStep who s) s else s

/-- What a write of a register that the agent may write brings about. -/
def State.regEffect (s : State) (who : Agent) (off : Nat) (w : W32) : State :=
  match ctrlRing off, pctrlPort off with
  | some r, _ => if bitOf w.toNat 0 then s.enableRing r w else s.disableRing r w
  | _, some p =>
    let s := s.portCtrl who p w cleanTrain
    (if bitOf w.toNat 5 then s.retrainCmd who p cleanTrain else s).stage5Check
  | none, none =>
    if off = R.FB_CTRL_NT_START.off then
      let s := (s.fieldWrite R.FB_CTRL_WATCH_EN 0 w).fieldWrite R.FB_CTRL_RETRY_EN 0 w
      if bitOf w.toNat 0 then stateOf (execNtStart who ⟨[], [], [], []⟩ s) s else s
    else if off = R.FB_TRUMP_CMD_CMD.off then s.trumpWrite who w
    else if off = R.PW_CMD_TARGET.off then
      (match powerTarget (bitsOf w.toNat 0 3) with | none => s | some t => s.pwCmd t ⟨[], [], [], []⟩)
    else if off = R.CK_SSC_DEPTH.off then stateOf (execCkSscWrite who w s) s
    else if isEnable off then s.writeEnable off w
    else if off = R.PW_VMIN_CV.off then (if bitOf w.toNat 31 then s.wr R.PW_VMIN_CV (s.rd R.PW_VIN_CV) else s)
    else if off = R.NM_PIN_CODE.off then s.pinWrite w
    else if off = R.NM_RESTORE_CMD_GO.off then (if bitOf w.toNat 0 then stateOf (execGo who s) s else s)
    else if off = R.NM_MIRROR_A_GIB.off then
      (({ s with link := { s.link with mirror := { s.link.mirror with active := none } } } : State).wr R.NM_UPD_STATUS_MIRROR_VALID 0).plainWrite off w
    else if off = R.LK_CMD_COMMIT.off then (if bitOf w.toNat 0 then stateOf (execCommit who [] s) s else s)
    else if off = R.SC_KEYCMD_OP.off then
      (if within 1 6 (bitsOf w.toNat 0 3) then s.keyCmd who (bitsOf w.toNat 0 3) w true else s)
    else if off = R.LG_CTRL_COMPACT.off then (if bitOf w.toNat 0 then stateOf (execCompact who s) s else s)
    else if off = R.SP_CTRL_KICK.off then s.fieldWrite R.SP_CTRL_WDOG_EN 0 w
    else if off = R.DB_CTRL_LOCK.off then (if bitOf w.toNat 0 then stateOf (execDbLock who s) s else s)
    else if off = R.DB_SUPV_HALT.off then s.supvWrite who w
    else if R.DB_TBP_PC.off ≤ off ∧ off < R.DB_TBP_PC.off + 16 then
      s.onTile (s.rd R.DB_TSEL_TILE) (fun x => { x with tbp := x.tbp.put ((off - R.DB_TBP_PC.off) / 4) (w &&& 0xFFFF) 0 })
    else s.plainWrite off w

/-- Whether a register lies in the position or port block of a unit whose enable is off (R438, R439). -/
def State.regGated (s : State) (off : Nat) : Bool :=
  if (0x401000 ≤ off ∧ off < 0x401C00) ∨ (0x601000 ≤ off ∧ off < 0x601C00) then
    !bitOf (s.rd64 R.CK_EN_NEAR_LO_EN R.CK_EN_NEAR_HI_EN) (off % 0x100000 / 0x40 - 0x40)
  else if 0x800100 ≤ off ∧ off < 0x800500 then !bitOf (s.rd R.CK_EN_LINK_EN) ((off - 0x800100) / 0x40)
  else false

/-- A write in the MSI-X table (R385, R410): a vector whose mask bit goes sends its pending message. The bits of a vector's control word but the
mask are reserved. -/
def State.msixTableWrite (s : State) (off : Nat) (w : W32) : State :=
  if off % 16 = 12 then (s.msixWr off (w.toNat % 2)).sendPending ((off - 0xE00000) / 16)
  else s.msixWr off w.toNat

/-- A write in a mailbox page by the requester's side (R411, R412, R423). -/
def State.mailWrite (s : State) (pair o : Nat) (w : W32) : State :=
  let p := s.pair pair
  let clear := fun (b : Bool) (i : Nat) => b && !bitOf w.toNat i
  match o with
  | 0x00 => s.setPair pair { p with h2s := { p.h2s with lo := w } }
  | 0x04 => s.setPair pair { p with h2s := p.h2s.send w }
  | 0x08 => s.setPair pair { p with h2s := { p.h2s with
      acked := clear p.h2s.acked 1, timeout := clear p.h2s.timeout 2, aborted := clear p.h2s.aborted 3, overrun := clear p.h2s.overrun 4 } }
  | 0x1C => stateOf (execMbS2hAck pair (w.setWidth 16) s) s
  | 0x20 => s.setPair pair { p with ctrl := w &&& 0xFF01 }
  | _ => s

/-- A write in BAR2 (R388): a doorbell at the front of its page, or a mailbox page; management pairs lie beyond the host's reach (R415). -/
def State.bar2Write (s : State) (who : Agent) (off : Nat) (w : W32) : State :=
  let page := off / 4096
  let o := off % 4096
  if page < 64 then (if o = 0 then stateOf (execSqDoorbell page w s) s else s)
  else if page < 128 then (if o = 0 then stateOf (execCqDoorbell (page - 64) w s) s else s)
  else if page < 131 then (if o = 0 then stateOf (execExportDoorbell page w s) s else s)
  else if 144 ≤ page ∧ page < 160 then s.mailWrite (page - 144) o w
  else if 160 ≤ page ∧ page < 164 ∧ who = .mgmt then s.mailWrite (page - 144) o w
  else s

/-- A write of a register at an offset by an agent (R20, R386, R387, R439, R501, R531): one that is misaligned or meets a gated block is
refused, one that the agent may not make is ignored. -/
def State.regWrite (s : State) (who : Agent) (off : Nat) (w : W32) : State :=
  let a := 0x300000000000 + off
  if off % 4 ≠ 0 then (if who = .host then s.hostAbort off 1 else s.addrFault a (agentKind who) 0)
  else if off < 0xE00000 then
    if s.regGated off then (if who = .host then s.hostAbort off 3 else s.gatedFault a (agentKind who) 0)
    else if !s.mayWrite who off then s
    else s.regEffect who off w
  else if 0x1000000 ≤ off then s.bar2Write who (off - 0x1000000) w
  else if who ≠ .host then s.addrFault a (agentKind who) 0
  else if off < 0xE01000 then s.msixTableWrite off w
  else if 0xF00000 ≤ off then stateOf (execApertureWrite (off - 0xF00000) 4 (w.setWidth 64) s) s
  else s

/-- REGISTER_WRITE (R20). -/
def execRegisterWrite (who : Agent) (off : Nat) (v : W32) (s : State) : Host.Outcome State Fault Refusal := .next (s.regWrite who off v)

end Sys2Proof.Machine
end

