-- ==== Sys2Proof/Machine/Dap.lean ====
section
/-! DEFINITION. The debug port's DAP (R516, R518, R519): its spaces, and what each access answers. -/

namespace Sys2Proof.Machine

/-! ## Status and data (R519) -/

/-- The DR that a DAP scan captures: the status and the data of the access before it (R519). -/
def State.dapCapture (s : State) : State := s.capture 0x20 (s.sec.dapStatus.toNat + s.sec.dapData.toNat * 2 ^ 56)

/-- What an access answers: 0 OK, 2 ERROR, 3 LOCKED, and the data read. -/
def State.dapAnswer (s : State) (status : Nat) (data : Nat) : State :=
  { s with sec := { s.sec with dapStatus := BitVec.ofNat 2 status, dapData := BitVec.ofNat 64 data } }

/-- Bytes of an access by its SIZE; other sizes are reserved (R519). -/
def dapSize (size : BitVec 4) : Option Nat := if size = 0 then some 4 else if size = 1 then some 8 else none

/-- The right that a space takes (R518). -/
def spaceRight (space : BitVec 4) : Option Nat := if space = 0 then some 2 else if space = 1 then some 0 else if space = 2 then some 1 else none

/-- A DAP access: captured with what the one before it answered; LOCKED while the port is locked; ERROR for a reserved size, another space, or a
space without its right. -/
def State.dap (s : State) (size space : BitVec 4) (run : State → Nat → State) : State :=
  if !s.tapUp then s
  else
    let s := s.dapCapture
    if !s.dbgOpen then s.dapAnswer 3 0
    else match dapSize size, spaceRight space with
      | some n, some r => if s.right r then run s n else s.dapAnswer 2 0
      | _, _ => s.dapAnswer 2 0

/-- DAP_NOP (R519): a scan without an access. -/
def execDapNop (s : State) : Host.Outcome State Fault Refusal :=
  .next (if !s.tapUp then s else
    let s := s.dapCapture
    if s.dbgOpen then s else s.dapAnswer 3 0)

/-! ## Space 0: the device address map (R217, R518, R519) -/

/-- Whether an address lies in the registers' window, MSI-X and the aperture excepted (R385, R386). -/
def isReg (a : Nat) : Bool := decide (0x300000000000 ≤ a) && decide (a < 0x300000E00000)

/-- The refusal of an access that R218 or R439 refuses: its event, and ERROR. -/
def State.dapRefused (s : State) (a n : Nat) : Option State :=
  if a % n ≠ 0 then some (s.dapAnswer 2 0)
  else if isReg a then
    if (List.range (n / 4)).any (fun i => s.regGated (a - 0x300000000000 + 4 * i)) then some ((s.gatedFault a 5 0).dapAnswer 2 0) else none
  else if s.gatedAt a then some ((s.gatedFault a 5 0).dapAnswer 2 0)
  else if (s.loc a).isNone then some ((s.addrFault a 5 0).dapAnswer 2 0)
  else none

/-- A read in space 0: registers as their words, memory and tiles as an access through the bus; a line that reads as uncorrectable is an ERROR. -/
def State.dapMemRead (s : State) (a n : Nat) (ecc : LineEcc) : State :=
  match s.dapRefused a n with
  | some t => t
  | none =>
    if isReg a then
      s.dapAnswer 0 ((List.range (n / 4)).foldl (fun v i => v + (s.regView (a - 0x300000000000 + 4 * i)).toNat * 2 ^ (32 * i)) 0)
    else
      let s := s.viewEcc a n ecc (requester 5 0)
      if s.poisoned a then s.dapAnswer 2 0 else s.dapAnswer 0 (leNat (s.busBytes a n))

/-- A write in space 0. -/
def State.dapMemWrite (s : State) (a n : Nat) (data : W64) : State :=
  match s.dapRefused a n with
  | some t => t
  | none =>
    if isReg a then
      (s.each (List.range (n / 4)) (fun s i =>
        s.regWrite .tap (a - 0x300000000000 + 4 * i) (BitVec.ofNat 32 (data.toNat / 2 ^ (32 * i))))).dapAnswer 0 0
    else (s.busWr a (leBytes n data.toNat)).dapAnswer 0 0

/-! ## Space 1: the supervisor (R519) -/

/-- Whether an address lies in the supervisor's SRAM or among its core registers. -/
def isSupv (a : Nat) : Bool := decide (a < 32 * 2 ^ 20) || decide (2 ^ 32 ≤ a)

/-- A read in space 1: what the debug port wrote there; what the firmware keeps there no rule says, and a byte of it is open. -/
def State.dapSupvRead (s : State) (a n : Nat) : State :=
  if !isSupv a || a % n != 0 then s.dapAnswer 2 0
  else
    let known := (List.range n).map (fun i => s.sec.supvMem.find? (a + i))
    if known.all (·.isSome) then s.dapAnswer 0 (leNat (known.map (·.getD 0)))
    else s.freeL.2.dapAnswer 0 (s.freeL.1.toNat % 2 ^ (8 * n))

/-- A write in space 1. -/
def State.dapSupvWrite (s : State) (a n : Nat) (data : W64) : State :=
  if !isSupv a || a % n != 0 then s.dapAnswer 2 0
  else
    let m := (List.range n).foldl (fun (m : Map Byte) i => m.ins (a + i) (BitVec.ofNat 8 (data.toNat / 2 ^ (8 * i)))) s.sec.supvMem
    ({ s with sec := { s.sec with supvMem := m } } : State).dapAnswer 0 0

/-! ## Space 2: tile contexts (R519) -/

/-- A register of a context: 0 to 31 G, 32 PC, 33 TC, 34 BC, 35 SIG. -/
def Ctx.dapReg (c : Ctx) (r : Nat) : Option Nat :=
  if r < 32 then some (c.g.get r 0).toNat
  else match r with
    | 32 => some c.pc.toNat
    | 33 => some c.tc.toNat
    | 34 => some c.bc.toNat
    | 35 => some c.sig.toNat
    | _ => none

/-- A context with a register written; register 0 of G reads 0 and takes no write (R109). -/
def Ctx.setDapReg (c : Ctx) (r v : Nat) : Ctx :=
  if r < 32 then (if r = 0 then c else { c with g := c.g.put r (BitVec.ofNat 32 v) 0 })
  else match r with
    | 32 => { c with pc := BitVec.ofNat 14 v }
    | 33 => { c with tc := BitVec.ofNat 64 v }
    | 34 => { c with bc := BitVec.ofNat 64 v }
    | 35 => { c with sig := BitVec.ofNat 32 v }
    | _ => c

/-- The context that an address names, if its tile is one that can be reached. -/
def State.dapCtx (s : State) (a : Nat) : Option (Nat × Bool × Nat) :=
  let t := bitsOf a 0 11
  if t < 1152 && s.tileReach t && s.fieldOn (tileField t) && decide (a < 2 ^ 20) && decide (bitsOf a 12 8 < 36) then
    some (t, bitOf a 11, bitsOf a 12 8)
  else none

/-- A read in space 2. The beat that a context is in while it runs is a matter of time, which the model does not keep (R146; log 213). -/
def State.dapTileRead (s : State) (a n : Nat) : State :=
  match s.dapCtx a with
  | none => s.dapAnswer 2 0
  | some (t, side, r) =>
    let x := s.tile t
    let c := if side then x.side else x.prim
    match c.dapReg r with
    | none => s.dapAnswer 2 0
    | some v =>
      if r = 34 && c.running && s.moving then s.freeL.2.dapAnswer 0 (s.freeL.1.toNat % 2 ^ (8 * n))
      else s.dapAnswer 0 (v % 2 ^ (8 * n))

/-- A write in space 2: ERROR, with nothing written, unless the wafer is frozen (R519, R528). -/
def State.dapTileWrite (s : State) (a n : Nat) (data : W64) : State :=
  match s.dapCtx a with
  | none => s.dapAnswer 2 0
  | some (t, side, r) =>
    if !s.on R.FB_STATUS_FROZEN then s.dapAnswer 2 0
    else
      let v := data.toNat % 2 ^ (8 * n)
      (s.onTile t (fun x =>
        if side then { x with side := x.side.setDapReg r v } else { x with prim := x.prim.setDapReg r v })).dapAnswer 0 0

/-- DAP_READ (R519). -/
def execDapRead (size space : BitVec 4) (addr : BitVec 48) (ecc : LineEcc) (s : State) : Host.Outcome State Fault Refusal :=
  .next (s.dap size space (fun s n =>
    if space = 0 then s.dapMemRead addr.toNat n ecc
    else if space = 1 then s.dapSupvRead addr.toNat n
    else s.dapTileRead addr.toNat n))

/-- DAP_WRITE (R519). -/
def execDapWrite (size space : BitVec 4) (addr : BitVec 48) (data : W64) (s : State) : Host.Outcome State Fault Refusal :=
  .next (s.dap size space (fun s n =>
    if space = 0 then s.dapMemWrite addr.toNat n data
    else if space = 1 then s.dapSupvWrite addr.toNat n data
    else s.dapTileWrite addr.toNat n data))

end Sys2Proof.Machine
end

