-- ==== Sys2Proof/Machine/Boot.lean ====
section
/-! DEFINITION. Supervisor boot (R509 to R511): the scan of the ledger (R505, R524), the choice of a bank and its verification, the fuses that a
new image blows, and what the firmware does first (R544 step 10, R451). -/

namespace Sys2Proof.Machine

/-! ## Scanning the ledger (R506, R522, R524) -/

/-- Flash offset of the active journal half (R506). -/
def State.halfBase (s : State) : Nat := if s.sec.half then 0x08800000 else 0x01000000
/-- Records in the order of the flash, each with its offset; SWITCH lies in the first 4 KiB, and the others follow (R522, R524, R526). -/
def recOffsets : Nat → List LRec → List (Nat × LRec)
  | _, [] => []
  | o, r :: l => if r.typ = 1 then recOffsets o l else (o, r) :: recOffsets (o + r.size) l
/-- The records that lie after offset 4 KiB of the active half. -/
def State.records (s : State) : List (Nat × LRec) := recOffsets (s.halfBase + 4096) s.sec.recs
/-- What a scan reads: the records up to the first that is not committed (R524). -/
def State.scanned (s : State) : List (Nat × LRec) := s.records.takeWhile (fun e => e.2.committed)
/-- The newest record of a type that a scan finds, with its offset: the one of the highest SEQ. -/
def State.newestRec (s : State) (typ : Nat) : Option (Nat × LRec) :=
  s.scanned.foldl (fun (a : Option (Nat × LRec)) e =>
    if e.2.typ.toNat ≠ typ then a
    else match a with
      | none => some e
      | some b => if b.2.seq.toNat < e.2.seq.toNat then some e else a) none
/-- Whether the active half holds a committed SWITCH record. -/
def State.hasSwitch (s : State) : Bool := s.sec.recs.any (fun r => r.typ == 1 && r.committed)

/-- A scan (R524): a record that is not committed ends it with LEDGER_TORN, and the half is compacted before the next write. -/
def State.scanLedger (s : State) : State :=
  match s.records.find? (fun e => !e.2.committed) with
  | none => s
  | some e =>
    ({ s with sec := { s.sec with torn := true, must := true } } : State).emit 0x080B [.w4 (b2n s.sec.half), .w8 e.1]

/-- LEDGER_FAIL with a cause that no rule codes (R505, R524). -/
def State.ledgerFail (s : State) : State := s.freeW.2.emit 0x080E [.w4 s.freeW.1.toNat]

/-- The image policy in force is the newest POLICY record's (R509 step 3, R512); without one it stays. -/
def State.loadPolicy (s : State) : State :=
  match s.newestRec 0x000B with
  | none => s
  | some e =>
    let b := e.2.payload
    let keys := (List.range 4).foldl (fun (m : Map Bytes) i =>
      let o := 2 + 389 * i
      if field b o 1 = 0 then m else m.ins i (slice b (o + 1) 388)) []
    { s with sec := { s.sec with require := field b 0 1 != 0, locked := field b 1 1 != 0, keys := keys } }

/-! ## Fuses of a new image (R511) -/

/-- A revoke fuse blows: a REVOKE record is committed, and KEY_REVOKED names the slot. -/
def State.revoke (s : State) (slot : Nat) : State :=
  let s := { s with sec := { s.sec with revoked := s.sec.revoked ||| (1 : BitVec 4) <<< slot } }
  (s.ledger 0x0008 (leBytes 1 slot)).emit 0x0805 [.w4 slot]

/-- What the supervisor blows once the bank pointer of an image is committed (R511). The slot that signed the running image is never revoked; a fuse
that is blown already stays, without a record. -/
def State.fuseAdvance (s : State) (img : FwImage) : State :=
  let old := s.sec.counter
  let s := if img.advance && decide (old < img.svn) then
      ({ s with sec := { s.sec with counter := img.svn } } : State).emit 0x0804 [.w4 old, .w4 img.svn]
    else s
  s.each ((List.range 4).filter (fun i => img.revoke.getLsbD i && !s.sec.revoked.getLsbD i && i != img.slot.toNat)) State.revoke

/-! ## Cold boot (R509) -/

/-- The boot ROM stays in itself: BOOT_FAIL, and only its minimal responder answers (R478, R509). -/
def State.bootFail (s : State) (code : Nat) : State :=
  ({ s with sup := { s.sup with romOnly := true } } : State).emit 0x0803 [.w4 code]

/-- Enables of near controllers, far controllers and link ports, which the firmware sets first (R438, R544 step 10). -/
def State.enableMemories (s : State) : State :=
  let s := (((s.wr R.CK_EN_NEAR_LO_EN 0xFFFFFFFF).wr R.CK_EN_NEAR_HI_EN 0xFFFF).wr R.CK_EN_FAR_EN 0xFFFFFF).wr R.CK_EN_LINK_EN 0xFFFF
  s.each ((List.range 88).map (48 + ·)) State.startDomain

/-- The defect map that the bytes of a record give (R195). -/
def mapOf (b : Bytes) : DefectMap :=
  { generation := BitVec.ofNat 64 (field b 8 8)
    lost := BitVec.ofNat 48 (field b 0x10 8)
    tiles := allTiles.foldl (fun (m : Map Byte) t => m.put t (BitVec.ofNat 8 (field b (0x20 + t) 1)) 0) []
    linkDead := (List.range 2376).filter (fun i => bitOf (field b (0x4A0 + i / 8) 1) (i % 8)) }

/-- The defect map in force is the newest DEFECT_MAP record's (R4, R524). -/
def State.loadMap (s : State) : State :=
  match s.newestRec 0x0003 with
  | none => s
  | some e => { s with fab := { s.fab with dmap := mapOf e.2.payload } }

/-- The firmware's first acts (R451, R544 step 10). After a wake by breach it emits WATCH_BREACH and waits for a command; else it sets the enables
and reads the defect map, whose lost fields stay unpowered (R458). -/
def State.firmwareStart (s : State) : State :=
  match s.pwr.breach with
  | some (volts, temp, leak) =>
    ({ s with pwr := { s.pwr with breachWait := true } } : State).emit 0x0610
      [.w4 (toBits (100 * volts) 32), .w4 (toBits (4 * temp) 32), .w4 (b2n leak)]
  | none =>
    let s := s.loadMap
    let s := s.wr64 R.FB_LOST_LO_FIELDS R.FB_LOST_HI_FIELDS s.fab.dmap.lost.toNat
    s.enableMemories

/-- The firmware of a bank runs (R509 step 6): the boot hint is written, what waited for the supervisor follows, BOOT_OK, STAGE 2. -/
def State.bootOk (s : State) (bank : Nat) (img : FwImage) : State :=
  let hint := (s.newestRec 0x0002).map (fun e => BitVec.ofNat 48 e.1)
  let s := { s with
    sup := { s.sup with down := false, banks := s.sup.banks.ins bank img }
    sec := { s.sec with runSlot := img.slot, hint := hint } }
  let s := ((s.wr R.SP_STATUS_UP 1).wr R.HI_STATUS_BANK bank).wr R.SP_FW_RUN_VERSION img.fwver.toNat
  (s.flushEvents.emit 0x0801 [.w4 bank, .w4 img.fwver.toNat, .w4 img.slot.toNat]).wr R.HI_STATUS_STAGE 2

/-- The image in a bank: what the ledger flash of this model holds, else what stands there from outside. -/
def State.bankImage (s : State) (b : Nat) (b0 b1 : Option FwImage) : Option FwImage :=
  match s.sup.banks.find? b with
  | some i => some i
  | none => if b = 0 then b0 else b1

/-- The first boot in MANUFACTURE makes the identity key and commits it (R514). -/
def State.identityMake (s : State) : State :=
  if s.sec.lifecycle = 0 && !s.sec.identity then
    ({ s with sec := { s.sec with identity := true } } : State).ledger 0x000A Config.identityRecord
  else s

/-- The other bank is tried once; when it fails too, BOOT_FAIL (R509). -/
def State.bootOther (s : State) (bank : Nat) (j : Option FwImage) : State :=
  match j with
  | none => s.bootFail 4
  | some g => if s.fwVerify g = 0 then (s.bootOk bank g).identityMake.firmwareStart else s.bootFail (s.fwVerify g)

/-- Boot from the bank that the BANK record names, or with BOOT_FALLBACK from the other one (R509). An image whose bank pointer is committed has
the rest of its fuses blown (R511). -/
def State.bootBanks (s : State) (named : Nat) (b0 b1 : Option FwImage) : State :=
  let i := s.bankImage named b0 b1
  let j := s.bankImage (1 - named) b0 b1
  match i with
  | none => (s.emit 0x0802 [.w4 named, .w4 4]).bootOther (1 - named) j
  | some f =>
    let c := s.fwVerify f
    if c = 0 then ((s.bootOk named f).fuseAdvance f).identityMake.firmwareStart
    else (s.emit 0x0802 [.w4 named, .w4 c]).bootOther (1 - named) j

/-- Whether the boot ROM may boot: stage 1, the crystal stable (R426), no reset held. -/
def State.mayBoot (s : State) : Bool :=
  s.powered && !s.wakeWaits && !s.pwr.modReset && s.clk.stable && s.sup.down && !s.sup.romOnly && s.rd R.HI_STATUS_STAGE == 1

/-- COLD_BOOT (R505, R509, R524). Without a BANK record the ROM emits BOOT_FAIL; in MANUFACTURE it boots the manufacturing image, which the debug
port brings and `bank0` stands for. -/
def execColdBoot (bank0 bank1 : Option FwImage) (sfdpOk : Bool) (s : State) : Host.Outcome State Fault Refusal :=
  .next (
    if !s.mayBoot then s
    else if !sfdpOk then (let t := s.ledgerFail; t.freeW.2.bootFail t.freeW.1.toNat)
    else
      let s := if s.hasSwitch || s.sec.lifecycle == 0 then s else s.ledgerFail
      let s := if s.hasSwitch then s.scanLedger.loadPolicy else s
      match (if s.hasSwitch then s.newestRec 0x0002 else none), bank0 with
      | some e, _ => s.bootBanks (field e.2.payload 0 1 % 2) bank0 bank1
      | none, some f =>
        if s.sec.lifecycle = 0 then (s.bootOk 0 f).identityMake.firmwareStart else s.freeW.2.bootFail s.freeW.1.toNat
      | none, none => s.freeW.2.bootFail s.freeW.1.toNat)

end Sys2Proof.Machine
end

