-- ==== Sys2Proof/Machine/Walk.lean ====
section
/-! DEFINITION. The validator's walk of a tile's code (R142, R148, R152 to R154, R327): each schedule of one deal is run in schedule beats with no
data, along every path that results of tricks and the hand number can take (R153); what it breaks is noted by result code (R141), 7 OPERANDS,
9 SCHEDULE, 10 RESOURCE, and what other units see of it is kept: its accesses of SRAM banks (R118, R119), the flits that it gives to its router and
takes from it (R170), its PHASE switches, its sends through list entries and its tricks (log 60). -/

namespace Sys2Proof.Machine

/-! ## What a schedule shows -/

/-- What one schedule of a tile shows: accesses of `n` banks from 32-byte unit `u` on in a beat; accesses of census lines by their index;
blocks of one-bit POTS by their first beat, first gradient line and first error line; beats in which a flit enters the local port, and in which one is
taken from LOC, FIL0 and FIL1; PHASE switches; entries sent through list entries; tricks with their functions; the beat of its END. -/
structure Sched where
  acc : List (Nat × Nat × Nat)
  census : List (Nat × Nat)
  blocks : List (Nat × Nat × Nat)
  sent : List Nat
  loc : List Nat
  filA : List Nat
  filB : List Nat
  switches : List (Nat × Nat)
  given : List (Nat × Nat)
  tricks : List (Nat × Nat)
  endAt : Nat
  deriving DecidableEq, Repr

/-- A schedule of nothing. -/
def Sched.none : Sched :=
  { acc := [], census := [], blocks := [], sent := [], loc := [], filA := [], filB := [], switches := [], given := [], tricks := [], endAt := 0 }

/-- Whether `n` banks from unit `u` on and `m` banks from unit `v` on meet: bank = unit mod 32 (R118). -/
def banksMeet (u n v m : Nat) : Bool :=
  decide ((v % 32 + 32 - u % 32) % 32 < n) || decide ((u % 32 + 32 - v % 32) % 32 < m)

/-- Whether two accesses of a list meet at one bank in one beat (R119). -/
def accMeet : List (Nat × Nat × Nat) → Bool
  | [] => false
  | a :: r => r.any (fun b => a.1 == b.1 && banksMeet a.2.1 a.2.2 b.2.1 b.2.2) || accMeet r

/-- Whether the accesses of a one-bit block cannot all be served in its four beats beside the others: of each bank one gradient access, and a
read and a write where its error lines lie (R290; log 61). -/
def blockMeets (l : List (Nat × Nat × Nat)) (b : Nat × Nat × Nat) : Bool :=
  (List.range 32).any (fun k =>
    let own := 1 + (if banksMeet (2 * b.2.2) 16 k 1 then 2 else 0)
    decide (4 < own + (l.filter (fun a => decide (b.1 ≤ a.1) && decide (a.1 < b.1 + 4) && banksMeet a.2.1 a.2.2 k 1)).length))

/-- Whether scheduled accesses of a schedule meet, or two flits are to enter the local port in one beat, for hands of either parity (R119, R258, R259); the census area begins at line `at_` and has
`lines` lines for each parity. -/
def Sched.meets (x : Sched) (at_ lines : Nat) : Bool :=
  decide (x.sent.eraseDups.length < x.sent.length) || [0, 1].any (fun p =>
    let l := x.census.map (fun c => (c.1, 2 * (at_ + p * lines + c.2), 2)) ++ x.acc
    accMeet l || x.blocks.any (blockMeets l))

/-! ## The walk -/

/-- A weight buffer in the walk: its format once filled, what its lanes are masked by, the beats from which a fill is over and no issued step
names it. -/
structure WalkBuf where
  fmt : Option (BitVec 5)
  mask : Nat × Nat
  filled : Nat
  used : Nat
  deriving DecidableEq, Repr

/-- The walk: the context, the registers and scratch words whose values the path does not know, instructions decoded in this schedule, the beat
before which decode waited for a trick, window, the buffers, what masked each accumulator's FIRST step, what is in the mask registers and in the tile
queue (0 no lane, 1 all 64 lanes, else a value named by its number), the first beats in which the units are free, the beats of results
that are due, what was found, and the schedules. -/
structure Walk where
  c : Ctx
  fog : List (BitVec 5)
  fogAt : List Nat
  fogAll : Bool
  n : Nat
  floor : Nat
  window : Bool
  bufA : WalkBuf
  bufB : WalkBuf
  accs : Map (Nat × Nat)
  masks : Map Nat
  names : Nat
  queue : List (Nat × Nat)
  matrix : Nat
  filling : Nat
  vector : Nat
  memory : Nat
  mesh : Nat
  sending : Nat
  draining : Nat
  taking : Nat
  trump : Nat
  due : List (BitVec 5 × Nat)
  found : List Nat
  now : Sched
  past : List Sched
  deriving DecidableEq, Repr

/-- A schedule's start in the walk (R109, R144, R327). -/
def Walk.start (pc : BitVec 14) (found : List Nat) (past : List Sched) : Walk :=
  { c := { Ctx.reset with pc := pc, running := true }, fog := [], fogAt := [], fogAll := false, n := 0, floor := 0, window := false
    bufA := ⟨none, (0, 0), 0, 0⟩, bufB := ⟨none, (0, 0), 0, 0⟩, accs := [], masks := [(0, 1)], names := 2, queue := [], matrix := 0
    filling := 0, vector := 0, memory := 0, mesh := 0, sending := 0, draining := 0, taking := 0, trump := 0, due := [], found := found, now := .none
    past := past }

/-- Note a result code. -/
def Walk.note (x : Walk) (bad : Bool) (code : Nat) : Walk := if bad then { x with found := setIns x.found code } else x

/-- Keep something that the schedule shows. -/
def Walk.show (x : Walk) (f : Sched → Sched) : Walk := { x with now := f x.now }

/-- What the walk knows of the image: the context, the tile, the micro-batch count, the bindings of the census slots as (phase, slot, HISTORY,
census index), and the first line and the end of the context's partition. -/
structure WalkEnv where
  side : Bool
  tile : Nat
  mb : Nat
  bound : List (Nat × Nat × Bool × Nat)
  lo : Nat
  hi : Nat
  deriving DecidableEq, Repr

/-- The G registers that an instruction reads at decode (R145, R162). -/
def readsOf (w : W64) : List (BitVec 5) :=
  match clsOf w, opOf w with
  | 1, 1 => [(mrunOf w).ga, (mrunOf w).gs]
  | 1, 2 => [(mfillOf w).ga]
  | 3, _ => [(lOf w).ga]
  | 4, _ => [(xOf w).ga]
  | 5, _ => [(tOf w).ga]
  | 0, op => match sUse 0 op with
    | some (_, a, b, _) => (if a then [(sOf w).ga] else []) ++ (if b then [(sOf w).gb] else [])
    | none => []
  | 7, op => match sUse 7 op with
    | some (_, a, b, _) => (if a then [(sOf w).ga] else []) ++ (if b then [(sOf w).gb] else [])
    | none => []
  | _, _ => []

/-- A register that waits for a trick is read: decode waits for the result at its worst case of 256 beats (R162, R205). -/
def Walk.await (x : Walk) (rs : List (BitVec 5)) : Walk :=
  let l := x.due.filter (fun d => rs.contains d.1)
  { x with
    floor := l.foldl (fun m d => max m (d.2 + 256)) x.floor
    due := x.due.filter (fun d => !rs.contains d.1) }

/-- The issue budget at a beat (R148). -/
def Walk.budget (x : Walk) (t : Nat) : Walk := x.note (decide (t + 32 < 2 * x.n) || decide (t < x.floor)) 9

/-- Whether the path does not know a value: of a general register, of a scratch word. -/
def Walk.unknown (x : Walk) (r : BitVec 5) : Bool := r != 0 && x.fog.contains r
def Walk.unknownAt (x : Walk) (a : Nat) : Bool := x.fogAll || x.fogAt.contains (a % 16384 / 4)

/-- Put a general register, with a value that the path knows or not. -/
def Walk.put (x : Walk) (r : BitVec 5) (v : W32) (known : Bool) : Walk :=
  let rest := x.fog.filter (· != r)
  { x with c := x.c.setGr r v, fog := if known then rest else r :: rest }

/-- The special registers as the walk knows them; none for those that a hand decides (R153, R158). -/
def Walk.special (x : Walk) (e : WalkEnv) (n : Nat) : Option W32 :=
  match n with
  | 0 => none
  | 1 => none
  | 2 => some (x.c.tc.setWidth 32)
  | 3 => some ((x.c.tc >>> 32).setWidth 32)
  | 4 => none
  | 5 => none
  | 6 => some (BitVec.ofNat 32 e.tile)
  | 7 => some (BitVec.ofNat 32 e.mb)
  | 8 => some (BitVec.ofNat 32 (b2n e.side))
  | 9 => some x.c.sig
  | _ => some 0

/-- A scalar instruction (R156). -/
def Walk.scalar (x : Walk) (e : WalkEnv) (op : Nat) (f : SFmt) : Walk :=
  let c := x.c
  let a := c.gr f.ga
  let b := c.gr f.gb
  let ka := !x.unknown f.ga
  let both := fun (v : W32) => x.put f.gd v (ka && !x.unknown f.gb)
  let at_ := scratchAddr c f
  match op with
  | 0 => both (a + b)
  | 1 => both (a - b)
  | 2 => both (a &&& b)
  | 3 => both (a ||| b)
  | 4 => both (a ^^^ b)
  | 5 => both (a <<< shiftBy b)
  | 6 => both (a >>> shiftBy b)
  | 7 => both (a.sshiftRight (shiftBy b))
  | 8 => both (a * b)
  | 9 => x.put f.gd (a + f.imm) ka
  | 0xA => x.put f.gd f.imm true
  | 0xB => x.put f.gd (c.scratchRd at_) (ka && !x.unknownAt at_)
  | 0xC =>
    if !ka then { x with fogAll := true }
    else
      let rest := x.fogAt.filter (· != at_ % 16384 / 4)
      { x with c := c.scratchWr at_ b, fogAt := if x.unknown f.gb then at_ % 16384 / 4 :: rest else rest }
  | _ => x.put f.gd ((x.special e f.imm.toNat).getD 0) (x.special e f.imm.toNat).isSome

/-- The route phase in force at a beat: that of the last PHASE before it (R180, R259). -/
def Walk.phaseAt (x : Walk) (t : Nat) : Nat :=
  match x.now.switches.find? (fun s => decide (s.1 < t)) with
  | some s => s.2
  | none => 0

/-- The flush of every slot that is bound in a phase, from beat `t` on: a line read and a line write, two beats for each slot (R259). -/
def Walk.flush (x : Walk) (e : WalkEnv) (t phase : Nat) : Walk :=
  let l := ((e.bound.filter (fun b => b.1 == phase)).zipIdx).flatMap (fun b =>
    [(t + 2 * b.2, b.1.2.2.2), (t + 2 * b.2 + 1, b.1.2.2.2)])
  x.show (fun s => { s with census := l ++ s.census })

/-- A branch on a test whose outcome the path knows, or not: then both ways are walked (R148). -/
def Walk.ways (x : Walk) (known p : Bool) (target : BitVec 14) : List Walk :=
  let go : Walk := { x with c := { x.c with pc := target } }
  if !known then [x, go] else if p then [go] else [x]

/-- A control instruction but END (R152, R156). -/
def Walk.control (x : Walk) (e : WalkEnv) (op : Nat) (f : SFmt) : List Walk :=
  let c := x.c
  let a := c.gr f.ga
  let b := c.gr f.gb
  let ka := !x.unknown f.ga
  let both := ka && !x.unknown f.gb
  let t := c.tc.toNat
  match op with
  | 0 => x.ways both (a == b) (targetOf f)
  | 1 => x.ways both (a != b) (targetOf f)
  | 2 => x.ways both (a.slt b) (targetOf f)
  | 3 => x.ways both (a.ult b) (targetOf f)
  | 4 => x.ways true true (targetOf f)
  | 5 => (x.put f.ga (a - 1) ka).ways ka (a - 1 != 0) (targetOf f)
  | 6 => [{ x with c := { c with tc := c.tc + f.imm.setWidth 64 } }]
  | 7 => [((x.budget t).flush e t (x.phaseAt (t + 1))).show (fun s => { s with switches := (t, f.imm.toNat) :: s.switches })]
  | 8 => [{ (x.budget t) with window := true }]
  | 9 => [{ (x.budget t) with window := false }]
  | _ => [x]

/-- A weight buffer of the walk. -/
def Walk.buf (x : Walk) (b : BitVec 1) : WalkBuf := if b = 0 then x.bufA else x.bufB
/-- Put a weight buffer of the walk. -/
def Walk.setBuf (x : Walk) (b : BitVec 1) (w : WalkBuf) : Walk := if b = 0 then { x with bufA := w } else { x with bufB := w }

/-- Whether `n` lines from a line leave the context's partition (R163). -/
def WalkEnv.outside (e : WalkEnv) (line n : Nat) : Bool := decide (line < e.lo) || decide (e.hi < line + n)

/-- Lanes that a mask register's content leaves on; of a content that the walk does not know, all (R75). -/
def lanesIn (m : Nat) : Nat := if m = 0 then 0 else 64

/-- One step of an MRUN against its buffer and its accumulator, its operand read in its issue beat, and its drain: toward a pot nine flits from the first drain
beat on (R74, R79, R80, R89, R118, R290). -/
def Walk.stepAt (x : Walk) (e : WalkEnv) (f : MRunF) (t i : Nat) : Walk :=
  let w := x.buf f.buf
  let a := 64 * f.bank.toNat + f.entry.toNat + i
  let line := runLine (x.c.gr f.ga).toNat (x.c.gr f.gs).toNat i
  let x := if x.unknown f.ga || x.unknown f.gs then x
    else (x.note (e.outside line (recordLines f.fmt)) 10).show (fun s => { s with
      acc := (t + i, 2 * line, (rowBytes f.fmt + 31) / 32) :: s.acc })
  let x :=
    if f.last = 1 ∧ f.dst = 1 then
      let from_ := max (t + i + 7) x.draining
      { x with draining := from_ + 9 }.show (fun s => { s with
        given := (31, 128) :: s.given, sent := s.sent ++ (List.range 9).map (from_ + ·) })
    else if f.last = 1 then { x with queue := x.queue ++ [w.mask] } else x
  if f.first = 1 then { x with accs := x.accs.ins a w.mask }
  else x.note (match x.accs.find? a with | some m => m != w.mask | none => false) 7

/-- MRUN (R79, R85, R89, R142, R152). A side context may meet a buffer that the primary has filled. -/
def Walk.mrun (x : Walk) (e : WalkEnv) (f : MRunF) (t : Nat) : Walk :=
  let n := f.nm1.toNat + 1
  let x := x.note (decide (t < x.matrix) || x.window) 9
  let x := { x with matrix := t + n }
  if f.bub = 1 then x
  else
    let w := x.buf f.buf
    let x := x.note (match w.fmt with | none => !e.side | some g => g != f.fmt) 7
    let x := (List.range n).foldl (fun x i => x.stepAt e f t i) x
    x.setBuf f.buf { w with used := t + n + 2 }

/-- MFILL (R74, R75, R118, R142, R152, R157). Fills follow one another: each path brings what one fill at a time takes. -/
def Walk.mfill (x : Walk) (e : WalkEnv) (f : MFillF) (t : Nat) : Walk :=
  let w := x.buf f.buf
  let mask := (x.masks.get f.mm.toNat 0, x.masks.get (f.mm.toNat + 1) 0)
  let bytes := (lanesIn mask.1 + lanesIn mask.2) * rowBytes f.fmt
  let line := lineAddr (x.c.gr f.ga) 0
  let from_ := max t x.filling
  let flits := fillFlits bytes (chunkOf f.fmt)
  let beats := if f.src = 0 then (bytes + 255) / 256 else (flits + 1) / 2
  let x := x.note (decide (t < x.matrix) || x.window || decide (t < w.filled)) 9
  let x := x.note (decide (t < w.used)) 7
  let x :=
    if f.src = 0 then
      if x.unknown f.ga then x
      else (x.note (e.outside line ((bytes + 63) / 64)) 10).show (fun s => { s with
        acc := (List.range beats).map (fun j => (from_ + j, 2 * line + 8 * j, 8)) ++ s.acc })
    else x.show (fun s => { s with
      filA := s.filA ++ (List.range ((flits + 1) / 2)).map (from_ + ·)
      filB := s.filB ++ (List.range (flits / 2)).map (from_ + ·) })
  { x with matrix := max x.matrix (t + 1), filling := from_ + beats }.setBuf f.buf ⟨some f.fmt, mask, from_ + beats, w.used⟩

/-- Issue interval of a vector operation (R112). -/
def issueEvery (op : Nat) : Nat := if 8 ≤ op ∧ op ≤ 0xB then 4 else if 0x1A ≤ op ∧ op ≤ 0x1C then 2 else 1

/-- A mask register takes a content. -/
def Walk.setMask (x : Walk) (r m : Nat) : Walk := { x with masks := x.masks.put r m 0 }
/-- A mask register takes a content that the walk does not know. -/
def Walk.newMask (x : Walk) (r : Nat) : Walk := { (x.setMask r x.names) with names := x.names + 1 }

/-- A vector operation (R109, R111, R112, R255): a compare writes a mask, a QPOP a pair of them. -/
def Walk.vec (x : Walk) (e : WalkEnv) (op : Nat) (f : VFmt) (t : Nat) : Walk :=
  let x := x.note (decide (t < x.vector)) 9
  let x := { x with vector := t + issueEvery op }
  if op = 0x1D then
    if e.side then x
    else x.note (match e.bound.find? (fun b => b.1 == x.phaseAt t && b.2.1 == f.slot.toNat) with
      | none => true
      | some b => bitOf f.vy.toNat 3 && !b.2.2.1) 7
  else if 0xC ≤ op ∧ op ≤ 0xF then x.newMask (f.vd.toNat % 8)
  else if op = 0x23 then
    let m := f.vc.toNat % 8
    match x.queue with
    | [] => (x.newMask m).newMask (m + 1)
    | q :: r => { ((x.setMask m q.1).setMask (m + 1) q.2) with queue := r }
  else x

/-- The beats in which the payload flits of a one-bit packet of `B` blocks leave, after a header at beat `t` (R290): none before the blocks whose sign or
magnitude bytes it carries are compressed, and one in a beat. -/
def onebitBeats (B t : Nat) : List Nat :=
  ((List.range ((34 * B + 63) / 64)).foldl (fun (r : Nat × List Nat) j =>
    let has := fun (at_ n : Nat) => decide (at_ < 64 * j + 64) && decide (64 * j < at_ + n)
    let last := ((List.range B).filter (fun b => has (32 * b) 32 || has (32 * B + 2 * b) 2)).foldl max 0
    let u := max (r.1 + 1) (t + 4 * (last + 1))
    (u, r.2 ++ [u])) (t, [])).2

/-- SEND, RECV and POTS (R118, R162, R163, R170, R288, R290): a line is read or written in the beat in which its flit moves. -/
def Walk.port (x : Walk) (e : WalkEnv) (op : Nat) (f : XFmt) (t : Nat) : Walk :=
  let n := f.nfm1.toNat + 1
  let line := lineAddr (x.c.gr f.ga) f.off.toNat
  let known := !x.unknown f.ga
  let lines := fun (at_ : Nat) => if known then (List.range n).map (fun i => (at_ + i, 2 * (line + i), 2)) else []
  let x := { x.note (decide (t < x.mesh) || decide (t < (if op = 1 then x.taking else x.sending))) 9 with mesh := t + 1 }
  let x := x.note (known && e.outside line (if op = 2 then potsLines f else n)) 10
  match op with
  | 0 => { x with sending := t + n }.show (fun s => { s with acc := lines t ++ s.acc, sent := s.sent ++ (List.range n).map (t + ·) })
  | 1 => { x with taking := t + n }.show (fun s => { s with acc := lines t ++ s.acc, loc := s.loc ++ (List.range n).map (t + ·) })
  | _ =>
    let x := x.show (fun s => { s with given := (f.gl.toNat, 16 * n) :: s.given })
    if f.mode = 0 then
      { x with sending := t + n + 1 }.show (fun s => { s with
        acc := lines (t + 1) ++ s.acc, sent := s.sent ++ (List.range (n + 1)).map (t + ·) })
    else
      let B := n / 16
      let flits := onebitBeats B t
      { x with sending := flits.foldl max t + 1 }.show (fun s => { s with
        blocks := (if known then (List.range B).map (fun b => (t + 4 * b, line + 16 * b, line + 16 * B + 8 * b)) else []) ++ s.blocks
        sent := s.sent ++ t :: flits })

/-- A timed instruction at its target beat. -/
def Walk.timed (x : Walk) (e : WalkEnv) (w : W64) (t : Nat) : Walk :=
  match clsOf w, opOf w with
  | 1, 1 => x.mrun e (mrunOf w) t
  | 1, 2 => x.mfill e (mfillOf w) t
  | 1, _ => { x.note (decide (t < x.matrix) || !x.window) 9 with matrix := max x.matrix (t + 1) }
  | 2, op => x.vec e op (vOf w) t
  | 3, _ =>
    let f := lOf w
    let line := lineAddr (x.c.gr f.ga) f.off.toNat
    let x := { x.note (decide (t < x.memory)) 9 with memory := t + 1 }
    if x.unknown f.ga then x else (x.note (e.outside line 4) 10).show (fun s => { s with acc := (t, 2 * line, 8) :: s.acc })
  | 4, op => x.port e op (xOf w) t
  | _, _ =>
    let f := tOf w
    let x := { x.note (decide (t < x.trump)) 9 with trump := t + 1 }.show (fun s => { s with tricks := s.tricks ++ [(f.tree.toNat, f.fn.toNat)] })
    let x := x.put f.gd 0 false
    { x with due := if f.gd = 0 then x.due else (f.gd, t) :: x.due }

/-- Decode one word. At END the first schedule of a primary context is over and the sweep starts afresh at the next word; at the second, and at a
side context's END, the walk ends. -/
def Walk.word (x : Walk) (e : WalkEnv) (w : W64) : List Walk :=
  let x := { (x.await (readsOf w)) with n := x.n + 1, c := x.c.fold w }
  if clsOf w = 0 then [x.scalar e (opOf w) (sOf w)]
  else if clsOf w = 7 then
    if opOf w = 0xB then
      let t := x.c.tc.toNat
      let x := (x.budget t).flush e t (x.phaseAt (t + 1))
      let past := x.past ++ [{ x.now with switches := x.now.switches.reverse, endAt := t }]
      if x.past.isEmpty && !e.side then [Walk.start x.c.pc x.found past] else [{ x with past := past, c := { x.c with running := false } }]
    else x.control e (opOf w) (sOf w)
  else
    let t := (x.c.target (w.extractLsb' 46 8)).toNat
    [({ (x.budget t) with c := { x.c with tc := BitVec.ofNat 64 t } } : Walk).timed e w t]

/-- Walk at most `n` instructions of every path; past the code a path ends (R143). -/
def Walk.run (e : WalkEnv) (code : List W64) : Nat → Walk → List Walk
  | 0, x => [x]
  | n + 1, x =>
    if !x.c.running then [x]
    else match code[x.c.pc.toNat]? with
      | none => [{ x with c := { x.c with running := false } }]
      | some w => (x.word e w).flatMap (Walk.run e code n)

/-- Most instructions that a path decodes. A play schedule that obeys the issue budget (R148) and ends at its beat decodes fewer; the
bound on both schedules together is the model's own (log 60). -/
def walkMax : Nat := 2 ^ 40

/-- What the walk of one path finds: result codes and schedules. -/
abbrev WalkPath := List Nat × List Sched

/-- The paths of a primary code, with the beat of the play schedule's END checked (R154) and the meetings at SRAM banks (R119). -/
def walkTile (e : WalkEnv) (code : List W64) (endAt census lines : Nat) : List WalkPath :=
  (Walk.run e code walkMax (Walk.start 0 [] [])).map (fun x =>
    (((x.note ((x.past.head?.map (·.endAt)) != some endAt) 9).note (x.past.any (fun s => s.meets census lines)) 9).found, x.past))

/-- The paths of a side code: its beats are lower bounds, its issues keep out of the primary's and it has no budget (R149), so OPERANDS and
RESOURCE alone are found (R53, R89, R163). -/
def walkSide (e : WalkEnv) (code : List W64) : List WalkPath :=
  (Walk.run e code walkMax (Walk.start 0 [] [])).map (fun x => (x.found.filter (· != 9), x.past))

end Sys2Proof.Machine
end

