-- ==== Sys2Proof/Machine/Routes.lean ====
section
/-! DEFINITION. The validator's check of an image's routes (R133, R170, R171, R178, R179, R182): under nominal timing every router runs its entry at
its own beat, so each router's static moves give the beats in which flits reach and leave every primary lane. -/

namespace Sys2Proof.Machine

/-- A route table as a ROUTE section spells it (R181). -/
structure RouteTab where
  pass : Bool
  phases : List (Nat × Nat)
  entries : List Nat
  deriving DecidableEq, Repr

/-- The route tables of an image by tile, with what each tile's code shows in a schedule of `len` beats. -/
structure RouteEnv where
  tabs : List (Nat × RouteTab)
  codes : List (Nat × Sched)
  len : Nat
  deriving DecidableEq, Repr

/-- The table of a tile's router, if it has one. -/
def RouteEnv.tab? (e : RouteEnv) (t : Nat) : Option RouteTab := (e.tabs.find? (fun p => p.1 == t)).map (·.2)
/-- What a tile's code shows; nothing for a tile without code. -/
def RouteEnv.code (e : RouteEnv) (t : Nat) : Sched :=
  match e.codes.find? (fun p => p.1 == t) with | none => .none | some p => p.2

/-- The entry that a router uses at beat `b`: of the phase of the last PHASE switch of its tile at or before the beat (R174, R180). -/
def RouteTab.entryAt (r : RouteTab) (switches : List (Nat × Nat)) (b : Nat) : Nat :=
  let s := (switches.filter (fun s => decide (s.1 ≤ b))).getLastD (0, 0)
  let p := r.phases.getD s.2 (0, 1)
  r.entries.getD (p.1 + (b - s.1) % p.2) 0

/-- The beats of a schedule in which a scheduled router's entry passes a test. -/
def RouteEnv.beats (e : RouteEnv) (t : Nat) (p : Nat → Bool) : List Nat :=
  match e.tab? t with
  | none => []
  | some r => if r.pass then [] else (List.range e.len).filter (fun b => p (r.entryAt (e.code t).switches b))

/-- The beats in which a router takes a primary flit from its input `i`: 0 N to 3 W, 4 LOC (R176). -/
def RouteEnv.takes (e : RouteEnv) (t i : Nat) : List Nat := e.beats t (fun w => (outsOf w false).any (fun o => srcOf w o == i + 1))
/-- The beats in which a router gives a primary flit to its output `o`. -/
def RouteEnv.gives (e : RouteEnv) (t o : Nat) : List Nat := e.beats t (fun w => (outsOf w false).contains o)

/-- The beats from which flits are available at a mesh input of a router: those that the neighbour gives, 2 or 8 beats later, through
pass-through routers too (R170, R183). None for an edge port, whose flits the dealers keep coming (R240). -/
def RouteEnv.comes (e : RouteEnv) (i : Nat) : Nat → Nat → Option (List Nat)
  | 0, _ => some []
  | k + 1, t => match neighbour t i with
    | none => none
    | some n =>
      let late := fun (l : List Nat) => l.map (· + (if isSeam t n then 8 else 2))
      match e.tab? n with
      | none => some []
      | some r => if r.pass then (e.comes i k n).map late else some (late (e.gives n (facing i)))

/-- Whether a lane fails the timing (R178): a flit is due in a beat in which it is not there, or the lane would hold more flits than its
depth. `a` are the beats from which flits are there, `d` those in which flits are taken. -/
def laneFails (a d : List Nat) (depth : Nat) : Bool :=
  let upTo := fun (l : List Nat) (b : Nat) => (l.filter (fun x => decide (x ≤ b))).length
  d.any (fun b => decide (upTo a b < upTo d b)) || a.any (fun b => decide (depth < upTo a b - upTo d b))

/-- Whether any primary lane of a tile and its router fails the timing: the four mesh inputs, the local port both ways, and the two fill
ports (R170, R171, R178). -/
def RouteEnv.fails (e : RouteEnv) (t : Nat) : Bool :=
  let c := e.code t
  let next := fun (l : List Nat) => l.map (· + 1)
  (List.range 4).any (fun i =>
    match neighbour t i, e.comes i 48 t with
    | some n, some a => laneFails a (e.takes t i) (laneDepth n (facing i) false)
    | _, _ => false) ||
  laneFails (next c.sent) (e.takes t 4) locDepth ||
  laneFails (next (e.gives t 4)) c.loc (tileDepth 0) ||
  laneFails (next (e.gives t 5)) c.filA (tileDepth 1) ||
  laneFails (next (e.gives t 6)) c.filB (tileDepth 2)

/-- Whether every move of a SIDE image's table is a side move of its base's entry of the same index (R133, R179). -/
def RouteTab.within (r base : RouteTab) : Bool :=
  r.pass == base.pass && (r.entries.zipIdx).all (fun x =>
    let b := base.entries.getD x.2 0
    (List.range 7).all (fun o => srcOf x.1 o == 0 || (sideOf x.1 o && sideOf b o && srcOf x.1 o == srcOf b o)))

/-- Whether going straight from a tile by a side comes to a hole through pass-through routers alone (R182, R183). -/
def State.toHole (s : State) (passes : Nat → Bool) (side : Nat) : Nat → Nat → Bool
  | 0, _ => false
  | k + 1, t => match neighbour t side with
    | none => false
    | some n => s.tileState n == 2 || (passes n && s.toHole passes side k n)

/-- Whether a route entry of a tile leads into a hole or comes from one (R182). -/
def State.routeHole (s : State) (passes : Nat → Bool) (t w : Nat) : Bool :=
  (List.range 7).any (fun o =>
    let i := srcOf w o
    i != 0 && ((decide (o < 4) && s.toHole passes o 48 t) || (decide (i ≤ 4) && s.toHole passes (i - 1) 48 t)))

end Sys2Proof.Machine
end

