-- ==== Sys2Proof/Machine/Image.lean ====
section
/-! DEFINITION. Deal images: the container and its sections (R134 to R138, R181, R233, R253, R283), the validator in the order of R141,
and the image store with LOAD and UNLOAD (R140, R395). -/

namespace Sys2Proof.Machine

/-! ## Reading the container (R134, R136) -/

/-- The payload of a section. -/
def payload (b : Bytes) (x : Section) : Bytes := slice b x.off x.size

/-- The section table (R136). -/
def sectionTable (b : Bytes) : List Section :=
  (List.range (field b 0x50 2)).map (fun i =>
    let o := field b 0x54 4 + 32 * i
    { typ := field b o 2, target := field b (o + 4) 4, off := field b (o + 8) 8, size := field b (o + 0x10) 8
      crc := BitVec.ofNat 32 (field b (o + 0x18) 4) })

/-- An image as its bytes spell it (R134). -/
def imageOf (b : Bytes) : Image :=
  { kind := field b 6 1, signed := bitOf (field b 7 1) 0, id := BitVec.ofNat 64 (field b 8 8), base := BitVec.ofNat 64 (field b 0x10 8)
    length := field b 0x18 8, seed := BitVec.ofNat 64 (field b 0x20 8), excl := BitVec.ofNat 48 (field b 0x28 6)
    cribPeak := field b 0x30 8, beatsFixed := field b 0x38 8, beatsPerMb := field b 0x40 8, mbMax := field b 0x48 2
    sideImem := field b 0x4A 2, sideSram := field b 0x4C 2, sideBanks := field b 0x4E 1, sideQueue := field b 0x4F 1
    minFw := BitVec.ofNat 32 (field b 0x58 4), digest := BitVec.ofNat 256 (field b 0x60 32), sections := sectionTable b, bytes := b
    sweepLen := 0, sweepPc := [] }

/-- The sections of a type with their indexes. -/
def Image.ofType (m : Image) (typ : Nat) : List (Section × Nat) := m.sections.zipIdx.filter (fun p => p.1.typ == typ)
/-- The section of a type for a target; a code section of size 0 is the same as none (R138). -/
def Image.section? (m : Image) (typ target : Nat) : Option Section :=
  m.sections.find? (fun x => x.typ == typ && x.target == target && x.size != 0)
/-- The payload of the section of a type for a target, or nothing. -/
def Image.pay (m : Image) (typ target : Nat) : Bytes :=
  match m.section? typ target with | none => [] | some x => payload m.bytes x
/-- The whole module as a section's target. -/
def wholeModule : Nat := 0xFFFFFFFF
/-- The tiles of an image's footprint (R137). -/
def Image.tiles (m : Image) : List Nat := onesOf (leNat (m.pay 1 wholeModule)) 1152
/-- The 64-bit words of a code section. -/
def codeWords (b : Bytes) : List W64 := (List.range (b.length / 8)).map (fun i => BitVec.ofNat 64 (field b (8 * i) 8))
/-- The words of a tile's code: of the primary context or of the side context. -/
def Image.code (m : Image) (side : Bool) (t : Nat) : List W64 := codeWords (m.pay (if side then 3 else 2) t)

/-! ## Sections of other chapters -/

/-- A tensor entry (R254). -/
def tensorOf (b : Bytes) : Tensor :=
  { kind := field b 0 1, flags := BitVec.ofNat 8 (field b 1 1), fmt := BitVec.ofNat 5 (field b 2 1)
    initCode := BitVec.ofNat 8 (field b 3 1), layer := field b 4 2
    dims := (List.range (min 4 (field b 6 1))).map (fun i => field b (8 + 4 * i) 4) }
/-- The tensor table of a TENSOR payload (R253). -/
def tensorsOf (b : Bytes) : List Tensor := (List.range (field b 0 4)).map (fun i => tensorOf (slice b (64 + 32 * i) 32))
/-- Offset of the plan entries of a TENSOR payload. -/
def planAt (b : Bytes) (i : Nat) : Bytes := slice b (64 + 32 * field b 0 4 + 16 * i) 16
/-- The plan of a TENSOR payload (R256). -/
def planOf (b : Bytes) : List PlanEnt :=
  (List.range (field b 4 4)).map (fun i =>
    let e := planAt b i
    { tile := field e 0 2, phase := field e 2 1, slot := field e 3 1, index := field e 4 2, tensor := field e 8 4 })

/-- A pot entry (R284). -/
def potOf (e : Bytes) : PotEnt :=
  { tensor := field e 0 4, owner := field e 4 2, kind := field e 6 1, stackMask := BitVec.ofNat 64 (field e 8 8)
    base := field e 0x10 4, entries := field e 0x14 4, hps := field e 0x18 2, cseats := field e 0x1A 2
    mirrorBase := BitVec.ofNat 32 (field e 0x1C 4) }
/-- A list entry (R286). -/
def listOf (e : Bytes) : ListEnt :=
  { tile := field e 0 2, gl := field e 2 1, kind := field e 3 1, pot := field e 4 4, start := field e 8 4, length := field e 0xC 4 }
/-- The pot plan of a REDUCE payload (R283). -/
def potPlanOf (b : Bytes) : PotPlan :=
  { ordered := field b 8 1 == 1, mirrorSeal := bitOf (field b 9 1) 0, nseat := field b 0xA 2
    pots := (List.range (field b 0 4)).map (fun i => potOf (slice b (64 + 32 * i) 32))
    lists := (List.range (field b 4 4)).map (fun i => listOf (slice b (64 + 32 * field b 0 4 + 16 * i) 16)) }

/-- A stream descriptor (R234). -/
def sdescOf (e : Bytes) : SDesc :=
  let f := fun (n o k : Nat) => BitVec.ofNat n (field e o k)
  { kind := f 8 0 1, flags := f 8 1 1, ports := f 8 2 1, ctl := f 8 3 1, srcf := f 8 4 1, dstf := f 8 5 1, rept := f 16 6 2
    addr := f 64 8 8, addr2 := f 64 0x10 8, stride := f 32 0x18 4, stride2 := f 32 0x1C 4, mask := f 128 0x20 16
    count := f 32 0x30 4, tensor := f 32 0x34 4, shard := f 32 0x38 4, wait := f 32 0x3C 4 }
/-- The pieces of a STREAMS payload; their versions live with the stack (R233, R244). -/
def piecesOf (b : Bytes) : List Piece :=
  (List.range (field b 4 4)).map (fun i =>
    let e := slice b (64 + 16 * i) 16
    { shard := BitVec.ofNat 32 (field e 0 4), lines := field e 4 4, off := field e 8 8, version := 0 })
/-- The descriptors of a STREAMS payload (R233). -/
def descsOf (b : Bytes) : List SDesc :=
  (List.range (field b 0 4)).map (fun i => sdescOf (slice b (64 + 16 * field b 4 4 + 64 * i) 64))

/-- The phases of a ROUTE payload as (BASE, PERIOD) (R181). -/
def phasesOf (b : Bytes) : List (Nat × Nat) :=
  (List.range (field b 1 1)).map (fun i =>
    let v := field b (0x30 + 4 * i) 4
    (bitsOf v 16 12, bitsOf v 0 13))
/-- The entries of a ROUTE payload (R181). -/
def entriesOf (b : Bytes) : List Nat := (List.range (field b 4 4)).map (fun i => field b (0x30 + 4 * field b 1 1 + 4 * i) 4)
/-- The trump trees that a ROUTE payload makes its tile a member of (R181). -/
def treesOf (b : Bytes) : BitVec 256 := BitVec.ofNat 256 (field b 0x10 32)

/-! ## The checks (R141) -/

/-- What a check finds: a result code and the index of the failing section, 0xFFFF for the header or the table. -/
abbrev Flaw := Nat × Nat
/-- The header or the table. -/
def inTable : Nat := 0xFFFF
/-- A flaw when a check fails. -/
def flaw (bad : Bool) (code idx : Nat) : List Flaw := if bad then [(code, idx)] else []
/-- The failure that the validator answers: of the lowest code, the one found first (R141). -/
def firstFlaw (l : List Flaw) : Option Flaw := (List.range 16).findSome? (fun c => l.find? (fun f => f.1 == c))

/-- Whether a section's target fits its type (R136, R137). -/
def targetOk (x : Section) : Bool :=
  if 2 ≤ x.typ ∧ x.typ ≤ 5 then decide (x.target < 1152)
  else if x.typ = 6 then decide (0x10000 ≤ x.target) && decide (x.target < 0x10030)
  else x.target == wholeModule

/-- The size that the counts of a section spell, for a type that has counts. -/
def spelledSize (typ : Nat) (p : Bytes) : Option Nat :=
  match typ with
  | 5 => some (0x30 + 4 * field p 1 1 + 4 * field p 4 4)
  | 6 => some (64 + 16 * field p 4 4 + 64 * field p 0 4)
  | 7 => some (64 + 32 * field p 0 4 + 16 * field p 4 4)
  | 8 => some (64 + 32 * field p 0 4 + 16 * field p 4 4)
  | _ => none

/-- Whether a section's size is one that its type admits (R137, R138). -/
def sizeOk (p : Bytes) (x : Section) : Bool :=
  if x.typ = 1 then x.size == 144
  else if x.typ = 2 ∨ x.typ = 3 then x.size % 8 == 0
  else if x.typ = 4 then decide (8 ≤ x.size)
  else if x.typ = 0x7FFF then x.size == 384
  else match spelledSize x.typ p with
    | some n => x.size == n
    | none => false

/-- Whether two byte ranges overlap. -/
def meet (a b : Nat × Nat) : Bool := decide (a.1 < b.2) && decide (b.1 < a.2)
/-- Whether any two ranges of a list overlap. -/
def anyMeet : List (Nat × Nat) → Bool
  | [] => false
  | a :: t => t.any (meet a) || anyMeet t

/-- FORMAT: the header, the table, and the sections' numbers and sizes (R134, R136 to R138). `length` is what the descriptor says. -/
def formatFlaws (b : Bytes) (length : Nat) : List Flaw :=
  let m := imageOf b
  let n := field b 0x50 2
  let table := field b 0x54 4
  let side := m.kind == 3
  let S := m.sections.zipIdx
  let spans := (0, 256) :: (table, table + 32 * n) ::
    ((m.sections.filter (fun x => x.size != 0)).map (fun x => (x.off, x.off + x.size)))
  let last := (spans.map (·.2)).foldl max 0
  let count := fun (t : Nat) => (m.ofType t).length
  let sig := m.ofType 0x7FFF
  flaw (decide (length < 256) || field b 0 4 != 0x49445844 || field b 5 1 != 2 || m.kind == 0 || decide (3 < m.kind) ||
    decide (2 ≤ field b 7 1) || m.id == 0 || (m.kind == 1 && m.base != 0) || m.length != length || field b 0x2E 2 != 0 ||
    field b 0x52 2 != 0 || (slice b 0x80 124).any (· != 0) || decide (64 < m.sideImem) || m.sideImem % 8 != 0 ||
    decide (20 < m.sideSram) || decide (4 < m.sideBanks) || decide (4 < m.sideQueue) || n == 0 || decide (4096 < n) || table % 64 != 0 ||
    decide (length < table + 32 * n) ||
    (side && (m.beatsFixed != 0 || m.beatsPerMb != 0 || m.mbMax != 0 || m.excl != 0)) || (!side && m.mbMax == 0)) 1 inTable ++
  S.flatMap (fun p =>
    let x := p.1
    let o := table + 32 * p.2
    let once := x.typ != 4 && !((x.typ == 2 || x.typ == 3) && x.size == 0)
    flaw (field b (o + 2) 2 != 0 || field b (o + 0x1C) 4 != 0 || x.off % 64 != 0 || decide (length < x.off + x.size) ||
      !targetOk x || !sizeOk (payload b x) x || (x.typ == 3 && !side) || ((x.typ == 7 || x.typ == 8) && side) ||
      (once && (m.sections.take p.2).any (fun y => y.typ == x.typ && y.target == x.target && y.size != 0))) 1 p.2) ++
  flaw (anyMeet spans || last != length || count 1 != 1 || (!side && count 7 != 1)) 1 inTable ++
  flaw (sig.length != b2n m.signed ||
    sig.any (fun p => p.2 + 1 != n || p.1.off + p.1.size != length)) 1 (match sig with | [] => inTable | p :: _ => p.2)

/-- CRC: the header's, then every section's (R134, R136). -/
def crcFlaws (b : Bytes) : List Flaw :=
  flaw ((crc32c (slice b 0 0xFC)).toNat != field b 0xFC 4) 2 inTable ++
  ((sectionTable b).zipIdx).flatMap (fun p => flaw (crc32c (payload b p.1) != p.1.crc) 2 p.2)

/-- SIGNATURE: a signed image that no filled key slot verifies, an unsigned one under REQUIRE (R139, R512). -/
def State.signFlaws (s : State) (m : Image) : List Flaw :=
  if !m.signed then flaw s.sec.require 3 inTable
  else (m.ofType 0x7FFF).flatMap (fun p =>
    let dig := Config.sha256 (slice m.bytes 0 p.1.off)
    flaw (!s.sec.keys.any (fun k => Config.rsaOk k.2 dig (payload m.bytes p.1))) 3 p.2)

/-- A loaded image. -/
def State.image (s : State) (id : W64) : Option Image := s.hand.images.find? (fun m => m.id == id)

/-- BASE: loaded, of the right kind, with an equal tensor table for an ALTERNATE and an equal side partition for a SIDE image (R131 to
R134). -/
def State.baseFlaws (s : State) (m : Image) : List Flaw :=
  if m.kind = 1 then []
  else match s.image m.base with
    | none => [(5, inTable)]
    | some p => flaw (if m.kind = 2 then p.kind != 1 || p.digest != m.digest
        else p.kind == 3 || p.sideImem != m.sideImem || p.sideSram != m.sideSram || p.sideBanks != m.sideBanks ||
          p.sideQueue != m.sideQueue) 5 inTable

/-- Whether a ROUTE payload holds a reserved value (R174, R175, R181). -/
def routeReserved (p : Bytes) : Bool :=
  let mode := field p 0 1
  let nph := field p 1 1
  let nent := field p 4 4
  field p 2 2 != 0 || field p 8 8 != 0 || decide (1 < mode) || bitOf (field p 0x10 32) 255 ||
    (if mode = 1 then nph != 0 || nent != 0 || field p 0x10 32 != 0
     else nph == 0 || decide (16 < nph) || nent == 0 || decide (4096 < nent)) ||
    (List.range nph).any (fun i =>
      let v := field p (0x30 + 4 * i) 4
      bitsOf v 13 3 != 0 || bitsOf v 28 4 != 0 || bitsOf v 0 13 == 0 || decide (4096 < bitsOf v 0 13) ||
        decide (nent < bitsOf v 16 12 + bitsOf v 0 13)) ||
    (entriesOf p).any (fun e =>
      let src := fun o => bitsOf e (3 * o) 3
      bitsOf e 28 4 != 0 ||
        (List.range 7).any (fun o => decide (6 ≤ src o) || (src o == 0 && bitOf e (21 + o)) || (decide (o < 5) && src o == o + 1) ||
          (decide (5 ≤ o) && src o == 5)))

/-- Whether a TENSOR payload holds a reserved value (R41, R253 to R255). -/
def tensorReserved (p : Bytes) : Bool :=
  let nt := field p 0 4
  nt == 0 || decide (65536 < nt) || decide (262144 < field p 4 4) || decide (1024 < field p 0xC 2) || (slice p 0xE 50).any (· != 0) ||
    (List.range nt).any (fun i =>
      let e := slice p (64 + 32 * i) 32
      let rank := field e 6 1
      field e 0 1 == 0 || decide (8 < field e 0 1) || decide (8 ≤ field e 1 1) || decide (32 ≤ field e 2 1) ||
        (elemOf (BitVec.ofNat 5 (field e 2 1))).isNone || field e 3 1 == 0xFF || rank == 0 || decide (4 < rank) || field e 7 1 != 0 ||
        (slice e 0x18 8).any (· != 0) || (List.range 4).any (fun d => decide (rank ≤ d) && field e (8 + 4 * d) 4 != 0)) ||
    (List.range (field p 4 4)).any (fun i =>
      let e := planAt p i
      decide (1152 ≤ field e 0 2) || decide (16 ≤ field e 2 1) || decide (16 ≤ field e 3 1) || decide (field p 0xC 2 ≤ field e 4 2) ||
        field e 6 2 != 0 || decide (nt ≤ field e 8 4) || field e 0xC 4 != 0)

/-- Whether a STREAMS payload holds a reserved value (R233 to R236). -/
def streamsReserved (p : Bytes) : Bool :=
  decide (1048576 < field p 0 4) || decide (65536 < field p 4 4) || decide (field p 0xC 4 < field p 8 4) ||
    decide (field p 0x10 4 < field p 0xC 4) || decide (field p 0 4 < field p 0x10 4) || (slice p 0x14 44).any (· != 0) ||
    (descsOf p).any (fun d => ({ d with flags := 0 } : SDesc).reserved || decide (8 ≤ d.flags.toNat) || bitsOf d.flags.toNat 0 2 == 3)

/-- Whether a REDUCE payload holds a reserved value (R283 to R287). -/
def reduceReserved (p : Bytes) : Bool :=
  let q := potPlanOf p
  q.pots.isEmpty || decide (65536 < q.pots.length) || decide (36864 < q.lists.length) || decide (1 < field p 8 1) ||
    decide (1 < field p 9 1) || q.nseat == 0 || decide (1024 < q.nseat) || (slice p 0xC 52).any (· != 0) ||
    (q.pots.zipIdx).any (fun x =>
      let e := x.1
      decide (1 < e.kind) || field p (64 + 32 * x.2 + 7) 1 != 0 || e.entries == 0 || e.hps == 0 ||
        (if e.kind = 0 then e.stackMask == 0 || decide (2 ^ 48 ≤ e.stackMask.toNat) else decide (1152 ≤ e.stackMask.toNat))) ||
    q.lists.any (fun e => decide (1152 ≤ e.tile) || decide (32 ≤ e.gl) || decide (2 < e.kind) || e.length == 0 ||
      decide (q.pots.length ≤ e.pot) || ((e.gl == 31) != (e.kind == 2)))

/-- The trump trees that have a member in the footprint (R203). -/
def Image.trees (m : Image) : Nat := m.tiles.foldl (fun a t => a ||| (treesOf (m.pay 5 t)).toNat) 0

/-- The words of a code section that name an odd register where a pair is required (R111, R157). -/
def oddPairs (code : List W64) : Bool := code.any (fun w => !evenPairs w)

/-- Every TRICK word of a code section: tree and function. -/
def tricksOf (code : List W64) : List (Nat × Nat) :=
  (code.filter (fun w => clsOf w == 5)).map (fun w => ((tOf w).tree.toNat, (tOf w).fn.toNat))

/-- ENCODING (R155, R175, R203, R235, R255, R287). -/
def encodingFlaws (m : Image) : List Flaw :=
  let trees := m.trees
  m.sections.zipIdx.flatMap (fun x =>
    let p := payload m.bytes x.1
    let bad := match x.1.typ with
      | 2 => (codeWords p).any (fun w => !legalWord 0 (8 - m.sideBanks) w) || (tricksOf (codeWords p)).any (fun t => !bitOf trees t.1)
      | 3 => (codeWords p).any (fun w => !legalWord (8 - m.sideBanks) 8 w) || (tricksOf (codeWords p)).any (fun t => !bitOf trees t.1)
      | 5 => routeReserved p
      | 6 => streamsReserved p
      | 7 => tensorReserved p
      | 8 => reduceReserved p
      | _ => false
    flaw bad 6 x.2)

/-- What a TENSOR payload does that R255 and R256 reject as OPERANDS. -/
def tensorOperands (p : Bytes) : Bool :=
  let pl := planOf p
  (tensorsOf p).any (fun t => bitOf t.flags.toNat 0 && (!isMx t.fmt || t.kind == 1)) ||
    (pl.zipIdx).any (fun x => (pl.take x.2).any (fun y =>
      (y.tile == x.1.tile && y.phase == x.1.phase && y.slot == x.1.slot) ||
        (y.tile == x.1.tile && y.index == x.1.index && y.tensor != x.1.tensor)))

/-- What a REDUCE payload does that R287 rejects as OPERANDS, beyond its POTS. -/
def reduceOperands (ts : List Tensor) (p : Bytes) : Bool :=
  let q := potPlanOf p
  q.pots.any (fun e => match ts[e.tensor]? with | none => true | some t => t.kind != 4) ||
    q.lists.any (fun e =>
      let u := if e.kind = 1 then 256 else if e.kind = 2 then 128 else 16
      match q.pots[e.pot]? with
      | none => true
      | some o => e.start % u != 0 || e.length % u != 0 || decide (o.entries < e.start + e.length) || (e.kind == 1 && o.kind == 1))

/-- The bindings of a tile's census slots: phase, slot, HISTORY, census index (R256). -/
def bindingsOf (tp : Bytes) (t : Nat) : List (Nat × Nat × Bool × Nat) :=
  let ts := tensorsOf tp
  ((planOf tp).filter (fun y => y.tile == t)).map (fun y =>
    (y.phase, y.slot, (match ts[y.tensor]? with | none => false | some x => bitOf x.flags.toNat 0), y.index))

/-- The walk of one code section for one micro-batch count: section index, tile, count, and what each path shows. -/
structure Walked where
  idx : Nat
  tile : Nat
  mb : Nat
  paths : List WalkPath
  deriving DecidableEq, Repr

/-- The walks of an image's code: of a SIDE image's side code once; else of the primary code for the counts 1 and 2 within MB_MAX (R142, R154;
log 60). -/
def Image.walks (m : Image) : List Walked :=
  let tp := m.pay 7 wholeModule
  let split := (40 - m.sideSram) * 16384
  let side := m.kind == 3
  (m.ofType (if side then 3 else 2)).flatMap (fun x =>
    if x.1.size = 0 then []
    else
      let code := codeWords (payload m.bytes x.1)
      let t := x.1.target
      if side then [⟨x.2, t, 0, walkSide ⟨true, t, 0, [], split, 655360⟩ code⟩]
      else (if m.mbMax < 2 then [1] else [1, 2]).map (fun n =>
        ⟨x.2, t, n, walkTile ⟨false, t, n, bindingsOf tp t, 0, split⟩ code (m.beatsFixed + n * m.beatsPerMb) (field tp 8 4) (field tp 0xC 2)⟩))

/-- Whether a walk found a code on any path. -/
def Walked.finds (w : Walked) (code : Nat) : Bool := w.paths.any (fun p => p.1.contains code)
/-- The beats at which the sweep schedule ends on the paths of a walk (R327). -/
def Walked.sweeps (w : Walked) : List (Option Nat) := w.paths.map (fun p => (p.2[1]?).map (·.endAt))
/-- The functions of a tile's contributions to a tree, in their order, on each path (R204). -/
def Walked.fns (w : Walked) (tree : Nat) : List (List Nat) :=
  w.paths.map (fun p => (p.2.flatMap (·.tricks)).filterMap (fun k => if k.1 = tree then some k.2 else none))
/-- Whether contributions of one trick can carry different functions: the k-th of two members of a tree (R204). -/
def fnsMix (a b : Walked) : Bool :=
  a.mb == b.mb && (List.range 256).any (fun tree =>
    (a.fns tree).any (fun u => (b.fns tree).any (fun v => (List.zip u v).any (fun k => k.1 != k.2))))

/-- Whether a POTS of a tile's code names a list entry of another kind, or the drain stream (R286, R287). -/
def potsWrong (q : PotPlan) (t : Nat) (code : List W64) : Bool :=
  (code.filter (fun w => clsOf w == 4 && opOf w == 2)).any (fun w =>
    let f := xOf w
    f.gl == 31 || (match q.lists.find? (fun e => e.tile == t && e.gl == f.gl.toNat) with
      | none => true
      | some e => e.kind != f.mode.toNat))

/-- Whether a SIDE image's code names a tree with another function than its base's code does (R204). -/
def sideFns (base : Option Image) (code : List W64) : Bool :=
  match base with
  | none => false
  | some b => (tricksOf code).any (fun k => (b.ofType 2).any (fun x =>
      (tricksOf (codeWords (payload b.bytes x.1))).any (fun j => j.1 == k.1 && j.2 != k.2)))

/-- OPERANDS (R53, R74, R89, R111, R157, R204, R242, R255, R256, R286, R287). -/
def operandFlaws (m : Image) (base : Option Image) (walks : List Walked) : List Flaw :=
  let ts := tensorsOf (m.pay 7 wholeModule)
  let q := potPlanOf (m.pay 8 wholeModule)
  m.sections.zipIdx.flatMap (fun x =>
    let p := payload m.bytes x.1
    let bad := match x.1.typ with
      | 2 => oddPairs (codeWords p) || potsWrong q x.1.target (codeWords p)
      | 3 => oddPairs (codeWords p) || sideFns base (codeWords p)
      | 6 => (descsOf p).any (fun d => d.kind == 1 && d.srcf != d.dstf && d.tensor == 0xFFFFFFFF)
      | 7 => tensorOperands p
      | 8 => reduceOperands ts p
      | _ => false
    flaw bad 7 x.2) ++
  walks.flatMap (fun w => flaw (w.finds 7 || walks.any (fnsMix w)) 7 w.idx)

/-- Whether a tile may not be used by an image: not good, in a lost field, or in a field that the image excludes (R141). -/
def State.tileBarred (s : State) (m : Image) (t : Nat) : Bool :=
  s.tileState t != 0 || bitOf s.lost (tileField t) || m.excl.getLsbD (tileField t)

/-- Whether a ROUTE payload turns a flit, for a pass-through router (R183): an output that takes from anything but its opposite. -/
def routeTurns (p : Bytes) : Bool :=
  field p 0 1 == 0 && (entriesOf p).any (fun e =>
    (List.range 7).any (fun o => let c := bitsOf e (3 * o) 3; c != 0 && !(decide (o < 4) && c == (o + 2) % 4 + 1)))

/-- The route table of a ROUTE payload. -/
def routeTabOf (p : Bytes) : RouteTab := ⟨field p 0 1 == 1, phasesOf p, entriesOf p⟩
/-- The route tables of an image; a tile that the defect map marks PASS passes through whatever the image says (R183). -/
def State.routeTabs (s : State) (m : Image) : List (Nat × RouteTab) :=
  (m.ofType 5).map (fun x => (x.1.target, routeTabOf (payload m.bytes x.1))) ++
    (allTiles.filter (fun t => s.tileState t == 1 && (m.section? 5 t).isNone)).map (fun t => (t, ⟨true, [], []⟩))
/-- Whether a tile's router passes straight through under an image. -/
def State.passesUnder (s : State) (m : Image) (t : Nat) : Bool :=
  s.tileState t == 1 || (match m.section? 5 t with | none => false | some x => (routeTabOf (payload m.bytes x)).pass)

/-- PLACEMENT (R141, R181 to R183, R287, R312, R375). -/
def State.placeFlaws (s : State) (m : Image) : List Flaw :=
  let fp := m.tiles
  m.sections.zipIdx.flatMap (fun x =>
    let p := payload m.bytes x.1
    let side := m.kind == 3
    let bad := match x.1.typ with
      | 1 => fp.any (s.tileBarred m)
      | 2 => x.1.size != 0 && !fp.contains x.1.target
      | 3 => x.1.size != 0 && (!fp.contains x.1.target ||
          (codeWords p).any (fun w => (clsOf w == 4 && opOf w == 2) || (clsOf w == 5 && decide (0xF0 ≤ (tOf w).tree.toNat))))
      | 4 => !fp.contains x.1.target
      | 5 => s.tileState x.1.target == 2 || (s.tileState x.1.target == 1 && routeTurns p) ||
          (entriesOf p).any (s.routeHole (s.passesUnder m) x.1.target) ||
          (side && decide (0xF0 ≤ Nat.log2 (treesOf p).toNat) && treesOf p != 0)
      | 6 => side && (descsOf p).any (fun d => d.kind == 4)
      | 8 => (potPlanOf p).pots.any (fun e => if e.kind = 0 then e.stacks.any (fun k => !s.inSvc k)
          else s.tileState e.tile != 0 || (e.owner != s.rank && decide (1 < (potPlanOf p).nseat)))
      | _ => false
    flaw bad 8 x.2)

/-- Whether `n` bytes from a stack offset lie in the software part, or in the gather buffer and the sweep staging; of no bytes the offset alone
(R235). -/
def stackOk (off n : Nat) : Bool :=
  decide (off + max n 1 ≤ bandOff) || (decide (gatherOff ≤ off) && decide (off + max n 1 ≤ exportOff))
/-- Whether `n` bytes from a slice offset lie in the slice; of no bytes the offset alone (R235). -/
def sliceOk (off n : Nat) : Bool := decide (off + max n 1 ≤ 192 * gib)

/-- Whether a descriptor reaches outside the ranges of R235, names a shard that the list lacks (a version flag needs one), or has a flag that its
kind has not. -/
def descRange (ps : List Piece) (d : SDesc) : Bool :=
  let n := d.count.toNat
  let a := d.addr.toNat
  let b := d.addr2.toNat
  let f := d.flags.toNat
  let shard := (d.shard != 0xFFFFFFFF || f != 0) && !(d.kind == 5 || d.kind == 6)
  let piece := ps.find? (fun p => p.shard == d.shard)
  (shard && piece.isNone) ||
    (match d.kind.toNat with
     | 1 =>
       let e := chunkOf (d.dstf.setWidth 5)
       let w := match elemOf (d.srcf.setWidth 5) with | none => 0 | some x => x.bits
       bitOf f 2 || (onesOf d.mask.toNat 128).any (fun l => !stackOk (a + l * d.stride.toNat) (n * e * w / 8) ||
         (isMx (d.srcf.setWidth 5) && !stackOk (b + l * d.stride2.toNat) (n * e / 32)))
     | 2 => bitOf f 2 || !stackOk a (64 * n)
     | 3 => bitOf f 0 || bitOf f 1 || !stackOk a (64 * n)
     | 4 => bitOf f 2 || (match piece with | none => true | some p => decide (p.lines < b + n))
     | 5 => f != 0 || !sliceOk a (64 * n) || !stackOk b (64 * n)
     | _ => f != 0 || !stackOk a (64 * n) || !sliceOk b (64 * n))

/-- The stack ranges that the descriptors of a STREAMS payload write (R235). -/
def writesOf (p : Bytes) : List (Nat × Nat) :=
  (descsOf p).flatMap (fun d =>
    if d.kind = 3 then [(d.addr.toNat, d.addr.toNat + 64 * d.count.toNat)]
    else if d.kind = 5 then [(d.addr2.toNat, d.addr2.toNat + 64 * d.count.toNat)] else [])

/-- The ranges that a pot takes, each with its place: the units that it has on each of its stacks, or its words in the SRAM of a summing tile, which
is counted from 48 on (R285, R312). -/
def PotEnt.spans (p : PotEnt) (ordered : Bool) : List (Nat × Nat × Nat) :=
  if p.kind = 1 then [(48 + p.tile, 64 * p.base, 64 * p.base + 4 * p.entries)]
  else
    let units := (p.entries + 1023) / 1024
    let s := p.stacks.length
    p.stacks.zipIdx.map (fun k =>
      (k.1, 4096 * p.base, 4096 * p.base + (units + s - 1 - k.2) / s * (if ordered then 8192 else 4096)))

/-- Whether ranges with their places overlap any of others. -/
def spansMeet (a b : List (Nat × Nat × Nat)) : Bool := a.any (fun x => b.any (fun y => x.1 == y.1 && meet x.2 y.2))

/-- What a REDUCE payload does that R287 rejects as RESOURCE, on the seat of rank `rank`, whose stacks its own streams write. -/
def reduceResource (m : Image) (rank : Nat) (p : Bytes) : Bool :=
  let q := potPlanOf p
  (q.pots.zipIdx).any (fun x =>
    let e := x.1
    let sp := e.spans q.ordered
    sp.any (fun r => decide ((if e.kind = 1 then (40 - m.sideSram) * 2 ^ 20 else bandOff) < r.2.2)) ||
      (q.pots.take x.2).any (fun y => e.owner == y.owner && spansMeet sp (y.spans q.ordered)) ||
      (e.owner == rank && spansMeet sp ((List.range 48).flatMap (fun k => (writesOf (m.pay 6 (0x10000 + k))).map (fun w => (k, w))))))

/-- RESOURCE (R40, R135, R140, R235, R255, R262, R287). -/
def State.resourceFlaws (s : State) (m : Image) (walks : List Walked) : List Flaw :=
  let lo := if m.kind = 3 then (40 - m.sideSram) * 16384 else 0
  let hi := if m.kind = 3 then 655360 else (40 - m.sideSram) * 16384
  let total := (s.hand.images.map (·.length)).sum
  flaw (decide (5 * gib / 2 * s.svc.length < m.cribPeak) || decide (64 ≤ s.hand.images.length) || decide (4 * gib < m.length) ||
    decide (24 * gib < total + m.length)) 10 inTable ++
  m.sections.zipIdx.flatMap (fun x =>
    let p := payload m.bytes x.1
    let bad := match x.1.typ with
      | 2 => decide ((128 - m.sideImem) * 1024 < x.1.size)
      | 3 => decide (m.sideImem * 1024 < x.1.size)
      | 4 => decide (8 < x.1.size) && (decide (field p 0 8 < lo) || decide (hi < field p 0 8 + (x.1.size - 8 + 63) / 64))
      | 6 => (descsOf p).any (descRange (piecesOf p)) || (piecesOf p).any (fun e => !stackOk e.off (64 * e.lines)) ||
          decide (4096 < ((descsOf p).filterMap (fun d => if d.tensor = 0xFFFFFFFF then none else some d.tensor)).eraseDups.length)
      | 7 => decide ((40 - m.sideSram) * 16384 < field p 8 4 + 2 * field p 0xC 2)
      | 8 => reduceResource m s.rank p
      | _ => false
    flaw bad 10 x.2) ++
  walks.flatMap (fun w => flaw (w.finds 10) 10 w.idx)

/-- What the code of an image shows in one schedule, 0 the play schedule and 1 the sweep schedule, for one micro-batch count: of each tile its
first path (log 61). -/
def shownIn (walks : List Walked) (n k : Nat) : List (Nat × Sched) :=
  (walks.filter (fun w => w.mb == n)).filterMap (fun w =>
    match w.paths with
    | [] => none
    | p :: _ => (p.2[k]?).map (fun x => (w.tile, x)))

/-- The route check of an image under nominal timing, by ROUTE section: each schedule, for each count that was walked (R170, R178). -/
def State.routeFlaws (s : State) (m : Image) (walks : List Walked) : List Flaw :=
  let sweep := ((walks.head?.bind (fun w => w.sweeps.head?)).getD none).getD 0
  let envs := (walks.map (·.mb)).eraseDups.flatMap (fun n =>
    [(0, m.beatsFixed + n * m.beatsPerMb), (1, sweep)].map (fun k =>
      ({ tabs := s.routeTabs m, codes := shownIn walks n k.1, len := k.2 } : RouteEnv)))
  let fails := fun (t : Nat) => envs.any (fun e => e.fails t)
  (m.ofType 5).flatMap (fun x => flaw (!(routeTabOf (payload m.bytes x.1)).pass && fails x.1.target) 9 x.2) ++
    walks.flatMap (fun w => flaw ((m.section? 5 w.tile).isNone && fails w.tile) 9 w.idx)

/-- Whether a table of a SIDE image names a move that is no side move of its base (R133, R179). -/
def sideRoutes (base : Option Image) (m : Image) : List Flaw :=
  (m.ofType 5).flatMap (fun x =>
    let p := routeTabOf (payload m.bytes x.1)
    flaw (!(match base.bind (fun b => (b.section? 5 x.1.target).map (fun y => routeTabOf (payload b.bytes y))) with
      | none => p.entries.all (fun w => (outsOf w true ++ outsOf w false).isEmpty)
      | some b => p.within b)) 9 x.2)

/-- Whether a tile's streams do not send exactly LENGTH entries in each micro-batch (R287, R288). -/
def sendsWrong (q : PotPlan) (w : Walked) : Bool :=
  w.paths.any (fun p =>
    let given := match p.2 with | [] => [] | x :: _ => x.given
    (q.lists.filter (fun e => e.tile == w.tile)).any (fun e =>
      ((given.filter (fun g => g.1 == e.gl)).map (·.2)).sum != w.mb * e.length))

/-- SCHEDULE (R119, R133, R142, R148, R152, R154, R178, R179, R287); tiles whose sweep schedules end at different beats break it too
(R327). -/
def State.scheduleFlaws (s : State) (m : Image) (base : Option Image) (walks : List Walked) : List Flaw :=
  if m.kind = 3 then sideRoutes base m
  else
    let q := potPlanOf (m.pay 8 wholeModule)
    walks.flatMap (fun w => flaw (w.finds 9 || sendsWrong q w) 9 w.idx) ++
      (m.ofType 8).flatMap (fun x => flaw (q.lists.any (fun e => !walks.any (fun w => w.tile == e.tile))) 9 x.2) ++
      flaw ((walks.flatMap Walked.sweeps).eraseDups.length > 1) 9 inTable ++ s.routeFlaws m walks

/-- The word after the END that closes the play schedule (R327): of the first END of a tile's code. -/
def afterEnd (code : List W64) : BitVec 14 :=
  match code.findIdx? (fun w => clsOf w == 7 && opOf w == 0xB) with | none => 0 | some i => BitVec.ofNat 14 (i + 1)

/-- An image with what the validator records when it loads: the sweep length and where each tile's sweep schedule begins (R327). -/
def Image.recorded (m : Image) (walks : List Walked) : Image :=
  { m with
    sweepLen := ((walks.head?.bind (fun w => w.sweeps.head?)).getD none).getD 0
    sweepPc := (m.tiles.map (fun t => (t, afterEnd (m.code false t)))).filter (fun e => e.2 != 0) }

/-- Whether a deal names an image. -/
def dealNames (o : Option Deal) (id : W64) : Bool := match o with | none => false | some d => d.d.imageId == id

/-- DUPLICATE: an image of this number is loaded (R140), or a waiting deal names it (R165, R419). -/
def State.duplicate (s : State) (id : W64) : Bool :=
  (s.image id).isSome || dealNames s.hand.waiting id || dealNames s.hand.sideWait id

/-- The validator (R141): the first failure, or the image with what it records. -/
def State.validate (s : State) (b : Bytes) (length : Nat) : Flaw ⊕ Image :=
  let fmt := formatFlaws b length
  match fmt with
  | f :: _ => .inl f
  | [] =>
    let m := imageOf b
    let early := crcFlaws b ++ s.signFlaws m ++ flaw (decide (s.rd R.SP_FW_RUN_VERSION < m.minFw.toNat)) 4 inTable ++ s.baseFlaws m
    match firstFlaw early with
    | some f => .inl f
    | none =>
      let walks := m.walks
      let base := s.image m.base
      match firstFlaw (encodingFlaws m ++ operandFlaws m base walks ++ s.placeFlaws m ++ s.scheduleFlaws m base walks ++
          s.resourceFlaws m walks ++ flaw (s.duplicate m.id) 11 inTable) with
      | some f => .inl f
      | none => .inr (m.recorded walks)

/-! ## The image store (R140, R395) -/

/-- LOAD (R395): the image is copied and validated; its bytes come from host memory (log 223). -/
def execLoad (d : DHdr) (hostAddr length : W64) (img : HostIn) (s : State) : Host.Outcome State Fault Refusal :=
  .next (s.descr d (firstBad d false []) (fun s =>
    if length = 0 then s.done d 0x01
    else if img.err ≠ .none ∨ !img.dirty.isEmpty then
      (s.hostMem d hostAddr.toNat (if img.err = .none then 4 else hostErrCode img.err)).done d 0x43
    else match s.validate (slice img.bytes 0 length.toNat) length.toNat with
      | .inl f => s.complete d.q d.cid 0x44 f.1 f.2
      | .inr m =>
        ({ s with hand := { s.hand with images := s.hand.images ++ [m] } } : State).complete d.q d.cid 0x00 0 m.id.toNat))

/-- UNLOAD (R140, R395). -/
def execUnload (d : DHdr) (imageId : W64) (s : State) : Host.Outcome State Fault Refusal :=
  .next (s.descr d (firstBad d true [(imageId == 0, 8)]) (fun s =>
    if (s.image imageId).isNone then s.complete d.q d.cid 0x45 1 0
    else if dealNames s.hand.running imageId || dealNames s.hand.waiting imageId || dealNames s.hand.sideRun imageId ||
        dealNames s.hand.sideWait imageId || s.hand.images.any (fun m => m.base == imageId) then s.done d 0x46
    else ({ s with hand := { s.hand with
      images := s.hand.images.filter (fun m => m.id != imageId)
      installed := if s.hand.installed = some imageId then none else s.hand.installed
      sideInst := if s.hand.sideInst = some imageId then none else s.hand.sideInst } } : State).done d 0x00))

end Sys2Proof.Machine
end

