-- ==== Sys2Proof/Machine/Startup.lean ====
section
/-! DEFINITION. Start-up and its pins (R534, R540, R544, R545, R550, R551): always-on power-up, the bus converters, BUS_SENSE, MOD_RESET_N, field
power-up, the end of memory training, and a position that fails in service (R219). -/

namespace Sys2Proof.Machine

/-! ## Always-on power-up (R544 step 2, R550) -/

/-- ALWAYS_ON_POWER_UP (R540, R550): the input rises through 20 V. Fuses and ledger stay, with the firmware banks, the pins, the cages and what the
module wrote to the host's memory; XTAL_FIXED_N is sampled. -/
def execAlwaysOnPowerUp (fixedPinLow : Bool) (s : State) : Host.Outcome State Fault Refusal :=
  .next (
    if s.pwr.pstate != .off then s
    else
      let t : State := { State.reset with
        fab := Fabric.reset s.fab.dmap
        host := HostIf.reset s.host.mem s.host.perst
        link := { Links.reset with ports := s.link.ports.mapVals LPort.reset (fun x => { LPort.reset with cage := x.cage }) }
        pwr := { Power.reset with busSense := s.pwr.busSense, modReset := s.pwr.modReset }
        sup := { Supv.reset with banks := s.sup.banks }
        sec := { Security.shipped with
          lifecycle := s.sec.lifecycle, slotHash := s.sec.slotHash, revoked := s.sec.revoked, counter := s.sec.counter, keys := s.sec.keys,
          require := s.sec.require, locked := s.sec.locked, identity := s.sec.identity, half := s.sec.half, gen := s.sec.gen, seq := s.sec.seq,
          recs := s.sec.recs, other := s.sec.other }
        free := s.free
        pending := s.pending }
      t.wr R.CK_STATUS_FIXED (b2n fixedPinLow))

/-! ## Bus converters and BUS_SENSE (R452, R534, R544 steps 4 to 7) -/

/-- CONVERTER_START (R452, R534): the converters start with BUS_SENSE closed, in no state that keeps them off. -/
def execConverterStart (s : State) : Host.Outcome State Fault Refusal :=
  .next (
    if s.pwr.convOn || !s.pwr.busSense || s.pwr.pstate == .off || s.inWatch then s
    else (({ s with pwr := { s.pwr with convOn := true, carrier := 0 } } : State).setConv).bootStart)

/-- BUS_SENSE_OPEN (R534): a supply reset while the converters run. -/
def execBusSenseOpen (cv : Nat) (s : State) : Host.Outcome State Fault Refusal :=
  .next (
    let s : State := { s with pwr := { s.pwr with busSense := false } }
    if s.pwr.convOn then (s.supplyReset 2 cv).wr R.PW_VIN_CV (min cv 0xFFFF) else s)

/-- BUS_SENSE_CLOSE (R534, R544): the carrier wait for it ends. -/
def execBusSenseClose (s : State) : Host.Outcome State Fault Refusal :=
  .next { s with pwr := { s.pwr with busSense := true, carrier := if s.pwr.carrier = 1 then 0 else s.pwr.carrier } }

/-! ## MOD_RESET_N (R550, R551) -/

/-- MOD_RESET_ASSERT (R551): the module is held in reset, with its converters on. -/
def execModResetAssert (s : State) : Host.Outcome State Fault Refusal :=
  .next (
    if s.pwr.modReset then s
    else
      let s : State := { s with pwr := { s.pwr with modReset := true } }
      if s.powered then s.moduleReset else s)

/-- MOD_RESET_RELEASE (R549, R550): start-up resumes at step 6, the crystal being judged again if the always-on domain has run on the trimmed
oscillator. -/
def execModResetRelease (s : State) : Host.Outcome State Fault Refusal :=
  .next (
    if !s.pwr.modReset then s
    else
      let s : State := { s with pwr := { s.pwr with modReset := false } }
      if !s.powered then s
      else if s.on R.CK_STATUS_REF_XTAL then s.bootStart else s.judgeAgain.bootStart)

/-! ## Carrier waits and field power-up (R544 step 11, R545) -/

/-- CARRIER_WAIT with its cause (R544, R558): the first when the wait begins, the others each 60 s. -/
def State.carrierNote (s : State) (cause : Nat) : State :=
  let sec := if s.pwr.carrier = cause then s.pwr.carrierS + 60 else 0
  ({ s with pwr := { s.pwr with carrier := cause, carrierS := sec } } : State).emit 0x0613 [.w4 cause, .w4 sec]

/-- CARRIER_WAIT (R544): for BUS_SENSE while it is open and start-up stands at step 4; for the coolant while field power-up waits. -/
def execCarrierWait (cause : Nat) (s : State) : Host.Outcome State Fault Refusal :=
  .next (
    if cause = 1 then
      (if s.pwr.busSense || s.pwr.convOn || s.pwr.pstate == .off || s.inWatch then s else s.carrierNote 1)
    else if cause = 2 ∧ s.pwr.carrier = 2 ∧ s.powered then s.carrierNote 2
    else s)

/-- Whether the coolant and the leak sensor let field power-up begin (R539, R545): at most 40 °C, and 38 °C once it has waited. -/
def State.coolantOk (s : State) (inletQ4 : Int) : Bool :=
  decide (-80 ≤ inletQ4) && decide (inletQ4 ≤ if s.pwr.carrier = 2 then 152 else 160) && !s.on R.PW_STATE_LEAK

/-- One field at power-up: a field whose fuse trips is lost; cause and peak of that trip are open (R458, R545). -/
def State.firstPower (s : State) (trips : List Nat) (f : Nat) : State :=
  let s := s.powerField f
  if !trips.contains f then s
  else
    let a := s.freeW
    let b := a.2.freeW
    b.2.fieldLost f a.1.toNat b.1.toNat

/-- FIELD_POWER_UP (R545, R544 steps 11 and 12): every field that is not lost is powered, and the neighbour test starts, in stage 3. Where the
coolant is too warm, the carrier wait begins. -/
def execFieldPowerUp (inletQ4 : Int) (trips : List Nat) (s : State) : Host.Outcome State Fault Refusal :=
  .next (
    if s.rd R.HI_STATUS_STAGE ≠ 2 || s.wakeWaits || s.pwr.breach.isSome || !s.powered || s.pwr.modReset then s
    else if !s.coolantOk inletQ4 then (if s.pwr.carrier = 2 then s else s.carrierNote 2)
    else
      let s : State := { s with pwr := { s.pwr with carrier := 0 } }
      let s := s.each (allFields.filter (fun f => !bitOf s.lost f)) (fun s f => s.firstPower trips f)
      (s.wr R.HI_STATUS_STAGE 3).wr R.FB_STATUS_NT_BUSY 1)

/-! ## Memory training and initialisation (R544 steps 14 to 17) -/

/-- Whether the newest POSITIONS record holds a position out of service, and its cause: a mask of 6 bytes, then a cause for each position (R525). -/
def State.heldOut (s : State) (k : Nat) : Option Nat :=
  match s.newestRec 0x000D with
  | none => none
  | some e => if bitOf (field e.2.payload 0 6) k then some (field e.2.payload (6 + k) 1) else none

/-- A stack or slice device that did not train: TRAIN_FAIL, with what it names beside the position left open (R252). -/
def State.trainFail (s : State) (k : Nat) : State := s.freeW.2.emit 0x0401 [.w4 k, .w4 s.freeW.1.toNat]

/-- A position after training (R219, R251, R525): in service when its stack and both devices trained and no record holds it out. Its spare rows
are what the part has left, which no rule states. -/
def State.trained (s : State) (near far : Bool) (k : Nat) : State :=
  let held := s.heldOut k
  let cause := match held with
    | some c => c
    | none => if near && far then 0 else 1
  let s := (s.setI R.DL_PSTAT_NEAR_OK k (b2n (near && held.isNone))).setI R.DL_PSTAT_STOCK_OK k (b2n (far && held.isNone))
  let s := s.setI R.DL_PSTAT_CAUSE k cause
  let s := s.freeW.2.setI R.DL_PSPARE_SPARES k s.freeW.1.toNat
  if cause = 0 && held.isNone then s.fieldBit R.DL_INSVC_LO_POS R.DL_INSVC_HI_POS k true else s

/-- Memory initialisation: every line in service is zero with valid check bytes (R544 step 16). -/
def State.zeroMemory (s : State) : State :=
  let s := { s with pos := s.pos.mapVals Pos.reset (fun p => { p with near := [], nearBad := [], stock := [], stockBad := [], newBad := [] }) }
  s.wr R.DL_STATUS_NPOS s.svc.length

/-- Step 17: the firmware enables every port whose cage holds a pluggable or cable, and each waits for it in MODULE (R351). Stage 5 begins. -/
def State.linkStage (s : State) : State :=
  let s := s.each (allPorts.filter (fun p => (s.lport p).cage && s.portOn p)) (fun s p => (s.setI R.LK_PCTRL_EN p 1).setPort p 1)
  let s := s.wr R.HI_STATUS_STAGE 5
  ({ s with pwr := { s.pwr with stage5At := s.ticks } } : State).stage5Check

/-- MEMORY_TRAINING_DONE (R219, R544 steps 14 to 17): `nearFail` are stacks and `farFail` slice devices, two to a position, that did not train. What a
record holds out is not trained. -/
def execMemoryTrainingDone (nearFail farFail : List Nat) (s : State) : Host.Outcome State Fault Refusal :=
  .next (
    if s.rd R.HI_STATUS_STAGE ≠ 4 || s.wakeWaits || !s.powered || s.pwr.modReset then s
    else
      let fails := (nearFail ++ farFail.map (· / 2)).filter (fun k => (s.heldOut k).isNone)
      let s := s.each fails State.trainFail
      let s := s.each allPos (fun s k => s.trained (!nearFail.contains k) (!farFail.any (fun d => d / 2 == k)) k)
      s.zeroMemory.linkStage)

/-! ## A position that fails (R219, R232) -/

/-- POSITION_FAILURE (R32, R219, R345): a hand in progress is misdealt, a push under way fails, and the position leaves service at the boundary with the cause. -/
def execPositionFailure (pos cause : Nat) (s : State) : Host.Outcome State Fault Refusal :=
  .next (if s.inSvc pos then (s.misdeal 7).pushTorn.leavePos pos cause else s)

end Sys2Proof.Machine
end

