-- ==== Sys2Proof/Machine/Deal.lean ====
section
/-! DEFINITION. DEAL (R396, R404): a deal enters its waiting slot, with the checks of its entry and its batch copy. -/

namespace Sys2Proof.Machine

/-! ## Reasons of a refusal (R399) -/

/-- Whether an image is the base of a SIDE image, or an alternate of its base (R133). -/
def Image.hosts (m x : Image) : Bool := m.id == x.base || (m.kind == 2 && m.base == x.base)

/-- Whether the installed primary image admits a SIDE image (R133, R404). -/
def State.hosted (s : State) (x : Image) : Bool := match s.curImage with | none => false | some m => m.hosts x

/-- Whether a recovery deal may run: on a seat that is torn or takes over with a valid mirror copy, with a gate line kept to apply (R342). -/
def State.mayRecover (s : State) : Bool :=
  (s.on R.NM_UPD_STATUS_TORN || s.on R.NM_UPD_STATUS_MIRROR_VALID) && s.hand.kept.isSome

/-- The first of reasons 3, 5, 6 and 7 that holds when a deal enters (R404). -/
def State.entryReason (s : State) (m : Image) (f : DealD) : Option Nat :=
  let recover := bitOf f.dflags.toNat 0
  if m.kind = 3 then (if !s.hosted m then some 7 else if s.on R.NM_UPD_STATUS_TORN then some 5 else none)
  else if m.mbMax < f.mbCount.toNat then some 3
  else if s.on R.NM_UPD_STATUS_TORN && !recover then some 5
  else if recover && !s.mayRecover then some 6
  else none

/-! ## Entering a slot (R404) -/

/-- Whether the waiting slot of a deal is empty; a deal of an image that is not loaded needs none. -/
def State.slotFree (s : State) (f : DealD) : Bool :=
  match s.image f.imageId with
  | none => true
  | some m => if m.kind = 3 then s.hand.sideWait.isNone else s.hand.waiting.isNone

/-- Whether a DEAL may start now: its slot is empty, deals are not held, and the module is in RUN, for HOLD serves every descriptor but this one
(R404, R445). -/
def State.mayDeal (s : State) (f : DealD) : Bool := !s.on R.HI_CTRL_HOLD_DEALS && s.pwr.pstate == .run && s.slotFree f

/-- The deal enters its slot, and its batch is copied; how the copy ended waits with it (R396, R404). -/
def State.enterDeal (s : State) (d : DHdr) (f : DealD) (side : Bool) (batch : HostIn) : State :=
  let r := if f.batchLen = 0 then (s, 0) else s.dmaIn d f.batchHost.toNat f.batchDev.toNat f.batchLen.toNat batch
  let x : Deal := ⟨d.q, d.cid, f, bitOf d.flags.toNat 1, some r.2⟩
  let s := r.1
  if side then { s with hand := { s.hand with sideWait := some x } } else { s with hand := { s.hand with waiting := some x } }

/-- A well-formed DEAL that starts: refused, completed with NOTHING_DEALT, or entered (R396, R399, R404). A field that does not fit the kind of the image
is INVALID. -/
def State.dealNow (s : State) (d : DHdr) (f : DealD) (batch : HostIn) : State :=
  match s.image f.imageId with
  | none => s.complete d.q d.cid 0x45 1 0
  | some m =>
    let side := m.kind == 3
    if side && f.mbCount != 0 then s.complete d.q d.cid 0x40 0x24 0
    else if side && f.dflags != 0 then s.complete d.q d.cid 0x40 0x26 0
    else match s.entryReason m f with
      | some r => s.complete d.q d.cid 0x45 r 0
      | none =>
        if !side && f.mbCount == 0 && f.dflags == 0 then s.complete d.q d.cid 0x02 0 0
        else s.enterDeal d f side batch

/-- DEAL (R396, R404). -/
def execDeal (d : DHdr) (f : DealD) (batch : HostIn) (s : State) : Host.Outcome State Fault Refusal :=
  .next (
    if !s.mayDeal f then s
    else s.descr d (firstBad d false
      [(f.imageId == 0, 8), (decide (2 ≤ f.dflags.toNat), 0x26), (bitOf f.dflags.toNat 0 && f.mbCount != 0, 0x24)])
      (fun s => s.dealNow d f batch))

end Sys2Proof.Machine
end

