-- ==== Sys2Proof/Machine/Install.lean ====
section
/-! DEFINITION. Installing an image into tiles, routers, dealers, pots and numerics (R143, R181, R233, R244, R268), setting up a hand (R57,
R109, R144, R259, R288, R342), and side jobs at the boundary (R57, R133, R404). -/

namespace Sys2Proof.Machine

/-! ## Code, data and routes (R135, R143, R181) -/

/-- Words written into an instruction memory from a word on; a word of all ones is what an unlisted one reads (R143). -/
def putCode (m : Map W64) (at_ : Nat) (code : List W64) : Map W64 :=
  code.zipIdx.foldl (fun (m : Map W64) e => m.put (at_ + e.2) e.1 (BitVec.allOnes 64)) m

/-- A context's instruction memory takes its code, and all ones beyond it (R135, R143). `keep`: the other context's words stay, as they do when a
SIDE image is installed, and when a primary image is installed whose side job goes on; else no word of an earlier image remains. -/
def Tile.installCode (x : Tile) (m : Image) (side keep : Bool) (t : Nat) : Tile :=
  let w := m.sideWord
  let old := x.imem.filter (fun e => keep && (if side then decide (e.1 < w) else decide (w ≤ e.1)))
  { x with imem := putCode old (if side then w else 0) (m.code side t) }

/-- A router takes its ROUTE tables; without a section it is idle, and the map makes it pass through or a hole (R181 to R183). -/
def Router.install (r : Router) (p : Option Bytes) (tileState : Nat) : Router :=
  let bare := { r with sched := [], phases := [], trees := 0 }
  match tileState, p with
  | 1, _ => { bare with mode := .pass }
  | 2, _ => { bare with mode := .hole }
  | _, none => { bare with mode := .idle }
  | _, some b =>
    { bare with
      mode := if field b 0 1 = 1 then .pass else .scheduled
      sched := (entriesOf b).zipIdx.foldl (fun (m : Map W32) e => m.put e.2 (BitVec.ofNat 32 e.1) 0) []
      phases := phasesOf b
      trees := treesOf b }

/-- A tile's code and routes; a tile without power takes nothing. -/
def State.installTile (s : State) (m : Image) (keep : Bool) (t : Nat) : State :=
  if s.fieldOff (tileField t) then s
  else s.onTile t (fun x =>
    let y := x.installCode m false keep t
    { y with router := y.router.install ((m.section? 5 t).map (payload m.bytes)) (s.tileState t) })

/-- An image's TILE_DATA goes to the SRAM of its tiles, section by section (R137, R138, R143). -/
def State.installData (s : State) (m : Image) : State :=
  s.each (m.ofType 4) (fun s x =>
    let p := payload m.bytes x.1
    if s.fieldOff (tileField x.1.target) then s
    else s.onTile x.1.target (fun y => y.sramWr (64 * field p 0 8) (p.drop 8)))

/-- The tiles that an installation changes: those that hold something, and those that it gives something. -/
def State.installTiles (s : State) (m : Image) : List Nat :=
  (s.tiles.map (·.1) ++ (m.sections.filter (fun x => x.typ == 2 || x.typ == 5)).map (·.target)).eraseDups

/-! ## Dealers and numerics (R233, R244, R253, R268) -/

/-- A dealer takes its list and its pieces, whose versions are 0 (R233, R244). -/
def Dealer.install (d : Dealer) (b : Bytes) : Dealer :=
  { d with
    descs := descsOf b, loopFirst := field b 8 4, loopEnd := field b 0xC 4, sweepFirst := field b 0x10 4, pieces := piecesOf b }

/-- The scale state of a new tensor table: INIT_CODE, an empty history and no floor (R268); pins are cleared with it (R281), a silent run stays. -/
def newScale (m : Map Scale) (ts : List Tensor) : Map Scale :=
  ts.zipIdx.foldl (fun (m : Map Scale) e =>
    m.ins e.2 { m.get e.2 Scale.reset with hist := [], code := e.1.initCode.toNat, floor := 0, floorHands := 0 })
    (m.mapVals Scale.reset (fun x => { x with pinned := false, pinCode := 0 }))

/-- The census lines of both parities with no counts, each with the code in force (R258, R263): the collector has written none of the new plan's. -/
def State.freshLines (s : State) : State :=
  s.each s.planLines (fun s p =>
    if s.fieldOff (tileField p.1) then s
    else
      let hist := match s.tensor p.2.2 with | none => false | some t => t.flag 0
      let code := if hist then (s.num.scale.get p.2.2 Scale.reset).code else 0
      let b := zeros 44 ++ leBytes 1 code
      s.onTile p.1 (fun x => (x.sramWr (64 * s.censusLine p.2.1 0) b).sramWr (64 * s.censusLine p.2.1 1) b))

/-- The tensor table and the census plan of an image. A different TENSOR_DIGEST clears the scale state with SCALE_RESET; the first table after a
reset finds it clear (R268). -/
def State.installTensors (s : State) (m : Image) : State :=
  let b := m.pay 7 wholeModule
  let ts := tensorsOf b
  let old := s.num.digest
  let s := { s with num := { s.num with
    tensors := ts, plan := planOf b, censusLine := field b 8 4, censusLines := field b 0xC 2, digest := some m.digest
    scale := if old = some m.digest then s.num.scale else newScale s.num.scale ts } }
  let s := s.wr R.NM_STATUS_NTENSOR (min ts.length 0xFFFF)
  let s := if old.isSome && old != some m.digest then s.scaleReset else s
  s.freshLines

/-- The pot plan of an image, if it has one (R283). -/
def Image.plan (m : Image) : Option PotPlan := (m.section? 8 wholeModule).map (fun x => potPlanOf (payload m.bytes x))

/-- Whether an image admits a side job: none of its side partition fields is 0 (R135). -/
def Image.admitsSide (m : Image) : Bool := m.sideImem != 0 && m.sideSram != 0 && m.sideBanks != 0 && m.sideQueue != 0

/-- Whether a SIDE image fits a primary image: it admits a side job, and it is the base, or an alternate of the base whose footprint holds that of
the SIDE image (R133, R135). -/
def Image.fits (m x : Image) : Bool := m.admitsSide && (m.id == x.base || (m.hosts x && x.tiles.all m.tiles.contains))

/-- Whether the side job that runs goes on under a primary image. -/
def State.sideStays (s : State) (m : Image) : Bool :=
  match s.hand.sideRun with
  | none => false
  | some d => (s.image d.d.imageId).any m.fits

/-- Installation of a primary image (R143). A deal that names the installed image needs none. -/
def State.install (s : State) (m : Image) : State :=
  if s.hand.installed = some m.id then s
  else
    let s := (s.each (s.installTiles m) (fun s t => s.installTile m (s.sideStays m) t)).installData m
    let s := s.each (allPos.filter s.inSvc) (fun s k => s.onPos k (fun p => { p with dealer := p.dealer.install (m.pay 6 (0x10000 + k)) }))
    let s := { s with hand := { s.hand with installed := some m.id, plan := m.plan } }
    s.installTensors m

/-! ## Setting up a hand (R57, R109, R144, R288) -/

/-- A tile's counts and cursors of a hand, as at its first beat (R127, R288, R291, R374). -/
def Tile.forHand (x : Tile) : Tile :=
  { x with cursors := [], corr := [], lnorm := 0, flags := 0, maxLine := none, mtxBeats := 0, sideBeats := 0, recov := [] }

/-- Every tile before a hand: none of the previous footprint belongs to the hand any more, and both buffers are empty (R74). Entries of the side
context's in the tile queue may be popped by now. -/
def Tile.idle (x : Tile) : Tile :=
  { x with
    prim := { x.prim.halt with running := false, ended := false, closing := false }
    bufA := WBuf.empty, bufB := WBuf.empty, useA := 0, useB := 0, popped := []
    queue := x.queue.map (fun q => { q with ready := 0 }) }

/-- A tile of the footprint set up for the play schedule (R57, R144), or, for a recovery deal, at the word where its sweep schedule begins (R327,
R342). A tile with no code is set up too and runs nothing (R138). -/
def State.setUpTile (s : State) (m : Image) (recover : Bool) (t : Nat) : State :=
  let code := !(m.code false t).isEmpty
  let pc := if recover then m.sweepPc.get t 0 else 0
  let s := s.onTile t (fun x =>
    let y := x.forHand.setUp pc (seedGen m.seed s.hand.hand t) (0, 8 - m.sideBanks) 0
    { y with prim := { y.prim with running := code && !recover, ended := code && recover } })
  if code && !recover then s.bind t 0 else s

/-- A dealer set up for the hand (R57, R233): its list from the first descriptor, its generator loaded. -/
def State.setUpDealer (s : State) (m : Image) (k : Nat) : State :=
  if (s.posn k).dealer.descs.isEmpty then s.setI R.DL_PDESC_INDEX k 0
  else
    (s.setI R.DL_PDESC_INDEX k 0).onPos k (fun p => { p with dealer := { p.dealer with
      gen := seedGen m.seed s.hand.hand (0x20000 + k), pass := 0, vrec := [], gathers := [], gathered := [], opened := [], nextId := 0 } })

/-- The generators of the side contexts that run are loaded for the hand (R57), from the header of the SIDE image. -/
def State.loadSideGens (s : State) : State :=
  match s.hand.sideInst.bind s.image with
  | none => s
  | some m =>
    s.each ((s.tiles.filter (fun e => e.2.side.running)).map (·.1)) (fun s t =>
      s.onTile t (fun x => { x with side := { x.side with gen := seedGen m.seed s.hand.hand (t + 0x10000) } }))

/-- The next deal's hand is set up; START begins it (R30 order 6, R209). A recovery deal takes no number: it applies the kept gate line (R326,
R342). -/
def State.setUpHand (s : State) (m : Image) (d : Deal) : State :=
  let recover := bitOf d.d.dflags.toNat 0
  let kept := if recover then s.hand.kept else none
  let s := { s with
    hand := { s.hand with
      hand := match kept with | none => s.hand.next | some r => r.hand
      running := some d, waiting := none, sweep := false, contributed := recover, outcome := none, posted := false, misdealt := false
      result := kept, epochs := [], potNonfin := [] }
    num := { s.num with collected := false }
    fab := { s.fab with started := false, watched := false } }
  let s := { s with
    tiles := s.tiles.mapVals Tile.reset Tile.idle
    pos := s.pos.mapVals Pos.reset (fun p => { p with pot := PotAdder.reset }) }
  let s := s.each m.tiles (fun s t => s.setUpTile m recover t)
  let s := s.each allPos (fun s k => s.setUpDealer m k)
  match kept with
  | none => s.loadSideGens
  | some r => s.writeGateLine r

/-! ## Side jobs (R133, R143, R404) -/

/-- Whether a SIDE image fits the installed primary image (R133, R135). -/
def State.sideFits (s : State) (x : Image) : Bool := s.curImage.any (fun m => m.fits x)

/-- A running side job that the installed primary image no longer admits ends (R133). -/
def State.sideValid (s : State) : State :=
  match s.hand.sideRun with
  | none => s
  | some d => match s.image d.d.imageId with
    | none => s.endSide
    | some x => if s.sideFits x then s else s.endSide

/-- The trees that an image makes a tile a member of (R181). -/
def Image.treeBits (m : Image) (t : Nat) : BitVec 256 :=
  match m.section? 5 t with | none => 0 | some e => treesOf (payload m.bytes e)

/-- The tiles are members of the trees of the installed image and of those of the SIDE image (R181, R203). -/
def State.joinTrees (s : State) (x : Image) : State :=
  s.each ((s.tiles.map (·.1) ++ x.tiles).eraseDups) (fun s t =>
    let base := match s.curImage with | none => 0 | some m => m.treeBits t
    if s.fieldOff (tileField t) || s.tileState t == 1 || s.tileState t == 2 then s
    else s.onTile t (fun y => { y with router := { y.router with trees := base ||| x.treeBits t } }))

/-- Installation of a SIDE image touches only the side partition (R143): its code and its data, and no word of an earlier side job remains on
any tile. Its routes use the moves of the base's entries (R179), and its tiles join its trees (R203). -/
def State.installSide (s : State) (x : Image) : State :=
  let s := ((s.each ((s.tiles.map (·.1) ++ x.tiles).eraseDups) (fun s t =>
    if s.fieldOff (tileField t) then s else s.onTile t (fun y => y.installCode x true true t))).installData x).joinTrees x
  { s with hand := { s.hand with sideInst := some x.id } }

/-- The side contexts of a SIDE image's tiles start: registers as at their own start, generators loaded (R57, R109, R260). A tile with no code runs
nothing (R138). -/
def State.startSide (s : State) (x : Image) (d : Deal) : State :=
  let s := { s with hand := { s.hand with sideWait := none, sideRun := some d } }
  s.each x.tiles (fun s t =>
    if (x.code true t).isEmpty then s
    else s.onTile t (fun y => { y with
      side := { Ctx.reset with gen := seedGen x.seed s.hand.hand (t + 0x10000), running := true }
      queue := y.queue.filter (fun q => !q.side) }))

end Sys2Proof.Machine
end

