-- ==== Sys2Proof/Machine/Boundary.lean ====
section
/-! DEFINITION. The hand boundary (R30): posting, the firmware switch, the reports of the hand, tests and retirement, positions that leave,
the view, seats, and the next deal. -/

namespace Sys2Proof.Machine

/-! ## Order 2: the firmware switch (R498, R511) -/

/-- The payload of a BANK record (R525). -/
def bankPayload (bank : Nat) (img : FwImage) : Bytes :=
  leBytes 1 bank ++ leBytes 1 img.svn ++ zeros 2 ++ leBytes 4 img.fwver.toNat ++ leBytes 32 img.keyHash.toNat

/-- A switched firmware has reported ready: the bank pointer is committed, FW_SWITCHED, and then the fuses (R498, R511). The boundary's time in ms is a
measured one. -/
def State.switched (s : State) (img : FwImage) : State :=
  let b := s.otherBank
  let old := s.rd R.SP_FW_RUN_VERSION
  let s := s.ledger 0x0002 (bankPayload b img)
  let hint := (s.newestRec 0x0002).map (fun e => BitVec.ofNat 48 e.1)
  let s := { s with sec := { s.sec with runSlot := img.slot, hint := hint } }
  let s := (s.wr R.HI_STATUS_BANK b).wr R.SP_FW_RUN_VERSION img.fwver.toNat
  let ms := s.freeW
  (ms.2.emit 0x0A29 [.w4 old, .w4 img.fwver.toNat, .w4 ms.1.toNat]).unstage.fuseAdvance img

/-- A pending switch (R498): the supervisor resets into the staged image. One that does not verify or does not report ready is on trial until
FW_FALLBACK, and the boundary goes on after it. -/
def State.firmware2 (s : State) (ready : Bool) : State :=
  match s.sup.stagedImg with
  | none => s
  | some img =>
    if !s.on R.SP_STATUS_SWITCH_PEND then s
    else
      let s := s.switchReset 5
      if ready && s.fwVerify img == 0 then s.switched img
      else ({ s with sup := { s.sup with trial := true, down := true } } : State).wr R.SP_STATUS_UP 0

/-! ## The hand's reports (R173, R190, R240, R355, R488) -/

/-- The retries of a hand by link, those of both directions together (R173). -/
def State.linkRetries (s : State) : Map Nat :=
  s.tiles.foldl (fun (m : Map Nat) e => e.2.router.retries.foldl (fun (m : Map Nat) r =>
    m.put (portLink e.1 r.1) (m.get (portLink e.1 r.1) 0 + r.2) 0) m) []

/-- FB_SLIP_TOTAL and SLIP_REPORT (R190). Of fields that share the highest count no rule chooses one. -/
def State.slipReport (s : State) : State :=
  let l := allFields.map (fun f => s.getI R.FB_FSLIP_SLIPS f)
  let sum := min l.sum (2 ^ 32 - 1)
  let top := l.foldl max 0
  let s := s.wr R.FB_SLIP_TOTAL_TOTAL sum
  match l.zipIdx.filter (fun e => e.1 == top) with
  | [e] => if sum = 0 then s else s.emit 0x030A [.w4 sum, .w4 e.2]
  | _ => if sum = 0 then s else s.freeW.2.emit 0x030A [.w4 sum, .w4 s.freeW.1.toNat]

/-- The events with which the boundary reports a hand: retries of mesh links, frames resent, dealers that were late. -/
def State.lateReports (s : State) : State :=
  let s := s.each s.linkRetries (fun s e => s.emit 0x0304 [.w4 e.1, .w4 e.2])
  let s := s.each (allPorts.filter (fun p => s.getI R.LK_PRETRY_COUNT p != 0)) (fun s p => s.emit 0x0506 [.w4 p, .w4 (s.getI R.LK_PRETRY_COUNT p)])
  s.each (allPos.filter (fun k => s.getI R.DL_PLATE_BEATS k != 0)) (fun s k => s.emit 0x040B [.w4 k, .w4 (s.getI R.DL_PLATE_BEATS k)])

/-- Links whose retries passed FB_LINK_LIMIT are to be marked dead (R173). -/
def State.deadLinks (s : State) : State :=
  let lim := s.rd R.FB_LINK_LIMIT_LIMIT
  let l := (s.linkRetries.filter (fun e => decide (lim < e.2))).map (fun e => (e.1, 1))
  { s with fab := { s.fab with dead := s.fab.dead ++ l } }

/-- The count record of the events that the error history could not take (R488). -/
def State.countRecord (s : State) : State :=
  let n := s.hand.unwritten
  let s : State := { s with hand := { s.hand with ledgerErrs := 0, unwritten := 0 } }
  if n = 0 then s else s.ledger 0x0006 (leBytes 8 s.hand.hand.toNat ++ leBytes 4 n)

/-! ## Closing the hand -/

/-- Whether an outcome raises the next hand number: APPLIED, SKIPPED or TORN of a deal that took one (R326). -/
def State.raises (s : State) : Bool :=
  !s.recovering && (match s.hand.outcome with | some (c, _) => c == 0x03 || c == 0x04 || c == 0x48 | none => false)

/-- A tile after its hand: stand-in mode and a checker out of service end, with their bits of STAT (R126, R130). Retries start again. -/
def Tile.closed (x : Tile) : Tile :=
  { x with recov := [], standin := none, chkOut := false, router := { x.router with retries := [] } }

/-- A pot adder after its hand: rounds and crib records go; a mirror copy that is under way stays. -/
def PotAdder.closed (p : PotAdder) : PotAdder :=
  { PotAdder.reset with mirrorSum := p.mirrorSum, mirrorTries := p.mirrorTries, nextCrec := p.nextCrec }

/-- The flags at the trump root (R207). -/
def State.clearFlags (s : State) : State := ((s.wr R.FB_TRUMP_FLAGS_NONFIN 0).wr R.FB_TRUMP_FLAGS_RENEGE 0).wr R.FB_TRUMP_FLAGS_FAULT 0

/-- What was kept for the hand that ended goes (R207, R245, R326, R367); a request of a later hand that is parked here stays (R365). -/
def State.dropHand (s : State) : State :=
  let s := { s with
    hand := { s.hand with
      next := if s.raises then s.hand.hand + 1 else s.hand.next
      running := none, outcome := none, posted := false, contributed := false, sweep := false, misdealt := false, result := none
      epochs := [], potNonfin := [], deltaHeld := false, deltaSeq := s.hand.deltaSeq.filter (fun e => e.1 % 2 == 1) }
    link := { s.link with
      floods := [], tricks := []
      parked := s.link.parked.filter (fun q => decide (s.hand.hand.toNat < q.req.hand.toNat)) }
    fab := { s.fab with tricks := [], watched := false, started := false }
    pwr := { s.pwr with foldSeen := 0 } }
  { s with
    tiles := s.tiles.mapVals Tile.reset Tile.closed
    pos := s.pos.mapVals Pos.reset (fun p => { p with
      pot := p.pot.closed
      dealer := { p.dealer with vrec := [], gathers := [], gathered := [], opened := [] } }) }

/-- The hand that ended is closed, once: its census is collected, its reports leave (R263, R279). -/
def State.closeHand (s : State) : State :=
  if s.hand.running.isNone then s
  else ((s.slipReport.lateReports.deadLinks).countRecord.dropHand)

/-! ## Order 3: tests, retirement and the defect map (R120, R196, R231, R473) -/

/-- Eight free bytes take the place of a word that the pattern test has written. -/
def State.testWord (s : State) (t w : Nat) : State :=
  let r := s.freeL
  r.2.onTile t (fun x => x.sramWr (8 * w) (leBytes 8 r.1.toNat))

/-- The pattern test of a tile's words that were uncorrectable during the hand (R120): what it leaves in them no rule states. -/
def State.patternTest (s : State) (fails : List Nat) (t : Nat) : State :=
  let l := (s.tile t).ueHand
  let s := s.onTile t (fun x => { x with ueHand := [] })
  if l.isEmpty then s
  else if fails.contains t then s.suspect t 5
  else s.each l (fun s w => s.testWord t w)

/-- The tests of rows that held an uncorrectable line (R231): a row that fails is repaired, or its position leaves service. The spares left are what
the part has. -/
def State.rowTest (s : State) (r : Nat × Nat × Nat × Bool) : State :=
  match r with
  | (k, bank, row, spare) =>
    if !s.inSvc k || (s.posn k).newBad.isEmpty then s
    else if spare then (s.freeW.2.setI R.DL_PSPARE_SPARES k s.freeW.1.toNat).emit 0x0407 [.w4 k, .w4 bank, .w4 row]
    else (s.emit 0x0408 [.w4 k, .w4 bank]).leavePos k 2

/-- The rows' tests are over. -/
def State.rowTests (s : State) (l : List (Nat × Nat × Nat × Bool)) : State :=
  let s := s.each l State.rowTest
  { s with pos := s.pos.mapVals Pos.reset (fun p => { p with newBad := [] }) }

/-- The defect map with what the boundary adds: retired tiles, verdicts of an unfold test, dead links and lost fields; no tile is made better (R194,
R196). -/
def State.mapWith (s : State) (tiles links : List Nat) : DefectMap :=
  let d := s.fab.dmap
  { d with
    lost := d.lost ||| BitVec.ofNat 48 s.lost
    tiles := (tiles.map (fun t => (t, 3)) ++ s.fab.found).foldl (fun (m : Map Byte) (e : Nat × Nat) =>
      if stateRank (m.get e.1 0) < stateRank (BitVec.ofNat 8 e.2) then m.put e.1 (BitVec.ofNat 8 e.2) 0 else m) d.tiles
    linkDead := links.foldl setIns d.linkDead }

/-- The new dead links, each once, with its cause. -/
def State.newDead (s : State) : List (Nat × Nat) :=
  s.fab.dead.foldl (fun (a : List (Nat × Nat)) e => if s.linkDead e.1 || a.any (fun x => x.1 == e.1) then a else a ++ [e]) []

/-- Bring the map up to date, if it changes: TILE_RETIRED, LINK_DEAD, DMAP_UPDATED, GOOD_LOW (R173, R194, R196, R473). -/
def State.mapUpdate (s : State) (tiles : List Nat) : State :=
  let links := s.newDead
  let before := s.goodTiles
  let d := s.mapWith tiles (links.map (·.1))
  let s := { s with fab := { s.fab with dead := [], found := [] } }
  if d = s.fab.dmap then s
  else
    let s := s.each links (fun s e => s.emit 0x0306 [.w4 e.1, .w4 e.2])
    let s := s.dmapSet d
    let s := s.each tiles (fun s t => s.emit 0x0A09 [.w4 t, .w4 s.goodTiles])
    s.goodLow before

/-- Tiles marked suspect that are still good are retired (R30 order 3, R473); the bits of STAT that the boundary clears go (R126). -/
def State.retire (s : State) : State :=
  let l := (s.tiles.filter (fun e => bitOf e.2.stat.toNat 0 && s.tileState e.1 == 0)).map (·.1)
  let s := s.mapUpdate l
  { s with tiles := s.tiles.mapVals Tile.reset (fun x => { x with stat := x.stat &&& 0xFFFFFC00 }) }

/-! ## Positions and the view (R223, R224, R232) -/

/-- The positions that leave service at this boundary. -/
def State.leavers (s : State) : List Nat := s.svc.filter (fun k => (s.posn k).leave != 0)

/-- Payload of a POSITIONS record: the positions out of service as a 48-bit mask, then a cause byte for each position (R525). -/
def State.positionsPayload (s : State) : Bytes :=
  leBytes 6 (2 ^ 48 - 1 - s.rd64 R.DL_INSVC_LO_POS R.DL_INSVC_HI_POS) ++ allPos.map (fun k => BitVec.ofNat 8 (s.getI R.DL_PSTAT_CAUSE k))

/-- A position leaves service with all that it held (R232). -/
def State.losePos (s : State) (k : Nat) : State :=
  let c := (s.posn k).leave % 16
  let s := (s.setPos k Pos.reset).fieldBit R.DL_INSVC_LO_POS R.DL_INSVC_HI_POS k false
  (s.setI R.DL_PSTAT_CAUSE k c).emit 0x0409 [.w4 k, .w4 c]

/-- The listed bytes of a range of near memory. -/
def Map.part (m : Map Byte) (lo hi : Nat) : Map Byte := m.filter (fun e => decide (lo ≤ e.1) && decide (e.1 < hi))

/-- Bytes of a range that moved to a position, with the poison of its lines: what it held there goes (R229). -/
def State.placeRange (s : State) (k lo hi : Nat) (b : Map Byte) (bad : List Nat) : State :=
  let in_ := fun (l : Nat) => decide (lo / 64 ≤ l) && decide (l < hi / 64)
  s.onPos k (fun p => { p with
    near := (p.near.part 0 lo) ++ b ++ (p.near.part hi (2 ^ 48))
    nearBad := (bad.filter in_).foldl setIns (p.nearBad.filter (fun l => !in_ l)) })

/-- Every image leaves the image store (R232). -/
def State.unloadAll (s : State) : State := { s with hand := { s.hand with images := [], installed := none, sideInst := none } }

/-- Positions leave service: they are lost, the record is committed, the system tables and the dump move off them, every image is unloaded (R232). -/
def State.losePositions (s : State) : State :=
  let l := s.leavers
  if l.isEmpty then s
  else
    let lo := s.lowPos
    let hi := s.highPos
    let tables := (s.posn lo).near.part bandOff imageOff
    let dump := (s.posn hi).near.part dumpOff (96 * gib)
    let badLo := (s.posn lo).nearBad
    let badHi := (s.posn hi).nearBad
    let s := s.each l State.losePos
    let s := (s.wr R.DL_STATUS_NPOS s.svc.length).ledger 0x000D s.positionsPayload
    let s := if s.lowPos = lo then s else s.placeRange s.lowPos bandOff imageOff tables badLo
    let s := if s.highPos = hi then s else s.placeRange s.highPos dumpOff (96 * gib) dump badHi
    s.unloadAll

/-- The views change with the positions in service and with DL_CTRL.MODE (R223): DL_MAP_GEN rises, MAP_CHANGED. -/
def State.viewChange (s : State) (lost : Bool) : State :=
  let mode := s.rd R.DL_CTRL_MODE
  if !lost && mode == s.rd R.DL_STATUS_MODE_ACT then s
  else
    let s := s.wr R.DL_STATUS_MODE_ACT mode
    let g := (s.rd R.DL_MAP_GEN_GEN + 1) % 2 ^ 32
    (s.wr R.DL_MAP_GEN_GEN g).emit 0x040A [.w4 g, .w4 mode, .w4 s.svc.length]

/-- The geometry table is rebuilt where GENERATION or the excluded fields have changed since it was made, or a position has left (R198, R232). -/
def State.geomCheck (s : State) (lost : Bool) : State :=
  let h := s.nearRd s.lowPos bandOff 32
  if lost || field h 8 8 != s.fab.dmap.generation.toNat || field h 16 8 != (s.folded ||| s.lost) then s.geomBuild else s

/-- Positions and views, before order 5. -/
def State.positions (s : State) : State :=
  let lost := !s.leavers.isEmpty
  ((s.losePositions).viewChange lost).geomCheck lost

/-! ## Order 5: the next deal (R31, R399, R404, R459) -/

/-- The fields that the tiles of an image lie in. -/
def Image.fields (m : Image) : List Nat := (m.tiles.map tileField).eraseDups

/-- Whether a router passes straight through: its tile is PASS, or the image sets it so (R181, R183). -/
def State.straight (s : State) (m : Image) (t : Nat) : Bool :=
  s.tileState t == 1 || (m.section? 5 t).any (fun e => field (payload m.bytes e) 0 1 == 1)

/-- Whether the way out of a tile by a side crosses a dead link before it comes to a router with a schedule (R173, R183). -/
def State.deadWay (s : State) (m : Image) (side : Nat) : Nat → Nat → Bool
  | 0, _ => false
  | n + 1, t => s.linkDead (linkOf t side) || (match neighbour t side with
    | none => false
    | some u => s.straight m u && State.deadWay s m side n u)

/-- Whether an image's routes use a dead link (R173). -/
def State.usesDead (s : State) (m : Image) : Bool :=
  !s.fab.dmap.linkDead.isEmpty && (m.ofType 5).any (fun x =>
    let sides := ((entriesOf (payload m.bytes x.1)).flatMap (fun e => (List.range 7).flatMap (fun o =>
      if srcOf e o = 0 then [] else [o, srcOf e o - 1]))).eraseDups.filter (· < 4)
    sides.any (fun d => s.deadWay m d 48 x.1.target))

/-- Whether an image uses a retired tile, a lost field, a field with a pending fold request, or a dead link (R31, R173). -/
def State.barred (s : State) (m : Image) : Bool :=
  m.tiles.any (fun t => s.tileState t != 0) || m.fields.any (fun f => bitOf s.lost f || s.foldPending f) || s.usesDead m

/-- Whether an image has a STREAMS section or a pot on a position out of service (R219). -/
def State.missesPos (s : State) (m : Image) : Bool :=
  allPos.any (fun k => !s.inSvc k && ((m.section? 6 (0x10000 + k)).isSome ||
    (match m.plan with | none => false | some p => p.pots.any (fun e => e.kind == 0 && e.stacks.contains k))))

/-- Whether a plan's seats differ from the table's, or the table does not stand (R287, R377). -/
def State.badSeats (s : State) (m : Image) : Bool :=
  match m.plan with
  | none => false
  | some p => p.nseat != s.rd R.LK_SEATS_S || (decide (1 < p.nseat) && !s.on R.LK_STATUS_TABLE_OK)

/-- The first reason of R399 for which the waiting deal is refused at order 5. -/
def State.boundaryReason (s : State) (d : Deal) (m : Image) : Option Nat :=
  let recover := bitOf d.d.dflags.toNat 0
  if s.barred m then some 2
  else if s.badSeats m then some 4
  else if s.on R.NM_UPD_STATUS_TORN && !recover then some 5
  else if recover && !s.mayRecover then some 6
  else if s.missesPos m then some 8
  else none

/-- The waiting deal completes without running. -/
def State.dropWaiting (s : State) (d : Deal) (status detail : Nat) (result : Nat := 0) : State :=
  ({ s with hand := { s.hand with waiting := none } } : State).complete d.q d.cid status detail result

/-- Folds and unfolds for the next image (R30 order 5, R459). Fields of the image that are already folded with a fold request have refused it. -/
def State.foldFor (s : State) (m : Image) (b : BoundaryIn) : State :=
  let s := s.each (allFields.filter (fun f => m.excl.getLsbD f && s.railOn f)) State.fold
  s.each (m.fields.filter (fun f => bitOf s.folded f && !bitOf s.lost f && !s.foldPending f))
    (fun s f => s.unfold f b.unfoldFails b.unfoldBad b.unfoldTrips)

/-- What an unfold found goes into the map (R188, R458). -/
def State.unfoldMap (s : State) : State := s.mapUpdate []

/-- What the code will report over the lines that the exports after this hand read (log 234). -/
def State.expect (s : State) (e : SeatEcc) : State := { s with hand := { s.hand with exports := e } }

/-- The deal is taken: fields fold and unfold, the image is installed, the hand is set up. A batch copy that failed completes it with its status, and the
number it took (R326, R404). -/
def State.takeDeal (s : State) (d : Deal) (m : Image) (b : BoundaryIn) : State :=
  let s := (s.foldFor m b).unfoldMap
  if s.barred m then s.dropWaiting d 0x45 2
  else match d.copied with
    | some 0 => ((s.install m).setUpHand m d).expect b.exports
    | some c => s.dropWaiting d c 0 s.hand.next.toNat
    | none => s.dropWaiting d 0x43 0 s.hand.next.toNat

/-- Order 5 (R30): the waiting deal is checked and taken. -/
def State.nextDeal (s : State) (b : BoundaryIn) : State :=
  match s.hand.waiting with
  | none => s
  | some d => match s.image d.d.imageId with
    | none => s.dropWaiting d 0x45 1
    | some m => match s.boundaryReason d m with
      | some r => s.dropWaiting d 0x45 r
      | none => s.takeDeal d m b

/-- The waiting side deal starts once its base or an alternate of it is installed (R404). A SIDE image that the alternate has no room for ends at once
(R133). -/
def State.nextSide (s : State) : State :=
  match s.hand.sideWait, s.hand.sideRun with
  | some d, none =>
    let drop := fun (status detail : Nat) => ({ s with hand := { s.hand with sideWait := none } } : State).complete d.q d.cid status detail 0
    (match s.image d.d.imageId with
    | none => drop 0x45 1
    | some x =>
      if !s.hosted x then s
      else if s.on R.NM_UPD_STATUS_TORN then drop 0x45 5
      else if !s.sideFits x then drop 0x49 0
      else if s.barred x then drop 0x45 2
      else if s.missesPos x then drop 0x45 8
      else match d.copied with
        | some 0 => (s.installSide x).startSide x d
        | some c => drop c 0
        | none => drop 0x43 0)
  | _, _ => s

/-! ## HAND_BOUNDARY -/

/-- Whether a boundary may run: no hand, or one whose outcome is known, with the supervisor there to post it and no firmware on trial (R30, R477). -/
def State.atBoundary (s : State) : Bool :=
  s.on R.HI_STATUS_READY && !s.fatalNow && s.supvRuns && s.powered && !s.sup.trial && (s.hand.running.isNone || s.hand.outcome.isSome)

/-- Order 1: the hand's outcome is posted, a neighbour test under way ends first (R191), and its census is collected (R279). -/
def State.closing (s : State) : State :=
  let s := s.ntWait.postOutcome
  if s.collectDue then s.collectNow else s

/-- Orders 3 and 4: reports, tests, retirement, positions, views and seats. -/
def State.beforeDeal (s : State) (b : BoundaryIn) : State :=
  let s := s.closeHand.clearFlags
  let s := s.each (s.tiles.map (·.1)) (fun s t => s.patternTest b.tileFails t)
  let s := (s.rowTests b.rowFails).retire.positions
  (s.wr R.PT_SEATS_S (s.rd R.LK_SEATS_S)).applyPend.sscBoundary

/-- The boundary after the firmware switch: orders 3 to 6. Folds and unfolds for the deal change the excluded fields, and the geometry table follows
(R198; log 231). -/
def State.afterSwitch (s : State) (b : BoundaryIn) : State :=
  let s := s.beforeDeal b
  let s := (if s.pwr.pstate = .run then s.nextDeal b else s).geomCheck false
  let s := s.sideValid
  if s.pwr.pstate = .run then s.nextSide else s

/-- HAND_BOUNDARY (R30). Collection of the census completes before a firmware switch (R279). -/
def execHandBoundary (b : BoundaryIn) (s : State) : Host.Outcome State Fault Refusal :=
  .next (
    if !s.atBoundary then s
    else
      let s := s.closing.firmware2 b.fwReady
      if s.sup.trial then s else s.afterSwitch b)

end Sys2Proof.Machine
end

