-- ==== Sys2Proof/Machine/LinkPacket.lean ====
section
/-! DEFINITION. Packets that arrive on a link (R359 to R368): forwarding, gathers with their relays and parking, state copies,
contributions, mirrored pots, pushes, seals, table tricks, floods, and the table trick timeout (R370). -/

namespace Sys2Proof.Machine

/-! ## Arrival and forwarding (R359, R361, R362) -/

/-- The class of a packet type (R360): 0 TRUMP, 1 CONTROL, 2 GATHER, 3 REDUCE; none for a reserved type. -/
def typeClass (typ : Nat) : Option Nat :=
  if [0x30, 0x31, 0x32, 0x33].contains typ then some 0
  else if [0x03, 0x20, 0x21, 0x22, 0x23, 0x24].contains typ then some 1
  else if [0x01, 0x02, 0x04, 0x05].contains typ then some 2
  else if [0x10, 0x11, 0x12].contains typ then some 3
  else none

/-- STRAY_LINK (R359). -/
def State.strayLink (s : State) (h : LHdr) : State := s.emit 0x050F [.w4 h.src, .w4 h.typ, .w4 h.tgen.toNat]

/-- Forward a packet (R361, R362): HOPS rises, its VL follows the dimensions and datelines of its ports. -/
def State.forwardOn (s : State) (h : LHdr) (body : Bytes) : State :=
  let U := s.portsUp (s.getI R.LK_ROUTE_PORTS h.dest)
  if 32 ≤ h.hops + 1 then s.emit 0x0508 [.w4 h.src, .w4 h.dest]
  else if U.isEmpty then s.emit 0x0507 [.w4 h.dest, .w4 h.typ]
  else
    let p := U.getD ((h.src ^^^ h.dest ^^^ h.cls) % U.length) 0
    let vl := if s.getI R.LK_PCTRL_DATELINE p = 1 then 1
      else if s.getI R.LK_PCTRL_DIM p ≠ s.getI R.LK_PCTRL_DIM h.port then 0 else h.vl
    s.linkOut ⟨p, h.cls, vl, h.dest, h.src, h.typ, h.hops + 1, h.tgen, body⟩

/-- Whether a receiver takes a packet: on a port that is up, of its table's generation, with a length, of a known type in its class
(R359); a FOREIGN port and a seat that stands alone carry HELLO only (R353, R377). -/
def State.linkGood (s : State) (h : LHdr) : Bool :=
  !s.alone && h.tgen.toNat == s.rd R.LK_TGEN_GEN && 0 < h.len && h.len ≤ 1024 && typeClass h.typ == some h.cls

/-- A packet of a type arrives: discarded with STRAY_LINK, forwarded toward its seat, or taken here (R359, R361). On a port that is not
up nothing arrives. -/
def State.arrive (s : State) (h : LHdr) (typ : Nat) (body : Bytes) (run : State → State) : State :=
  if !s.portUp h.port then s
  else if !s.linkGood h || h.typ != typ then s.strayLink h
  else if h.dest ≠ s.rank then s.forwardOn h body
  else run s

/-- PACKET_FORWARD (R361): a packet for another seat; one for this seat is a command of its own type. -/
def execPacketForward (h : LHdr) (body : Bytes) (s : State) : Host.Outcome State Fault Refusal := .next (s.arrive h h.typ body id)

/-! ## Gathers (R245 to R247, R364, R365) -/

/-- Lines that a request may ask for (R360). -/
def linesOk (n : Nat) : Bool := decide (0 < n) && decide (n ≤ 64)

/-- Whether a relay can answer a request (R364): the lines that it asks for came to this seat's own piece in this hand with a recorded
version. -/
def State.relays (s : State) (r : GReq) : Bool :=
  s.on R.LK_CTRL_RELAY && !stagePiece r.shard && ((s.dealer r.pos).vrec.find? r.shard.toNat).isSome &&
    (List.range r.lines).all (fun i => (s.dealer r.pos).gathered.any (fun g =>
      g.1 == r.shard && decide (g.2.1 ≤ r.first + i) && decide (r.first + i < g.2.1 + g.2.2)))

/-- The owner, or the mirror that a retry goes to, serves a request from its own piece, or parks it (R246, R365); with no tracking entry
free it waits too (R239). A piece that the seat
does not have, and lines beyond its end, draw no response. -/
def State.serveOwn (s : State) (h : LHdr) (r : GReq) (ecc : LineEcc) : State :=
  match (s.dealer r.pos).piece r.shard with
  | none => s
  | some p =>
    if !s.inSvc r.pos || p.lines < r.first + r.lines then s
    else if !s.waitsAt p r && s.hasEntry r.pos then s.serve h.src r p p.version ecc
    else
      let s := if stagePiece r.shard && decide (p.version.toNat < r.hand.toNat) then s.sendTo h.src 1 0x03 (greqBytes r) else s
      { s with link := { s.link with parked := s.link.parked ++ [⟨h.src, r, ecc⟩] } }

/-- GATHER_REQ (R246, R364, R365). -/
def execGatherReq (h : LHdr) (r : GServe) (s : State) : Host.Outcome State Fault Refusal :=
  let ecc := r.ecc
  let r := r.req
  .next (
    if s.portUp h.port && s.linkGood h && h.typ == 1 && h.dest != s.rank && linesOk r.lines && s.relays r then
      match (s.dealer r.pos).piece r.shard, (s.dealer r.pos).vrec.find? r.shard.toNat with
      | some p, some v => s.serve h.src r p v ecc
      | _, _ => s.forwardOn h (greqBytes r)
    else s.arrive h 0x01 (greqBytes r) (fun s => if linesOk r.lines then s.serveOwn h r ecc else s.strayLink h))

/-- The open gather that a response answers: its tag, shard and lines are the request's (R247). -/
def State.openGather (s : State) (r : GReq) : Option OpenGather :=
  (s.dealer r.pos).gathers.find? (fun g => g.tag == r.tag && g.shard == r.shard && g.first == r.first && g.lines == r.lines)

/-- Write the lines of a gather response into the local piece, and remember those that came with a recorded version (R246, R364). -/
def State.gathered (s : State) (k : Nat) (g : OpenGather) (p : Piece) (version poison : W64) (data : Bytes) : State :=
  let s := s.each (List.range g.lines) (fun s i =>
    s.putLine k (p.off + 64 * (g.first + i)) (slice data (64 * i) 64) (bitOf poison.toNat i))
  s.onDealer k (fun d => { d.setVersion g.shard version with
    gathers := d.gathers.erase g
    opened := d.opened.map (fun o => if o.id = g.by_ then { o with ver := some version } else o)
    gathered := if bitOf g.flags.toNat 0 then d.gathered ++ [(g.shard, g.first, g.lines)] else d.gathered })

/-- Whether a response brings another version than an earlier one of the same GATHER: the module never mixes two versions of a piece within one hand
(R245; log 212). -/
def State.mixes (s : State) (k : Nat) (g : OpenGather) (version : W64) : Bool :=
  (s.dealer k).opened.any (fun o => o.id == g.by_ && o.ver.any (· != version))

/-- The bytes of a gather response after its header (R360). -/
def grspBytes (r : GReq) (version poison : W64) (data : Bytes) : Bytes :=
  greqBytes r ++ leBytes 8 version.toNat ++ leBytes 8 poison.toNat ++ zeros 8 ++ data

/-- GATHER_RSP (R245 to R247): a response for the hand in progress that answers an open request is version-checked and written; any other
is discarded. -/
def execGatherRsp (h : LHdr) (r : GReq) (version poison : W64) (data : Bytes) (s : State) : Host.Outcome State Fault Refusal :=
  .next (s.arrive h 0x02 (grspBytes r version poison data) (fun s =>
    match s.openGather r with
    | none => s
    | some g =>
      if r.hand ≠ s.hand.hand ∨ s.hand.outcome.isSome then s
      else match (s.dealer r.pos).piece r.shard with
        | none => s.streamFault r.pos
        | some p =>
          if s.mixes r.pos g version then s.staleDeal r.pos r.shard version
          else match s.versions r.pos g.flags r.shard version with
            | none => s.staleDeal r.pos r.shard version
            | some t => (t.gathered r.pos g p version poison data).pump r.pos))

/-- PARKED (R365): the request no longer times out under R247. -/
def execParked (h : LHdr) (r : GReq) (s : State) : Host.Outcome State Fault Refusal :=
  .next (s.arrive h 0x03 (greqBytes r) (fun s =>
    if (s.openGather r).isNone || r.hand != s.hand.hand then s
    else s.onDealer r.pos (fun d => { d with gathers := d.gathers.map (fun g => if g.tag = r.tag then { g with parked := true } else g) })))

/-- PARK_TIMEOUT: a parked request waited for LK_PARK_TO (R365). -/
def execParkTimeout (pos : Nat) (tag : W32) (s : State) : Host.Outcome State Fault Refusal :=
  .next (match (s.dealer pos).gathers.find? (fun g => g.tag == tag && g.parked) with
    | none => s
    | some g => s.gatherFail pos g)

/-! ## State copies (R343, R397) -/

/-- Bytes of a slice of a position that a push writes now (R341): the copy that is not active. -/
def State.pushCopy (s : State) : Nat := match s.link.mirror.active with | some 0 => 1 | _ => 0
/-- Slice offset of a mirror copy: 0 A, 1 B (R341). -/
def State.copyBase (s : State) (c : Nat) : Nat := gib * (if c = 0 then s.rd R.NM_MIRROR_A_GIB else s.rd R.NM_MIRROR_B_GIB)

/-- Whether a line that is asked for lies in a mirror copy that a push is writing (R343). -/
def State.pushedAt (s : State) (a : Nat) : Bool :=
  s.link.mirror.hand.isSome && (match s.loc a with
    | some (.stock k o) => decide (s.copyBase s.pushCopy ≤ o) && decide (o < s.copyBase s.pushCopy + s.link.mirror.wrote.get k 0)
    | _ => false)

/-- COPY_REQ (R343): the source seat reads the lines and answers, between hands with no deal queued; an address in error or a gated block
draws no response, with the event of R218 or R439. -/
def execCopyReq (h : LHdr) (addr : W64) (lines : Nat) (tag : W32) (ecc : LineEcc) (s : State) : Host.Outcome State Fault Refusal :=
  let a := addr.toNat
  let body := copyReqBody a lines tag.toNat
  .next (s.arrive h 0x04 body (fun s =>
    if !linesOk lines then s.strayLink h
    else if !s.between || (List.range lines).any (fun i => s.pushedAt (a + 64 * i)) then s
    else match s.reach a (64 * lines) false with
      | .bad x => s.addrFault x 10 h.src
      | .gated x => s.gatedFault x 10 h.src
      | .ok =>
        let s := s.viewEcc a (64 * lines) ecc (requester 10 h.src)
        let bad := (List.range lines).foldl (fun n i => n + b2n (s.poisoned (a + 64 * i)) * 2 ^ i) 0
        s.sendTo h.src 2 0x05 (body ++ leBytes 8 bad ++ zeros 24 ++ s.devRd a (64 * lines))))

/-- COPY_RSP (R397): the lines of one part are written, poisoned ones as poisoned; the last part completes the descriptor. -/
def execCopyRsp (h : LHdr) (addr : W64) (lines : Nat) (tag : W32) (poison : W64) (data : Bytes) (s : State) :
    Host.Outcome State Fault Refusal :=
  let i := tag.toNat
  let body := copyReqBody addr.toNat lines i ++ leBytes 8 poison.toNat ++ zeros 24 ++ data
  .next (s.arrive h 0x05 body (fun s =>
    match s.host.copies.find? (fun j => j.src == h.src && j.left.contains i && j.srcAddr + 4096 * i == addr.toNat &&
        min 64 (j.lines - 64 * i) == lines) with
    | none => s
    | some j =>
      let dst := j.dstAddr + 4096 * i
      let s := s.devWr dst (slice data 0 (64 * lines))
      let bad := onesOf poison.toNat lines
      let s := s.each bad (fun s l => s.poison (dst + 64 * l))
      let j' : CopyJob := { j with left := j.left.erase i, poisoned := j.poisoned || !bad.isEmpty }
      let rest := s.host.copies.erase j
      if j'.left.isEmpty then
        ({ s with host := { s.host with copies := rest } } : State).complete j.q j.cid 0x00 (b2n j'.poisoned) 0
      else { s with host := { s.host with copies := rest ++ [j'] } }))

/-! ## Contributions, seals and resends (R291, R301, R303, R305) -/

/-- LINK_CONTRIB: a subpacket from another seat goes to the adder of its first entry's stack; one of a pot that the plan lacks is stray
at any adder (R291, R303). -/
def execLinkContrib (h : LHdr) (p : CPkt) (s : State) : Host.Outcome State Fault Refusal :=
  .next (s.arrive h 0x10 (hdrBytes p.hdr ++ leBytes 4 p.crc.toNat ++ p.payload) (fun s =>
    match s.potEnt p.hdr.pot.toNat with
    | none => s.stray p
    | some pe => s.accept (pe.stackOf (p.hdr.start.toNat / 1024)) p))

/-- SEAL_NOTICE: records of the round of this hand are freed (R305). -/
def execSealNotice (h : LHdr) (hand : W64) (pot round stack : Nat) (s : State) : Host.Outcome State Fault Refusal :=
  .next (s.arrive h 0x20 (sealBody hand pot round stack) (fun s =>
    if hand = s.hand.hand then s.sealFree pot round h.src stack else s))

/-- RESEND_REQ: the controller sends the record again (R303). -/
def execResendReq (h : LHdr) (hand : W64) (crec : W32) (cstack : EccAt) (s : State) : Host.Outcome State Fault Refusal :=
  .next (s.arrive h 0x21 (resendBody hand crec.toNat cstack.at_) (fun s =>
    if hand = s.hand.hand ∧ s.hand.running.isSome then s.resend cstack.at_ crec.toNat cstack.ecc else s))

/-! ## Mirrored pots (R310) -/

/-- The seal checksum of a pot's copy on this seat (R310). -/
def State.copySum (s : State) (pe : PotEnt) : W64 :=
  let unit := if s.ordered then 8192 else 4096
  pe.stacks.foldl (fun a k => a ^^^ crc64 ((pe.unitsOn k).zipIdx.flatMap (fun e =>
    s.nearRd k (pe.mirrorBase.toNat * 4096 + e.2 * unit) (4 * min 1024 (pe.entries - 1024 * e.1))))) 0

/-- Whether a packet of mirrored hi words is a pot's last: the last unit of the last stack that has any (R310). -/
def State.lastUnit (s : State) (pe : PotEnt) (stack off : Nat) : Bool :=
  let unit := if s.ordered then 8192 else 4096
  match (pe.stacks.filter (fun k => !(pe.unitsOn k).isEmpty)).getLast? with
  | none => false
  | some k => k == stack && off == pe.mirrorBase.toNat * 4096 + ((pe.unitsOn k).length - 1) * unit

/-- MIRROR_POT: the mirror seat stores the hi words; after a pot's last it computes the checksum of what it stored and returns it
(R310). -/
def execMirrorPot (h : LHdr) (hand : W64) (pot stack : Nat) (off : W64) (data : Bytes) (s : State) : Host.Outcome State Fault Refusal :=
  let body := leBytes 8 hand.toNat ++ leBytes 4 pot ++ leBytes 1 stack ++ zeros 3 ++ leBytes 8 off.toNat ++ zeros 24 ++ data
  .next (s.arrive h 0x11 body (fun s =>
    if !s.inSvc stack || bandOff < off.toNat + data.length then s
    else
      let s := s.nearWr stack off.toNat data
      match s.potEnt pot with
      | none => s
      | some pe =>
        if s.lastUnit pe stack off.toNat then
          s.sendTo h.src 1 0x22 (leBytes 8 hand.toNat ++ leBytes 4 pot ++ leBytes 8 (s.copySum pe).toNat)
        else s))

/-- MIRROR_SUM: the owner compares the mirror's checksum with its own; the first difference sends the pot once more, the second is
SEAL_MISMATCH, whose place no rule gives for it (R310). -/
def execMirrorSum (h : LHdr) (hand : W64) (pot : Nat) (sum : W64) (s : State) : Host.Outcome State Fault Refusal :=
  .next (s.arrive h 0x22 (leBytes 8 hand.toNat ++ leBytes 4 pot ++ leBytes 8 sum.toNat) (fun s =>
    match s.potEnt pot with
    | none => s
    | some pe =>
      if hand ≠ s.hand.hand ∨ pe.owner ≠ s.rank ∨ pe.kind ≠ 0 ∨ s.hand.misdealt ∨ !s.sealedAll pot pe then s
      else
        let own := pe.stacks.foldl (fun (a : W64) k => a ^^^ (s.posn k).pot.mirrorSum.get pot 0) 0
        let k := pe.stacks.headD 0
        let n := (s.posn k).pot.mirrorTries.get pot 0
        if own = sum ∨ 2 ≤ n then s
        else
          let s := s.onPot k (fun a => { a with mirrorTries := a.mirrorTries.ins pot (n + 1) })
          if n = 0 then (s.emit 0x020C [.w4 pot]).mirrorSend pot pe
          else (s.freeW.2.emit 0x020D [.w4 pot, .w4 s.freeW.1.toNat]).misdeal 7))

/-! ## Pushes at the mirror seat and their acknowledge (R340, R341) -/

/-- Whether two ranges meet. -/
def meets (a n b m : Nat) : Bool := decide (a < b + m) && decide (b < a + n)

/-- Whether this seat can host copies of `total` bytes on a position (R341). -/
def State.canHost (s : State) (k total : Nat) : Bool :=
  let n := roundUp total gib
  let a := s.copyBase 0
  let b := s.copyBase 1
  s.on R.NM_MIRROR_HOST_EN && s.inSvc k && !meets a n b n && decide (a + n ≤ 192 * gib) && decide (b + n ≤ 192 * gib) &&
    !(s.dealer k).outRuns.any (fun r => meets a n (64 * r.1) (64 * (r.2 - r.1)) || meets b n (64 * r.1) (64 * (r.2 - r.1)))

/-- The 18 bytes of PUSH_ACK (R360). -/
def pushAckBody (hand : W64) (pos status : Nat) (sum : W64) : Bytes :=
  leBytes 8 hand.toNat ++ leBytes 1 pos ++ leBytes 1 status ++ leBytes 8 sum.toNat

/-- Change what this seat hosts. -/
def State.onMirror (s : State) (f : Mirror → Mirror) : State := { s with link := { s.link with mirror := f s.link.mirror } }

/-- A push toward this seat fails: the active copy stays; the owner is told (R341). -/
def State.hostFail (s : State) (src : Nat) (hand : W64) (pos : Nat) (sum : W64) : State :=
  (s.onMirror (fun m => { m with hand := none, done := [], wrote := [] })).sendTo src 1 0x23 (pushAckBody hand pos 1 sum)

/-- A position's part of a push is written: with its checksum right it is acknowledged, and once every position's is, the written copy
becomes the active one (R341). -/
def State.hostDone (s : State) (src : Nat) (hand : W64) (pos total : Nat) (sum : W64) : State :=
  let c := s.pushCopy
  let own := crc64 (s.stockRd pos (s.copyBase c) total)
  if own ≠ sum then (s.hostFail src hand pos own).mirrorInvalid hand src
  else
    let s := s.sendTo src 1 0x23 (pushAckBody hand pos 0 own)
    let done := setIns s.link.mirror.done pos
    if s.svc.all done.contains then
      let s := s.onMirror (fun m => { m with active := some c, hand := none, done := [], wrote := [] })
      (s.wr R.NM_UPD_STATUS_MIRROR_VALID 1).wr64 R.NM_MIRROR_HAND_LO_HAND R.NM_MIRROR_HAND_HI_HAND hand.toNat
    else s.onMirror (fun m => { m with done := done })

/-- PUSH (R341): lines of the owner's state set go, in their order, into the copy that is not active. `total` is the bytes of the
owner's state set on the position and `sum` the checksum that the owner sent (log 53). -/
def execPush (h : LHdr) (hand : W64) (pos space : Nat) (off version : W64) (data : Bytes) (total : Nat) (sum : W64) (s : State) :
    Host.Outcome State Fault Refusal :=
  let body := leBytes 8 hand.toNat ++ leBytes 1 pos ++ leBytes 1 space ++ zeros 6 ++ leBytes 8 off.toNat ++ leBytes 8 version.toNat ++
    zeros 16 ++ data
  .next (s.arrive h 0x12 body (fun s =>
    let m := s.link.mirror
    let fresh := m.hand != some hand || m.owner != h.src
    let s := if fresh then s.onMirror (fun m => { m with hand := some hand, owner := h.src, done := [], wrote := [], versions := [] }) else s
    if !s.canHost pos total then s.hostFail h.src hand pos sum
    else
      let n := s.link.mirror.wrote.get pos 0
      let s := s.stockWr pos (s.copyBase s.pushCopy + n) data
      let s := s.onMirror (fun m => { m with
        wrote := m.wrote.put pos (n + data.length) 0
        versions := if space = 1 then m.versions ++ [(pos, off.toNat, version)] else m.versions })
      if total ≤ n + data.length then s.hostDone h.src hand pos total sum else s))

/-- PUSH_ACK (R340, R341): the push ends once every position is acknowledged; STATUS 1 is a push that failed. -/
def execPushAck (h : LHdr) (hand : W64) (pos status : Nat) (sum : W64) (s : State) : Host.Outcome State Fault Refusal :=
  .next (s.arrive h 0x23 (pushAckBody hand pos status sum) (fun s =>
    match s.hand.push with
    | none => s
    | some e =>
      if e.hand ≠ hand ∨ !s.hand.pushOpen.contains pos then s
      else if status ≠ 0 then s.pushFail hand
      else
        let rest := s.hand.pushOpen.erase pos
        if rest.isEmpty then
          ({ s with hand := { s.hand with push := none, pushOpen := [] } } : State).wr R.NM_UPD_STATUS_PUSH_BUSY 0
        else { s with hand := { s.hand with pushOpen := rest } }))

/-! ## Table tricks and floods (R366 to R371) -/

/-- Whether a tree of the table is enabled on this seat. -/
def State.treeOn (s : State) (tree : Nat) : Bool := decide (0xF0 ≤ tree) && s.getI R.LK_TREE_EN (tree - 0xF0) == 1

/-- TRICK_UP: a child's value of the open instance. A gate record whose CRC fails is a lost contribution (R321, R366). -/
def execTrickUp (h : LHdr) (tree : Nat) (fn : BitVec 4) (inst : Nat) (v : W32) (rec : Option GateRec) (s : State) :
    Host.Outcome State Fault Refusal :=
  .next (s.arrive h 0x30 (trickBody tree fn inst v rec) (fun s =>
    let n := tree - 0xF0
    let t := s.ttrick n
    if !s.treeOn tree || !(s.childPorts n).contains h.port || inst != t.inst % 65536 then s
    else match rec with
      | none => if tree = 0xFF then s else (s.setTTrick n { t with kids := t.kids.ins h.port v }).tableTry tree
      | some r =>
        if tree ≠ 0xFF ∨ r.crc ≠ crc32c (gateBytes r) then s
        else (s.setTTrick n { t with kidRecs := t.kidRecs.filter (fun e => e.1 != h.port) ++ [(h.port, r)] }).tableTry tree))

/-- A flood that arrives: the first copy in a hand is delivered and sent on; a later one is discarded; one past the table of floods
misdeals the hand (R367). -/
def State.floodIn (s : State) (h : LHdr) (typ : Nat) (body : Bytes) (run : State → State) : State :=
  if !s.portUp h.port then s
  else if !s.linkGood h || h.typ != typ || h.dest != 0xFFFF then s.strayLink h
  else if s.seen typ body then s
  else
    let r := s.flood h.src typ (h.hops + 1) body (some h.port)
    if r.2 then r.1.misdeal 7 else run r.1

/-- TRICK_RES: a flooded result is delivered once (R366, R367). -/
def execTrickRes (h : LHdr) (tree : Nat) (fn : BitVec 4) (inst : Nat) (v : W32) (rec : Option GateRec) (s : State) :
    Host.Outcome State Fault Refusal :=
  .next (s.floodIn h 0x31 (trickBody tree fn inst v rec) (fun s =>
    if !s.treeOn tree || inst != (s.ttrick (tree - 0xF0)).inst % 65536 then s
    else match rec with
      | none => if tree = 0xFF then s else s.tableResult tree v none
      | some r => if tree ≠ 0xFF ∨ r.crc ≠ crc32c (gateBytes r) then s else s.tableResult tree v (some r)))

/-- LINK_RENEGE: a flooded renege of the hand in progress acts as one at this seat (R368). -/
def execLinkRenege (h : LHdr) (hand : W64) (layer tile : Nat) (seat : RenegeBy) (s : State) : Host.Outcome State Fault Refusal :=
  .next (s.floodIn h 0x32 (leBytes 8 hand.toNat ++ leBytes 2 layer ++ leBytes 2 tile ++ leBytes 2 seat.seat) (fun s =>
    if hand = s.hand.hand then s.renegeIn seat.seat tile layer seat.round seat.ecc else s))

/-- MISDEAL: a flooded misdeal of the hand in progress stops it; its outcome names the cause that was received (R371, R556). -/
def execLinkMisdeal (h : LHdr) (hand : W64) (origin cause : Nat) (s : State) : Host.Outcome State Fault Refusal :=
  .next (s.floodIn h 0x33 (misdealBody hand origin cause) (fun s =>
    let s := s.emit 0x050B [.w8 hand.toNat, .w4 origin, .w4 cause]
    if hand ≠ s.hand.hand ∨ s.hand.running.isNone ∨ s.hand.outcome.isSome ∨ s.hand.sweep then s
    else
      let s := s.stopWafer
      { s with hand := { s.hand with misdealt := true, outcome := some (0x47, cause) } }))

/-- TABLE_TRICK_TIMEOUT: no result came within LK_TRICK_TO of this seat's own contribution. The suspect is the first CHILDREN port that
never contributed; where there is none, no rule says what the event names (R370). The timer pauses while the wafer stands. -/
def execTableTrickTimeout (tree : Nat) (s : State) : Host.Outcome State Fault Refusal :=
  let n := tree - 0xF0
  let t := s.ttrick n
  .next (
    if !s.treeOn tree || (t.own.isNone && t.ownRec.isNone) || !s.moving then s
    else
      let late := (s.childPorts n).find? (fun p =>
        if tree = 0xFF then !(t.kidRecs.any (fun e => e.1 == p)) else (t.kids.find? p).isNone)
      let s := match late with
        | some p => s.emit 0x0509 [.w4 tree, .w4 p, .w4 (s.getI R.LK_PSTAT_PEER_RANK p)]
        | none => let a := s.freeW; let b := a.2.freeW; b.2.emit 0x0509 [.w4 tree, .w4 a.1.toNat, .w4 b.1.toNat]
      if s.hand.running.isNone || s.hand.outcome.isSome then s
      else if s.hand.sweep then s.tear
      else s.misdealNow 5)

end Sys2Proof.Machine
end

