-- ==== Sys2Proof/Machine/Dispatch.lean ====
section
/-! DEFINITION. The dispatch: one arm for each constructor of Instr, each a direct call of that command's meaning. -/

namespace Sys2Proof.Machine

def exec (i : Instr) (s : State) : Host.Outcome State Fault Refusal :=
  match i with
  | .handBoundary b => Sys2Proof.Machine.execHandBoundary b s
  | .handWatchdog => Sys2Proof.Machine.execHandWatchdog s
  | .add at_ f => Sys2Proof.Machine.execAdd at_ f s
  | .sub at_ f => Sys2Proof.Machine.execSub at_ f s
  | .and at_ f => Sys2Proof.Machine.execAnd at_ f s
  | .or at_ f => Sys2Proof.Machine.execOr at_ f s
  | .xor at_ f => Sys2Proof.Machine.execXor at_ f s
  | .shl at_ f => Sys2Proof.Machine.execShl at_ f s
  | .shr at_ f => Sys2Proof.Machine.execShr at_ f s
  | .sar at_ f => Sys2Proof.Machine.execSar at_ f s
  | .mul at_ f => Sys2Proof.Machine.execMul at_ f s
  | .addi at_ f => Sys2Proof.Machine.execAddi at_ f s
  | .li at_ f => Sys2Proof.Machine.execLi at_ f s
  | .ldw at_ f ecc => Sys2Proof.Machine.execLdw at_ f ecc s
  | .stw at_ f ecc => Sys2Proof.Machine.execStw at_ f ecc s
  | .mfs at_ f => Sys2Proof.Machine.execMfs at_ f s
  | .beq at_ f => Sys2Proof.Machine.execBeq at_ f s
  | .bne at_ f => Sys2Proof.Machine.execBne at_ f s
  | .blt at_ f => Sys2Proof.Machine.execBlt at_ f s
  | .bltu at_ f => Sys2Proof.Machine.execBltu at_ f s
  | .jmp at_ f => Sys2Proof.Machine.execJmp at_ f s
  | .loop at_ f => Sys2Proof.Machine.execLoop at_ f s
  | .waitb at_ f => Sys2Proof.Machine.execWaitb at_ f s
  | .phase at_ f => Sys2Proof.Machine.execPhase at_ f s
  | .wopen at_ f => Sys2Proof.Machine.execWopen at_ f s
  | .wclose at_ f => Sys2Proof.Machine.execWclose at_ f s
  | .sigchk at_ f => Sys2Proof.Machine.execSigchk at_ f s
  | .endOp at_ f => Sys2Proof.Machine.execEndOp at_ f s
  | .nop at_ f => Sys2Proof.Machine.execNop at_ f s
  | .mrun at_ f ecc bufEcc ups => Sys2Proof.Machine.execMrun at_ f ecc bufEcc ups s
  | .mfill at_ f ecc => Sys2Proof.Machine.execMfill at_ f ecc s
  | .mown at_ f => Sys2Proof.Machine.execMown at_ f s
  | .queueSlotFreed tile side => Sys2Proof.Machine.execQueueSlotFreed tile side s
  | .fillBufferRelease tile buf => Sys2Proof.Machine.execFillBufferRelease tile buf s
  | .vAdd at_ f up => Sys2Proof.Machine.execVAdd at_ f up s
  | .vSub at_ f up => Sys2Proof.Machine.execVSub at_ f up s
  | .vMul at_ f up => Sys2Proof.Machine.execVMul at_ f up s
  | .vFma at_ f up => Sys2Proof.Machine.execVFma at_ f up s
  | .vMin at_ f up => Sys2Proof.Machine.execVMin at_ f up s
  | .vMax at_ f up => Sys2Proof.Machine.execVMax at_ f up s
  | .vAbs at_ f up => Sys2Proof.Machine.execVAbs at_ f up s
  | .vNeg at_ f up => Sys2Proof.Machine.execVNeg at_ f up s
  | .vDiv at_ f up => Sys2Proof.Machine.execVDiv at_ f up s
  | .vSqrt at_ f up => Sys2Proof.Machine.execVSqrt at_ f up s
  | .vRcp at_ f up => Sys2Proof.Machine.execVRcp at_ f up s
  | .vRsq at_ f up => Sys2Proof.Machine.execVRsq at_ f up s
  | .vEq at_ f => Sys2Proof.Machine.execVEq at_ f s
  | .vLt at_ f => Sys2Proof.Machine.execVLt at_ f s
  | .vLe at_ f => Sys2Proof.Machine.execVLe at_ f s
  | .vUnord at_ f => Sys2Proof.Machine.execVUnord at_ f s
  | .iadd at_ f up => Sys2Proof.Machine.execIadd at_ f up s
  | .isub at_ f up => Sys2Proof.Machine.execIsub at_ f up s
  | .iand at_ f up => Sys2Proof.Machine.execIand at_ f up s
  | .ior at_ f up => Sys2Proof.Machine.execIor at_ f up s
  | .ixor at_ f up => Sys2Proof.Machine.execIxor at_ f up s
  | .ishl at_ f up => Sys2Proof.Machine.execIshl at_ f up s
  | .ishr at_ f up => Sys2Proof.Machine.execIshr at_ f up s
  | .isar at_ f up => Sys2Proof.Machine.execIsar at_ f up s
  | .imin at_ f up => Sys2Proof.Machine.execImin at_ f up s
  | .imax at_ f up => Sys2Proof.Machine.execImax at_ f up s
  | .rsum at_ f up => Sys2Proof.Machine.execRsum at_ f up s
  | .rmax at_ f up => Sys2Proof.Machine.execRmax at_ f up s
  | .ramax at_ f up => Sys2Proof.Machine.execRamax at_ f up s
  | .cvt at_ f up => Sys2Proof.Machine.execCvt at_ f up s
  | .mov at_ f up => Sys2Proof.Machine.execMov at_ f up s
  | .sel at_ f up => Sys2Proof.Machine.execSel at_ f up s
  | .perm at_ f up => Sys2Proof.Machine.execPerm at_ f up s
  | .bcast at_ f up => Sys2Proof.Machine.execBcast at_ f up s
  | .draw at_ f up => Sys2Proof.Machine.execDraw at_ f up s
  | .qpop at_ f up => Sys2Proof.Machine.execQpop at_ f up s
  | .ld at_ f ecc up => Sys2Proof.Machine.execLd at_ f ecc up s
  | .st at_ f => Sys2Proof.Machine.execSt at_ f s
  | .send at_ f ecc => Sys2Proof.Machine.execSend at_ f ecc s
  | .recv at_ f => Sys2Proof.Machine.execRecv at_ f s
  | .pots at_ f ecc => Sys2Proof.Machine.execPots at_ f ecc s
  | .trick at_ f => Sys2Proof.Machine.execTrick at_ f s
  | .patrolScrub tile corrected => Sys2Proof.Machine.execPatrolScrub tile corrected s
  | .externalAccess who tile off write len ecc => Sys2Proof.Machine.execExternalAccess who tile off write len ecc s
  | .fbTileInj who tile v => Sys2Proof.Machine.execFbTileInj who tile v s
  | .correctionDelivery tile pos => Sys2Proof.Machine.execCorrectionDelivery tile pos s
  | .load d hostAddr length img => Sys2Proof.Machine.execLoad d hostAddr length img s
  | .unload d imageId => Sys2Proof.Machine.execUnload d imageId s
  | .deal d f batch => Sys2Proof.Machine.execDeal d f batch s
  | .write d hostAddr devAddr length data => Sys2Proof.Machine.execWrite d hostAddr devAddr length data s
  | .read d hostAddr devAddr length ecc err => Sys2Proof.Machine.execRead d hostAddr devAddr length ecc err s
  | .copy d srcRank srcAddr dstAddr lines => Sys2Proof.Machine.execCopy d srcRank srcAddr dstAddr lines s
  | .copyTimeout q cid => Sys2Proof.Machine.execCopyTimeout q cid s
  | .descNop d => Sys2Proof.Machine.execDescNop d s
  | .sqDoorbell q v => Sys2Proof.Machine.execSqDoorbell q v s
  | .cqDoorbell q v => Sys2Proof.Machine.execCqDoorbell q v s
  | .exportDoorbell ring v => Sys2Proof.Machine.execExportDoorbell ring v s
  | .ringEnable who ring v => Sys2Proof.Machine.execRingEnable who ring v s
  | .ringDisable who ring v => Sys2Proof.Machine.execRingDisable who ring v s
  | .censusRingWrite => Sys2Proof.Machine.execCensusRingWrite s
  | .deltaRingWrite => Sys2Proof.Machine.execDeltaRingWrite s
  | .coalTimer ring => Sys2Proof.Machine.execCoalTimer ring s
  | .msixUnmask vec => Sys2Proof.Machine.execMsixUnmask vec s
  | .apertureRead off size ecc => Sys2Proof.Machine.execApertureRead off size ecc s
  | .apertureWrite off size v => Sys2Proof.Machine.execApertureWrite off size v s
  | .apertureReadTimeout off => Sys2Proof.Machine.execApertureReadTimeout off s
  | .mbH2sSend pair w => Sys2Proof.Machine.execMbH2sSend pair w s
  | .mbS2hSend pair w => Sys2Proof.Machine.execMbS2hSend pair w s
  | .mbH2sAck pair code => Sys2Proof.Machine.execMbH2sAck pair code s
  | .mbS2hAck pair code => Sys2Proof.Machine.execMbS2hAck pair code s
  | .mbTimeout pair fromSupv => Sys2Proof.Machine.execMbTimeout pair fromSupv s
  | .flrPcieA => Sys2Proof.Machine.execFlrPcieA s
  | .flrPcieB => Sys2Proof.Machine.execFlrPcieB s
  | .perstAssert ep => Sys2Proof.Machine.execPerstAssert ep s
  | .perstRelease ep => Sys2Proof.Machine.execPerstRelease ep s
  | .pcieLinkChange ep speed width => Sys2Proof.Machine.execPcieLinkChange ep speed width s
  | .routerEntry tile => Sys2Proof.Machine.execRouterEntry tile s
  | .flitReceive tile port side err => Sys2Proof.Machine.execFlitReceive tile port side err s
  | .flitRefusal tile port side near => Sys2Proof.Machine.execFlitRefusal tile port side near s
  | .seamTimeout link => Sys2Proof.Machine.execSeamTimeout link s
  | .ntStart who r => Sys2Proof.Machine.execNtStart who r s
  | .stop cause => Sys2Proof.Machine.execStop cause s
  | .stall cause tick => Sys2Proof.Machine.execStall cause tick s
  | .unstall tick => Sys2Proof.Machine.execUnstall tick s
  | .start tick => Sys2Proof.Machine.execStart tick s
  | .freeze target hop => Sys2Proof.Machine.execFreeze target hop s
  | .step n => Sys2Proof.Machine.execStep n s
  | .thaw tick => Sys2Proof.Machine.execThaw tick s
  | .flag tile flags hop => Sys2Proof.Machine.execFlag tile flags hop s
  | .renege seat tile layer => Sys2Proof.Machine.execRenege seat tile layer s
  | .contrib tree member fn v hop => Sys2Proof.Machine.execContrib tree member fn v hop s
  | .result tree hop => Sys2Proof.Machine.execResult tree hop s
  | .trickTimeout tree => Sys2Proof.Machine.execTrickTimeout tree s
  | .cmdFreeze who v gather => Sys2Proof.Machine.execCmdFreeze who v gather s
  | .cmdStep who v => Sys2Proof.Machine.execCmdStep who v s
  | .cmdThaw who v => Sys2Proof.Machine.execCmdThaw who v s
  | .cmdStall who v => Sys2Proof.Machine.execCmdStall who v s
  | .cmdUnstall who v => Sys2Proof.Machine.execCmdUnstall who v s
  | .cmdStop who v => Sys2Proof.Machine.execCmdStop who v s
  | .weight pos d ecc => Sys2Proof.Machine.execWeight pos d ecc s
  | .lines pos d ecc => Sys2Proof.Machine.execLines pos d ecc s
  | .store pos d => Sys2Proof.Machine.execStore pos d s
  | .gather pos d => Sys2Proof.Machine.execGather pos d s
  | .stockIn pos d ecc => Sys2Proof.Machine.execStockIn pos d ecc s
  | .stockOut pos d ecc => Sys2Proof.Machine.execStockOut pos d ecc s
  | .gatherTimeout pos tag => Sys2Proof.Machine.execGatherTimeout pos tag s
  | .nearScrub pos ecc => Sys2Proof.Machine.execNearScrub pos ecc s
  | .stockScrub far ecc ecc2 => Sys2Proof.Machine.execStockScrub far ecc ecc2 s
  | .censusCollect => Sys2Proof.Machine.execCensusCollect s
  | .contribPacket pos p => Sys2Proof.Machine.execContribPacket pos p s
  | .accFp32 pos p => Sys2Proof.Machine.execAccFp32 pos p s
  | .accDrain pos p => Sys2Proof.Machine.execAccDrain pos p s
  | .accOnebit pos p => Sys2Proof.Machine.execAccOnebit pos p s
  | .sealRound pos pot round => Sys2Proof.Machine.execSealRound pos pot round s
  | .roundTimeout pos pot round => Sys2Proof.Machine.execRoundTimeout pos pot round s
  | .gateContribute waited => Sys2Proof.Machine.execGateContribute waited s
  | .gateDecide r => Sys2Proof.Machine.execGateDecide r s
  | .sweepStart => Sys2Proof.Machine.execSweepStart s
  | .sweepTimeout => Sys2Proof.Machine.execSweepTimeout s
  | .fullDeal => Sys2Proof.Machine.execFullDeal s
  | .pushStart => Sys2Proof.Machine.execPushStart s
  | .pushLate => Sys2Proof.Machine.execPushLate s
  | .go who => Sys2Proof.Machine.execGo who s
  | .portEnable who port v t => Sys2Proof.Machine.execPortEnable who port v t s
  | .retrain who port t => Sys2Proof.Machine.execRetrain who port t s
  | .portDown port cause => Sys2Proof.Machine.execPortDown port cause s
  | .frameReceive port f => Sys2Proof.Machine.execFrameReceive port f s
  | .frameResendTimer port => Sys2Proof.Machine.execFrameResendTimer port s
  | .packetForward h body => Sys2Proof.Machine.execPacketForward h body s
  | .gatherReq h r => Sys2Proof.Machine.execGatherReq h r s
  | .gatherRsp h r version poison data => Sys2Proof.Machine.execGatherRsp h r version poison data s
  | .parked h r => Sys2Proof.Machine.execParked h r s
  | .parkTimeout pos tag => Sys2Proof.Machine.execParkTimeout pos tag s
  | .copyReq h addr lines tag ecc => Sys2Proof.Machine.execCopyReq h addr lines tag ecc s
  | .copyRsp h addr lines tag poison data => Sys2Proof.Machine.execCopyRsp h addr lines tag poison data s
  | .linkContrib h p => Sys2Proof.Machine.execLinkContrib h p s
  | .mirrorPot h hand pot stack off data => Sys2Proof.Machine.execMirrorPot h hand pot stack off data s
  | .push h hand pos space off version data total sum => Sys2Proof.Machine.execPush h hand pos space off version data total sum s
  | .pushAck h hand pos status sum => Sys2Proof.Machine.execPushAck h hand pos status sum s
  | .sealNotice h hand pot round stack => Sys2Proof.Machine.execSealNotice h hand pot round stack s
  | .resendReq h hand crec cstack => Sys2Proof.Machine.execResendReq h hand crec cstack s
  | .mirrorSum h hand pot sum => Sys2Proof.Machine.execMirrorSum h hand pot sum s
  | .hello h m => Sys2Proof.Machine.execHello h m s
  | .trickUp h tree fn inst v rec => Sys2Proof.Machine.execTrickUp h tree fn inst v rec s
  | .trickRes h tree fn inst v rec => Sys2Proof.Machine.execTrickRes h tree fn inst v rec s
  | .linkRenege h hand layer tile seat => Sys2Proof.Machine.execLinkRenege h hand layer tile seat s
  | .linkMisdeal h hand origin cause => Sys2Proof.Machine.execLinkMisdeal h hand origin cause s
  | .tableTrickTimeout tree => Sys2Proof.Machine.execTableTrickTimeout tree s
  | .commit who results => Sys2Proof.Machine.execCommit who results s
  | .startUpSoak port pass t => Sys2Proof.Machine.execStartUpSoak port pass t s
  | .periodicRetrain ts => Sys2Proof.Machine.execPeriodicRetrain ts s
  | .xtalWindow c => Sys2Proof.Machine.execXtalWindow c s
  | .xtalFixedCount c => Sys2Proof.Machine.execXtalFixedCount c s
  | .xtalLost => Sys2Proof.Machine.execXtalLost s
  | .sourceSwitch d src => Sys2Proof.Machine.execSourceSwitch d src s
  | .pllUnlock d => Sys2Proof.Machine.execPllUnlock d s
  | .pllRelock d us => Sys2Proof.Machine.execPllRelock d us s
  | .relockFail d => Sys2Proof.Machine.execRelockFail d s
  | .throttleChange => Sys2Proof.Machine.execThrottleChange s
  | .ckSscWrite who v => Sys2Proof.Machine.execCkSscWrite who v s
  | .sscChange => Sys2Proof.Machine.execSscChange s
  | .freqGate counts => Sys2Proof.Machine.execFreqGate counts s
  | .enableSet who reg v => Sys2Proof.Machine.execEnableSet who reg v s
  | .enableClear who reg v => Sys2Proof.Machine.execEnableClear who reg v s
  | .pwCmdRun who c => Sys2Proof.Machine.execPwCmdRun who c s
  | .pwCmdHold who c => Sys2Proof.Machine.execPwCmdHold who c s
  | .pwCmdIdle who c => Sys2Proof.Machine.execPwCmdIdle who c s
  | .pwCmdWatch who c => Sys2Proof.Machine.execPwCmdWatch who c s
  | .watchSample volts temp leak => Sys2Proof.Machine.execWatchSample volts temp leak s
  | .breachWaitTimeout => Sys2Proof.Machine.execBreachWaitTimeout s
  | .wakeI3c => Sys2Proof.Machine.execWakeI3c s
  | .wakeMailbox => Sys2Proof.Machine.execWakeMailbox s
  | .wakeWaken => Sys2Proof.Machine.execWakeWaken s
  | .converterStart => Sys2Proof.Machine.execConverterStart s
  | .vinHigh cv => Sys2Proof.Machine.execVinHigh cv s
  | .sag cv => Sys2Proof.Machine.execSag cv s
  | .sagEnd us lowest => Sys2Proof.Machine.execSagEnd us lowest s
  | .supplyReset cv => Sys2Proof.Machine.execSupplyReset cv s
  | .overvolt cv => Sys2Proof.Machine.execOvervolt cv s
  | .inputOff => Sys2Proof.Machine.execInputOff s
  | .overcurrent => Sys2Proof.Machine.execOvercurrent s
  | .capSample watts da cv => Sys2Proof.Machine.execCapSample watts da cv s
  | .convFail num cause => Sys2Proof.Machine.execConvFail num cause s
  | .fuseTrip field cause peak => Sys2Proof.Machine.execFuseTrip field cause peak s
  | .hotTrip field q4 => Sys2Proof.Machine.execHotTrip field q4 s
  | .sensorRead r => Sys2Proof.Machine.execSensorRead r s
  | .thermStep => Sys2Proof.Machine.execThermStep s
  | .foldreqCool field => Sys2Proof.Machine.execFoldreqCool field s
  | .leak => Sys2Proof.Machine.execLeak s
  | .supvEcc addr => Sys2Proof.Machine.execSupvEcc addr s
  | .supvCflow addr => Sys2Proof.Machine.execSupvCflow addr s
  | .supvWdog => Sys2Proof.Machine.execSupvWdog s
  | .kick who => Sys2Proof.Machine.execKick who s
  | .supervisorBack => Sys2Proof.Machine.execSupervisorBack s
  | .fatal code origin => Sys2Proof.Machine.execFatal code origin s
  | .pldmEventAck seq => Sys2Proof.Machine.execPldmEventAck seq s
  | .info pair arg => Sys2Proof.Machine.execInfo pair arg s
  | .fwStage pair arg via => Sys2Proof.Machine.execFwStage pair arg via s
  | .fwStageDone pair img => Sys2Proof.Machine.execFwStageDone pair img s
  | .fwSwitch pair arg via => Sys2Proof.Machine.execFwSwitch pair arg via s
  | .fwCancel pair arg via => Sys2Proof.Machine.execFwCancel pair arg via s
  | .fwFallback => Sys2Proof.Machine.execFwFallback s
  | .dumpInfo pair arg => Sys2Proof.Machine.execDumpInfo pair arg s
  | .dumpClear pair arg via => Sys2Proof.Machine.execDumpClear pair arg via s
  | .power pair arg via c => Sys2Proof.Machine.execPower pair arg via c s
  | .leakClear pair arg via sensed => Sys2Proof.Machine.execLeakClear pair arg via sensed s
  | .supvReset pair arg via => Sys2Proof.Machine.execSupvReset pair arg via s
  | .moduleReset pair arg via => Sys2Proof.Machine.execModuleReset pair arg via s
  | .setEndpointId via eid => Sys2Proof.Machine.execSetEndpointId via eid s
  | .getEndpointId via => Sys2Proof.Machine.execGetEndpointId via s
  | .getMctpVersionSupport via typ => Sys2Proof.Machine.execGetMctpVersionSupport via typ s
  | .getMessageTypeSupport via => Sys2Proof.Machine.execGetMessageTypeSupport via s
  | .getVendorDefinedMessageSupport via sel => Sys2Proof.Machine.execGetVendorDefinedMessageSupport via sel s
  | .setEventReceiver via receiver => Sys2Proof.Machine.execSetEventReceiver via receiver s
  | .pldmSensorRead via kind index => Sys2Proof.Machine.execPldmSensorRead via kind index s
  | .pldmFwUpdate via img => Sys2Proof.Machine.execPldmFwUpdate via img s
  | .getVersion via => Sys2Proof.Machine.execGetVersion via s
  | .getCapabilities via => Sys2Proof.Machine.execGetCapabilities via s
  | .negotiateAlgorithms via rsa3072 sha256 => Sys2Proof.Machine.execNegotiateAlgorithms via rsa3072 sha256 s
  | .getDigests via => Sys2Proof.Machine.execGetDigests via s
  | .getCertificate via slot off len => Sys2Proof.Machine.execGetCertificate via slot off len s
  | .spdmChallenge via slot nonce => Sys2Proof.Machine.execSpdmChallenge via slot nonce s
  | .getMeasurements via index => Sys2Proof.Machine.execGetMeasurements via index s
  | .keyExchange via exchange => Sys2Proof.Machine.execKeyExchange via exchange s
  | .finish via ok => Sys2Proof.Machine.execFinish via ok s
  | .entdaa addr => Sys2Proof.Machine.execEntdaa addr s
  | .i3cTimeout => Sys2Proof.Machine.execI3cTimeout s
  | .i3cSclLow => Sys2Proof.Machine.execI3cSclLow s
  | .coldBoot bank0 bank1 sfdpOk => Sys2Proof.Machine.execColdBoot bank0 bank1 sfdpOk s
  | .enroll who v keyOk => Sys2Proof.Machine.execEnroll who v keyOk s
  | .remove who v => Sys2Proof.Machine.execRemove who v s
  | .require who v => Sys2Proof.Machine.execRequire who v s
  | .unrequire who v => Sys2Proof.Machine.execUnrequire who v s
  | .lockPolicy who v => Sys2Proof.Machine.execLockPolicy who v s
  | .unlockpol who v => Sys2Proof.Machine.execUnlockpol who v s
  | .idcode => Sys2Proof.Machine.execIdcode s
  | .challenge => Sys2Proof.Machine.execChallenge s
  | .unlock t => Sys2Proof.Machine.execUnlock t s
  | .tokenVerified => Sys2Proof.Machine.execTokenVerified s
  | .tapStatus => Sys2Proof.Machine.execTapStatus s
  | .bypass bit => Sys2Proof.Machine.execBypass bit s
  | .dapNop => Sys2Proof.Machine.execDapNop s
  | .dapRead size space addr ecc => Sys2Proof.Machine.execDapRead size space addr ecc s
  | .dapWrite size space addr data => Sys2Proof.Machine.execDapWrite size space addr data s
  | .dbLock who => Sys2Proof.Machine.execDbLock who s
  | .lifetimeExpire => Sys2Proof.Machine.execLifetimeExpire s
  | .supvHalt who => Sys2Proof.Machine.execSupvHalt who s
  | .supvResume who => Sys2Proof.Machine.execSupvResume who s
  | .supvStep who => Sys2Proof.Machine.execSupvStep who s
  | .supvBreakpoint addr => Sys2Proof.Machine.execSupvBreakpoint addr s
  | .tileBreakpoint tile side pc => Sys2Proof.Machine.execTileBreakpoint tile side pc s
  | .ledgerWrite r => Sys2Proof.Machine.execLedgerWrite r s
  | .compact who => Sys2Proof.Machine.execCompact who s
  | .alwaysOnPowerUp fixedPinLow => Sys2Proof.Machine.execAlwaysOnPowerUp fixedPinLow s
  | .fieldPowerUp inletQ4 trips => Sys2Proof.Machine.execFieldPowerUp inletQ4 trips s
  | .busSenseOpen cv => Sys2Proof.Machine.execBusSenseOpen cv s
  | .busSenseClose => Sys2Proof.Machine.execBusSenseClose s
  | .modResetAssert => Sys2Proof.Machine.execModResetAssert s
  | .modResetRelease => Sys2Proof.Machine.execModResetRelease s
  | .registerWrite who off v => Sys2Proof.Machine.execRegisterWrite who off v s
  | .pluggableReplaced port t => Sys2Proof.Machine.execPluggableReplaced port t s
  | .tapReset trstN => Sys2Proof.Machine.execTapReset trstN s
  | .ethernetLinkChange up => Sys2Proof.Machine.execEthernetLinkChange up s
  | .positionFailure pos cause => Sys2Proof.Machine.execPositionFailure pos cause s
  | .completionTimeout d hostAddr => Sys2Proof.Machine.execCompletionTimeout d hostAddr s
  | .busMasterEnable ep on => Sys2Proof.Machine.execBusMasterEnable ep on s
  | .carrierWait cause => Sys2Proof.Machine.execCarrierWait cause s
  | .memoryTrainingDone nearFail farFail => Sys2Proof.Machine.execMemoryTrainingDone nearFail farFail s

end Sys2Proof.Machine
end

