-- ==== Sys2Proof/Machine/Step.lean ====
section
/-! DEFINITION. One step of the module: the command at the front of the queue, or, with no command waiting, one tick of the
reference clock. -/

namespace Sys2Proof.Machine

/-- One reference tick of 10 ns passes, with what it brings about (R405; log 4). -/
def State.tick (s : State) : State := State.onTick { s with ticks := s.ticks + 1 }

/-- Take the command at the front of the queue and carry it out with the queue's rest; with no command waiting, a reference
tick passes. -/
def step (s : State) : Host.Outcome State Fault Refusal :=
  match s.pending with
  | [] => .next s.tick
  | c :: rest => exec c { s with pending := rest }

/-- Put the command that a word spells at the front of the queue; no word spells one (log 1). -/
def State.withFetchWord (s : State) (nbits w : Nat) : State :=
  match decodeTableWord nbits w with
  | none => s
  | some c => { s with pending := c :: s.pending }

end Sys2Proof.Machine
end

