-- ==== Sys2Proof/Safety.lean ====
section
/-! DEFINITION. What counts as a safe step, and the terms that statements use: what a change leaves as it was, what decode and
issue of an instruction do, when they happen, and what an event leaves behind. -/

namespace Sys2Proof.Machine

/-! ## Canonical forms -/

/-- The register file is in canonical form: offsets rising, none listed at its reset value. -/
def State.regsOk (s : State) : Bool :=
  Map.sorted none s.regs && s.regs.all (fun e => decide (e.2 ≠ if e.1 < 0xE00000 then regReset e.1 else msixReset e.1))

/-- Every memory of the module is in canonical form. -/
def State.memOk (s : State) : Bool :=
  Memory.wf s.host.mem && s.tiles.all (fun e => Memory.wf e.2.sram) &&
    s.pos.all (fun e => Memory.wf e.2.near && Memory.wf e.2.stock)

/-- A step that answers a next state. -/
def stepsTo (s t : State) : Prop := step s = .next t

/-! ## What an event may change (R405, R406, R410, R477, R486, R488) -/

/-- A state without what emitting an event may change: the register file, event numbers and stores, the event ring and what the
module wrote to host memory, the journal, and the count of free values. -/
def State.still (s : State) : State :=
  { s with
    regs := [], seq := 0, free := 0
    hand := { s.hand with ledgerErrs := 0, unwritten := 0 }
    host := { s.host with mem := [], evt := OutQ.reset, evtLostNow := 0 }
    sup := { s.sup with evBuf := [], queue := [], queueLost := 0, trace := [] }
    sec := { s.sec with half := false, gen := 0, seq := 0, recs := [], other := [], compacting := false, must := false, waits := [] } }

/-- Whether a register is one that emitting an event may write: the counters of lost events, HI_ERR, the tail of the event ring, pending bits. -/
def eventReg (o : Nat) : Bool :=
  o == R.HI_EVT_LOST_COUNT.off || o == R.HI_ERR_EVT_LOST.off || o == R.SP_EVTQ_LOST_COUNT.off || o == 0x11C ||
    (decide (0xE01000 ≤ o) && decide (o < 0xE01100))

/-- A change that leaves what `still` keeps, and every register that is not an event's. -/
structure State.Quiet (s t : State) : Prop where
  still : t.still = s.still
  reg : ∀ o, eventReg o = false → t.reg o = s.reg o

/-- The record of the first event that is emitted from a state (R405). -/
def State.noted (s : State) (code : Nat) (args : List Arg) : EvRec :=
  ⟨BitVec.ofNat 16 code, s.seq + 1, s.ticks - s.resetTick, s.hand.hand, args⟩

/-- `t` is what `u` is, but for the event that has been emitted since `s`: its record is in the trace, with the next number. -/
def State.said (s u t : State) (code : Nat) (args : List Arg) : Prop :=
  u.Quiet t ∧ s.noted code args ∈ t.sup.trace

/-! ## Frames of the tiles -/

/-- Nothing outside tile `n` differs, but for the count of free values drawn, which is the model's own. -/
def State.elsewhere (s t : State) (n : Nat) : Prop :=
  t = { s with tiles := t.tiles, free := t.free } ∧ ∀ m, m ≠ n → t.tile m = s.tile m

/-- Nothing but the context of a site differs. -/
def State.onlyCtx (s t : State) (a : Site) : Prop :=
  s.elsewhere t a.tile ∧ t.tile a.tile = (s.tile a.tile).setCtx a.side (t.ctx a)

/-- General register `r` of the context holds `v`, G0 reads 0 (R145), and nothing else differs. -/
def State.wroteG (s t : State) (a : Site) (r : BitVec 5) (v : W32) : Prop :=
  s.onlyCtx t a ∧ t.ctx a = { s.ctx a with g := (t.ctx a).g } ∧
    ∀ q, (t.ctx a).gr q = if q = r ∧ r ≠ 0 then v else (s.ctx a).gr q

/-- Vector register `r` of the context holds `new i` in the elements that `on` names, 0 in the others where `z` says so, what it held
in the rest; nothing else differs (R110). -/
def State.wroteV (s t : State) (a : Site) (r : Nat) (on : Nat → Bool) (z : Bool) (new : Nat → W32) : Prop :=
  s.onlyCtx t a ∧ t.ctx a = { s.ctx a with v := (t.ctx a).v } ∧
    ∀ q i, i < 64 → (t.ctx a).el q i =
      if q = r then (if on i then new i else if z then 0 else (s.ctx a).el r i) else (s.ctx a).el q i

/-! ## Decode and issue (R144 to R155, R164) -/

/-- A context decodes the word `w` now: it stands in instruction memory at PC and reads well enough, its class, opcode and reserved fields are
legal and its register pairs even, and no register that it reads waits for a trick. -/
def State.canDecode (s : State) (a : Site) (w : W64) (reads : List (BitVec 5)) : Prop :=
  s.ready a = true ∧ a.fetch ≠ .double ∧ s.fetched a = w ∧ legalWord (s.banks a.side).1 (s.banks a.side).2 w = true ∧
    evenPairs w = true ∧ (s.ctx a).waitsFor reads = false

/-- Nothing of a context waits in a unit's queue, and none of its operations is under way. -/
def Ctx.idle (c : Ctx) : Prop :=
  c.uq = [] ∧ c.run = none ∧ c.fill = none ∧ c.send = none ∧ c.recv = none ∧ c.binds = [] ∧ c.out = []

/-- The units of a tile are idle, and the wafer is not on its way to a freeze. -/
def State.calm (s : State) (n : Nat) : Prop := (s.tile n).prim.idle ∧ (s.tile n).side.idle ∧ s.fab.freezing = false

/-- A timed word with delay `dt` decodes now, its schedule has started, its unit is free, and its target beat lies before F_eff: it issues. -/
def State.canIssue (s : State) (a : Site) (w : W64) (dt : BitVec 8) (reads : List (BitVec 5)) : Prop :=
  s.canDecode a w reads ∧ s.calm a.tile ∧ s.fab.started = true ∧ (s.tile a.tile).corr.length ≤ 1 ∧
    s.before (s.fromStart a ((s.ctx a).target dt).toNat) = true

/-- The state after the decode of a word: SIG folds its address and itself, PC steps; a corrected error of instruction memory is
marked (R145, R150, R151). -/
def State.decoded (s : State) (a : Site) (w : W64) : State := (s.eccCe a.tile a.fetch).onCtx a (fun c => c.fold w)

/-- The state in which decode has brought a timed word to its queue: TC is its target beat, and once the schedule has started the beats by
which the primary's decode was late are slips (R147, R148, R149, R165). -/
def State.timedTo (s : State) (a : Site) (w : W64) (dt : BitVec 8) : State :=
  let b := (s.ctx a).target dt
  let u := (s.decoded a w).onCtx a (fun c => { c with tc := b })
  if s.fab.started then u.slipOf a (u.lateBeats a b.toNat) else u

/-- The state in which it issues: BC is its beat, and a side context's beat is counted (R146, R133). -/
def State.issued (s : State) (a : Site) (w : W64) (dt : BitVec 8) : State :=
  ((s.timedTo a w dt).onCtx a (fun c => { c with bc := (s.ctx a).target dt })).onTile a.tile
    (fun x => { x with sideBeats := x.sideBeats + b2n a.side })

/-- Nothing waits in a unit of any tile, and the wafer is not on its way to a freeze. -/
def State.allCalm (s : State) : Prop := ∀ n, s.calm n

/-- A packet of a kind comes to a node of the trump network in good order (R200, R201). -/
def goodHop (h : Hop) (kind : BitVec 4) : Prop := h.perr ≤ 3 ∧ h.kind = kind

/-- A context of a tile issues now: its schedule has started and runs, its field has its clocks, neither a stall nor a freeze is near, and the
correction path has room. -/
def State.canGo (s : State) (a : Site) : Prop :=
  s.fab.started = true ∧ (s.ctx a).running = true ∧ s.fieldOn (tileField a.tile) = true ∧ s.moving = true ∧ s.fab.freezing = false ∧
    (s.tile a.tile).corr.length ≤ 1 ∧ ((s.tile a.tile).ctx (!a.side)).idle

/-- The state in which a timed instruction that cannot issue yet waits alone in its queue. -/
def State.waits (s : State) (a : Site) (w : W64) (dt : BitVec 8) (op : TOp) (ga gs : BitVec 5) : State :=
  (s.timedTo a w dt).onCtx a (fun c =>
    { c with uq := [⟨op, (s.ctx a).pc, ((s.ctx a).target dt).toNat, (s.ctx a).gr ga, (s.ctx a).gr gs⟩] })

/-- No injection and no upset meets the destination of a vector operation (R128). -/
def State.clean (s : State) (a : Site) (up : Option Upset) : Prop :=
  up = none ∧ ((s.tile a.tile).inject 2).1 = none

/-! ## Memory behind device addresses, and descriptors (R222, R225, R393, R403) -/

/-- The bytes `b` have been stored at device addresses from `a` upward, and no other byte of any memory has changed. -/
def State.stored (s t : State) (a : Nat) (b : Bytes) : Prop :=
  (∀ l, (∀ i, i < b.length → s.loc (a + i) ≠ some l) → t.locRd l = s.locRd l) ∧
  ∀ i l, i < b.length → s.loc (a + i) = some l → (∀ j, i < j → j < b.length → s.loc (a + j) ≠ some l) →
    (∀ n o, l ≠ .treg n o) → t.locRd l = b.getD i 0

/-- A well-formed descriptor starts now: its queue is open, the module is READY and serves it. -/
def State.starts (s : State) (d : DHdr) : Prop :=
  s.mayStart d = true ∧ s.pwr.pstate ≠ .idle ∧ s.fatalNow = false ∧ d.flags.toNat < 4 ∧ d.rsvBad = none

/-! ## Dealers (R233 to R237) -/

/-- A descriptor as the dealer reads it, with nothing that its lines' codes report. -/
def State.opens (s : State) (k : Nat) (d : SDesc) : OpenDesc :=
  ⟨(s.dealer k).nextId, d, s.descIndex k, s.waitBeat k d, ⟨[], [], []⟩, d.rept.toNat + 1, 0, false, none⟩

/-- The version rule lets a descriptor start: it is a GATHER, whose responses meet the rule, or has neither VREC nor VCMP, or its piece is in PIECES and, under VCMP, of the version recorded in this hand
(R245). -/
def State.versionFits (s : State) (k : Nat) (d : SDesc) : Prop :=
  d.kind = 4 ∨ bitsOf d.flags.toNat 0 2 = 0 ∨
    ∃ p, (s.dealer k).piece d.shard = some p ∧ (bitOf d.flags.toNat 1 = true → (s.dealer k).vrec.find? d.shard.toNat = some p.version)

/-- A dealer reads a descriptor of a kind now, and nothing holds it: no earlier one is open and no request waits at the seat, its wait beat is
reached and the gate line written if it reads it, its version fits, and neither the sweep's seal check nor the sweep's end comes with it. -/
def State.dealsNow (s : State) (k : Nat) (d : SDesc) (kind : Nat) : Prop :=
  s.dealing k = true ∧ d.reserved = false ∧ d.kind.toNat = kind ∧ d.count ≠ 0 ∧ (s.dealer k).opened = [] ∧ s.hasEntry k = true ∧
    s.link.parked = [] ∧ s.mayBegin k (s.opens k d) = true ∧ s.versionFits k d ∧
    ((s.hand.sweep && s.on R.PT_CTRL_SEAL_CHK) = false ∨ s.pots_ = []) ∧ (s.hand.sweep = false ∨ s.allEnded = false)

/-- The index of the descriptor after the one that a dealer reads: at the end of the loop its first while passes are left (R233). -/
def State.nextIndex (s : State) (k : Nat) : Nat :=
  let l := s.dealer k
  let i := s.descIndex k + 1
  if s.hand.sweep = false ∧ i = l.loopEnd ∧ l.loopFirst < l.loopEnd ∧ l.pass + 1 < s.rounds then l.loopFirst else i

/-! ## Links (R359, R361, R367) -/

/-- Nothing of the tiles, the positions, the fabric, the numerics and the clocks differs. -/
def State.keeps (s t : State) : Prop := t.tiles = s.tiles ∧ t.pos = s.pos ∧ t.fab = s.fab ∧ t.num = s.num ∧ t.clk = s.clk

/-- A good packet of a type for this seat is taken: its port is up, its length and class are right, and it is of the table's generation. -/
def State.arrives (s : State) (h : LHdr) (typ : Nat) : Prop :=
  s.portUp h.port = true ∧ s.linkGood h = true ∧ h.typ = typ ∧ h.dest = s.rank

/-- The first copy in this hand of a good flood, with room in the table of floods. -/
def State.floods (s : State) (h : LHdr) (typ : Nat) (body : Bytes) : Prop :=
  s.portUp h.port = true ∧ s.linkGood h = true ∧ h.typ = typ ∧ h.dest = 0xFFFF ∧ s.seen typ body = false ∧ s.link.floods.length < 8192

/-- One packet has been handed to a port, for a rank, in a class, with a type and a body. -/
def State.sent (s t : State) (dest cls typ : Nat) (body : Bytes) : Prop :=
  ∃ p : LinkOut, t.link.out = s.link.out ++ [p] ∧ p.dest = dest ∧ p.cls = cls ∧ p.typ = typ ∧ p.body = body ∧ p.src = s.rank

/-- Training that nothing disturbs: no step fails, every lane is good, and the pluggable is of a class that a port feeds. -/
def goodTrain (t : TrainIn) : Prop := t.fails = [] ∧ t.badLanes = 0 ∧ t.powerClass ≤ 25

/-! ## Services and requests (R411, R489, R494) -/

/-- A service word reaches a supervisor that runs, through a mailbox that is empty in both directions. -/
def State.askable (s : State) (pair : Nat) (via : Transport) : Prop :=
  s.pathUp pair via = true ∧ (s.pair pair).h2s.full = false ∧ (s.pair pair).s2h.full = false ∧ s.supvRuns = true ∧ s.powered = true

/-- The word of a pair has been acknowledged with a code. -/
def State.acks (t : State) (pair code : Nat) : Prop :=
  (t.pair pair).h2s.full = false ∧ (t.pair pair).h2s.acked = true ∧ (t.pair pair).h2s.code = BitVec.ofNat 16 code

/-- A transport carries a request to somebody who answers it; DOE carries SPDM only. -/
def State.hears (s : State) (via : Transport) : Prop := via ≠ .doe ∧ s.viaUp via = true ∧ s.answers = true

/-- A request has been answered with these values, and has changed nothing but the management interface and the wait after a breach. -/
def State.answered (s t : State) (resp : List Bytes) : Prop :=
  t.sup.resp = resp ∧ t = { s with sup := { s.sup with resp := resp }, pwr := t.pwr } ∧
    t.pwr = { s.pwr with breachWait := t.pwr.breachWait }

/-! ## Fuses (R504) -/

/-- What is burnt: the lifecycle, the key slots, at least the revoked slots `r`, at least `c` anti-rollback bits. -/
def State.burnt (s : State) (l : BitVec 2) (k : Map (BitVec 256)) (r : BitVec 4) (c : Nat) : Prop :=
  s.sec.lifecycle = l ∧ s.sec.slotHash = k ∧ s.sec.revoked &&& r = r ∧ c ≤ s.sec.counter

end Sys2Proof.Machine
end

