-- ==== Sys2Proof/Certificates/Slice0/Obligations.lean ====
section
/-! DEFINITION. The statements for the provers, family by family. -/

open Sys2Proof
open Sys2Proof.Machine

/-! ## The queue and reset -/

/-- A step with a command at the front of the queue is that command's meaning on the state with the queue's rest. -/
def Obligations.StepRunsFront : Prop :=
  ∀ (s : Sys2Proof.Machine.State) (c : Sys2Proof.Instr) (rest : List Sys2Proof.Instr),
    s.pending = c :: rest → Sys2Proof.Machine.step s = Sys2Proof.Machine.exec c { s with pending := rest }

/-! ## The scalar class (R145, R150, R156, R158) -/

/-- (1) GD = GA op GB for the nine operations, modulo 2^32, shifts by GB[4:0]; ADDI and LI; G0 ignores the write; nothing else changes but what
decode changes (R145, R156).
(2) LDW reads the scratch word at (GA + IMM) mod 16384, bits [1:0] ignored; STW writes it, and every other word of scratch memory
stays (R156).
(3) MFS reads the special registers of R158: TC, the hand number, the tile's index, MB_COUNT (0 in a side context), the context's number, SIG
as decode leaves it, and 0 for the rest; BC, which can differ from run to run, is a value that the rules leave open. -/
def Obligations.ScalarClass : Prop :=
  (
    ∀ (s : State) (a : Site) (f : SFmt),
      let x := (s.ctx a).gr f.ga
      let y := (s.ctx a).gr f.gb
      let gives := fun (op : Nat) (reads : List (BitVec 5)) (c : Instr) (v : W32) =>
        s.canDecode a (wordOf 0 op (sLow f)) reads →
          ∃ t, exec c s = .next t ∧ (s.decoded a (wordOf 0 op (sLow f))).wroteG t a f.gd v
      gives 0x0 [f.ga, f.gb] (.add a f) (x + y) ∧
      gives 0x1 [f.ga, f.gb] (.sub a f) (x - y) ∧
      gives 0x2 [f.ga, f.gb] (.and a f) (x &&& y) ∧
      gives 0x3 [f.ga, f.gb] (.or a f) (x ||| y) ∧
      gives 0x4 [f.ga, f.gb] (.xor a f) (x ^^^ y) ∧
      gives 0x5 [f.ga, f.gb] (.shl a f) (x <<< (y.toNat % 32)) ∧
      gives 0x6 [f.ga, f.gb] (.shr a f) (x >>> (y.toNat % 32)) ∧
      gives 0x7 [f.ga, f.gb] (.sar a f) (x.sshiftRight (y.toNat % 32)) ∧
      gives 0x8 [f.ga, f.gb] (.mul a f) (x * y) ∧
      gives 0x9 [f.ga] (.addi a f) (x + f.imm) ∧
      gives 0xA [] (.li a f) f.imm) ∧
  (
    ∀ (s : State) (a : Site) (f : SFmt) (ecc : Ecc), ecc ≠ .double →
      let at_ := ((s.ctx a).gr f.ga).toNat + f.imm.toNat
      (s.canDecode a (wordOf 0 0xB (sLow f)) [f.ga] →
        ∃ t, exec (.ldw a f ecc) s = .next t ∧
          ((s.decoded a (wordOf 0 0xB (sLow f))).eccCe a.tile ecc).wroteG t a f.gd ((s.ctx a).scratchRd at_)) ∧
      (s.canDecode a (wordOf 0 0xC (sLow f)) [f.ga, f.gb] →
        ∃ t, exec (.stw a f ecc) s = .next t ∧
          let u := (s.decoded a (wordOf 0 0xC (sLow f))).eccCe a.tile ecc
          u.onlyCtx t a ∧ t.ctx a = { u.ctx a with scratch := (t.ctx a).scratch } ∧
          (t.ctx a).scratchRd at_ = (s.ctx a).gr f.gb ∧
          ∀ b, b < 16384 → b / 4 ≠ at_ % 16384 / 4 → (t.ctx a).scratch.get b 0 = (s.ctx a).scratch.get b 0)) ∧
  (
    ∀ (s : State) (a : Site) (f : SFmt), s.canDecode a (wordOf 0 0xD (sLow f)) [] →
      let u := s.decoded a (wordOf 0 0xD (sLow f))
      let reads := fun (v : W32) => ∃ t, exec (.mfs a f) s = .next t ∧ u.wroteG t a f.gd v
      (f.imm.toNat ≤ 1 → ∃ v, reads v) ∧
      (f.imm.toNat = 2 → reads ((s.ctx a).tc.extractLsb' 0 32)) ∧
      (f.imm.toNat = 3 → reads ((s.ctx a).tc.extractLsb' 32 32)) ∧
      (f.imm.toNat = 4 → reads (s.hand.hand.extractLsb' 0 32)) ∧
      (f.imm.toNat = 5 → reads (s.hand.hand.extractLsb' 32 32)) ∧
      (f.imm.toNat = 6 → reads (BitVec.ofNat 32 a.tile)) ∧
      (f.imm.toNat = 7 → a.side = true → reads 0) ∧
      (f.imm.toNat = 7 → a.side = false → ∀ d, s.hand.running = some d → reads (d.d.mbCount.setWidth 32)) ∧
      (f.imm.toNat = 8 → reads (if a.side then 1 else 0)) ∧
      (f.imm.toNat = 9 → reads (u.ctx a).sig) ∧
      (10 ≤ f.imm.toNat → reads 0))

/-! ## The control class (R145 to R156) -/

/-- (1) A branch goes to its target when its condition on GA and GB holds, else to the next word; LOOP writes GA − 1 and branches when
that value is not 0; JMP always goes; nothing else changes but what decode changes (R156).
(2) WAITB adds IMM to TC, and what waits in the tile for a beat that decode has now reached goes on; with idle units nothing else changes. NOP
changes only what decode changes; SIGCHK with the right signature folds itself in and no more (R147, R150, R156). -/
def Obligations.ControlClass : Prop :=
  (
    ∀ (s : State) (a : Site) (f : SFmt),
      let x := (s.ctx a).gr f.ga
      let y := (s.ctx a).gr f.gb
      let goes := fun (op : Nat) (reads : List (BitVec 5)) (c : Instr) (on : Bool) =>
        s.canDecode a (wordOf 7 op (sLow f)) reads →
          ∃ t, exec c s = .next t ∧
            let u := s.decoded a (wordOf 7 op (sLow f))
            u.onlyCtx t a ∧ t.ctx a = { u.ctx a with pc := if on then f.imm.setWidth 14 else (s.ctx a).pc + 1 }
      goes 0 [f.ga, f.gb] (.beq a f) (x == y) ∧
      goes 1 [f.ga, f.gb] (.bne a f) (x != y) ∧
      goes 2 [f.ga, f.gb] (.blt a f) (decide (x.toInt < y.toInt)) ∧
      goes 3 [f.ga, f.gb] (.bltu a f) (decide (x.toNat < y.toNat)) ∧
      goes 4 [] (.jmp a f) true ∧
      (s.canDecode a (wordOf 7 5 (sLow f)) [f.ga] →
        ∃ t, exec (.loop a f) s = .next t ∧
          let u := s.decoded a (wordOf 7 5 (sLow f))
          u.onlyCtx t a ∧
          t.ctx a = { u.ctx a with
            g := (t.ctx a).g, pc := if x - 1 = 0 then (s.ctx a).pc + 1 else f.imm.setWidth 14 } ∧
          ∀ q, (t.ctx a).gr q = if q = f.ga ∧ f.ga ≠ 0 then x - 1 else (s.ctx a).gr q)) ∧
  (
    ∀ (s : State) (a : Site) (f : SFmt),
      (s.canDecode a (wordOf 7 6 (sLow f)) [] →
        let u := s.decoded a (wordOf 7 6 (sLow f))
        let v := u.onCtx a (fun c => { c with tc := (s.ctx a).tc + f.imm.setWidth 64 })
        exec (.waitb a f) s = .next (v.advance a.tile) ∧ (s.calm a.tile → exec (.waitb a f) s = .next v)) ∧
      (s.canDecode a (wordOf 7 0xC (sLow f)) [] → exec (.nop a f) s = .next (s.decoded a (wordOf 7 0xC (sLow f)))) ∧
      (s.canDecode a (wordOf 7 0xA (sLow f)) [] → (s.ctx a).sig = f.imm →
        exec (.sigchk a f) s = .next (s.decoded a (wordOf 7 0xA (sLow f)))))

/-- (1) What the decode of a word changes: PC steps, SIG becomes the CRC-32C of R150 over the address and the word, STAT.SRAM_CE is set where
instruction memory corrected an error, the model's count of decodes steps, and nothing else changes (R148, R150, R151, R126).
(2) A timed instruction enters its unit's queue at its decode, with its target beat TC + DT and the G registers that it names as they are then; TC becomes
that beat, the primary's late beats are slips once the schedule has started, and what can issue issues. A decode into a full queue of 16
waits (R147, R148).
(3) What stops a decode: a context that does not run changes nothing, and neither does a word that is not the one at PC or reads a register that waits for a
trick; a double-bit error of instruction memory is a tile fault; a word of a reserved class, opcode or field at PC is the
illegal-instruction fault, a wrong signature the control-flow fault (R150, R151, R155, R162, R164).
(4) A sequencer fault halts its context and emits SEQ_FAULT with the tile, the context, the fault and the address; the primary's then raises the tile's FAULT
flag, a side context's ends the side job (R164, R207, R503). -/
def Obligations.InstructionDecode : Prop :=
  (
    ∀ (s : State) (a : Site) (w : W64),
      let t := s.decoded a w
      s.elsewhere t a.tile ∧
      t.ctx a = { s.ctx a with
        pc := (s.ctx a).pc + 1
        decoded := (s.ctx a).decoded + 1
        sig := crc32cOn (s.ctx a).sig (leBytes 2 (s.ctx a).pc.toNat ++ leBytes 8 w.toNat) } ∧
      t.tile a.tile = ({ s.tile a.tile with
        stat := if a.fetch = .corrected then (s.tile a.tile).stat ||| 0x1000 else (s.tile a.tile).stat } : Tile).setCtx a.side (t.ctx a)) ∧
  (
    ∀ (s : State) (a : Site) (ecc buf : Ecc) (up : Option Upset) (ups : List (Nat × Upset)),
      let joins := fun (w : W64) (dt : BitVec 8) (op : TOp) (ga gs : BitVec 5) (reads : List (BitVec 5)) (c : Instr) =>
        (s.canDecode a w reads → (s.ctx a).full op.unit = false →
          let b := (s.ctx a).target dt
          let u := (s.timedTo a w dt).onCtx a (fun c =>
            { c with uq := (s.ctx a).uq ++ [⟨op, (s.ctx a).pc, b.toNat, (s.ctx a).gr ga, (s.ctx a).gr gs⟩] })
          exec c s = .next (u.advance a.tile)) ∧
        ((s.ctx a).full op.unit = true → exec c s = .next (s.advance a.tile))
      (∀ f, joins (wordOf 1 1 (mrunLow f)) f.dt (.mrun f ecc buf ups) f.ga f.gs [f.ga, f.gs] (.mrun a f ecc buf ups)) ∧
      (∀ f, joins (wordOf 1 2 (mfillLow f)) f.dt (.mfill f ecc) f.ga 0 [f.ga] (.mfill a f ecc)) ∧
      (∀ f, joins (wordOf 1 3 (mownLow f)) f.dt (.mown f) 0 0 [] (.mown a f)) ∧
      (∀ f : VFmt, joins (wordOf 2 0x00 (vLow f)) f.dt (.vec 0x00 f up) 0 0 [] (.vAdd a f up)) ∧
      (∀ f : VFmt, joins (wordOf 2 0x1D (vLow f)) f.dt (.vec 0x1D f up) 0 0 [] (.cvt a f up)) ∧
      (∀ f : VFmt, joins (wordOf 2 0x23 (vLow f)) f.dt (.vec 0x23 f up) 0 0 [] (.qpop a f up)) ∧
      (∀ f, joins (wordOf 3 0 (lLow f)) f.dt (.ld f ecc up) f.ga 0 [f.ga] (.ld a f ecc up)) ∧
      (∀ f, joins (wordOf 3 1 (lLow f)) f.dt (.st f) f.ga 0 [f.ga] (.st a f)) ∧
      (∀ f, joins (wordOf 4 0 (xLow f)) f.dt (.send f ecc) f.ga 0 [f.ga] (.send a f ecc)) ∧
      (∀ f, joins (wordOf 4 1 (xLow f)) f.dt (.recv f) f.ga 0 [f.ga] (.recv a f)) ∧
      (∀ f, joins (wordOf 4 2 (xLow f)) f.dt (.pots f ecc) f.ga 0 [f.ga] (.pots a f ecc))) ∧
  (
    ∀ (s : State) (a : Site) (f : SFmt),
      let legal := legalWord (s.banks a.side).1 (s.banks a.side).2 (s.fetched a) = true ∧ evenPairs (s.fetched a) = true
      (s.ready a = false → exec (.add a f) s = .next s ∧ exec (.jmp a f) s = .next s ∧ exec (.nop a f) s = .next s) ∧
      (s.ready a = true → a.fetch ≠ .double → legal → (s.ctx a).waitsFor [f.ga, f.gb] = true →
        exec (.add a f) s = .next s ∧ exec (.beq a f) s = .next s) ∧
      (s.ready a = true → a.fetch ≠ .double → legal → s.fetched a ≠ wordOf 7 0xC (sLow f) → exec (.nop a f) s = .next s) ∧
      (s.ready a = true → a.fetch = .double →
        exec (.nop a f) s = .next (s.seqTileFault a.tile a.side 10 (s.ctx a).pc 9) ∧
        exec (.add a f) s = .next (s.seqTileFault a.tile a.side 10 (s.ctx a).pc 9)) ∧
      (s.ready a = true → a.fetch ≠ .double → ¬ legal →
        exec (.nop a f) s = .next ((s.eccCe a.tile a.fetch).seqFault a.tile a.side 6 (s.ctx a).pc) ∧
        exec (.add a f) s = .next ((s.eccCe a.tile a.fetch).seqFault a.tile a.side 6 (s.ctx a).pc)) ∧
      (s.canDecode a (wordOf 7 0xA (sLow f)) [] → (s.ctx a).sig ≠ f.imm →
        exec (.sigchk a f) s = .next ((s.eccCe a.tile a.fetch).seqFault a.tile a.side 7 (s.ctx a).pc))) ∧
  (
    ∀ (s : State) (n : Nat) (side : Bool) (fault : Nat) (pc : BitVec 14),
      let t := s.seqFault n side fault pc
      ((t.tile n).ctx side).running = false ∧ ((t.tile n).ctx side).waits = [] ∧
      ∃ u, (s.haltCtx n side).said (s.haltCtx n side) u 0x0A0A [.w4 n, .w4 (b2n side), .w4 fault, .w4 pc.toNat] ∧
        t = if side then u.endSide else u.tileStop n)

/-- (1) WOPEN and WCLOSE set and clear the window of the primary, and do nothing else there than decode and the step of BC; in a side context they change no window. A
side MOWN that waits for the window moves its buffer at the primary's WOPEN (R152). PHASE notes the router's switch at beat TC and the binding of the
census at that beat (R180, R259).
(2) Once decode of the primary has passed the beat of a PHASE, its bound slots are flushed and the census is bound anew: each slot that the plan gives the
phase stands empty, bound to its tensor, and no other slot is listed (R259).
(3) END of the primary at the beat at which its schedule must end stops the context, and while another tile's primary still runs changes no other tile; at any
other beat it is the schedule fault. In a side context it stops that context, and the last one completes the side job (R154, R156, R164). -/
def Obligations.ScheduleTiming : Prop :=
  (
    ∀ (s : State) (a : Site) (f : SFmt),
      let window := fun (op : Nat) (c : Instr) (on : Bool) => s.canIssue a (wordOf 7 op (sLow f)) 0 [] →
        ∃ t, exec c s = .next t ∧
          let u := s.decoded a (wordOf 7 op (sLow f))
          u.onlyCtx t a ∧
          t.ctx a = { u.ctx a with bc := (s.ctx a).tc, window := if a.side then (s.ctx a).window else on }
      window 8 (.wopen a f) true ∧
      window 9 (.wclose a f) false ∧
      (∀ q g, s.canDecode a (wordOf 7 8 (sLow f)) [] → a.side = false → (s.tile a.tile).prim.idle → s.fab.freezing = false → s.fab.started = true →
        (s.tile a.tile).corr.length ≤ 1 → (s.tile a.tile).side.running = true → ({ (s.tile a.tile).side with uq := [] } : Ctx).idle →
        (s.tile a.tile).side.uq = [q] → q.op = .mown g → q.beat ≤ (s.tile a.tile).side.tc.toNat →
        s.before (s.fromStart ⟨a.tile, true, .ok, 0⟩ q.beat) = true → ((s.tile a.tile).buf g.buf).side = true →
        ∃ t, exec (.wopen a f) s = .next t ∧ s.elsewhere t a.tile ∧
          (t.tile a.tile).prim.window = true ∧ (t.tile a.tile).side.uq = [] ∧
          (t.tile a.tile).buf g.buf = { (s.tile a.tile).buf g.buf with side := false } ∧
          (t.tile a.tile).buf (~~~ g.buf) = (s.tile a.tile).buf (~~~ g.buf)) ∧
      (s.canDecode a (wordOf 7 7 (sLow f)) [] → s.calm a.tile → f.imm.toNat < max 1 (s.tile a.tile).router.phases.length →
        ∃ t, exec (.phase a f) s = .next t ∧
          let u := s.decoded a (wordOf 7 7 (sLow f))
          u.elsewhere t a.tile ∧ t.ctx a = { u.ctx a with binds := [((s.ctx a).pc, (s.ctx a).tc.toNat, f.imm.toNat)] } ∧
          t.tile a.tile = ({ u.tile a.tile with
            router := { (s.tile a.tile).router with
              switches := (s.tile a.tile).router.switches ++ [(s.fromStart a (s.ctx a).tc.toNat, f.imm.toNat)] } } : Tile).setCtx a.side (t.ctx a))) ∧
  (
    ∀ (s : State) (a : Site) (f : SFmt) (pc : BitVec 14) (b p : Nat),
      s.canDecode a (wordOf 7 6 (sLow f)) [] → a.side = false → (s.ctx a).binds = [(pc, b, p)] →
      ({ s.ctx a with binds := [] } : Ctx).idle → (s.tile a.tile).side.idle → s.fab.freezing = false → s.fab.started = true →
      (s.tile a.tile).corr.length ≤ 1 → b < ((s.ctx a).tc + f.imm.setWidth 64).toNat → s.before b = true →
      p < max 1 (s.tile a.tile).router.phases.length →
      ∃ t, exec (.waitb a f) s = .next t ∧ (t.ctx a).binds = [] ∧
        (t.ctx a).tc = (s.ctx a).tc + f.imm.setWidth 64 ∧ (t.ctx a).bc = BitVec.ofNat 64 b ∧
        (∀ sl c, (t.ctx a).census.find? sl = some c → c.total = 0 ∧ c.amax = 0 ∧
          ∃ e ∈ s.num.plan, e.tile = a.tile ∧ e.phase = p ∧ e.slot = sl ∧ c.bound = some (e.index, e.tensor)) ∧
        (∀ e ∈ s.num.plan, e.tile = a.tile → e.phase = p → ((t.ctx a).census.find? e.slot).isSome = true) ∧
        (t.ctx a).g = (s.ctx a).g ∧ (t.ctx a).v = (s.ctx a).v ∧ (t.ctx a).m = (s.ctx a).m ∧
        ∀ m, m ≠ a.tile → t.tile m = s.tile m) ∧
  (
    ∀ (s : State) (a : Site) (f : SFmt), s.canIssue a (wordOf 7 0xB (sLow f)) 0 [] →
      let u := (s.decoded a (wordOf 7 0xB (sLow f))).onCtx a (fun c => { c with bc := (s.ctx a).tc, closing := true })
      let v := u.onCtx a (fun c => { c with running := false, ended := true, waits := [] })
      (a.side = false → (s.ctx a).tc.toNat = s.endBeat →
        (∃ t, exec (.endOp a f) s = .next t) ∧
        ((∃ e ∈ v.tiles, e.1 ≠ a.tile ∧ e.2.prim.running = true) → ∃ t, exec (.endOp a f) s = .next t ∧ v.elsewhere t a.tile ∧
          t.ctx a = v.ctx a ∧ (t.ctx a).running = false ∧ (t.ctx a).ended = true)) ∧
      (a.side = false → (s.ctx a).tc.toNat ≠ s.endBeat → exec (.endOp a f) s = .next (u.seqFault a.tile false 8 (s.ctx a).pc)) ∧
      (a.side = true → (∃ e ∈ v.tiles, e.2.side.running = true) → exec (.endOp a f) s = .next v) ∧
      (a.side = true → (∀ e ∈ v.tiles, e.2.side.running = false) → ∀ d, s.hand.sideRun = some d →
        exec (.endOp a f) s =
          .next (({ v with hand := { v.hand with sideRun := none } } : State).complete d.q d.cid 0x00 0 v.hand.hand.toNat)))

/-! ## The vector engine (R109 to R117, R160) -/

/-- The arithmetic and movement operations write VD from VA, VB and VC in the active elements; an inactive one keeps its value, or becomes 0
under Z; nothing else changes but what issue changes, when no upset meets the destination (R110, R113, R160). -/
def Obligations.VectorElementwise : Prop :=
  ∀ (s : State) (a : Site) (f : VFmt) (up : Option Upset), s.clean a up →
    let x := fun i => (s.ctx a).el f.va.toNat i
    let y := fun i => (s.ctx a).el f.vb.toNat i
    let z := fun i => (s.ctx a).el f.vc.toNat i
    let on := fun i => ((s.ctx a).mask f.msk.toNat).getLsbD i
    let gives := fun (op : Nat) (c : Instr) (v : Nat → W32) => s.canIssue a (wordOf 2 op (vLow f)) f.dt [] →
      ∃ t, exec c s = .next t ∧ (s.issued a (wordOf 2 op (vLow f)) f.dt).wroteV t a f.vd.toNat on (f.z == 1) v
    gives 0x00 (.vAdd a f up) (fun i => fAdd (x i) (y i)) ∧
    gives 0x01 (.vSub a f up) (fun i => fSub (x i) (y i)) ∧
    gives 0x02 (.vMul a f up) (fun i => fMul (x i) (y i)) ∧
    gives 0x03 (.vFma a f up) (fun i => fFma (x i) (y i) (z i)) ∧
    gives 0x04 (.vMin a f up) (fun i => fMin (x i) (y i)) ∧
    gives 0x05 (.vMax a f up) (fun i => fMax (x i) (y i)) ∧
    gives 0x06 (.vAbs a f up) (fun i => if isNan32 (x i) then 0x7FC00000 else x i &&& 0x7FFFFFFF) ∧
    gives 0x07 (.vNeg a f up) (fun i => if isNan32 (x i) then 0x7FC00000 else x i ^^^ 0x80000000) ∧
    gives 0x08 (.vDiv a f up) (fun i => fDiv (x i) (y i)) ∧
    gives 0x09 (.vSqrt a f up) (fun i => fSqrt (x i)) ∧
    gives 0x0A (.vRcp a f up) (fun i => fRcp (x i)) ∧
    gives 0x0B (.vRsq a f up) (fun i => fRsq (x i)) ∧
    gives 0x1E (.mov a f up) x ∧
    gives 0x1F (.sel a f up) (fun i => if ((s.ctx a).mask (f.vc.toNat % 8)).getLsbD i then x i else y i) ∧
    gives 0x20 (.perm a f up) (fun i => x ((y i).toNat % 64)) ∧
    gives 0x21 (.bcast a f up) (fun _ => x ((y 0).toNat % 64))

/-- (1) The integer operations, modulo 2^32; MIN and MAX compare signed; shifts by the count in VB, whose result for a count of 32 or more no rule
gives: a value that no statement fixes (R113, log 32).
(2) A compare writes one bit of mask VD[2:0] for each active element, keeps the inactive bits or clears them under Z, and changes nothing else;
EQ, LT and LE are false for a NaN, UNORD is true for one (R110, R113, R160).
(3) A reduction writes element 0 of VD alone: the six-level tree over the 64 elements of VA, an inactive one entering as the operation's neutral
value (R114). -/
def Obligations.VectorIntegersAndReductions : Prop :=
  (
    ∀ (s : State) (a : Site) (f : VFmt) (up : Option Upset), s.clean a up →
      let x := fun i => (s.ctx a).el f.va.toNat i
      let y := fun i => (s.ctx a).el f.vb.toNat i
      let on := fun i => ((s.ctx a).mask f.msk.toNat).getLsbD i
      let gives := fun (op : Nat) (c : Instr) (v : Nat → W32) => s.canIssue a (wordOf 2 op (vLow f)) f.dt [] →
        ∃ t, exec c s = .next t ∧ (s.issued a (wordOf 2 op (vLow f)) f.dt).wroteV t a f.vd.toNat on (f.z == 1) v
      let shifts := fun (op : Nat) (c : Instr) (g : W32 → Nat → W32) => s.canIssue a (wordOf 2 op (vLow f)) f.dt [] →
        ∃ t v, exec c s = .next t ∧ (s.issued a (wordOf 2 op (vLow f)) f.dt).wroteV t a f.vd.toNat on (f.z == 1) v ∧
          ∀ i, (y i).toNat < 32 → v i = g (x i) (y i).toNat
      gives 0x10 (.iadd a f up) (fun i => x i + y i) ∧
      gives 0x11 (.isub a f up) (fun i => x i - y i) ∧
      gives 0x12 (.iand a f up) (fun i => x i &&& y i) ∧
      gives 0x13 (.ior a f up) (fun i => x i ||| y i) ∧
      gives 0x14 (.ixor a f up) (fun i => x i ^^^ y i) ∧
      gives 0x18 (.imin a f up) (fun i => if (y i).toInt < (x i).toInt then y i else x i) ∧
      gives 0x19 (.imax a f up) (fun i => if (x i).toInt < (y i).toInt then y i else x i) ∧
      shifts 0x15 (.ishl a f up) (fun v n => v <<< n) ∧
      shifts 0x16 (.ishr a f up) (fun v n => v >>> n) ∧
      shifts 0x17 (.isar a f up) (fun v n => v.sshiftRight n)) ∧
  (
    ∀ (s : State) (a : Site) (f : VFmt),
      let x := fun i => (s.ctx a).el f.va.toNat i
      let y := fun i => (s.ctx a).el f.vb.toNat i
      let nan := fun i => isNan32 (x i) || isNan32 (y i)
      let on := fun i => ((s.ctx a).mask f.msk.toNat).getLsbD i
      let gives := fun (op : Nat) (c : Instr) (p : Nat → Bool) => s.canIssue a (wordOf 2 op (vLow f)) f.dt [] →
        ∃ t, exec c s = .next t ∧
          let u := s.issued a (wordOf 2 op (vLow f)) f.dt
          u.onlyCtx t a ∧ t.ctx a = { u.ctx a with m := (t.ctx a).m } ∧
          ∀ q i, i < 64 → ((t.ctx a).mask q).getLsbD i =
            if q = f.vd.toNat % 8 then (if on i then p i else if f.z = 1 then false else ((s.ctx a).mask q).getLsbD i)
            else ((s.ctx a).mask q).getLsbD i
      gives 0x0C (.vEq a f) (fun i => !nan i && decide ((f32 (x i)).cmp (f32 (y i)) = 0)) ∧
      gives 0x0D (.vLt a f) (fun i => !nan i && decide ((f32 (x i)).cmp (f32 (y i)) < 0)) ∧
      gives 0x0E (.vLe a f) (fun i => !nan i && decide ((f32 (x i)).cmp (f32 (y i)) ≤ 0)) ∧
      gives 0x0F (.vUnord a f) nan) ∧
  (
    ∀ (s : State) (a : Site) (f : VFmt) (up : Option Upset), s.clean a up →
      let on := fun i => ((s.ctx a).mask f.msk.toNat).getLsbD i
      let src := fun (e : W32) (g : W32 → W32) => (List.range 64).map (fun i => if on i then g ((s.ctx a).el f.va.toNat i) else e)
      let gives := fun (op : Nat) (c : Instr) (v : W32) => s.canIssue a (wordOf 2 op (vLow f)) f.dt [] →
        ∃ t, exec c s = .next t ∧
          (s.issued a (wordOf 2 op (vLow f)) f.dt).wroteV t a f.vd.toNat (fun i => decide (i = 0)) false (fun _ => v)
      gives 0x1A (.rsum a f up) ((tree fAdd 6 (src 0 id)).headD 0) ∧
      gives 0x1B (.rmax a f up) ((tree fMax 6 (src 0xFF800000 id)).headD 0) ∧
      gives 0x1C (.ramax a f up) ((tree fMax 6 (src 0 fAbs)).headD 0))

/-- (1) DRAW writes 64 successive 4-byte draws of the context's generator and leaves the generator after them, whatever the mask (R57, R58, R110).
(2) QPOP takes the oldest entry of its context from the tile queue: lanes 0 to 63 into Vd, 64 to 127 into Vd+1, the lane mask into Mm and Mm+1. An
entry that is not yet poppable is waited for, with a slip of the primary for each beat, and its slot is free from the beat after the pop. With no entry of its
context the pop stays in its queue (R87, R92, R93, R111, R149). -/
def Obligations.VectorDrawAndPop : Prop :=
  (
    ∀ (s : State) (a : Site) (f : VFmt) (up : Option Upset), s.canIssue a (wordOf 2 0x22 (vLow f)) f.dt [] → s.clean a up →
      ∃ t, exec (.draw a f up) s = .next t ∧
        let u := s.issued a (wordOf 2 0x22 (vLow f)) f.dt
        let on := fun i => ((s.ctx a).mask f.msk.toNat).getLsbD i
        u.onlyCtx t a ∧ (t.ctx a).gen = (draws 16 (s.ctx a).gen).1 ∧
        t.ctx a = { u.ctx a with v := (t.ctx a).v, gen := (t.ctx a).gen } ∧
        ∀ q i, i < 64 → (t.ctx a).el q i =
          if q = f.vd.toNat then
            (if on i then BitVec.ofNat 32 ((draws 16 (s.ctx a).gen).2.getD i 0) else if f.z = 1 then 0 else (s.ctx a).el q i)
          else (s.ctx a).el q i) ∧
  (
    ∀ (s : State) (a : Site) (f : VFmt) (up : Option Upset), s.canIssue a (wordOf 2 0x23 (vLow f)) f.dt [] →
      (∀ e, s.clean a up → (s.tile a.tile).oldest a.side = some e →
        ∃ t, exec (.qpop a f up) s = .next t ∧
          let d := f.vd.toNat
          let m := f.vc.toNat % 8
          let lane := fun l => if e.mask.getLsbD l then e.vals.get l 0 else 0
          let on := fun l => e.mask.getLsbD l || e.zfill
          let u := (s.issued a (wordOf 2 0x23 (vLow f)) f.dt).tile a.tile
          let now := u.now a.side ((s.ctx a).target f.dt).toNat
          (t.tile a.tile).queue = (s.tile a.tile).queue.erase e ∧
          (t.tile a.tile).popped = ((a.side, max e.ready now) :: (s.tile a.tile).popped).take 16 ∧
          (t.tile a.tile).slip = (if a.side then u.slip else satAdd u.slip (e.ready - now)) ∧
          (∀ q i, i < 64 → (t.ctx a).el q i =
            if q = d ∧ on i then lane i else if q = d + 1 ∧ on (64 + i) then lane (64 + i) else (s.ctx a).el q i) ∧
          (t.ctx a).mask m = e.mask.extractLsb' 0 64 ∧ (t.ctx a).mask (m + 1) = e.mask.extractLsb' 64 64 ∧
          (∀ q, q ≠ m → q ≠ m + 1 → (t.ctx a).mask q = (s.ctx a).mask q) ∧
          (t.ctx a).g = (s.ctx a).g ∧ (t.tile a.tile).sram = (s.tile a.tile).sram ∧ (t.tile a.tile).acc = (s.tile a.tile).acc ∧
          t.pos = s.pos ∧ ∀ n, n ≠ a.tile → t.tile n = s.tile n) ∧
      ((s.tile a.tile).oldest a.side = none → exec (.qpop a f up) s =
        .next (s.waits a (wordOf 2 0x23 (vLow f)) f.dt (.vec 0x23 f up) 0 0)))

/-- (1) CVT writes VD (and the scale bytes of VS) with the conversion of VA under CTL, with the context's draws under SR and the binding's code under
HISTORY, and its slot counts the active elements (R52, R55, R58, R116, R161). In the primary context a slot without a binding is the census-binding
fault (R164). The side context has no supplied code: log 3.
(2) A hit on the significand of a residue-checked result is repeated: the right result is written, the latency and one beat are slips and the
fault is counted in CHKCNT; a repeat that fails too halts the context. A hit on a sign or an exponent, which the residue does not cover, and one on an
unchecked result invert one bit of one written element (R117, R128). -/
def Obligations.VectorConvertAndUpsets : Prop :=
  (
    ∀ (s : State) (a : Site) (f : VFmt) (up : Option Upset), s.canIssue a (wordOf 2 0x1D (vLow f)) f.dt [] →
      let slot := ((s.ctx a).census.get f.slot.toNat CSlot.reset)
      (∀ src dst, elemOf f.vc = some src → elemOf f.vx = some dst → s.clean a up → (a.side = true ∨ slot.bound ≠ none) →
        ∃ t code, exec (.cvt a f up) s = .next t ∧
          (a.side = false → ctlHistory f.vy.toNat = true → isMx f.vx = true → code = slot.code.toNat) ∧
          let on := fun i => ((s.ctx a).mask f.msk.toNat).getLsbD i
          let codes := (s.ctx a).codes f.va.toNat f.part.toNat src
          let dr := if ctlSr f.vy.toNat then draws 16 (s.ctx a).gen else ((s.ctx a).gen, [])
          let r := convert f.vc f.vx f.vy.toNat code dst dr.2 on codes ((s.ctx a).srcVals f src codes)
          (t.ctx a).v = ((s.ctx a).cvtPut f dst on (r.put r.word)).v ∧ (t.ctx a).gen = dr.1 ∧
          ((t.ctx a).census.get f.slot.toNat CSlot.reset).total =
            min (slot.total + ((List.range 64).filter on).length) sat48 ∧
          (∀ k, k ≠ f.slot.toNat → (t.ctx a).census.get k CSlot.reset = (s.ctx a).census.get k CSlot.reset) ∧
          (t.ctx a).g = (s.ctx a).g ∧ (t.ctx a).m = (s.ctx a).m ∧ (t.tile a.tile).sram = (s.tile a.tile).sram ∧
          ∀ n, n ≠ a.tile → t.tile n = s.tile n) ∧
      (∀ src dst, elemOf f.vc = some src → elemOf f.vx = some dst → a.side = false → slot.bound = none →
        exec (.cvt a f up) s = .next ((s.issued a (wordOf 2 0x1D (vLow f)) f.dt).seqFault a.tile false 9 (s.ctx a).pc))) ∧
  (
    ∀ (s : State) (a : Site) (f : VFmt) (u : Upset), ((s.tile a.tile).inject 2).1 = none → u.target = 2 →
      u.lane.toNat < 64 → ((s.ctx a).mask f.msk.toNat).getLsbD u.lane.toNat = true →
      let x := fun i => (s.ctx a).el f.va.toNat i
      let y := fun i => (s.ctx a).el f.vb.toNat i
      let on := fun i => ((s.ctx a).mask f.msk.toNat).getLsbD i
      let flips := fun (op : Nat) (c : Instr) (v : Nat → W32) =>
        ∃ t, exec c s = .next t ∧ (s.issued a (wordOf 2 op (vLow f)) f.dt).wroteV t a f.vd.toNat on (f.z == 1)
          (fun i => if i = u.lane.toNat then v i ^^^ (1#32 <<< u.bit.toNat) else v i)
      (s.canIssue a (wordOf 2 0x00 (vLow f)) f.dt [] → u.bit.toNat < 23 → u.persist = false → ∃ t, exec (.vAdd a f (some u)) s = .next t ∧
        (∀ i, i < 64 → (t.ctx a).el f.vd.toNat i =
          if on i then fAdd (x i) (y i) else if f.z = 1 then 0 else (s.ctx a).el f.vd.toNat i) ∧
        bitOf (t.tile a.tile).stat.toNat 11 = true ∧
        bitsOf (t.tile a.tile).chkcnt.toNat 16 16 = min (bitsOf (s.tile a.tile).chkcnt.toNat 16 16 + 1) 65535) ∧
      (s.canIssue a (wordOf 2 0x00 (vLow f)) f.dt [] → u.bit.toNat < 23 → u.persist = true →
        ∃ t, exec (.vAdd a f (some u)) s = .next t ∧ (t.ctx a).running = false) ∧
      (s.canIssue a (wordOf 2 0x00 (vLow f)) f.dt [] → 23 ≤ u.bit.toNat → flips 0x00 (.vAdd a f (some u)) (fun i => fAdd (x i) (y i))) ∧
      (s.canIssue a (wordOf 2 0x12 (vLow f)) f.dt [] → flips 0x12 (.iand a f (some u)) (fun i => x i &&& y i)))

/-! ## The matrix unit (R74 to R108, R152, R157) -/

/-- (1) MOWN moves the ownership of a buffer to the other context inside a window; a side MOWN outside one waits; the primary's outside one is the
window fault, and one of a buffer not owned the ownership fault; nothing else changes (R152, R164).
(2) MFILL writes the rows of the unmasked lanes, in ascending lane order, from SRAM lines (SRC 0) or from the flits of FIL0 and FIL1 in turn (SRC 1), with
its format and lane mask; rows of masked lanes, the other buffer, SRAM, accumulators and vector registers stay. Until its flits are there, and while an issued
step names its buffer, the fill waits. Inside a window the primary's is the window fault, and lines outside the partition are
the partition fault (R74, R75, R76, R152, R163).
(3) A fill that waits for its buffer goes on when the buffer is released: from SRAM it is done at once. Where no fill waits, and while the wafer
stands, a release changes nothing (R74, R209). -/
def Obligations.MatrixBuffers : Prop :=
  (
    ∀ (s : State) (a : Site) (f : MOwnF), s.canIssue a (wordOf 1 3 (mownLow f)) f.dt [] →
      let u := s.issued a (wordOf 1 3 (mownLow f)) f.dt
      let x := u.tile a.tile
      (x.prim.window = true → (x.buf f.buf).side = a.side →
        ∃ t, exec (.mown a f) s = .next t ∧ u.elsewhere t a.tile ∧
          t.tile a.tile = x.setBuf f.buf { x.buf f.buf with side := !a.side }) ∧
      (x.prim.window = false → a.side = true → exec (.mown a f) s = .next (s.waits a (wordOf 1 3 (mownLow f)) f.dt (.mown f) 0 0)) ∧
      (x.prim.window = false → a.side = false → exec (.mown a f) s = .next (u.seqFault a.tile a.side 3 (s.ctx a).pc)) ∧
      (x.prim.window = true → (x.buf f.buf).side ≠ a.side → exec (.mown a f) s = .next (u.seqFault a.tile a.side 2 (s.ctx a).pc))) ∧
  (
    ∀ (s : State) (a : Site) (f : MFillF) (ecc : Ecc), s.canIssue a (wordOf 1 2 (mfillLow f)) f.dt [f.ga] → ecc ≠ .double →
      let u := s.issued a (wordOf 1 2 (mfillLow f)) f.dt
      let x := u.tile a.tile
      let mask : BitVec 128 := (s.ctx a).mask (f.mm.toNat + 1) ++ (s.ctx a).mask f.mm.toNat
      let ls := lanesOf mask
      let n := rowBytes f.fmt
      let line := ((s.ctx a).gr f.ga).toNat % 2 ^ 20
      let open_ := a.side = true ∨ x.prim.window = false
      let fits := (if f.buf = 0 then x.useA else x.useB) ≤ x.now a.side ((s.ctx a).target f.dt).toNat
      let inPart := s.linesOk a.side line ((ls.length * n + 63) / 64) = true
      let filled := fun (t : State) (data : Bytes) =>
        (t.ctx a).fill = none ∧
        ((t.tile a.tile).buf f.buf).fmt = some f.fmt ∧ ((t.tile a.tile).buf f.buf).mask = mask ∧
        ((t.tile a.tile).buf f.buf).side = (x.buf f.buf).side ∧
        (∀ i, i < ls.length → ((t.tile a.tile).buf f.buf).rows.get (ls.getD i 0) [] = slice data (n * i) n) ∧
        (∀ l, mask.getLsbD l = false → ((t.tile a.tile).buf f.buf).rows.get l [] = (x.buf f.buf).rows.get l []) ∧
        (t.tile a.tile).buf (~~~ f.buf) = x.buf (~~~ f.buf) ∧
        (t.tile a.tile).sram = x.sram ∧ (t.tile a.tile).acc = x.acc ∧ (t.ctx a).v = (s.ctx a).v ∧ (t.ctx a).g = (s.ctx a).g ∧
        ∀ m, m ≠ a.tile → t.tile m = s.tile m
      let copies := ∀ l, x.standin = some l → mask.getLsbD l = false
      (f.src = 0 → open_ → fits → inPart → copies → x.ueIn (64 * line) (ls.length * n) = none →
        ∃ t, exec (.mfill a f ecc) s = .next t ∧ filled t (x.sram.bytes (64 * line) (ls.length * n))) ∧
      (f.src = 1 → open_ → fits → copies →
        let k := (ls.length * n + 6 * chunkOf f.fmt + 63) / 64
        let p := x.router.lane (laneOut 1 false)
        let q := x.router.lane (laneOut 2 false)
        ((k + 1) / 2 ≤ p.length → k / 2 ≤ q.length →
          let fl := (List.range k).map (fun i => (if i % 2 = 0 then p else q).getD (i / 2) ⟨0, false, 0⟩)
          fl.any (·.poison) = false →
          ∃ t, exec (.mfill a f ecc) s = .next t ∧ filled t (fl.flatMap flitBytes) ∧
            (t.tile a.tile).router.lane (laneOut 1 false) = p.drop ((k + 1) / 2) ∧
            (t.tile a.tile).router.lane (laneOut 2 false) = q.drop (k / 2)) ∧
        (p = [] → 0 < k → exec (.mfill a f ecc) s = .next (u.onCtx a (fun c => { c with fill := some ⟨f, mask, line, ecc, true, []⟩ })))) ∧
      (open_ → ¬ fits → (f.src = 0 → inPart) → ∃ t, exec (.mfill a f ecc) s = .next t ∧
        (t.ctx a).fill = some ⟨f, mask, line, ecc, false, []⟩ ∧ (t.tile a.tile).buf f.buf = x.buf f.buf) ∧
      (¬ open_ → exec (.mfill a f ecc) s = .next (u.seqFault a.tile a.side 3 (s.ctx a).pc)) ∧
      (f.src = 0 → open_ → ¬ inPart → exec (.mfill a f ecc) s = .next (u.seqFault a.tile a.side 4 (s.ctx a).pc))) ∧
  (
    (∀ (s : State) (a : Site) (h : FillHeld), (s.ctx a).fill = some h → ({ s.ctx a with fill := none } : Ctx).idle → s.canGo a →
      h.go = false → h.f.src = 0 → h.ecc ≠ .double →
      let x := s.tile a.tile
      let ls := lanesOf h.mask
      let b := rowBytes h.f.fmt
      (∀ l, x.standin = some l → h.mask.getLsbD l = false) → x.ueIn (64 * h.line) (ls.length * b) = none →
      ∃ t, exec (.fillBufferRelease a.tile h.f.buf) s = .next t ∧ s.elsewhere t a.tile ∧
        t.ctx a = { s.ctx a with fill := none } ∧
        ((t.tile a.tile).buf h.f.buf).fmt = some h.f.fmt ∧ ((t.tile a.tile).buf h.f.buf).mask = h.mask ∧
        (∀ i, i < ls.length →
          ((t.tile a.tile).buf h.f.buf).rows.get (ls.getD i 0) [] = slice (x.sram.bytes (64 * h.line) (ls.length * b)) (b * i) b) ∧
        (t.tile a.tile).buf (~~~ h.f.buf) = x.buf (~~~ h.f.buf) ∧
        (t.tile a.tile).sram = x.sram ∧ (t.tile a.tile).ctx (!a.side) = x.ctx (!a.side)) ∧
    (∀ (s : State) (n : Nat) (b : BitVec 1), s.moving = false → exec (.fillBufferRelease n b) s = .next s))

/-- (1) A bubble of MRUN acts on nothing: only what issue changes, and a side run's beats (R85, R157). A valid step whose compare finds no mismatch
accumulates into its entry, fresh with FIRST; with LAST and DST 0 the entry also enters the tile queue, poppable from C9; other entries, buffers, SRAM and
registers stay, and the next step of the run waits for its beat. With LAST and DST 1 the entry leaves toward its pot as one contribution of 128 entries through
list entry 31, if the plan has one (log 8). A matrix issue of the primary inside a window is the window fault
(R78 to R82, R87, R91, R92, R94, R152).
(2) A step that needs a queue entry while its context has none left is held, and issues once a pop has freed one; QUEUE_SLOT_FREED changes nothing where
nothing waits in the tile (R87, R91, R130).
(3) A fifth recovery of a tile within 1,024 beats is a tile fault and gives no result. A mismatch whose replay agrees with its checker takes the replay's
results (R101, R102, R107, R108). -/
def Obligations.MatrixSteps : Prop :=
  (
    ∀ (s : State) (a : Site) (f : MRunF) (ecc buf : Ecc), s.canIssue a (wordOf 1 1 (mrunLow f)) f.dt [f.ga, f.gs] →
      ecc ≠ .double → buf ≠ .double →
      let u := s.issued a (wordOf 1 1 (mrunLow f)) f.dt
      let x := u.tile a.tile
      let w := x.buf f.buf
      let n := 64 * f.bank.toNat + f.entry.toNat
      let line := ((s.ctx a).gr f.ga).toNat
      let stride := ((s.ctx a).gr f.gs).toNat
      let base := 64 * (line % 2 ^ 20)
      let beat := ((s.ctx a).target f.dt).toNat
      let open_ := a.side = true ∨ x.prim.window = false
      (f.bub = 1 → open_ → ∃ t, exec (.mrun a f ecc buf []) s = .next t ∧ u.elsewhere t a.tile ∧
        t.tile a.tile = { x with sideBeats := x.sideBeats + (if a.side then f.nm1.toNat else 0) }) ∧
      (¬ open_ → ∃ t, exec (.mrun a f ecc buf []) s = .next t ∧ t = u.seqFault a.tile false 3 (s.ctx a).pc) ∧
      let lane := fun (t : State) => (t.tile a.tile).router.lane (laneIn 4 false) ++ (t.tile a.tile).prim.out
      (f.bub = 0 → open_ → (∀ i, i ≤ f.nm1.toNat → s.linesOk a.side (runLine line stride i) (recordLines f.fmt) = true) →
        x.ueIn base (rowBytes f.fmt) = none → w.side = a.side → w.fmt = some f.fmt →
        (f.first = 1 ∨ ((x.accOf n).mask.getD w.mask) = w.mask) →
        (f.last = 1 → f.dst = 0 → x.slotAt a.side (s.queueMax a.side) (x.now a.side beat) = some (x.now a.side beat)) →
        (x.inject 0).1 = none → (x.inject 1).1 = none →
        let e := (x.accOf n).step (f.first == 1) w.mask x.standin.isSome
          (stepOut w (chunkVals f.fmt (x.sram.bytes base (rowBytes f.fmt))) u.free x.standin [])
        compareStep x w e ≠ some true →
        ∃ t, exec (.mrun a f ecc buf []) s = .next t ∧
          (t.tile a.tile).accOf n = e ∧ (∀ m, m ≠ n → (t.tile a.tile).accOf m = x.accOf m) ∧
          (t.tile a.tile).queue = x.queue ++
            (if f.last = 1 ∧ f.dst = 0 then [⟨drainVals w e, w.mask, f.zfill == 1, a.side, n, x.now a.side beat + 9⟩] else []) ∧
          t.ctx a = { u.ctx a with
            run := if f.nm1 = 0 then none else some ⟨f, (s.ctx a).pc, 1, beat + 1, line, stride, [], false⟩
            out := (t.ctx a).out } ∧
          (t.tile a.tile).ctx (!a.side) = { x.ctx (!a.side) with out := ((t.tile a.tile).ctx (!a.side)).out } ∧
          (f.last = 0 ∨ f.dst = 0 ∨ s.drainEnt a.tile = none → lane t = lane u) ∧
          (∀ le, f.last = 1 → f.dst = 1 → s.drainEnt a.tile = some le →
            (t.tile a.tile).cursor le = (x.cursor le).step le 128 ∧
            ∃ h, lane t = lane u ++ pktFlits (mkPkt h (drainBytes w e)) ∧ h.typ = 3 ∧ h.count = 128 ∧ h.pot = BitVec.ofNat 32 le.pot ∧
              h.start = BitVec.ofNat 64 (x.cursor le).cur ∧ h.mask = drainMask w (f.zfill == 1)) ∧
          (t.tile a.tile).sram = x.sram ∧ (t.tile a.tile).bufA = x.bufA ∧ (t.tile a.tile).bufB = x.bufB ∧
          t.pos = s.pos ∧ ∀ m, m ≠ a.tile → t.tile m = s.tile m)) ∧
  (
    (∀ (s : State) (a : Site) (f : MRunF) (ecc buf : Ecc), s.canIssue a (wordOf 1 1 (mrunLow f)) f.dt [f.ga, f.gs] →
      ecc ≠ .double → buf ≠ .double →
      let u := s.issued a (wordOf 1 1 (mrunLow f)) f.dt
      let x := u.tile a.tile
      let n := 64 * f.bank.toNat + f.entry.toNat
      let line := ((s.ctx a).gr f.ga).toNat
      let stride := ((s.ctx a).gr f.gs).toNat
      let beat := ((s.ctx a).target f.dt).toNat
      f.bub = 0 → (a.side = true ∨ x.prim.window = false) →
      (∀ i, i ≤ f.nm1.toNat → s.linesOk a.side (runLine line stride i) (recordLines f.fmt) = true) →
      (x.buf f.buf).side = a.side → (x.buf f.buf).fmt = some f.fmt →
      (f.first = 1 ∨ ((x.accOf n).mask.getD (x.buf f.buf).mask) = (x.buf f.buf).mask) →
      f.last = 1 → f.dst = 0 → x.slotAt a.side (s.queueMax a.side) (x.now a.side beat) = none →
      ∃ t, exec (.mrun a f ecc buf []) s = .next t ∧
        t.ctx a = { u.ctx a with run := some ⟨f, (s.ctx a).pc, 0, beat, line, stride, [], false⟩ } ∧
        (t.tile a.tile).acc = x.acc ∧ (t.tile a.tile).queue = x.queue) ∧
    (∀ (s : State) (a : Site) (h : RunHeld), (s.ctx a).run = some h → ({ s.ctx a with run := none } : Ctx).idle → s.canGo a →
      h.beat ≤ (s.ctx a).tc.toNat → h.step = h.f.nm1.toNat → h.ups = [] → h.again = false →
      let x := s.tile a.tile
      let w := x.buf h.f.buf
      let n := 64 * h.f.bank.toNat + h.f.entry.toNat + h.step
      let base := 64 * runLine h.line h.stride h.step
      let e := fun (i : Nat) => (x.accOf n).step (h.f.first == 1) w.mask x.standin.isSome
        (stepOut w (chunkVals h.f.fmt (x.sram.bytes base (rowBytes h.f.fmt))) i x.standin [])
      w.side = a.side → w.fmt = some h.f.fmt → (h.f.first = 1 ∨ ((x.accOf n).mask.getD w.mask) = w.mask) →
      (x.slotAt a.side (s.queueMax a.side) (x.now a.side h.beat)).isSome = true → h.f.last = 1 → h.f.dst = 0 →
      x.ueIn base (rowBytes h.f.fmt) = none → (x.inject 0).1 = none → (x.inject 1).1 = none →
      (∀ i, compareStep x w (e i) ≠ some true) →
      ∃ t i, exec (.queueSlotFreed a.tile a.side) s = .next t ∧ (t.ctx a).run = none ∧ (t.tile a.tile).accOf n = e i ∧
        (t.tile a.tile).queue.length = x.queue.length + 1 ∧ (t.tile a.tile).sram = x.sram ∧ ∀ m, m ≠ a.tile → t.tile m = s.tile m) ∧
    (∀ (s : State) (n : Nat) (side : Bool), s.calm n → exec (.queueSlotFreed n side) s = .next s)) ∧
  (
    ∀ (s : State) (n : Nat) (side : Bool) (b : BitVec 1) (ops : List FV) (i : Nat) (ups : List Upset) (beat : Nat) (o : StepOut),
      let x := s.tile n
      let recent := (x.recov.filter (fun r => decide (x.now side beat < r + 1024))).length
      (4 ≤ recent → (s.recover n side b ops i ups beat o).out = none ∧
        (s.recover n side b ops i ups beat o).s = (s.haltCtx n side).tileFault n 8) ∧
      (recent ≤ 3 → ups = [] → (x.inject 0).1 = none → (x.inject 1).1 = none →
        let r := stepOut (x.buf b) ops i x.standin []
        disagree ((sumFV (r.p.map (fun e => f32 e.2))).sub (f32 r.q)) r.mu = false →
        (s.recover n side b ops i ups beat o).out = some r ∧
        ((s.recover n side b ops i ups beat o).s.tile n).recov.length = recent + 1))

/-! ## Memory, mesh and trump instructions (R162, R163) -/

/-- LD writes the 64 words of lines GA + OFF onward into VD; ST writes the 256 bytes of its register there; every other byte of SRAM and every
other register stays; lines outside the partition are the partition fault (R162, R163, R164). -/
def Obligations.LoadStore : Prop :=
  ∀ (s : State) (a : Site) (f : LFmt),
    let line := (((s.ctx a).gr f.ga).toNat + f.off.toNat) % 2 ^ 20
    let u := fun op => s.issued a (wordOf 3 op (lLow f)) f.dt
    (s.canIssue a (wordOf 3 0 (lLow f)) f.dt [f.ga] → ∀ ecc up,
      (ecc ≠ .double → s.clean a up → s.linesOk a.side line 4 = true → (s.tile a.tile).ueIn (64 * line) 256 = none →
        ∃ t, exec (.ld a f ecc up) s = .next t ∧
          ((u 0).eccCe a.tile ecc).wroteV t a f.v.toNat (fun _ => true) false
            (fun i => BitVec.ofNat 32 (leNat ((s.tile a.tile).sram.bytes (64 * line + 4 * i) 4)))) ∧
      (s.linesOk a.side line 4 = false → exec (.ld a f ecc up) s = .next ((u 0).seqFault a.tile a.side 4 (s.ctx a).pc))) ∧
    (s.canIssue a (wordOf 3 1 (lLow f)) f.dt [f.ga] →
      (s.linesOk a.side line 4 = true →
        ∃ t, exec (.st a f) s = .next t ∧ (u 1).elsewhere t a.tile ∧
          (∀ i, i < 256 → (t.tile a.tile).sram.get (64 * line + i) 0 = ((s.ctx a).vecBytes f.v.toNat).getD i 0) ∧
          (∀ b, (b < 64 * line ∨ 64 * line + 256 ≤ b) → (t.tile a.tile).sram.get b 0 = (s.tile a.tile).sram.get b 0) ∧
          (t.tile a.tile).prim = ((u 1).tile a.tile).prim ∧ (t.tile a.tile).side = ((u 1).tile a.tile).side ∧
          (t.tile a.tile).acc = (s.tile a.tile).acc) ∧
      (s.linesOk a.side line 4 = false → exec (.st a f) s = .next ((u 1).seqFault a.tile a.side 4 (s.ctx a).pc)))

/-- SEND hands its lines as flits to the router's LOC lane of its context, one for each beat: the first at its issue, the rest as decode passes their
beats, as long as the lane has room. RECV takes as many flits of the local port and writes them to SRAM, one for each beat; it waits for a flit that is not
there. Neither changes anything else but what issue changes (R86, R162, R169, R171). -/
def Obligations.SendReceive : Prop :=
  (∀ (s : State) (a : Site) (f : XFmt) (ecc : Ecc),
    let line := (((s.ctx a).gr f.ga).toNat + f.off.toNat) % 2 ^ 20
    let n := f.nfm1.toNat + 1
    let beat := ((s.ctx a).target f.dt).toNat
    let u := fun op => s.issued a (wordOf 4 op (xLow f)) f.dt
    let x := fun op => (u op).tile a.tile
    let l := (s.tile a.tile).router.lane (laneOut 0 a.side)
    let out := (s.tile a.tile).router.lane (laneIn 4 a.side)
    let rest : Option MeshHeld := if n = 1 then none else some ⟨(s.ctx a).pc, beat + 1, line + 1, n - 1, ecc⟩
    (s.canIssue a (wordOf 4 0 (xLow f)) f.dt [f.ga] → ecc ≠ .double → s.linesOk a.side line n = true →
      (out.length < 8 → (s.tile a.tile).ueIn (64 * line) 64 = none →
        ∃ t, exec (.send a f ecc) s = .next t ∧ ((u 0).eccCe a.tile ecc).elsewhere t a.tile ∧
          (t.tile a.tile).router = { (x 0).router with
            lanes := (x 0).router.lanes.put (laneIn 4 a.side) (out ++ [flitOf ((s.tile a.tile).sram.bytes (64 * line) 64)]) [] } ∧
          t.ctx a = { (u 0).ctx a with send := rest } ∧ (t.tile a.tile).sram = (s.tile a.tile).sram) ∧
      (8 ≤ out.length → ∃ t, exec (.send a f ecc) s = .next t ∧ (t.tile a.tile).router = (x 0).router ∧
        t.ctx a = { (u 0).ctx a with send := some ⟨(s.ctx a).pc, beat, line, n, ecc⟩ })) ∧
    (s.canIssue a (wordOf 4 1 (xLow f)) f.dt [f.ga] → ecc = .ok → s.linesOk a.side line n = true →
      (∀ fl r, l = fl :: r → fl.poison = false → ∃ t, exec (.recv a f) s = .next t ∧ (u 1).elsewhere t a.tile ∧
        (t.tile a.tile).router.lane (laneOut 0 a.side) = r ∧
        (∀ i, i < 64 → (t.tile a.tile).sram.get (64 * line + i) 0 = (flitBytes fl).getD i 0) ∧
        (∀ b, (b < 64 * line ∨ 64 * line + 64 ≤ b) → (t.tile a.tile).sram.get b 0 = (s.tile a.tile).sram.get b 0) ∧
        t.ctx a = { (u 1).ctx a with recv := rest } ∧ (t.tile a.tile).ctx (!a.side) = (x 1).ctx (!a.side)) ∧
      (l = [] → exec (.recv a f) s =
        .next ((u 1).onCtx a (fun c => { c with recv := some ⟨(s.ctx a).pc, beat, line, n, .ok⟩ })))) ∧
    (∀ op, op ≤ 1 → s.canIssue a (wordOf 4 op (xLow f)) f.dt [f.ga] → s.linesOk a.side line n = false →
      exec (if op = 0 then .send a f ecc else .recv a f) s = .next ((u op).seqFault a.tile a.side 4 (s.ctx a).pc))) ∧
  (∀ (s : State) (a : Site) (f : SFmt) (h : MeshHeld), s.canDecode a (wordOf 7 6 (sLow f)) [] → s.canGo a →
    let now := (s.ctx a).tc + f.imm.setWidth 64
    let k := h.left
    let out := (s.tile a.tile).router.lane (laneIn 4 a.side)
    let l := (s.tile a.tile).router.lane (laneOut 0 a.side)
    0 < k → k ≤ 1024 → h.beat + k ≤ now.toNat + 1 →
    ((s.ctx a).send = some h → ({ s.ctx a with send := none } : Ctx).idle → out.length + k ≤ 8 →
      (s.tile a.tile).ueIn (64 * h.line) (64 * k) = none →
      ∃ t, exec (.waitb a f) s = .next t ∧ (t.ctx a).send = none ∧ (t.ctx a).tc = now ∧
        (t.tile a.tile).router.lane (laneIn 4 a.side) =
          out ++ (List.range k).map (fun i => flitOf ((s.tile a.tile).sram.bytes (64 * (h.line + i)) 64)) ∧
        (t.tile a.tile).sram = (s.tile a.tile).sram ∧ ∀ m, m ≠ a.tile → t.tile m = s.tile m) ∧
    ((s.ctx a).recv = some h → ({ s.ctx a with recv := none } : Ctx).idle → k ≤ l.length → (∀ fl ∈ l.take k, fl.poison = false) →
      ∃ t, exec (.waitb a f) s = .next t ∧ (t.ctx a).recv = none ∧ (t.ctx a).tc = now ∧
        (t.tile a.tile).router.lane (laneOut 0 a.side) = l.drop k ∧
        (∀ i, i < 64 * k → (t.tile a.tile).sram.get (64 * h.line + i) 0 = ((l.take k).flatMap flitBytes).getD i 0) ∧
        (∀ b, (b < 64 * h.line ∨ 64 * h.line + 64 * k ≤ b) → (t.tile a.tile).sram.get b 0 = (s.tile a.tile).sram.get b 0) ∧
        ∀ m, m ≠ a.tile → t.tile m = s.tile m))

/-- (1) A POTS in FP32 sends its lines as one contribution with the header of R289 from the entry's cursor, adds their squares to the tile's norm in
order, and advances the cursor; SRAM and registers stay. A one-bit POTS sends its blocks' signs and magnitudes and writes the new error memory and no other
byte. One that no list entry names sends nothing (log 8). Its packet enters the local port as that has room (R171, R288 to R292).
(2) TRICK of a member waits for its result and brings GA to the root; the root combines the contributions of one instance with OR, AND, MAX or the
saturating SUM, and holds the result once every member has contributed. A tile that waits for the tree's last result holds the TRICK in its queue, and
one of a tile that is no member contributes nothing (R162, R203, R204; log 81). -/
def Obligations.PotContributions : Prop :=
  (
    ∀ (s : State) (a : Site) (f : XFmt) (ecc : Ecc), s.canIssue a (wordOf 4 2 (xLow f)) f.dt [f.ga] → ecc ≠ .double →
      let u := s.issued a (wordOf 4 2 (xLow f)) f.dt
      let x := u.tile a.tile
      let line := (((s.ctx a).gr f.ga).toNat + f.off.toNat) % 2 ^ 20
      let n := f.nfm1.toNat + 1
      let g := wordsOf (x.sram.bytes (64 * line) (64 * n))
      let lane := fun (t : State) => (t.tile a.tile).router.lane (laneIn 4 false) ++ (t.tile a.tile).prim.out
      s.linesOk a.side line (potsLines f) = true → x.ueIn (64 * line) (64 * potsLines f) = none →
      (∀ e, s.potsEnt a f = some e → f.mode = 0 → ∃ t h, exec (.pots a f ecc) s = .next t ∧
        lane t = lane u ++ pktFlits (mkPkt h (x.sram.bytes (64 * line) (64 * n))) ∧
        h.typ = 1 ∧ h.flags = 0 ∧ h.hand = s.hand.hand ∧ h.seat = BitVec.ofNat 16 s.rank ∧ h.tile = BitVec.ofNat 16 a.tile ∧
        h.pot = BitVec.ofNat 32 e.pot ∧ h.round = BitVec.ofNat 16 (x.cursor e).round ∧
        h.start = BitVec.ofNat 64 (x.cursor e).cur ∧ h.count = BitVec.ofNat 32 (16 * n) ∧
        (t.tile a.tile).lnorm = g.foldl (fun b w => dAdd b (toD64 ((f32 w).mul (f32 w)))) x.lnorm ∧
        (t.tile a.tile).cursor e = (x.cursor e).step e (16 * n) ∧
        (t.tile a.tile).sram = x.sram ∧ (t.ctx a).v = (s.ctx a).v ∧ (t.ctx a).g = (s.ctx a).g ∧ ∀ m, m ≠ a.tile → t.tile m = s.tile m) ∧
      (∀ e, s.potsEnt a f = some e → f.mode = 1 → ∃ t h p, exec (.pots a f ecc) s = .next t ∧
        let base := 64 * (line + 16 * (n / 16))
        lane t = lane u ++ pktFlits (mkPkt h p) ∧ h.typ = 2 ∧ h.count = BitVec.ofNat 32 (16 * n) ∧ p.length = 34 * (n / 16) ∧
        (∀ b, (b < base ∨ base + 512 * (n / 16) ≤ b) → (t.tile a.tile).sram.get b 0 = x.sram.get b 0) ∧
        (t.tile a.tile).cursor e = (x.cursor e).step e (16 * n) ∧ (t.ctx a).v = (s.ctx a).v ∧ (t.ctx a).g = (s.ctx a).g ∧
        ∀ m, m ≠ a.tile → t.tile m = s.tile m) ∧
      (s.potsEnt a f = none → exec (.pots a f ecc) s = .next (u.eccCe a.tile ecc))) ∧
  (
    ∀ (s : State) (a : Site) (f : TFmt), s.canIssue a (wordOf 5 0 (tLow f)) f.dt [f.ga] → f.tree.toNat < 0xF0 →
      (∀ w ∈ (s.ctx a).waits, w.tree ≠ f.tree.toNat) →
      let tree := f.tree.toNat
      let u := s.issued a (wordOf 5 0 (tLow f)) f.dt
      let v := (s.ctx a).gr f.ga
      let r := u.trickOf tree
      ((s.tile a.tile).onTree tree = false → (u.members tree).contains a.tile = true → r.got.contains a.tile = false → r.done = none →
        (r.fn = none ∨ r.fn = some f.fn) → f.fn.toNat ≤ 3 →
        ∃ t, exec (.trick a f) s = .next t ∧
          t.ctx a = { u.ctx a with waits := (s.ctx a).waits ++ [⟨tree, f.gd, true⟩] } ∧
          let w := if r.got.isEmpty then v
            else if f.fn = 0 then r.value ||| v
            else if f.fn = 1 then r.value &&& v
            else if f.fn = 2 then (if r.value.toNat < v.toNat then v else r.value)
            else BitVec.ofNat 32 (min (r.value.toNat + v.toNat) 0xFFFFFFFF)
          (t.trickOf tree).value = w ∧ (t.trickOf tree).got = setIns r.got a.tile ∧
          (t.trickOf tree).done = (if (u.members tree).all (fun m => decide (m = a.tile) || r.got.contains m) then some w else none) ∧
          ∀ m, m ≠ a.tile → t.tile m = s.tile m) ∧
      ((s.tile a.tile).onTree tree = true → ∃ t, exec (.trick a f) s = .next t ∧
        t.ctx a = { (s.timedTo a (wordOf 5 0 (tLow f)) f.dt).ctx a with
          waits := (s.ctx a).waits ++ [⟨tree, f.gd, false⟩]
          uq := [⟨.trick f, (s.ctx a).pc, ((s.ctx a).target f.dt).toNat, v, (s.ctx a).gr 0⟩] } ∧
        t.fab.tricks = s.fab.tricks) ∧
      ((s.tile a.tile).onTree tree = false → (u.members tree).contains a.tile = false →
        ∃ t, exec (.trick a f) s = .next t ∧ t.ctx a = u.ctx a ∧ t.fab.tricks = s.fab.tricks))

/-! ## Events of a tile (R118 to R128, R306) -/

/-- (1) A patrol pass that corrected a word marks SRAM_CE and changes nothing else; one that corrected none, and one of a tile whose field is off,
changes nothing (R118, R126).
(2) An external write of a tile's SRAM stores its bytes and no others, and one of STAT clears the written bits 14:10; a read answers up to 8 bytes and
marks SRAM_CE where it corrects; into a field that is off they are refused as a gated block, elsewhere as an error; an agent without the
right changes nothing (R119, R120, R122, R126, R439).
(3) FB_TILE_INJ takes the written fields of a tile that can be reached while its writer has the debug port's right INJECT, and ignores the write
otherwise (R128, R518). -/
def Obligations.TileUpkeep : Prop :=
  (
    ∀ (s : State) (n : Nat) (c : List Nat),
      (s.fieldOn (tileField n) = true → c ≠ [] → ∃ t, exec (.patrolScrub n c) s = .next t ∧ s.elsewhere t n ∧
        t.tile n = { s.tile n with stat := (s.tile n).stat ||| 0x1000 }) ∧
      (s.fieldOn (tileField n) = false ∨ c = [] → exec (.patrolScrub n c) s = .next s)) ∧
  (
    ∀ (s : State) (who : Agent) (n off : Nat), n < 1152 → s.mayReach who = true →
      (∀ (b : Bytes) ecc, b ≠ [] → s.fieldOn (tileField n) = true → s.tileReach n = true → off + b.length ≤ 0x2800000 →
        ∃ t, exec (.externalAccess who n off (some b) 0 ecc) s = .next t ∧ s.elsewhere t n ∧
          (∀ i, i < b.length → (t.tile n).sram.get (off + i) 0 = b.getD i 0) ∧
          (∀ a, (a < off ∨ off + b.length ≤ a) → (t.tile n).sram.get a 0 = (s.tile n).sram.get a 0) ∧
          (t.tile n).prim = (s.tile n).prim ∧ (t.tile n).side = (s.tile n).side ∧ (t.tile n).acc = (s.tile n).acc) ∧
      (∀ (v : W32) ecc, s.fieldOn (tileField n) = true → s.tileReach n = true →
        ∃ t, exec (.externalAccess who n 0x3000004 (some (leBytes 4 v.toNat)) 0 ecc) s = .next t ∧ s.elsewhere t n ∧
          t.tile n = { s.tile n with stat := (s.tile n).stat &&& ~~~ (v &&& 0x7C00) }) ∧
      (∀ len ecc, 0 < len → s.fieldOn (tileField n) = true → s.tileReach n = true → off + len ≤ 0x2800000 →
        (s.tile n).ueIn off len = none → ecc ≠ .double →
        ∃ t, exec (.externalAccess who n off none len ecc) s = .next t ∧
          t.host = { s.host with rdata := some (BitVec.ofNat 64 (leNat ((s.tile n).sram.bytes off (min len 8)))) } ∧
          t = { s with host := t.host, tiles := t.tiles } ∧
          t.tile n = { s.tile n with stat := if ecc = .corrected then (s.tile n).stat ||| 0x1000 else (s.tile n).stat } ∧
          ∀ m, m ≠ n → t.tile m = s.tile m) ∧
      (∀ len ecc, s.fieldOn (tileField n) = false → who = .host → ∃ t, exec (.externalAccess who n off none len ecc) s = .next t ∧
        t.host.rdata = none ∧ t.on R.HI_ERR_CABORT = true ∧ t.tiles = s.tiles ∧ t.pos = s.pos) ∧
      (∀ w len ecc agent, s.mayReach agent = false → exec (.externalAccess agent n off w len ecc) s = .next s)) ∧
  (
    ∀ (s : State) (who : Agent) (n : Nat) (v : W32), s.mayReach who = true → s.fieldOn (tileField n) = true → s.tileReach n = true →
      (s.right 3 = true → ∃ t, exec (.fbTileInj who n v) s = .next t ∧ s.elsewhere t n ∧
        t.tile n = { s.tile n with inj := v &&& 0xFFFF }) ∧
      (s.right 3 = false → exec (.fbTileInj who n v) s = .next s))

/-! ## The mesh (R168 to R196) -/

/-- (1) The oldest flit on its way to a port enters its lane when the CRC holds, behind what the lane has; one with a wrong CRC is refused and counted as a
retry of its link, and its sender is to resend; the third refusal in a row delivers it poisoned, with LINK_POISON, and its link dies at the boundary. With
no room, and while a resend is awaited, nothing enters. Then the dealers at the tile's edge ports go on (R171, R172, R173).
(2) A refusal makes the sender resend from the refused flit onward, in order, out of the last 8 that it keeps (R172). A seam or edge handshake that
times out is a fabric fault: SEAM_TIMEOUT, the link to die at the boundary, and the hand misdealt (R186). -/
def Obligations.FlitReceive : Prop :=
  (
    ∀ (s : State) (n port : Nat) (side : Bool) (err : BitVec 528), port < 4 ∨ (port < 8 ∧ (edgeAt n (port - 4)).isSome = true) →
      let r := (s.tile n).router
      let k := 2 * port + b2n side
      let w := resendKey n port side
      let way := s.onWay n port side
      let shut := laneDepth n (port % 4) side ≤ (s.laneAt n port side).length ∨ (s.tile w.1).router.resend.contains w.2 = true
      (way = [] ∨ shut → exec (.flitReceive n port side err) s = .next (s.pumpEdge n)) ∧
      (∀ f rest, way = f :: rest → ¬ shut →
        let g := hitFlit f err
        (g.crc = crc16 (flitBytes g) →
          ∃ u : State, exec (.flitReceive n port side err) s = .next (u.pumpEdge n) ∧
            u.laneAt n port side = s.laneAt n port side ++ [g] ∧ u.onWay n port side = rest ∧
            (u.tile n).router.refused.get k 0 = 0 ∧ (∀ m, (u.tile m).sram = (s.tile m).sram ∧ (u.tile m).prim = (s.tile m).prim) ∧
            u.hand = s.hand ∧ u.regs = s.regs ∧ u.pos = s.pos) ∧
        (g.crc ≠ crc16 (flitBytes g) → s.on R.FB_CTRL_RETRY_EN = true → r.refused.get k 0 < 2 →
          ∃ u : State, exec (.flitReceive n port side err) s = .next (u.pumpEdge n) ∧
            (u.tile n).router.retries.get port 0 = r.retries.get port 0 + 1 ∧ (u.tile n).router.refused.get k 0 = r.refused.get k 0 + 1 ∧
            (u.tile w.1).router.resend.contains w.2 = true ∧ u.laneAt n port side = s.laneAt n port side ∧
            u.onWay n port side = way ∧ u.hand = s.hand ∧ u.regs = s.regs ∧ u.pos = s.pos) ∧
        (g.crc ≠ crc16 (flitBytes g) → s.on R.FB_CTRL_RETRY_EN = false ∨ 2 ≤ r.refused.get k 0 →
          ∃ u : State, exec (.flitReceive n port side err) s = .next (u.pumpEdge n) ∧
            u.laneAt n port side = s.laneAt n port side ++ [{ g with poison := true }] ∧ u.onWay n port side = rest ∧
            u.fab.dead = s.fab.dead ++ [(portLink n port, 2)] ∧ s.noted 0x0305 [.w4 (portLink n port)] ∈ u.sup.trace))) ∧
  (
    (∀ (s : State) (n port : Nat) (side near : Bool),
      let w := resendKey n (if near then port + 4 else port) side
      let r := (s.tile w.1).router
      let l := r.sent.get w.2 []
      let k := (r.flight.get w.2 []).length
      ∃ t, exec (.flitRefusal n port side near) s = .next t ∧ s.elsewhere t w.1 ∧
        t.tile w.1 = { s.tile w.1 with router := { r with
          resend := (t.tile w.1).router.resend, flight := (t.tile w.1).router.flight } } ∧
        (∀ e, (t.tile w.1).router.resend.contains e = (decide (e ≠ w.2) && r.resend.contains e)) ∧
        (∀ e, (t.tile w.1).router.flight.get e [] = if e = w.2 ∧ k ≤ l.length then l.drop (l.length - k) else r.flight.get e [])) ∧
    (∀ (s : State) (link : Nat),
      ∃ t u : State, exec (.seamTimeout link) s = .next t ∧ t = u.misdeal 7 ∧
        s.said { s with fab := { s.fab with dead := s.fab.dead ++ [(link, 3)] } } u 0x0307 [.w4 link]))

/-- (1) A scheduled router runs its entry when every primary input that it names holds a flit and every primary output has room: each named primary
input gives its head, the tile's own outputs take the head of their source, the other outputs send it on its way, and RB steps. Else it holds: a wait is one slip of
the router, and a beat of DL_PLATE for each position that it waits for; at an absent port it is the absent-port fault. An idle router and a hole do nothing.
Then the dealers at the tile's edge ports go on (R174 to R177, R182, R187, R190, R240).
(2) NT_START between hands begins the neighbour test, which shows as NT_BUSY until its 20 s are over; at stage 3 of start-up the next stage waits for its
end. The test makes a tile that it finds bad PASS, or HOLE where its straight paths fail too, and no tile better; dead links stay dead, and NT_DONE is
set. At any other time the write is ignored (R191 to R195, R214, R544). -/
def Obligations.RouterAndNeighbour : Prop :=
  (
    ∀ (s : State) (n : Nat), s.calm n → (s.tile n).corr.length ≤ 1 →
      (s.rmode n = .idle ∨ s.rmode n = .hole ∨ s.fieldOn (tileField n) = false ∨ s.on R.FB_STATUS_STALLED = true →
        exec (.routerEntry n) s = .next (s.pumpEdge n)) ∧
      (s.fieldOn (tileField n) = true → s.on R.FB_STATUS_STALLED = false → s.rmode n = .scheduled → s.fab.started = true →
        (s.tile n).router.rb < s.endBeat → s.before (s.tile n).router.rb = true →
        let r := (s.tile n).router.due
        let e := r.entry
        let u := s.onTile n (fun x => { x with router := x.router.due })
        let prim := (outsOf e false).map (fun o => (srcOf e o - 1, o))
        let can := prim.all (fun m => !(r.lane (laneIn m.1 false)).isEmpty && u.room n m.2 false)
        let head := fun (o : Nat) => if srcOf e o ≠ 0 ∧ sideOf e o = false then (r.lane (laneIn (srcOf e o - 1) false)).head?.toList else []
        ((s.tile n).prim.running = false ∨ r.rb ≤ (s.tile n).prim.tc.toNat) →
        (can = true → (∀ o, o < 7 → srcOf e o ≤ 5) → outsOf e true = [] →
          ∃ t : State, exec (.routerEntry n) s = .next (t.pumpEdge n) ∧ (t.tile n).router.rb = r.rb + 1 ∧
            (∀ i, i < 5 → (t.tile n).router.lane (laneIn i false) =
              if prim.any (fun m => m.1 == i) then (r.lane (laneIn i false)).drop 1 else r.lane (laneIn i false)) ∧
            (∀ o, 4 ≤ o → o < 7 → (t.tile n).router.lane (laneOut (o - 4) false) = r.lane (laneOut (o - 4) false) ++ head o) ∧
            (∀ o, o < 4 → (t.tile n).router.flight.get (2 * o) [] = r.flight.get (2 * o) [] ++ head o) ∧
            (t.tile n).sram = (s.tile n).sram ∧ (t.tile n).prim = (s.tile n).prim ∧ t.hand = s.hand ∧ t.regs = s.regs ∧ t.fab = s.fab ∧
            ∀ m, m ≠ n → t.tile m = s.tile m) ∧
        (can = false → u.absentPort n e = none →
          exec (.routerEntry n) s = .next (((u.each (u.lateDealers n e) (fun s k => s.bumpI R.DL_PLATE_BEATS k 1)).routerSlip n 1).pumpEdge n)) ∧
        (∀ p, can = false → u.absentPort n e = some p →
          exec (.routerEntry n) s = .next (((u.emit 0x0308 [.w4 n, .w4 p]).tileStop n).pumpEdge n)))) ∧
  (
    ∀ (s : State) (who : Agent) (r : NtIn),
      let may := s.mayWrite who R.FB_CTRL_NT_START.off = true ∧ s.hand.running = none ∧ s.hand.waiting = none ∧ s.fab.nt = none
      let live := fun (n : Nat) => s.fieldOff (tileField n) = false ∧ bitOf (s.rd64 R.PW_RAIL_LO_ON R.PW_RAIL_HI_ON) (tileField n) = true
      let judged := fun (t : State) =>
        (∀ n, n < 1152 → t.fab.dmap.tiles.get n 0 =
          if live n ∧ s.ntBad r n = true ∧ stateRank (s.fab.dmap.tiles.get n 0) < stateRank (ntVerdict r n)
          then ntVerdict r n else s.fab.dmap.tiles.get n 0) ∧
        (∀ l, s.linkDead l = true → t.linkDead l = true) ∧ t.fab.dmap.lost = s.fab.dmap.lost ∧
        t.on R.FB_STATUS_NT_DONE = true ∧ t.on R.FB_STATUS_NT_BUSY = false ∧ t.on R.FB_CTRL_NT_START = false ∧ t.hand.hand = s.hand.hand
      (may → s.rd R.HI_STATUS_STAGE ≠ 3 → ∃ t, exec (.ntStart who r) s = .next t ∧ t.fab = { s.fab with nt := some (r, s.ticks) } ∧
        t.on R.FB_STATUS_NT_BUSY = true ∧ t.on R.FB_CTRL_NT_START = true ∧ t.tiles = s.tiles ∧ t.pos = s.pos ∧ t.hand = s.hand) ∧
      (may → s.rd R.HI_STATUS_STAGE = 3 → ∃ t, exec (.ntStart who r) s = .next t ∧ judged t ∧ t.fab.nt = none ∧ t.rd R.HI_STATUS_STAGE = 4) ∧
      judged (s.neighbourTest r) ∧
      (¬ may → exec (.ntStart who r) s = .next s))

/-! ## The trump network (R199 to R215) -/

/-- (1) STALL at its tick sets STALLED, keeps the tick and emits STALLED; on a stalled wafer it changes nothing more. UNSTALL at its tick clears it, counts the
stall's beats at 12 to a tick of the nominal rate, and lets a freeze that waited take effect; a wafer that does not stall stays (R208, R209, R212, R434).
(2) FREEZE of a wafer that does not stall makes F_eff the greater of the target and the highest beat that the units gather, and the units run on to it: once
every unit stands there FROZEN is set, with FREEZE_DONE. A freeze in force is never lowered. STEP raises F_eff of a frozen wafer; THAW ends the freeze; on
a stalled wafer the target waits (R211, R212, R214). -/
def Obligations.StallAndFreeze : Prop :=
  (
    ∀ (s : State) (cause tick : Nat) (h : Hop),
      let u := s.atTick tick
      (goodHop h 7 → s.on R.FB_STATUS_STALLED = false → ∃ t, exec (.stall cause ⟨tick, h⟩) s = .next t ∧
        u.said (({ u with fab := { u.fab with stallAt := some u.ticks } } : State).wr R.FB_STATUS_STALLED 1) t 0x030E [.w4 cause]) ∧
      (goodHop h 7 → s.on R.FB_STATUS_STALLED = true → exec (.stall cause ⟨tick, h⟩) s = .next u) ∧
      (∀ a, goodHop h 8 → s.fab.stallAt = some a → s.allCalm →
        ∃ t, exec (.unstall ⟨tick, h⟩) s = .next t ∧ t.on R.FB_STATUS_STALLED = false ∧ t.fab.stallAt = none ∧ t.fab.freezePend = none ∧
          t.rd R.FB_STALL_BEATS_BEATS =
            min (s.rd R.FB_STALL_BEATS_BEATS + (u.ticks - a) * 12 * (16 - s.rd R.CK_THROTTLE_LEVEL) / 16) (2 ^ 32 - 1) ∧
          (s.fab.freezePend = none → t.on R.FB_STATUS_FROZEN = s.on R.FB_STATUS_FROZEN ∧ t.fEff = s.fEff) ∧
          (∀ f, s.fab.freezePend = some f → s.on R.FB_STATUS_FROZEN = false → t.fEff = max f s.topBeat % 2 ^ 48) ∧ t.pos = s.pos) ∧
      (goodHop h 8 → s.fab.stallAt = none → exec (.unstall ⟨tick, h⟩) s = .next u)) ∧
  (
    ∀ (s : State) (h : Hop),
      (∀ f, goodHop h 4 → s.on R.FB_STATUS_STALLED = false → s.on R.FB_STATUS_FROZEN = false → s.allCalm →
        let e := max f s.topBeat % 2 ^ 48
        ∃ t, exec (.freeze f h) s = .next t ∧ t.fEff = e ∧ (t.on R.FB_STATUS_FROZEN = true ∨ t.fab.freezing = true) ∧ t.pos = s.pos ∧
          (s.tiles.all (fun x => s.ctxThere x.1 e && s.routerThere x.1 e) = true →
            t.on R.FB_STATUS_FROZEN = true ∧ t.fab.freezing = false ∧ s.noted 0x030F [.w8 e] ∈ t.sup.trace)) ∧
      (∀ f, goodHop h 4 → s.on R.FB_STATUS_STALLED = false → s.on R.FB_STATUS_FROZEN = true → f ≤ s.fEff →
        exec (.freeze f h) s = .next s) ∧
      (∀ f, goodHop h 4 → s.on R.FB_STATUS_STALLED = true → exec (.freeze f h) s =
        .next { s with fab := { s.fab with freezePend := some (max (s.fab.freezePend.getD 0) f) } }) ∧
      (∀ n, goodHop h 5 → s.on R.FB_STATUS_FROZEN = true → s.on R.FB_STATUS_STALLED = false → 0 < n → s.fEff + n < 2 ^ 48 → s.allCalm →
        ∃ t, exec (.step ⟨n, h⟩) s = .next t ∧ t.fEff = s.fEff + n ∧ (t.on R.FB_STATUS_FROZEN = true ∨ t.fab.freezing = true) ∧ t.pos = s.pos) ∧
      (∀ n, goodHop h 5 → s.on R.FB_STATUS_FROZEN = false ∨ n = 0 → exec (.step ⟨n, h⟩) s = .next s) ∧
      (∀ tick, goodHop h 6 → s.allCalm → ∃ t, exec (.thaw ⟨tick, h⟩) s = .next t ∧ t.on R.FB_STATUS_FROZEN = false ∧
        t.fab.freezePend = none ∧ t.fab.freezing = false ∧ t.on R.FB_STATUS_STALLED = s.on R.FB_STATUS_STALLED ∧ t.pos = s.pos))

/-- (1) FB_TRUMP_CMD does what the packets do, for an agent that may write it, at the first tick that may be named: FREEZE at FB_FREEZE_AT, STEP by STEPS,
THAW, STALL with cause 2, UNSTALL and, from the supervisor, STOP; from any other agent a write changes nothing (R209, R213, R214, R555).
(2) FLAG sets the tile's flags and those of the root; FAULT stalls the wafer with cause 1, and stays until the supervisor's STOP. A word of a packet with more
than three parity errors in a row, and one of reserved kind, is TRUMP_FAULT and fatal, whatever the packet (R200, R201, R207, R208, R555).
(3) STOP halts every primary context, empties the unit queues, the tile queues and the lanes, discards tricks, open gathers and descriptors, open rounds and
crib records, and ends a freeze and a stall; a hand that has not contributed to its gate is misdealt with the cause, and a sweep is torn
(R32, R210, R249, R315, R328, R371).
(4) START at its tick begins the schedule that was set up: every primary context that runs starts at BC 0, every router at RB 0, the counts of the hand
return to 0 unless it is the sweep of a hand that played, and what was decoded ahead may issue. With no schedule set up it changes nothing
(R148, R180, R209, R327). -/
def Obligations.TrumpCommands : Prop :=
  (
    ∀ (s : State) (who : Agent) (v : W32),
      (s.mayTrump who = true →
        (∀ h g, goodHop h 4 → goodHop g 1 → ∃ t, exec (.cmdFreeze who v g) s = .next t ∧
          exec (.freeze (s.rd64 R.FB_FREEZE_AT_LO_F_LO R.FB_FREEZE_AT_HI_F_HI) h) s = .next t) ∧
        (∀ h, goodHop h 5 → ∃ t, exec (.cmdStep who v) s = .next t ∧ exec (.step ⟨(v.toNat / 65536), h⟩) s = .next t) ∧
        (∀ h, goodHop h 6 → ∃ t, exec (.cmdThaw who v) s = .next t ∧ exec (.thaw ⟨(s.ticks + 12), h⟩) s = .next t) ∧
        (∀ h, goodHop h 7 → ∃ t, exec (.cmdStall who v) s = .next t ∧ exec (.stall 2 ⟨(s.ticks + 12), h⟩) s = .next t ∧
          t.on R.FB_STATUS_STALLED = true ∧ (s.on R.FB_STATUS_STALLED = false → t.fab.stallAt = some (s.ticks + 12)) ∧ t.tiles = s.tiles) ∧
        (∀ h, goodHop h 8 → ∃ t, exec (.cmdUnstall who v) s = .next t ∧ exec (.unstall ⟨(s.ticks + 12), h⟩) s = .next t) ∧
        (∀ h, goodHop h 9 → who = .supervisor → ∃ t, exec (.cmdStop who v) s = .next t ∧ exec (.stop ⟨7, h⟩) s = .next t)) ∧
      (s.mayTrump who = false → (∀ g, exec (.cmdFreeze who v g) s = .next s) ∧ exec (.cmdStep who v) s = .next s ∧
        exec (.cmdThaw who v) s = .next s ∧ exec (.cmdStall who v) s = .next s ∧ exec (.cmdUnstall who v) s = .next s ∧
        exec (.cmdStop who v) s = .next s) ∧
      (who ≠ .supervisor → exec (.cmdStop who v) s = .next s)) ∧
  (
    ∀ (s : State) (n : Nat) (f : BitVec 3) (h : Hop),
      (goodHop h 3 → f.getLsbD 2 = false → ∃ t, exec (.flag n f h) s = .next t ∧
        (t.tile n).flags = (s.tile n).flags ||| f ∧ (∀ m, m ≠ n → t.tile m = s.tile m) ∧
        t.on R.FB_TRUMP_FLAGS_NONFIN = (s.on R.FB_TRUMP_FLAGS_NONFIN || f.getLsbD 0) ∧
        t.on R.FB_TRUMP_FLAGS_RENEGE = (s.on R.FB_TRUMP_FLAGS_RENEGE || f.getLsbD 1) ∧
        t.on R.FB_TRUMP_FLAGS_FAULT = s.on R.FB_TRUMP_FLAGS_FAULT ∧ t.hand = s.hand ∧ t.pos = s.pos) ∧
      (goodHop h 3 → f.getLsbD 2 = true → ∃ t, exec (.flag n f h) s = .next t ∧
        (t.tile n).flags = (s.tile n).flags ||| f ∧ (∀ m, m ≠ n → t.tile m = s.tile m) ∧
        t.on R.FB_TRUMP_FLAGS_FAULT = true ∧ t.on R.FB_STATUS_STALLED = true ∧ t.hand.outcome = s.hand.outcome ∧
        (s.on R.FB_STATUS_STALLED = false → t.fab.stallAt = some (s.ticks + 12) ∧
          (s.atTick (s.ticks + 12)).noted 0x030E [.w4 1] ∈ t.sup.trace) ∧ t.pos = s.pos) ∧
      (3 < h.perr ∨ kindReserved h.kind = true → s.fatalNow = false →
        ∀ c ∈ ([.flag n f h, .stop ⟨0, h⟩, .stall 0 ⟨0, h⟩, .unstall ⟨0, h⟩, .start ⟨0, h⟩, .freeze 0 h, .step ⟨0, h⟩, .thaw ⟨0, h⟩, .contrib 0 0 0 0 h,
          .result 0 h] : List Instr),
        ∃ t, exec c s = .next t ∧ t.on R.HI_STATUS_FATAL = true ∧ t.rd R.SP_FATAL_CODE = 0x030C ∧ s.noted 0x030C [.w4 h.node] ∈ t.sup.trace)) ∧
  (
    ∀ (s : State) (cause : Nat) (h : Hop), goodHop h 9 → ∃ t, exec (.stop ⟨cause, h⟩) s = .next t ∧
      (∀ n, (t.tile n).prim.running = false ∧ (t.tile n).prim.waits = [] ∧ (t.tile n).side.waits = [] ∧ (t.tile n).queue = [] ∧
        (t.tile n).router.lanes = [] ∧ (t.tile n).prim.idle ∧ (t.tile n).side.idle) ∧
      (∀ k, (t.posn k).dealer.gathers = [] ∧ (t.posn k).dealer.opened = [] ∧ (t.posn k).pot.rounds = [] ∧ (t.posn k).pot.crib = []) ∧
      t.fab.tricks = [] ∧ t.fab.started = false ∧ t.fab.freezing = false ∧
      t.on R.FB_STATUS_FROZEN = false ∧ t.on R.FB_STATUS_STALLED = false ∧
      (s.hand.running.isSome = true → s.hand.outcome = none → s.hand.sweep = false → s.hand.contributed = false →
        t.hand.outcome = some (0x47, cause)) ∧
      (s.hand.running.isSome = true → s.hand.outcome = none → s.hand.sweep = true → t.hand.outcome = some (0x48, 0)) ∧
      (s.hand.running = none → t.hand.outcome = s.hand.outcome)) ∧
  (
    ∀ (s : State) (tick : Nat) (h : Hop), goodHop h 0xB →
      let able := s.hand.running.isSome = true ∧ s.fab.started = false ∧ s.hand.outcome = none ∧ (s.recovering = true → s.hand.sweep = true)
      (able → ∃ u, exec (.start ⟨tick, h⟩) s = .next (State.advanceAll u) ∧ u.fab.started = true ∧
        (∀ n, (s.tile n).prim.running = true → (u.tile n).prim = { (s.tile n).prim with bc := 0 }) ∧
        (∀ n, (u.tile n).router.rb = 0 ∧ (u.tile n).router.phase = 0 ∧ (u.tile n).side = (s.tile n).side) ∧
        (s.hand.sweep = false ∨ s.recovering = true →
          (∀ n, (u.tile n).slip = 0) ∧ u.rd R.FB_STALL_BEATS_BEATS = 0 ∧ (∀ f, f < 48 → u.getI R.FB_FSLIP_SLIPS f = 0) ∧
          u.on R.PT_STATUS_ALL_SEALED = false) ∧
        u.hand = s.hand ∧ u.pos = s.pos ∧ (s.allCalm → u.advanceAll = u)) ∧
      (¬ able → exec (.start ⟨tick, h⟩) s = .next (s.atTick tick)))

/-- (1) CONTRIB of a member is combined at the root; with FN above 3 no rule gives the value, which is free (log 218). RESULT gives a complete result to every
context of a member that waits, and the tree's next trick may begin (R204).
(2) A wafer trick that does not complete in time emits TRICK_TIMEOUT and misdeals the hand with cause 5; while the wafer stands, and with none open, nothing
happens (R206, R212). -/
def Obligations.Tricks : Prop :=
  (
    ∀ (s : State) (tree : Nat) (h : Hop),
      (∀ m (fn : BitVec 4) v, goodHop h 1 → tree < 0xF0 → (s.members tree).contains m = true → (s.trickOf tree).got.contains m = false →
        (s.trickOf tree).done = none → ((s.trickOf tree).fn = none ∨ (s.trickOf tree).fn = some fn) →
        ∃ t, exec (.contrib tree m fn v h) s = .next t ∧ (t.trickOf tree).got = setIns (s.trickOf tree).got m ∧
          (t.trickOf tree).fn = some fn ∧
          (fn.toNat ≤ 3 →
            (t.trickOf tree).value = (if (s.trickOf tree).got.isEmpty then v else trickFn fn (s.trickOf tree).value v)) ∧
          (t.trickOf tree).done =
            (if (s.members tree).all (fun x => decide (x = m) || (s.trickOf tree).got.contains x) then some (t.trickOf tree).value else none) ∧
          (∀ r, r ≠ tree → t.trickOf r = s.trickOf r) ∧ t.tiles = s.tiles ∧ t.hand = s.hand) ∧
      (∀ m (fn g : BitVec 4) v, goodHop h 1 → tree < 0xF0 → (s.members tree).contains m = true → (s.trickOf tree).got.contains m = false →
        (s.trickOf tree).done = none → (s.trickOf tree).fn = some g → g ≠ fn →
        ∃ t u : State, exec (.contrib tree m fn v h) s = .next t ∧ s.said s u 0x030D [.w4 tree] ∧ t = u.misdeal 5) ∧
      (∀ v, goodHop h 2 → (s.trickOf tree).done = some v → s.moving = true → s.allCalm → ∃ t, exec (.result tree h) s = .next t ∧
        t.trickOf tree = { Trick.reset with inst := (s.trickOf tree).inst + 1 } ∧
        (∀ n side, n ∈ s.members tree →
          ((t.tile n).ctx side).waits = ((s.tile n).ctx side).waits.filter (fun w => !(w.issued && w.tree == tree)) ∧
          ∀ w ∈ ((s.tile n).ctx side).waits, w.issued = true → w.tree = tree → w.gd ≠ 0 → ((t.tile n).ctx side).gr w.gd = v) ∧
        (∀ n, n ∉ s.members tree → t.tile n = s.tile n) ∧ t.hand = s.hand ∧ t.regs = s.regs) ∧
      (goodHop h 2 → (s.trickOf tree).done = none → s.allCalm → exec (.result tree h) s = .next s)) ∧
  (
    ∀ (s : State) (tree : Nat),
      let late := tree < 0xF0 ∧ (s.trickOf tree).got ≠ [] ∧ (s.trickOf tree).done = none ∧ s.moving = true
      (late → ∃ t u : State, exec (.trickTimeout tree) s = .next t ∧ s.said s u 0x030B [.w4 tree] ∧
        t = if s.members tree = [] then u.fatal 0x030B 0xFFFF else u.misdeal 5) ∧
      (¬ late → exec (.trickTimeout tree) s = .next s))

/-! ## Descriptors, rings and doorbells (R389 to R410) -/

/-- Starting a descriptor moves the queue's head by one, lists the descriptor as started and reserves a completion slot; completing it takes it from
the list, frees the slot and moves the completion queue's tail by one, and a queue whose disable waited reads EN 0 once its last has posted (R391, R398, R403, R417). -/
def Obligations.TakeAndComplete : Prop :=
  (∀ (s : State) (d : DHdr), d.q < 64 → s.starts d →
    let t := s.take d
    t.reg (sqOff d.q + 0x18) =
      BitVec.ofNat 32 (((s.reg (sqOff d.q + 0x18)).toNat + 1) % bitsOf (s.reg (sqOff d.q + 8)).toNat 0 17) ∧
    (t.sq d.q).started = (s.sq d.q).started ++ [d.cid] ∧ (t.outq (.cq d.q)).reserved = (s.outq (.cq d.q)).reserved + 1 ∧
    t.host.lastQ = d.q ∧
    t.tiles = s.tiles ∧ t.pos = s.pos ∧ t.hand = s.hand ∧ t.host.mem = s.host.mem) ∧
  (∀ (s : State) (q : Nat) (cid : BitVec 16) (st dt res : Nat), q < 64 → cid ∈ (s.sq q).started → (s.sq q).stopping = false →
    let t := s.complete q cid st dt res
    (t.sq q).started = (s.sq q).started.erase cid ∧ t.tiles = s.tiles ∧ t.pos = s.pos ∧ t.hand = s.hand ∧
    (s.ringOn (.cq q) = true → 2 ≤ s.ringSize (.cq q) → s.ringSize (.cq q) ≤ 65536 →
      t.ringTail (.cq q) = (s.ringTail (.cq q) + 1) % s.ringSize (.cq q) ∧
      (t.outq (.cq q)).reserved = (s.outq (.cq q)).reserved - 1)) ∧
  (∀ (s : State) (q : Nat) (cid : BitVec 16) (st dt res : Nat), q < 64 → (s.sq q).started = [cid] → (s.sq q).stopping = true →
    let t := s.complete q cid st dt res
    bitOf (t.reg (sqOff q + 0xC)).toNat 0 = false ∧ (t.sq q).stopping = false ∧ (t.sq q).started = []) ∧
  (∀ (s : State) (q : Nat) (cid : BitVec 16) (st dt res : Nat), cid ∉ (s.sq q).started → s.complete q cid st dt res = s)

/-- (1) NOP completes OK, in IDLE too; in fatal state every descriptor completes with NOT_READY; WRITE stores the host's bytes at the device address and no others and completes OK; READ writes the bytes it reads to the host's
memory and no others and completes OK, up to its first poisoned line, which it completes with POISON and names; a length of 0 completes with 0x01; a host
read that times out is logged under AER (the event's status word is the model's reading, log 204) and completes with HOST (R393, R394, R398, R399, R416).
(2) COPY between hands asks the source rank for its lines in parts of at most 64, in the GATHER class, and stays started; a copy whose request is not
answered in time completes with REMOTE (R343, R397). -/
def Obligations.MoveAndCopy : Prop :=
  (
    (∀ (s : State) (d : DHdr), s.mayStart d = true → s.fatalNow = false → d.flags.toNat < 2 → d.rsvBad = none →
      exec (.descNop d) s = .next ((s.take d).complete d.q d.cid 0 0 0)) ∧
    (∀ (s : State) (d : DHdr) (host dev len : W64) (b : HostIn), s.mayStart d = true → s.fatalNow = true → s.pwr.pstate ≠ .idle →
      exec (.descNop d) s = .next ((s.take d).complete d.q d.cid 0x4B 0 0) ∧
      exec (.write d host dev len b) s = .next ((s.take d).complete d.q d.cid 0x4B 0 0)) ∧
    ∀ (s : State) (d : DHdr) (host dev len : W64), s.starts d →
      (∀ b : HostIn, len.toNat ≤ 2 ^ 40 → b.err = .none → b.dirty = [] → len ≠ 0 → (s.take d).reach dev.toNat len.toNat true = .ok →
        ∃ t u : State, exec (.write d host dev len b) s = .next t ∧ t = u.complete d.q d.cid 0 0 0 ∧
          (s.take d).stored u dev.toNat (slice b.bytes 0 len.toNat) ∧ u.regs = (s.take d).regs ∧ u.hand = s.hand ∧
          u.host = (s.take d).host) ∧
      (∀ b : HostIn, len = 0 → exec (.write d host dev len b) s = .next ((s.take d).complete d.q d.cid 1 0 0)) ∧
      (len.toNat ≤ 2 ^ 40 → len ≠ 0 → (s.take d).reach dev.toNat len.toNat false = .ok →
        (∀ i, i < len.toNat → (s.take d).poisoned (dev.toNat + i) = false) →
        ∃ t u : State, exec (.read d host dev len ⟨[], [], []⟩ .none) s = .next t ∧ t = u.complete d.q d.cid 0 0 0 ∧
          u = { s.take d with host := { (s.take d).host with mem := u.host.mem } } ∧
          (∀ i, i < len.toNat → u.host.mem.get (host.toNat + i) 0 = ((s.take d).devRd dev.toNat len.toNat).getD i 0) ∧
          ∀ a, (a < host.toNat ∨ host.toNat + len.toNat ≤ a) → u.host.mem.get a 0 = s.host.mem.get a 0) ∧
      (∀ n, n < len.toNat → len.toNat ≤ 2 ^ 40 → (s.take d).reach dev.toNat len.toNat false = .ok →
        (s.take d).poisoned (dev.toNat + n) = true → (∀ i, i < n → (s.take d).poisoned (dev.toNat + i) = false) →
        exec (.read d host dev len ⟨[], [], []⟩ .none) s = .next
          (((s.take d).hostWr host.toNat ((s.take d).devRd dev.toNat n)).complete d.q d.cid 0x42 0 ((dev.toNat + n) / 64 * 64))) ∧
      (∃ t u : State, exec (.completionTimeout d host) s = .next t ∧ t = u.complete d.q d.cid 0x43 0 0 ∧
        let v := (s.take d).emit 0x090A [.w4 (b2n (bitOf d.flags.toNat 1)), .w4 0x4000]
        v.said (v.wr R.HI_ERR_HOST_MEM 1) u 0x0905 [.w4 d.q, .w8 host.toNat, .w4 1])) ∧
  (
    (∀ (s : State) (d : DHdr) (rank : Nat) (src dst : W64) (lines : Nat), s.starts d → bitOf d.flags.toNat 1 = false →
      rank ≠ s.rank → rank < 1024 → src.toNat % 64 = 0 → dst.toNat % 64 = 0 → 0 < lines → lines ≤ 2 ^ 24 → s.between = true →
      (s.take d).reach dst.toNat (64 * lines) true = .ok → s.reachable rank = true →
      ∃ (t : State) (l : List LinkOut), exec (.copy d rank src dst lines) s = .next t ∧
        t.host.copies = s.host.copies ++
          [⟨d.q, d.cid, rank, src.toNat, dst.toNat, lines, List.range ((lines + 63) / 64), false⟩] ∧
        t.link.out = s.link.out ++ l ∧ l.length = (lines + 63) / 64 ∧
        (∀ p ∈ l, p.typ = 0x04 ∧ p.cls = 2 ∧ p.dest = rank ∧ p.src = s.rank) ∧ d.cid ∈ (t.sq d.q).started ∧
        t.tiles = s.tiles ∧ t.pos = s.pos ∧ t.hand = s.hand) ∧
    (∀ (s : State) (q : Nat) (cid : BitVec 16) (j : CopyJob), s.host.copies.find? (fun j => j.q == q && j.cid == cid) = some j →
      ∃ t u : State, exec (.copyTimeout q cid) s = .next t ∧ t = u.complete q cid 0x4C 0 0 ∧
        u = { s with host := { s.host with copies := s.host.copies.erase j } }))

/-- (1) A tail doorbell that names entries of the ring in order submits them; a head doorbell frees them; any other value stops the ring, sets
HI_ERR.DOORBELL and emits QUEUE_ERROR; a doorbell of a disabled ring changes nothing (R400, R401).
(2) Enabling a ring that is off and whose SIZE and BASE are in range sets EN and clears ERROR, its head and its tail; with SIZE or BASE out of range EN
stays 0, HI_ERR.CFG is set and RING_CONFIG emitted; an export ring disables at once, a submission queue with nothing started too; with
descriptors started its EN stays until they have completed; a completion queue whose submission queue is enabled is not disabled (R390, R391, R423).
(3) The census ring takes the staged records that it has room for, in their order; the delta ring takes the first staged segment once it fits, and what waited for
staging room goes on; the
coalescing timer sends the message of entries that wait; unmasking a vector sends its pending message (R339, R407, R408, R410). -/
def Obligations.HostRings : Prop :=
  (
    ∀ (s : State) (q : Nat) (v : W32), q < 64 →
      let z := bitsOf (s.reg (sqOff q + 8)).toNat 0 17
      let h := (s.reg (sqOff q + 0x18)).toNat
      let t0 := (s.reg (sqOff q + 0x1C)).toNat
      let on := bitOf (s.reg (sqOff q + 0xC)).toNat 0
      let fits := fun (r : Ring) => v.toNat < s.ringSize r ∧
        (v.toNat + s.ringSize r - s.ringHead r) % s.ringSize r ≤ (s.ringTail r + s.ringSize r - s.ringHead r) % s.ringSize r
      (on = true → (s.sq q).stopping = false → v.toNat < z → (t0 + z - h) % z ≤ (v.toNat + z - h) % z →
        exec (.sqDoorbell q v) s = .next (s.setReg (sqOff q + 0x1C) v)) ∧
      (on = true → (s.sq q).stopping = false → ¬ (v.toNat < z ∧ (t0 + z - h) % z ≤ (v.toNat + z - h) % z) →
        ∃ t, exec (.sqDoorbell q v) s = .next t ∧ bitOf (t.reg (sqOff q + 0xC)).toNat 1 = true ∧ t.on R.HI_ERR_DOORBELL = true ∧
          t.reg (sqOff q + 0x1C) = s.reg (sqOff q + 0x1C) ∧ s.noted 0x0902 [.w4 q, .w4 v.toNat] ∈ t.sup.trace) ∧
      (on = false → exec (.sqDoorbell q v) s = .next s) ∧
      (s.ringOn (.cq q) = true → fits (.cq q) → exec (.cqDoorbell q v) s = .next (s.setReg (0x1020 + 0x40 * q + 0x18) v)) ∧
      (s.ringOn (.cq q) = true → ¬ fits (.cq q) → ∃ t, exec (.cqDoorbell q v) s = .next t ∧ t.ringErr (.cq q) = true ∧
        bitOf (t.reg (sqOff q + 0xC)).toNat 1 = true ∧ s.noted 0x0902 [.w4 (64 + q), .w4 v.toNat] ∈ t.sup.trace) ∧
      (s.ringOn (.cq q) = false → exec (.cqDoorbell q v) s = .next s) ∧
      (s.ringOn .cen = true → fits .cen → exec (.exportDoorbell 130 v) s = .next (s.setReg 0x138 v).eventLost) ∧
      (s.ringOn .dlt = true → fits .dlt → exec (.exportDoorbell 129 v) s = .next (s.setReg 0x158 v).eventLost) ∧
      (s.ringOn .evt = true → fits .evt → exec (.exportDoorbell 128 v) s = .next (s.setReg 0x118 v).eventLost) ∧
      (∀ n r, exportRing n = some r → s.ringOn r = false → exec (.exportDoorbell n v) s = .next s)) ∧
  (
    ∀ (s : State) (who : Agent) (ring : Nat) (v : W32), ring ≤ 130 → s.mayWrite who (ringBlock ring + 0xC) = true →
      let b := ringBlock ring
      (bitOf (s.reg (b + 0xC)).toNat 0 = false → s.ringCause ring = none →
        ∃ t : State, exec (.ringEnable who ring v) s = .next t.eventLost ∧ bitOf (t.reg (b + 0xC)).toNat 0 = true ∧
          bitOf (t.reg (b + 0xC)).toNat 1 = false ∧ t.reg (b + 0x18) = 0 ∧ t.reg (b + 0x1C) = 0 ∧ t.reg b = s.reg b ∧
          t.reg (b + 8) = s.reg (b + 8) ∧ t.tiles = s.tiles ∧ t.pos = s.pos) ∧
      (∀ c, bitOf (s.reg (b + 0xC)).toNat 0 = false → s.ringCause ring = some c →
        ∃ t, exec (.ringEnable who ring v) s = .next t ∧ bitOf (t.reg (b + 0xC)).toNat 0 = false ∧ t.on R.HI_ERR_CFG = true ∧
          s.noted 0x0901 [.w4 ring, .w4 c] ∈ t.sup.trace) ∧
      (128 ≤ ring ∨ (ring < 64 ∧ (s.sq ring).started = []) ∨
        (64 ≤ ring ∧ ring < 128 ∧ bitOf (s.reg (sqOff (ring - 64) + 0xC)).toNat 0 = false) → ∃ t, exec (.ringDisable who ring v) s = .next t ∧
        bitOf (t.reg (b + 0xC)).toNat 0 = false ∧ (∀ o, o ≠ b + 0xC → t.reg o = s.reg o) ∧ t = { s with regs := t.regs }) ∧
      (ring < 64 → (s.sq ring).started ≠ [] → bitOf (s.reg (b + 0xC)).toNat 0 = true → ∃ t, exec (.ringDisable who ring v) s = .next t ∧
        bitOf (t.reg (b + 0xC)).toNat 0 = true ∧ t.sq ring = { s.sq ring with stopping := true } ∧ (∀ o, o ≠ b + 0xC → t.reg o = s.reg o)) ∧
      (64 ≤ ring → ring < 128 → bitOf (s.reg (sqOff (ring - 64) + 0xC)).toNat 0 = true → exec (.ringDisable who ring v) s = .next s)) ∧
  (
    (∀ (s : State), s.ringReady .cen = true → 0 < s.ringRoom .cen → s.num.recs ≠ [] → s.ringSize .cen ≤ 65536 →
      ∃ t, exec .censusRingWrite s = .next t ∧
        let n := min (s.ringRoom .cen) s.num.recs.length
        t.num = { s.num with recs := s.num.recs.drop n } ∧ t.ringTail .cen = (s.ringTail .cen + n) % s.ringSize .cen ∧
        t.tiles = s.tiles ∧ t.pos = s.pos ∧ t.hand = s.hand) ∧
    (∀ (s : State) (g : Bytes) (l : List Bytes), s.num.segs = g :: l → s.ringReady .dlt = true → 0 < g.length →
      roundUp g.length 64 / 64 ≤ s.ringRoom .dlt → s.ringSize .dlt < 2 ^ 32 →
      ∃ t : State, exec .deltaRingWrite s = .next t.pumpAll ∧ t.num = { s.num with segs := l } ∧
        t.ringTail .dlt = (s.ringTail .dlt + roundUp g.length 64 / 64) % s.ringSize .dlt ∧
        t.tiles = s.tiles ∧ t.pos = s.pos ∧ t.hand = s.hand) ∧
    (∀ (s : State), bitsOf (s.rreg .cen 0xC) 24 8 ≠ 0 → s.host.cen.unsig ≠ 0 → s.ringOn .cen = true →
      exec (.coalTimer 130) s = .next
        (({ s with host := { s.host with cen := { s.host.cen with unsig := 0 } } } : State).msix (bitsOf (s.rreg .cen 0xC) 8 8))) ∧
    (∀ (s : State) (v : Nat), v < 256 → ∃ t, exec (.msixUnmask v) s = .next t ∧
      bitOf (t.msixRd (msixOff v + 12)) 0 = false ∧
      (bitOf (s.msixRd (0xE01000 + 4 * (v / 32))) (v % 32) = true → s.master 0 = true →
        bitOf (t.msixRd (0xE01000 + 4 * (v / 32))) (v % 32) = false ∧
        t.host.mem = s.host.mem.store (s.msixRd (msixOff v) + 2 ^ 32 * s.msixRd (msixOff v + 4)) (leBytes 4 (s.msixRd (msixOff v + 8)))) ∧
      t.tiles = s.tiles ∧ t.pos = s.pos ∧ t.hand = s.hand))

/-- (1) A read through the aperture answers the bytes at its device address, of a poisoned line none, a write stores them there and nowhere
else, or in the tile's register; an access that may not be made draws
a Completer Abort, counted once, or is dropped, and HOST_ABORT says so; a read that is not answered in 1 ms is aborted (R387, R553).
(2) A word sent into an empty mailbox sets FULL and clears its flags; an acknowledge of a full one clears FULL and sets ACKED with its code; a full one
not acknowledged in time while its receiver's domain runs sets TIMEOUT and keeps FULL; words into a full mailbox are ignored with OVERRUN, acknowledges of an empty one and code 0xFFFF
are ignored (R411, R412, R413). -/
def Obligations.ApertureAndMailboxes : Prop :=
  (
    ∀ (s : State) (off size : Nat) (v : W64),
      let a := s.aperAddr off
      (s.aperCause off size false = none → s.poisoned a = false →
        exec (.apertureRead off size ⟨[], [], []⟩) s = .next { s with host := { s.host with
          rdata := some (BitVec.ofNat 64 (leNat (s.busBytes a size))) } }) ∧
      (s.aperCause off size true = none → (∀ t o, s.loc a ≠ some (.treg t o)) →
        ∃ t, exec (.apertureWrite off size v) s = .next t ∧ s.stored t a (leBytes size v.toNat) ∧ t.regs = s.regs ∧
          t.hand = s.hand ∧ t.host = s.host) ∧
      (∀ t o, s.aperCause off size true = none → s.loc a = some (.treg t o) → exec (.apertureWrite off size v) s = .next
        (if size = 4 then s.tregWr t o (v.setWidth 32) else (s.tregWr t o (v.setWidth 32)).tregWr t (o + 4) ((v >>> 32).setWidth 32))) ∧
      (s.aperCause off size false = none → s.poisoned a = true →
        exec (.apertureRead off size ⟨[], [], []⟩) s = .next { s with host := { s.host with rdata := none } }) ∧
      (∀ c ecc, s.aperCause off size false = some c → ∃ t, exec (.apertureRead off size ecc) s = .next t ∧ t.host.rdata = none ∧
        t.host.aborts = s.host.aborts + 1 ∧ t.on R.HI_ERR_CABORT = true ∧
        s.noted 0x0904 [.w4 (0xF00000 + off), .w4 c] ∈ t.sup.trace) ∧
      (∀ c, s.aperCause off size true = some c → ∃ t, exec (.apertureWrite off size v) s = .next t ∧
        s.said s t 0x0904 [.w4 (0xF00000 + off), .w4 (if c = 3 then 3 else 6)]) ∧
      (∃ t, exec (.apertureReadTimeout off) s = .next t ∧ t.host.rdata = none ∧ t.host.aborts = s.host.aborts + 1 ∧
        s.noted 0x0904 [.w4 (0xF00000 + off), .w4 5] ∈ t.sup.trace)) ∧
  (
    ∀ (s : State) (i : Nat) (w : W64) (code : BitVec 16),
      let sent : Box := ⟨w.extractLsb' 0 32, w.extractLsb' 32 32, w, true, false, false, false, false, (s.pair i).h2s.code⟩
      ((s.pair i).h2s.full = false → exec (.mbH2sSend i w) s = .next (s.setPair i { s.pair i with h2s := sent })) ∧
      ((s.pair i).h2s.full = true → ∃ t, exec (.mbH2sSend i w) s = .next t ∧ (t.pair i).h2s.overrun = true ∧
        (t.pair i).h2s.full = true ∧ (t.pair i).h2s.word = (s.pair i).h2s.word ∧ (t.pair i).s2h = (s.pair i).s2h) ∧
      (s.supvRuns = true → (s.pair i).s2h.full = false → ∃ t, exec (.mbS2hSend i w) s = .next t ∧
        (t.pair i).s2h.full = true ∧ (t.pair i).s2h.word = w ∧ (t.pair i).s2h.acked = false ∧ (t.pair i).h2s = (s.pair i).h2s ∧
        t.tiles = s.tiles ∧ t.hand = s.hand) ∧
      (s.supvRuns = true → (s.pair i).h2s.full = true → code ≠ 0xFFFF → ∃ t, exec (.mbH2sAck i code) s = .next t ∧
        (t.pair i).h2s = { (s.pair i).h2s with full := false, acked := true, code := code } ∧ (t.pair i).s2h = (s.pair i).s2h ∧
        t.tiles = s.tiles ∧ t.hand = s.hand) ∧
      ((s.pair i).s2h.full = true → code ≠ 0xFFFF → (∀ r ∈ s.sup.results, r.1 ≠ i) → exec (.mbS2hAck i code) s =
        .next (s.setPair i { s.pair i with s2h := { (s.pair i).s2h with full := false, acked := true, code := code } })) ∧
      (∀ r, (s.pair i).s2h.full = true → code ≠ 0xFFFF → s.supvRuns = true → s.sup.results.find? (fun r => r.1 == i) = some r →
        ∃ t, exec (.mbS2hAck i code) s = .next t ∧ (t.pair i).s2h.full = true ∧ (t.pair i).s2h.word = r.2 ∧
          t.sup.results = s.sup.results.erase r ∧ (t.pair i).h2s = (s.pair i).h2s) ∧
      ((s.pair i).h2s.full = true → (s.pair i).h2s.timeout = false → s.pwr.pstate ≠ .off → s.pwr.pstate ≠ .watch →
        ∃ t, exec (.mbTimeout i false) s = .next t ∧ (t.pair i).h2s = { (s.pair i).h2s with timeout := true } ∧
          s.noted 0x0906 [.w4 i, .w4 0] ∈ t.sup.trace) ∧
      ((s.pair i).s2h.full = true → (s.pair i).s2h.timeout = false → 16 ≤ i ∨ bitOf s.host.linkUp.toNat 0 = true →
        ∃ t, exec (.mbTimeout i true) s = .next t ∧
        s.said ((s.setPair i { s.pair i with s2h := { (s.pair i).s2h with timeout := true } }).wr R.HI_ERR_MB_TIMEOUT 1) t
          0x0906 [.w4 i, .w4 1]) ∧
      ((s.pair i).h2s.full = false ∨ code = 0xFFFF → s.supvRuns = true → ∃ t, exec (.mbH2sAck i code) s = .next t ∧
        t.pair i = s.pair i ∧ t.tiles = s.tiles))

/-- A Function Level Reset of PCIE_A empties every queue, drops waiting deals and copies and clears Bus Master Enable; one of PCIE_B pauses the export rings
on it; PERST_N low is such a reset with the link down; a link that comes up or goes down says LINK_STATE; Bus Master Enable is what software writes
(R384, R405, R417). -/
def Obligations.PcieEndpoints : Prop :=
  ∀ (s : State),
    (∃ t, exec .flrPcieA s = .next t ∧ (∀ q, t.sq q = SubQ.reset) ∧ (∀ q, t.outq (.cq q) = OutQ.reset) ∧ t.host.copies = [] ∧
      t.hand.waiting = none ∧ t.hand.sideWait = none ∧ t.hand.running = s.hand.running ∧ bitOf t.host.bme.toNat 0 = false ∧
      bitOf t.host.bme.toNat 1 = bitOf s.host.bme.toNat 1 ∧ (∀ i, i < 16 → (t.pair i).h2s = Box.reset) ∧
      t.tiles = s.tiles ∧ t.pos = s.pos) ∧
    (∃ t, exec .flrPcieB s = .next t ∧ bitOf t.host.bme.toNat 1 = false ∧ bitOf t.host.bme.toNat 0 = bitOf s.host.bme.toNat 0 ∧
      (s.ringEp .dlt = 1 → t.host.dlt.paused = true) ∧ (s.ringEp .dlt = 0 → t.host.dlt = s.host.dlt) ∧ t.host.sqs = s.host.sqs ∧
      s.noted 0x0908 [.w4 1] ∈ t.sup.trace ∧ t.tiles = s.tiles ∧ t.pos = s.pos ∧ t.num = s.num) ∧
    (∀ ep : BitVec 1, ∃ t, exec (.perstAssert ep) s = .next t ∧ bitOf t.host.perst.toNat ep.toNat = false ∧
      bitOf t.host.linkUp.toNat ep.toNat = false ∧ bitOf t.host.bme.toNat ep.toNat = false ∧ t.tiles = s.tiles ∧ t.pos = s.pos) ∧
    (∀ ep : BitVec 1, ∃ t, exec (.perstRelease ep) s = .next t ∧ bitOf t.host.perst.toNat ep.toNat = true ∧
      t = { s with host := { s.host with perst := t.host.perst } }) ∧
    (∀ (ep : BitVec 1) (speed width : Nat), 0 < speed → 0 < width → s.epReady ep.toNat = true →
      ∃ t, exec (.pcieLinkChange ep speed width) s = .next t ∧ bitOf t.host.linkUp.toNat ep.toNat = true ∧
        s.noted 0x0909 [.w4 ep.toNat, .w4 speed, .w4 width] ∈ t.sup.trace ∧ t.tiles = s.tiles ∧ t.hand.hand = s.hand.hand) ∧
    (∀ (ep : BitVec 1) (speed width : Nat), speed = 0 ∨ width = 0 →
      ∃ t, exec (.pcieLinkChange ep speed width) s = .next t ∧ bitOf t.host.linkUp.toNat ep.toNat = false ∧
        s.noted 0x0909 [.w4 ep.toNat, .w4 0, .w4 0] ∈ t.sup.trace ∧ t.tiles = s.tiles ∧ t.hand.hand = s.hand.hand) ∧
    (∀ ep : BitVec 1, exec (.busMasterEnable ep false) s = .next { s with host := { s.host with bme := epOff s.host.bme ep } }) ∧
    (∃ t, exec (.busMasterEnable 0 true) s = .next t ∧ bitOf t.host.bme.toNat 0 = true ∧ t.tiles = s.tiles ∧ t.pos = s.pos) ∧
    (∃ t, exec (.busMasterEnable 1 true) s = .next t ∧ bitOf t.host.bme.toNat 1 = true ∧ t.host.dlt.paused = false ∧
      t.host.cen.paused = false ∧ t.tiles = s.tiles ∧ t.pos = s.pos)

/-! ## Dealers and memories (R219 to R249) -/

/-- (1) WEIGHT sends its fills, COUNT of them and again for each REPEAT, to the read-ahead buffers of its one or two ports, with the draws and the counts of its
conversion; without a conversion a fill is the lane rows and the checker rows, padded to flits, poisoned where a source line is, which leave on the one
port, or the even ones on the lower and the odd ones on the higher; LINES sends its lines as flits; the list goes on; no memory changes; a reserved value
is the stream fault (R76, R95, R233, R234, R235, R241, R242, R243).
(2) STORE writes the flits that arrive at its port to the lines from its address, run after run, and the XOR with the old contents to the shadow of a
tracked line, and with VSET gives the piece the hand as its version after the last; without a flit it waits; STOCK_IN moves slice lines into sweep staging
and clears the shadow of a tracked one; STOCK_OUT moves staging lines to the slice and stages what the delta coder makes of them, or waits for an export that
has not read them; every other byte of both memories stays (R234, R243, R244, R248, R329, R335). -/
def Obligations.Dealers : Prop :=
  (
    ∀ (s : State) (k : Nat) (d : SDesc),
      let rest := fun (t : State) => t.descIndex k = s.nextIndex k % 2 ^ R.DL_PDESC_INDEX.width ∧ t.tiles = s.tiles ∧ t.hand = s.hand ∧
        (t.dealer k).opened = [] ∧ ∀ j, (t.posn j).near = (s.posn j).near ∧ (t.posn j).stock = (s.posn j).stock
      let runs := (List.range (d.rept.toNat + 1)).flatMap (fun _ => List.range d.count.toNat)
      let fmt := d.dstf.setWidth 5
      let src := fun j => (lanesOf d.mask).map (fun l =>
        s.chunkSrc k d (chunkOf fmt) (match elemOf fmt with | none => 0 | some x => x.bits) l j)
      let fill := fun j => (flitsOf (fillBytes fmt ((src j).map (fun x => x.1 ++ x.2.1)))).map (fun f =>
        { f with poison := (src j).any (fun x => x.2.2) })
      let pick := fun (l : List Flit) (o : Nat) => ((l.zipIdx).filter (fun x => x.2 % 2 == o)).map (·.1)
      let line := fun i => { flitOf (s.nearRd k (d.addr.toNat + 64 * i) 64) with poison := s.badNear k ((d.addr.toNat + 64 * i) / 64) }
      (s.dealsNow k d 1 →
        let u := runs.foldl (fun s j => s.sendFill k d j) s
        u.aheadFits k = true → ∃ t, exec (.weight k d ⟨[], [], []⟩) s = .next t ∧ rest t ∧ t.fab = u.fab ∧
          (t.dealer k).gen = (u.dealer k).gen ∧ (t.dealer k).cens = (u.dealer k).cens) ∧
      (d.srcf = d.dstf → (elemOf fmt).isSome = true →
        (∀ p j, onesOf d.ports.toNat 3 = [p] → s.sendFill k d j = s.toEdge k p (fill j)) ∧
        ∀ p q j, onesOf d.ports.toNat 3 = [p, q] → s.sendFill k d j = (s.toEdge k p (pick (fill j) 0)).toEdge k q (pick (fill j) 1)) ∧
      (∀ p, s.dealsNow k d 2 → onesOf d.ports.toNat 3 = [p] → (s.toEdge k p (runs.map line)).aheadFits k = true →
        ∃ t, exec (.lines k d ⟨[], [], []⟩) s = .next t ∧ rest t ∧
          t.fab.edgeIn.get (edgeKey k p) [] = s.fab.edgeIn.get (edgeKey k p) [] ++ runs.map line ∧
          ∀ j, j ≠ edgeKey k p → t.fab.edgeIn.get j [] = s.fab.edgeIn.get j []) ∧
      ∀ c ∈ ([.weight k d ⟨[], [], []⟩, .lines k d ⟨[], [], []⟩, .store k d, .gather k d, .stockIn k d ⟨[], [], []⟩,
          .stockOut k d ⟨[], [], []⟩] : List Instr), s.dealing k = true → d.reserved = true →
        ∃ t u : State, exec c s = .next t ∧ t = u.misdeal 7 ∧ s.said s u 0x040F [.w4 k, .w4 (s.descIndex k)]) ∧
  (
    ∀ (s : State) (k : Nat) (d : SDesc),
      let n := d.count.toNat
      let r := d.rept.toNat
      let a := d.addr.toNat
      let b := d.addr2.toNat
      let others := fun (t : State) => t.descIndex k = s.nextIndex k % 2 ^ R.DL_PDESC_INDEX.width ∧ t.tiles = s.tiles ∧
        ∀ j, j ≠ k → (t.posn j).near = (s.posn j).near ∧ (t.posn j).stock = (s.posn j).stock
      let rest := fun (t : State) => others t ∧ t.hand = s.hand ∧ (t.dealer k).opened = []
      let still := fun (t : State) => others t ∧ t.hand = s.hand ∧ t.fab = s.fab ∧ (t.dealer k).opened = [s.opens k d] ∧
        (t.posn k).near = (s.posn k).near ∧ (t.posn k).stock = (s.posn k).stock
      (∀ p, s.dealsNow k d 3 → onesOf d.ports.toNat 3 = [p] →
        let l := s.fab.edgeOut.get (edgeKey k p) []
        (n * (r + 1) ≤ l.length → (∀ i, i < n → s.exporting k 1 (a + 64 * i) 1 = false) →
          ∃ t, exec (.store k d) s = .next t ∧ rest t ∧ t.fab.edgeOut.get (edgeKey k p) [] = l.drop (n * (r + 1)) ∧
            t.fab.edgeIn = s.fab.edgeIn ∧ (t.posn k).stock = (s.posn k).stock ∧
            (t.dealer k).pieces = (if bitOf d.flags.toNat 2 then ((s.dealer k).setVersion d.shard s.hand.hand).pieces
              else (s.dealer k).pieces) ∧
            ((∀ i, i < n → tracked (a + 64 * i) = false) →
              (∀ i j, i < n → j < 64 → (t.posn k).near.get (a + 64 * i + j) 0 = (flitBytes (l.getD (n * r + i) ⟨0, false, 0⟩)).getD j 0) ∧
              ∀ o, (o < a ∨ a + 64 * n ≤ o) → (t.posn k).near.get o 0 = (s.posn k).near.get o 0) ∧
            (n = 1 → r = 0 → tracked a = true → ∀ j, j < 64 →
              (t.posn k).near.get (a + j) 0 = (flitBytes (l.getD 0 ⟨0, false, 0⟩)).getD j 0 ∧
              (t.posn k).near.get (shadowOf a + j) 0 = (flitBytes (l.getD 0 ⟨0, false, 0⟩)).getD j 0 ^^^ (s.posn k).near.get (a + j) 0)) ∧
        (l = [] → ∃ t, exec (.store k d) s = .next t ∧ still t)) ∧
      (s.dealsNow k d 5 → (∀ i, i < n → tracked (b + 64 * i) = false) → ∃ t, exec (.stockIn k d ⟨[], [], []⟩) s = .next t ∧ rest t ∧
        t.fab = s.fab ∧ (t.posn k).stock = (s.posn k).stock ∧
        (∀ j, j < 64 * n → (t.posn k).near.get (b + j) 0 = (s.posn k).stock.get (a + j) 0) ∧
        ∀ o, (o < b ∨ b + 64 * n ≤ o) → (t.posn k).near.get o 0 = (s.posn k).near.get o 0) ∧
      (s.dealsNow k d 5 → n = 1 → tracked b = true → ∃ t, exec (.stockIn k d ⟨[], [], []⟩) s = .next t ∧ rest t ∧
        ∀ j, j < 64 → (t.posn k).near.get (b + j) 0 = (s.posn k).stock.get (a + j) 0 ∧ (t.posn k).near.get (shadowOf b + j) 0 = 0) ∧
      (∀ u, s.dealsNow k d 6 → s.exporting k 0 b n = false → (s.deltaCodes = false ∨ r = 0) → s.stageDelta k (s.opens k d) = some u →
        ∃ t, exec (.stockOut k d ⟨[], [], []⟩) s = .next t ∧ others t ∧ (t.dealer k).opened = [] ∧ t.num = u.num ∧ t.hand = u.hand ∧
          t.fab = s.fab ∧ (t.posn k).near = (s.posn k).near ∧
          (∀ j, j < 64 * n → (t.posn k).stock.get (b + j) 0 = (s.posn k).near.get (a + j) 0) ∧
          ∀ o, (o < b ∨ b + 64 * n ≤ o) → (t.posn k).stock.get o 0 = (s.posn k).stock.get o 0) ∧
      (s.deltaCodes = false → s.stageDelta k (s.opens k d) = some s) ∧
      (s.dealsNow k d 6 → s.exporting k 0 b n = true → ∃ t, exec (.stockOut k d ⟨[], [], []⟩) s = .next t ∧ still t))

/-- (1) GATHER asks the shard's owner in requests of up to 64 lines, each open under its own tag, and waits for them; one that draws no response goes once to the
mirror seat, and a second time, or with mirrors off, or of a stage piece, fails and misdeals the hand (R246, R247, R363).
(2) A scrubber's clean pass only says SCRUB_PASS; a line that it finds uncorrectable is counted and poisoned; with the scrubber off nothing changes
(R228, R229, R230). -/
def Obligations.GathersAndScrubbers : Prop :=
  (
    (∀ (s : State) (k : Nat) (d : SDesc), s.dealsNow k d 4 → s.reachable (s.ownerOf d.shard) = true →
      (s.dealer k).gathers.length + (d.count.toNat + 63) / 64 ≤ 8192 →
      ∃ (t : State) (l : List OpenGather), exec (.gather k d) s = .next t ∧ (t.dealer k).gathers = (s.dealer k).gathers ++ l ∧
        l.length = (d.count.toNat + 63) / 64 ∧ (∀ g ∈ l, g.shard = d.shard ∧ g.lines ≤ 64 ∧ g.retried = false ∧ g.parked = false) ∧
        (l.map (·.lines)).sum = d.count.toNat ∧ t.link.out.length = s.link.out.length + l.length ∧ (t.dealer k).opened.length = 1 ∧
        t.descIndex k = s.nextIndex k % 2 ^ R.DL_PDESC_INDEX.width ∧ t.hand = s.hand ∧ t.tiles = s.tiles) ∧
    (∀ (s : State) (k : Nat) (tag : W32) (g : OpenGather), (s.dealer k).gathers.find? (fun g => g.tag == tag) = some g →
      (g.parked = true → exec (.gatherTimeout k tag) s = .next s) ∧
      (g.parked = false →
        let m := s.mirrorOf g.shard
        let may := g.retried = false ∧ s.on R.LK_CTRL_MIRROR = true ∧ s.on R.DL_CTRL_MIRROR_RETRY = true ∧ m ≠ s.ownerOf g.shard ∧
          stagePiece g.shard = false
        (may → s.reachable m = true → ∃ t, exec (.gatherTimeout k tag) s = .next t ∧
          (t.dealer k).gathers = (s.dealer k).gathers.erase g ++ [{ g with retried := true, tag := (s.dealer k).nextTag }] ∧
          t.link.out.length = s.link.out.length + 1 ∧ s.noted 0x040D [.w4 g.shard.toNat, .w4 (s.ownerOf g.shard), .w4 m] ∈ t.sup.trace) ∧
        (¬ may → ∃ t u : State, exec (.gatherTimeout k tag) s = .next t ∧ t = u.misdeal 7 ∧
          (u.dealer k).gathers = (s.dealer k).gathers.erase g ∧
          s.noted 0x040E [.w4 g.shard.toNat, .w4 (if g.retried then 2 else 1)] ∈ u.sup.trace)))) ∧
  (
    ∀ (s : State) (k far : Nat),
      (s.on R.DL_CTRL_SCRUB_N = true → s.rd R.DL_SCRUB_NEAR_H ≠ 0 → s.inSvc k = true →
        (∃ t, exec (.nearScrub k ⟨[], [], []⟩) s = .next t ∧ s.said s t 0x0406 [.w4 k, .w4 0]) ∧
        (∀ l, k < 48 → ∃ t, exec (.nearScrub k ⟨[], [l], []⟩) s = .next t ∧ l ∈ (t.posn k).nearBad ∧ (t.posn k).near = (s.posn k).near ∧
          t.getI R.DL_PUE_COUNT k = min (s.getI R.DL_PUE_COUNT k + 1) (2 ^ R.DL_PUE_COUNT.width - 1) ∧
          (∀ j, j ≠ k → t.posn j = s.posn j) ∧ t.tiles = s.tiles)) ∧
      (s.on R.DL_CTRL_SCRUB_N = false → ∀ e, exec (.nearScrub k e) s = .next s) ∧
      (s.on R.DL_CTRL_SCRUB_S = true → s.rd R.DL_SCRUB_STOCK_H ≠ 0 → s.inSvc (2 * far) = true → s.inSvc (2 * far + 1) = true →
        ∃ t, exec (.stockScrub far ⟨[], [], []⟩ ⟨[], [], []⟩) s = .next t ∧ s.said s t 0x0406 [.w4 (2 * far), .w4 1]))

/-! ## Gradient reduction (R283 to R313) -/

/-- (1) The corrected accumulator tile replaces its crib record's payload: the header with CORRECTED, the CRC anew; the correction path is free for
the next, and every record of the tile's layer awaits one correction less; a controller that does not hold the record takes nothing (R306).
(2) A packet is copied into the sending controller's crib under the next record number, split at pot units, and its subpackets leave for the pot's owner;
with no room in the crib region it stays, with CRIB_FULL once; a round that stays open too long misdeals the hand (R291, R302, R304, R305). -/
def Obligations.Corrections : Prop :=
  (
    ∀ (s : State) (n pos : Nat) (c : Corr) (rest : List Corr) (ecc : SeatEcc), (s.tile n).corr = c :: rest →
      let isRec := fun (r : Crib) => r.pkt.hdr.tile.toNat == n && r.pkt.hdr.gl.toNat == c.gl &&
        r.pkt.hdr.round.toNat == c.round && r.pkt.hdr.start.toNat == c.start
      (∀ r : Crib, (s.posn pos).pot.crib.find? isRec = some r → s.calm n →
        ecc = [] → (∀ k, ∀ x ∈ (s.posn k).pot.crib, x.fix ≠ 1) →
        ∃ t, exec (.correctionDelivery n ⟨pos, ecc⟩) s = .next t ∧ t.tile n = { s.tile n with corr := rest } ∧
          (∃ x ∈ (t.posn pos).pot.crib, x.crec = r.crec ∧ x.pkt.hdr.flag 2 = true ∧ x.pkt.hdr.mask = c.mask ∧ x.pkt.crcOk = true ∧
            x.pkt.payload = (List.range 128).flatMap (fun l => leBytes 4 (c.vals.get l 0).toNat)) ∧
          (∀ k, (t.posn k).pot.crib.map (·.fix) = (s.posn k).pot.crib.map (fun x =>
            if x.pkt.hdr.tile.toNat = n ∧ x.pkt.hdr.layer = r.pkt.hdr.layer then x.fix - 1 else x.fix)) ∧
          t.hand = s.hand ∧ ∀ m, m ≠ n → t.tile m = s.tile m) ∧
      ((s.posn pos).pot.crib.find? isRec = none → exec (.correctionDelivery n ⟨pos, ecc⟩) s = .next s)) ∧
  (
    (∀ (s : State) (k : Nat) (p : CPkt) (pe : PotEnt), p.poison = false → p.crcOk = true → s.potEnt p.hdr.pot.toNat = some pe →
      (s.cribUsed k + p.size ≤ cribSize → ∃ (u : State) (c : Crib), exec (.contribPacket k p) s = .next (u.forward c.pkt) ∧
        (u.posn k).pot.crib = (s.posn k).pot.crib ++ [c] ∧
        c.crec = (s.posn k).pot.nextCrec ∧ c.pkt.payload = p.payload ∧ c.pkt.crcOk = true ∧ c.await = awaits pe c.pkt ∧
        c.pkt.hdr = { p.hdr with cstack := BitVec.ofNat 8 k, crec := (s.posn k).pot.nextCrec } ∧
        (u.posn k).pot.nextCrec = (s.posn k).pot.nextCrec + 1 ∧ (∀ j, j ≠ k → u.posn j = s.posn j) ∧ u.hand = s.hand ∧
        u.tiles = s.tiles ∧ u.link = s.link ∧
        (pe.owner ≠ s.rank → s.reachable pe.owner = true →
          (u.forward c.pkt).link.out.length = s.link.out.length + (subpackets c.pkt).length ∧
          (u.forward c.pkt).pos = u.pos ∧ (u.forward c.pkt).hand = s.hand ∧ (u.forward c.pkt).tiles = s.tiles)) ∧
      (cribSize < s.cribUsed k + p.size → ∃ t, exec (.contribPacket k p) s = .next t ∧ (t.posn k).pot.crib = (s.posn k).pot.crib ∧
        t.fab = s.fab ∧ (t.posn k).pot.cribFull = true ∧ t.tiles = s.tiles ∧ t.link = s.link ∧
        ((s.posn k).pot.cribFull = false → s.noted 0x020A [.w4 k] ∈ t.sup.trace))) ∧
    (∀ (s : State) (k pot round : Nat) (r : Round), (s.posn k).pot.rounds.find? (fun r => r.pot == pot && r.round == round) = some r →
      r.complete = false → s.moving = true →
      ∃ t u : State, exec (.roundTimeout k pot round) s = .next t ∧ t = u.misdeal 7 ∧ s.said s u 0x0204 [.w4 pot, .w4 round, .w4 k]))

/-- (1) A subpacket of the current epoch is added to its round: FP32 adds every word, a drain those that its MASK marks, one-bit plus or minus its block's
magnitude; in ORDERED mode the subpacket is kept for the seal; each entry counts once; the round is complete when every entry of the stack has its contributions; a part
sent again is taken only where it is awaited (R290, R292, R295, R297, R298, R300, R303).
(2) A subpacket sent again that nothing awaits is dropped. The seal of a complete round folds it into the pot: the first round is the pot, a later one is
added; in ORDERED mode its subpackets are added in their order as pairs, and the last seal leaves the sum alone; every seat that sent to it has a notice;
the round is closed and the next may seal; a renege of a layer raises its epoch, counts, and clears its open rounds; one that comes late is a fault (R297,
R298, R301, R303, R307, R309). -/
def Obligations.Pots : Prop :=
  (
    ∀ (s : State) (k : Nat) (p : CPkt) (pe : PotEnt),
      let pot := p.hdr.pot.toNat
      let rd := p.hdr.round.toNat
      let st := p.hdr.start.toNat
      let n := p.hdr.count.toNat
      let r := (s.posn k).pot.open_ pot rd p.hdr.epoch.toNat
      s.potEnt pot = some pe → pe.kind = 0 → p.poison = false → p.crcOk = true →
      (p.hdr.flag 3 = true → (recOf p.hdr, st, pot) ∈ (s.posn k).pot.resent) →
      s.hand.running.isSome = true → s.hand.outcome = none → (s.posn k).pot.input = [] → (s.posn k).pot.ahead.length < trackMax → p.hdr.hand = s.hand.hand → rd < s.rounds → 0 < n → st + n ≤ pe.entries →
      pe.stackOf (st / 1024) = k → pe.stackOf ((st + n - 1) / 1024) = k → (s.posn k).pot.sealed.get pot 0 ≤ rd →
      p.hdr.epoch.toNat = s.epoch (s.potLayer pot) → (∀ e ∈ r.cnt, e.2 < s.need pe) →
      0 < s.need pe →
      let adds := fun (c : Instr) (w : Nat → Option W32) => ∃ t q, exec c s = .next t ∧
        q ∈ (t.posn k).pot.rounds ∧ q.pot = pot ∧ q.round = rd ∧
        (∀ i, st ≤ i → i < st + n → q.cnt.get i 0 = r.cnt.get i 0 + 1 ∧
          (s.ordered = false → q.buf.get i 0 = (match w i with | some x => fAdd (r.buf.get i 0) x | none => r.buf.get i 0))) ∧
        q.held = (if s.ordered then r.held ++ [p] else r.held) ∧ (s.ordered = true → q.buf = r.buf) ∧
        (∀ i, (i < st ∨ st + n ≤ i) → q.cnt.get i 0 = r.cnt.get i 0 ∧ q.buf.get i 0 = r.buf.get i 0) ∧
        q.complete = (pe.entriesOn k).all (fun i => q.cnt.get i 0 == s.need pe) ∧ (t.posn k).near = (s.posn k).near ∧ t.tiles = s.tiles
      let word := fun i => BitVec.ofNat 32 (field p.payload (4 * (i - st)) 4)
      (p.hdr.typ = 1 → adds (.accFp32 k p) (fun i => some (word i))) ∧
      (p.hdr.typ = 3 → adds (.accDrain k p) (fun i => if p.hdr.mask.getLsbD (i - st) then some (word i) else none)) ∧
      (p.hdr.typ = 2 → adds (.accOnebit k p) (fun i =>
        let m := ofBf16 (BitVec.ofNat 16 (field p.payload (32 * (n / 256) + 2 * ((i - st) / 256)) 2))
        some (if (f32 m).isNan then m
          else if bitOf (p.payload.getD ((i - st) / 8) 0).toNat ((i - st) % 8) then m ^^^ 0x80000000 else m)))) ∧
  (
    (∀ (s : State) (k : Nat) (p : CPkt), p.poison = false → p.crcOk = true → p.hdr.flag 3 = true → p.hdr.typ = 1 →
      (recOf p.hdr, p.hdr.start.toNat, p.hdr.pot.toNat) ∉ (s.posn k).pot.resent → exec (.accFp32 k p) s = .next s) ∧
    (∀ (s : State) (k pot : Nat) (pe : PotEnt) (r : Round), s.potEnt pot = some pe → pe.kind = 0 → pe.owner = s.rank →
      (s.posn k).pot.rounds.find? (fun x => x.pot == pot && x.round == r.round) = some r → r.complete = true → k < 48 →
      (s.posn k).pot.sealed.get pot 0 = r.round → (∀ seat ∈ r.senders, seat = s.rank ∨ s.reachable seat = true) → k ∈ pe.stacks →
      let sum := fun i => (sortPkts r.held).foldl (fun a q => match q.addends.find? (fun e => e.1 == i) with
        | some (_, some w) => pairAdd a w
        | _ => a) (if r.round = 0 then (0, 0) else (s.nearW k (pe.hiOff true i), s.nearW k (pe.hiOff true i + 4096)))
      ∃ t, exec (.sealRound k pot ⟨r.round, ⟨[], [], []⟩⟩) s = .next t ∧ (t.posn k).pot.sealed.get pot 0 = r.round + 1 ∧
        (t.posn k).pot.rounds.find? (fun x => x.pot == pot && x.round == r.round) = none ∧
        (s.ordered = false → ∀ i, i ∈ pe.entriesOn k → t.hiWord pe k i =
          if r.round = 0 then r.buf.get i 0 else fAdd (s.hiWord pe k i) (r.buf.get i 0)) ∧
        (s.ordered = true → ∀ i, i ∈ pe.entriesOn k → (t.nearW k (pe.hiOff true i), t.nearW k (pe.hiOff true i + 4096)) =
          if r.round + 1 = s.rounds then (fAdd (sum i).1 (sum i).2, 0) else sum i) ∧
        s.link.out.length + (r.senders.filter (· != s.rank)).length ≤ t.link.out.length ∧
        (∀ j, j ≠ k → (t.posn j).near = (s.posn j).near) ∧ t.hand.outcome = s.hand.outcome ∧ t.tiles = s.tiles) ∧
    ∀ (s : State) (seat tile layer round : Nat) (hop : Hop), goodHop hop 0xA → s.hand.running.isSome = true → s.hand.outcome = none →
      s.epoch layer < 255 → (∀ p ∈ s.pots_.zipIdx, s.potLayer p.2 = layer → p.1.kind ≠ 1) →
      let late := fun k => ∃ p ∈ s.pots_.zipIdx, s.potLayer p.2 = layer ∧ p.1.owner = s.rank ∧ k ∈ p.1.stacks ∧
        s.lateAt k p.2 (s.renegeRound seat tile layer round) = true
      let c := Instr.renege seat tile ⟨layer, round, hop, []⟩
      ((∀ k, ¬ late k) → ∃ t, exec c s = .next t ∧ t.epoch layer = s.epoch layer + 1 ∧
        t.rd R.PT_RENEGES_COUNT = min (s.rd R.PT_RENEGES_COUNT + 1) (2 ^ R.PT_RENEGES_COUNT.width - 1) ∧
        (∀ l, l ≠ layer → t.epoch l = s.epoch l) ∧
        ((∀ k, (s.posn k).pot.ahead = [] ∧ (s.posn k).pot.input = [] ∧ (s.posn k).pot.crib = []) → ∀ k, k < 48 →
          (t.posn k).pot.rounds = (s.posn k).pot.rounds.map (fun r => if s.potLayer r.pot = layer then
            { r with epoch := s.epoch layer + 1, buf := [], cnt := [], held := [], complete := false, rebuild := true } else r))) ∧
      (∀ k, seat ≠ s.rank → late k → ∃ t u : State, exec c s = .next t ∧ t = u.misdeal 7 ∧ u.tiles = s.tiles ∧ u.epoch layer = s.epoch layer))

/-! ## Census, gate and sweep (R263 to R282, R319 to R345) -/

/-- The collection after a hand runs the chooser for every HISTORY tensor and the silence watch for every WATCH tensor with the counts of the hand, clears the
dealers' counts, and is done once; of a misdealt hand it leaves the scale state as it was (R262, R263, R267, R269, R279). -/
def Obligations.CensusCollection : Prop :=
  (∀ (s : State), s.collectDue = true → s.misdealtHand = true → ∃ t, exec .censusCollect s = .next t ∧ t.num.collected = true ∧
    (∀ k, k < 48 → (t.dealer k).cens = []) ∧ (∀ i, t.num.scale.get i Scale.reset = s.num.scale.get i Scale.reset) ∧
    (∀ k, (t.posn k).near = (s.posn k).near) ∧ t.hand.outcome = s.hand.outcome) ∧
  (∀ (s : State), s.collectDue = false → exec .censusCollect s = .next s) ∧
  ∀ (s : State), s.collectDue = true → s.misdealtHand = false →
    ∃ t, exec .censusCollect s = .next t ∧ t.num.collected = true ∧ (∀ k, k < 48 → (t.dealer k).cens = []) ∧
      (∀ i tn, s.num.tensors[i]? = some tn →
        let x := s.num.scale.get i Scale.reset
        let c := s.tally i
        let ch := if tn.flag 0 then (choose (s.on R.NM_CTRL_CHOOSER_EN) (s.rd R.NM_CHOOSER_HEAD) (s.rd R.NM_CHOOSER_BACKOFF)
          (s.rd R.NM_CHOOSER_HOLD) tn c x).st else x
        t.num.scale.get i Scale.reset =
          { ch with run := if tn.flag 2 then runAfter (s.rd R.NM_SIL_SHARE_PPM) (tn.empty || c.total == 0) c x.run else x.run }) ∧
      (∀ k, (t.posn k).near = (s.posn k).near) ∧ t.hand.outcome = s.hand.outcome

/-- (1) After the play schedule a seat has contributed, and one that stands alone has its own gate record back; SKIP_NEXT clears; the unsealed record carries the norm
of the hi words as they stand (R319, R320, R377).
(2) The gate's verdict: APPLY keeps the record and raises NM_STEP by one, of a seat with a fault since its contribution it tears the sweep; SKIP and
MISDEAL end the hand with their outcome and leave NM_STEP, MISDEAL with STOP; the decision and its cause are shown, and the gate line is written on every
position in service; a record with no contributor is a fatal error (R322, R324, R325, R328, R371).
(3) The verdict is that of the first row of the table whose condition holds, with K the gradient scale; it is none for no contributor (R322, R323). -/
def Obligations.Gate : Prop :=
  (
    (∀ (s : State) (waited : Bool), s.gateDue = true → s.alone = false → (s.on R.PT_STATUS_ALL_SEALED = true ∨ waited = true) →
      ∃ t, exec (.gateContribute waited) s = .next t ∧ t.hand.contributed = true ∧ t.on R.NM_UPD_CTRL_SKIP_NEXT = false ∧
        t.hand.outcome = none ∧ t.tiles = s.tiles ∧ t.pos = s.pos) ∧
    (∀ (s : State) (waited : Bool), (s.gateDue = false ∨ (s.on R.PT_STATUS_ALL_SEALED = false ∧ waited = false)) →
      exec (.gateContribute waited) s = .next s) ∧
    ∀ (s : State) (waited : Bool), s.gateDue = true → s.alone = true →
      (s.on R.PT_STATUS_ALL_SEALED = true ∨ waited = true) →
      ∃ t, exec (.gateContribute waited) s = .next t ∧ t.hand.contributed = true ∧ t.on R.NM_UPD_CTRL_SKIP_NEXT = false ∧
        t.hand.result = some (if s.on R.PT_STATUS_ALL_SEALED then s.gateRec false else s.setRnorm.gateRec true) ∧
        t.hand.outcome = none ∧ t.tiles = s.tiles ∧ t.pos = s.pos) ∧
  (
    (∀ (s : State) (r : GateRec), s.hand.running.isSome = true → s.hand.outcome = none → s.hand.contributed = true →
      s.recovering = false → s.hand.result = some r → r.decision = 0 → s.supvRuns = true → r.contrib = 0 →
      ∃ t, exec (.gateDecide r) s = .next t ∧ t.fatalNow = true) ∧
    ∀ (s : State) (r : GateRec) (v : GateVerdict), s.hand.running.isSome = true → s.hand.outcome = none → s.hand.contributed = true →
      s.recovering = false → s.hand.result = some r → r.decision = 0 → s.supvRuns = true →
      gateVerdict (s.on R.NM_UPD_CTRL_MEAN) (BitVec.ofNat 32 (s.rd R.NM_CLIP_CLIP)) (BitVec.ofNat 32 (s.rd R.NM_CEIL_CEIL)) r = some v →
      let step := fun (s : State) => s.rd64 R.NM_STEP_LO_STEP R.NM_STEP_HI_STEP
      let r' := gateCrc { r with k := v.k, decision := BitVec.ofNat 8 v.decision, cause := BitVec.ofNat 8 v.cause }
      ∃ t, exec (.gateDecide r) s = .next t ∧ t.rd R.NM_UPD_STATUS_DECISION = v.decision ∧ t.rd R.NM_UPD_STATUS_CAUSE = v.cause ∧
        t.hand.result = some r' ∧ (v.decision ≠ 3 → s.hand.misdealt = false → t.tiles = s.tiles) ∧
        (v.decision = 1 → s.hand.misdealt = true → t.hand.outcome = some (0x48, 0) ∧ t.on R.NM_UPD_STATUS_TORN = true) ∧
        (v.decision = 1 → s.hand.misdealt = false → step t = (step s + 1) % 2 ^ 64 ∧ t.hand.kept = some r' ∧ t.hand.outcome = none) ∧
        (v.decision = 2 → step t = step s ∧ t.hand.outcome = some (0x04, v.cause) ∧ t.hand.kept = s.hand.kept) ∧
        (v.decision = 3 → step t = step s ∧ t.hand.outcome = some (0x47, 0x10 + v.cause) ∧ t.hand.kept = s.hand.kept ∧
          t.fab.started = false) ∧
        ∀ k, k ∈ s.svc → t.nearRd k gateOff 64 = gateLine r') ∧
  (
    ∀ (mean : Bool) (clip ceil : W32) (r : GateRec),
      let k := (gateScale mean clip ceil r).1
      let f := fun b => bitOf r.flags.toNat b
      let finite := (d64 r.lnorm).finite && (d64 r.rnorm).finite
      let v := gateVerdict mean clip ceil r
      (r.contrib = 0 → v = none) ∧ (r.contrib ≠ 0 →
        (f 5 = true → v = some ⟨3, 1, k⟩) ∧
        (f 5 = false → f 2 = true → v = some ⟨3, 2, k⟩) ∧
        (f 5 = false → f 2 = false → f 3 = true → v = some ⟨3, 3, k⟩) ∧
        (f 5 = false → f 2 = false → f 3 = false → r.contrib ≠ r.seats → v = some ⟨3, 4, k⟩) ∧
        (f 5 = false → f 2 = false → f 3 = false → r.contrib = r.seats → (f 0 = true ∨ finite = false) → v = some ⟨2, 5, k⟩) ∧
        (f 5 = false → f 2 = false → f 3 = false → r.contrib = r.seats → f 0 = false → finite = true → f 4 = true → v = some ⟨2, 6, k⟩) ∧
        (f 5 = false → f 2 = false → f 3 = false → r.contrib = r.seats → f 0 = false → finite = true → f 4 = false →
          v = some (if (gateScale mean clip ceil r).2 then ⟨2, 7, k⟩ else ⟨1, 0, k⟩))))

/-- After APPLY the sweep is set up: every tile of the footprint resumes after its END with fresh registers, the dealers go to their sweep parts, and
SWEEP_BUSY is set; a push under way or due holds it and counts; the sweep watchdog tears the shard (R327, R328, R330, R340). -/
def Obligations.Sweep : Prop :=
  ∀ (s : State), s.hand.running.isSome = true → s.hand.outcome = none →
    (∀ r, s.hand.result = some r → r.decision = 1 → s.hand.contributed = true → s.hand.sweep = false → s.hand.misdealt = false →
      s.pushing = false →
      ∃ t, exec .sweepStart s = .next t ∧ t.hand.sweep = true ∧ t.fab.started = false ∧ t.on R.NM_UPD_STATUS_SWEEP_BUSY = true ∧
        (∀ n, n ∈ s.footprint → (t.tile n).prim.running = true ∧ (t.tile n).prim.pc = (s.tile n).prim.pc ∧
          (t.tile n).prim.sig = 0 ∧ (t.tile n).prim.g = [] ∧ (t.tile n).bufA = WBuf.empty ∧ (t.tile n).sram = (s.tile n).sram) ∧
        (∀ n, n ∉ s.footprint → t.tile n = s.tile n) ∧
        (∀ k, k < 48 → (s.dealer k).descs ≠ [] → t.descIndex k = (s.dealer k).sweepFirst % 2 ^ R.DL_PDESC_INDEX.width) ∧
        ∀ k, (t.posn k).near = (s.posn k).near ∧ (t.posn k).stock = (s.posn k).stock) ∧
    (∀ r, s.hand.result = some r → r.decision = 1 → s.hand.contributed = true → s.hand.sweep = false → s.hand.misdealt = false →
      s.pushing = true → exec .sweepStart s = .next (s.each s.svc (fun s k => s.bumpI R.DL_PLATE_BEATS k 1))) ∧
    (s.hand.sweep = true → s.fab.started = true → s.moving = true → ∃ t, exec .sweepTimeout s = .next t ∧
      t.hand.outcome = some (0x48, 0) ∧ t.hand.sweep = false ∧ t.on R.NM_UPD_STATUS_TORN = true ∧ t.fab.started = false)

/-- A full deal whose parts all fit in staging stages one segment for each and ends with FULL_DEAL_DONE; with the delta ring disabled it ends at once; a push
to a mirror seat that can be reached sends every part and awaits every position, to another it fails; what waited for the export goes on; a sweep that waits says PUSH_LATE; GO sets every version, the step and the next hand (R329, R338, R340, R344, R345, R408). -/
def Obligations.ExportsAndRestore : Prop :=
  (∀ (s : State) (e : Export), s.hand.full = some e → (∀ p ∈ e.parts, p.lines ≤ segLines ∧ s.staged p.pos = 0) → e.parts.length ≤ 48 →
    (e.parts.map (·.pos)).Nodup → s.ringOn .dlt = true → s.hand.exports = [] →
    ∃ t : State, exec .fullDeal s = .next t.pumpAll ∧ t.num.segs.length = s.num.segs.length + e.parts.length ∧ t.hand.full = none ∧
      t.on R.NM_UPD_STATUS_FULL_BUSY = false ∧ t.rd64 R.NM_FULL_HAND_LO_HAND R.NM_FULL_HAND_HI_HAND = e.hand.toNat ∧
      t.tiles = s.tiles ∧ t.pos = s.pos) ∧
  (∀ (s : State) (e : Export), s.hand.full = some e → s.ringOn .dlt = false →
    exec .fullDeal s = .next s.endFull.pumpAll ∧ s.endFull.num = s.num ∧ s.endFull.on R.NM_UPD_STATUS_FULL_BUSY = false) ∧
  (∀ (s : State) (e : Export), s.hand.push = some e → s.hand.pushPend = true → s.reachable s.ownMirror = false →
    ∃ t, exec .pushStart s = .next t ∧ t.hand.push = none ∧ t.hand.pushPend = false ∧ t.on R.NM_UPD_STATUS_PUSH_BUSY = false ∧
      t.tiles = s.tiles ∧ t.pos = s.pos) ∧
  (∀ (s : State) (e : Export), s.hand.push = some e → s.hand.pushPend = true → s.reachable s.ownMirror = true →
    s.hand.exports = [] → ∃ t : State, exec .pushStart s = .next t.pumpAll ∧ t.on R.NM_UPD_STATUS_PUSH_BUSY = true ∧ t.hand.pushOpen = s.svc ∧ t.hand.pushPend = false ∧
      s.link.out.length + e.parts.length ≤ t.link.out.length ∧ t.tiles = s.tiles ∧ t.pos = s.pos) ∧
  (∀ (s : State) (r : GateRec), s.pushing = true → s.hand.running.isSome = true → s.hand.outcome = none →
    s.hand.sweep = false → s.hand.result = some r → r.decision = 1 →
    ∃ t, exec .pushLate s = .next t ∧ s.said s t 0x0A16 [.w8 s.hand.hand.toNat, .w4 s.ownMirror]) ∧
  (∀ (s : State) (who : Agent), s.mayWrite who R.NM_RESTORE_CMD_GO.off = true → s.between = true →
    s.pushing = false → s.link.mirror.hand = none →
    let h := s.rd64 R.NM_RESTORE_HAND_LO_HAND R.NM_RESTORE_HAND_HI_HAND
    ∃ t, exec (.go who) s = .next t ∧ t.hand.next = BitVec.ofNat 64 (h + 1) ∧ t.on R.NM_UPD_STATUS_TORN = false ∧
      t.on R.NM_UPD_STATUS_MIRROR_VALID = false ∧
      t.rd64 R.NM_STEP_LO_STEP R.NM_STEP_HI_STEP = s.rd64 R.NM_RESTORE_STEP_LO_STEP R.NM_RESTORE_STEP_HI_STEP ∧
      (∀ k, k < 48 → ∀ p ∈ (t.dealer k).pieces, p.version = BitVec.ofNat 64 h) ∧ t.tiles = s.tiles ∧
      s.noted 0x0A18 [.w8 h] ∈ t.sup.trace)

/-! ## Images, deals and the hand boundary (R30, R134, R140, R141, R326, R395, R396, R404, R479) -/

/-- (1) LOAD adds the image that the validator records and answers its id; a rejected one completes with BAD_IMAGE, one of R141's codes and the place of
its flaw, and the store stays; UNLOAD removes an image that no deal names and that is no other's base, and answers BUSY or NO_SUCH otherwise; in every case
nothing else changes but what completing a descriptor does (R140, R141, R395).
(2) A DEAL of a loaded image enters its waiting slot with its copy done; one that a reason of R399 refuses completes REFUSED with it, one of no
micro-batch NOTHING_DEALT, one of an image that is not loaded REFUSED 1; a side deal of a torn seat REFUSED 5; its batch is copied as it enters; while
deals are held or its slot is taken it waits (R328, R396, R404). -/
def Obligations.ImagesAndDeals : Prop :=
  (
    (∀ (s : State) (d : DHdr) (host len : W64) (b : HostIn), s.starts d →
      (len = 0 → exec (.load d host len b) s = .next ((s.take d).complete d.q d.cid 1 0 0)) ∧
      (∀ f, len ≠ 0 → b.err = .none → b.dirty = [] → (s.take d).validate (slice b.bytes 0 len.toNat) len.toNat = .inl f →
        exec (.load d host len b) s = .next ((s.take d).complete d.q d.cid 0x44 f.1 f.2)) ∧
      (∀ m, len ≠ 0 → b.err = .none → b.dirty = [] → (s.take d).validate (slice b.bytes 0 len.toNat) len.toNat = .inr m →
        exec (.load d host len b) s = .next (({ s.take d with hand := { s.hand with images := s.hand.images ++ [m] } } : State).complete
          d.q d.cid 0 0 m.id.toNat))) ∧
    (∀ (s : State) (b : Bytes) (n : Nat) (f : Flaw), s.validate b n = .inl f → 1 ≤ f.1 ∧ f.1 ≤ 11) ∧
    (∀ (s : State) (b : Bytes) (n : Nat) (m : Image), s.validate b n = .inr m → s.image m.id = none ∧ s.hand.images.length < 64 ∧
      (s.hand.images.map (·.length)).sum + m.length ≤ 24 * gib) ∧
    (∀ (s : State) (d : DHdr) (id : W64), s.starts d → bitOf d.flags.toNat 1 = false → id ≠ 0 →
      let named := [s.hand.running, s.hand.waiting, s.hand.sideRun, s.hand.sideWait].any (fun o => dealNames o id)
      let based := s.hand.images.any (fun m => m.base == id)
      (s.image id = none → exec (.unload d id) s = .next ((s.take d).complete d.q d.cid 0x45 1 0)) ∧
      (s.image id ≠ none → named = true ∨ based = true → exec (.unload d id) s = .next ((s.take d).complete d.q d.cid 0x46 0 0)) ∧
      (s.image id ≠ none → named = false → based = false → ∃ t u : State, exec (.unload d id) s = .next t ∧
        t = u.complete d.q d.cid 0 0 0 ∧ u = { s.take d with hand := { s.hand with
          images := u.hand.images, installed := u.hand.installed, sideInst := u.hand.sideInst } } ∧
        (∀ x, u.image x = if x = id then none else s.image x) ∧ u.hand.installed ≠ some id))) ∧
  (
    ∀ (s : State) (d : DHdr) (f : DealD) (b : HostIn), d.q < 64 → s.starts d → f.imageId ≠ 0 → f.dflags.toNat ≤ 1 →
      (bitOf f.dflags.toNat 0 = true → f.mbCount = 0) →
      (s.mayDeal f = false → exec (.deal d f b) s = .next s) ∧
      (s.mayDeal f = true → s.image f.imageId = none → exec (.deal d f b) s = .next ((s.take d).complete d.q d.cid 0x45 1 0)) ∧
      (∀ m, s.mayDeal f = true → s.image f.imageId = some m → m.kind ≠ 3 →
        (∀ r, s.entryReason m f = some r → exec (.deal d f b) s = .next ((s.take d).complete d.q d.cid 0x45 r 0)) ∧
        (s.entryReason m f = none → f.mbCount = 0 → f.dflags = 0 → exec (.deal d f b) s = .next ((s.take d).complete d.q d.cid 2 0 0)) ∧
        (s.entryReason m f = none → f.mbCount ≠ 0 ∨ f.dflags ≠ 0 → f.batchLen = 0 → exec (.deal d f b) s =
          .next { s.take d with hand := { s.hand with waiting := some ⟨d.q, d.cid, f, bitOf d.flags.toNat 1, some 0⟩ } }) ∧
        (s.entryReason m f = none → f.mbCount ≠ 0 ∨ f.dflags ≠ 0 → f.batchLen ≠ 0 → b.err = .none → b.dirty = [] →
          (s.take d).reach f.batchDev.toNat f.batchLen.toNat true = .ok →
          ∃ t, exec (.deal d f b) s = .next t ∧ (s.take d).stored t f.batchDev.toNat (slice b.bytes 0 f.batchLen.toNat) ∧ t.regs = (s.take d).regs ∧
            t.hand = { s.hand with waiting := some ⟨d.q, d.cid, f, bitOf d.flags.toNat 1, some 0⟩ })) ∧
      (∀ m, s.mayDeal f = true → s.image f.imageId = some m → m.kind = 3 → f.mbCount = 0 → f.dflags = 0 →
        (s.hosted m = false → exec (.deal d f b) s = .next ((s.take d).complete d.q d.cid 0x45 7 0)) ∧
        (s.hosted m = true → s.on R.NM_UPD_STATUS_TORN = true →
          exec (.deal d f b) s = .next ((s.take d).complete d.q d.cid 0x45 5 0)) ∧
        (s.hosted m = true → s.on R.NM_UPD_STATUS_TORN = false → f.batchLen = 0 → exec (.deal d f b) s =
          .next { s.take d with hand := { s.hand with sideWait := some ⟨d.q, d.cid, f, bitOf d.flags.toNat 1, some 0⟩ } })))

/-- (1) At a boundary the hand that ended is closed: the next number rises after APPLIED, SKIPPED or TORN and stays after a misdeal; a waiting deal whose image
is no longer loaded is refused, and so is one for which a reason of R399 holds once the hand is closed; another is taken: its image is installed and its hand set up
under the next number; while the hand has no outcome the boundary waits (R30, R143, R144, R326, R399, R404). A hand that the watchdog ends is misdealt with
FAULT, its sweep torn, or after its gate contribution kept for the decision, and HAND_WATCHDOG says so (R32, R328, R371, R479).
(2) Setting up a hand that is no recovery: it takes the next number, its deal runs and no deal waits, no round is open, and every tile of the image that
has code begins at word 0 with its registers 0, mask register 0 all ones, its weight buffers empty and its counts at 0; a recovery takes no number: it has the hand and
the record of the kept gate line, which it writes on every position in service, and its tiles stand at the words where their sweep schedules begin (R30, R57,
R109, R144, R326, R342). -/
def Obligations.HandBoundary : Prop :=
  (
    (∀ (s : State) (b : BoundaryIn), s.atBoundary = false → exec (.handBoundary b) s = .next s) ∧
    (∀ (s : State) (b : BoundaryIn) (d : Deal) (c : Nat) (x : Nat), s.atBoundary = true → s.hand.running = some d → s.hand.outcome = some (c, x) →
      s.on R.SP_STATUS_SWITCH_PEND = false → s.hand.waiting = none → bitOf d.d.dflags.toNat 0 = false →
      ∃ t, exec (.handBoundary b) s = .next t ∧ t.hand.running = none ∧ t.hand.outcome = none ∧ t.hand.sweep = false ∧
        t.hand.next = if c = 3 ∨ c = 4 ∨ c = 0x48 then s.hand.hand + 1 else s.hand.next) ∧
    (∀ (s : State) (b : BoundaryIn) (d : Deal), s.atBoundary = true → s.hand.running = none → s.on R.SP_STATUS_SWITCH_PEND = false →
      s.pwr.pstate = .run → s.hand.waiting = some d → s.image d.d.imageId = none →
      ∃ t, exec (.handBoundary b) s = .next t ∧ t.hand.waiting = none ∧ t.hand.running = none ∧ t.hand.next = s.hand.next) ∧
    (∀ (s : State) (b : BoundaryIn) (d : Deal) (m : Image), s.atBoundary = true → s.on R.SP_STATUS_SWITCH_PEND = false →
      s.pwr.pstate = .run → s.hand.waiting = some d →
      let u := s.closing.beforeDeal b
      u.image d.d.imageId = some m →
      (∀ r, u.boundaryReason d m = some r → ∃ t, exec (.handBoundary b) s = .next t ∧ t.hand.waiting = none ∧ t.hand.running = none ∧
        t.hand.next = u.hand.next) ∧
      (u.boundaryReason d m = none → ((u.foldFor m b).unfoldMap).barred m = false → d.copied = some 0 → bitOf d.d.dflags.toNat 0 = false →
        ∃ t, exec (.handBoundary b) s = .next t ∧ t.hand.running = some d ∧ t.hand.waiting = none ∧ t.hand.outcome = none ∧
          t.hand.hand = u.hand.next ∧ t.hand.installed = some m.id ∧ t.fab.started = false ∧ t.hand.exports = b.exports ∧
          ∀ n, n ∈ m.tiles → m.code false n ≠ [] → (t.tile n).prim.running = true ∧ (t.tile n).prim.pc = 0 ∧ (t.tile n).prim.g = [])) ∧
    (∀ (s : State), s.handTimed = true →
      ∃ t, exec .handWatchdog s = .next t ∧ s.noted 0x0A24 [.w8 s.hand.hand.toNat] ∈ t.sup.trace ∧
        (s.hand.sweep = true → t.hand.outcome = some (0x48, 0) ∧ t.on R.NM_UPD_STATUS_TORN = true) ∧
        (s.hand.sweep = false → t.hand.misdealt = true) ∧
        (s.hand.sweep = false → s.hand.contributed = false → t.hand.outcome = some (0x47, 7)) ∧
        (s.hand.sweep = true ∨ s.hand.contributed = false → t.fab.started = false ∧ t.on R.FB_STATUS_FROZEN = false ∧
          ∀ n, (t.tile n).prim.running = false) ∧
        (s.hand.sweep = false → s.hand.contributed = true → t.hand.outcome = none ∧ t.tiles = s.tiles)) ∧
    ∀ (s : State), s.handTimed = false → exec .handWatchdog s = .next s) ∧
  (
    (∀ (s : State) (m : Image) (d : Deal) (r : GateRec), bitOf d.d.dflags.toNat 0 = true → s.hand.kept = some r →
      let t := s.setUpHand m d
      t.hand.hand = r.hand ∧ t.hand.next = s.hand.next ∧ t.hand.running = some d ∧ t.hand.result = some r ∧ t.hand.contributed = true ∧
      (∀ k, k ∈ s.svc → t.nearRd k gateOff 64 = gateLine r) ∧
      ∀ n, n ∈ m.tiles → m.code false n ≠ [] → (t.tile n).prim.ended = true ∧ (t.tile n).prim.pc = m.sweepPc.get n 0) ∧
    ∀ (s : State) (m : Image) (d : Deal), bitOf d.d.dflags.toNat 0 = false →
      let t := s.setUpHand m d
      t.hand.hand = s.hand.next ∧ t.hand.running = some d ∧ t.hand.waiting = none ∧ t.hand.outcome = none ∧ t.hand.sweep = false ∧
      t.fab.started = false ∧
      ∀ n, n ∈ m.tiles → m.code false n ≠ [] →
        (t.tile n).prim.running = true ∧ (t.tile n).prim.pc = 0 ∧ (t.tile n).prim.g = [] ∧ (t.tile n).prim.tc = 0 ∧
        (t.tile n).prim.m = Ctx.reset.m ∧ (t.tile n).prim.v = [] ∧ (t.tile n).bufA = WBuf.empty ∧ (t.tile n).bufB = WBuf.empty ∧
        (t.tile n).corr = [])

/-! ## Link ports (R351 to R358, R381, R546, R547) -/

/-- (1) A port that is enabled trains and sends HELLO; one that is disabled is down; RETRAIN and the periodic one train a port again, the latter not one that
failed with HELLO; a lock that is lost takes an up port down with PORT_DOWN, and it retrains while it is enabled; in stage 5 the end of
start-up may follow (R351, R352, R381, R546, R547).
(2) A frame in order is accepted and the next is expected; one that fails its CRC is not, and draws a NAK; the fourth failure in a row, and the eighth sending
of a frame, take the port down; the resend timer sends again from the oldest unacknowledged frame (R352, R355, R357).
(3) A HELLO of this seat's table and generation brings a training port up, at half width if it trained so, with PORT_UP and start values of its numbers; one
of another table makes it FOREIGN, one whose fields are out of range FAILED (R351, R353). In stage 5 a port that passes its soak has soaked; the first failure
takes it down, the second leaves it FAILED; the end of start-up may follow each (R546). -/
def Obligations.PortsAndHello : Prop :=
  (
    ∀ (s : State) (who : Agent) (p : Nat) (v : W32) (a : TrainIn), p < 16 → s.portOn p = true →
      let training := fun (t : State) => t.getI R.LK_PSTAT_STATE p = 2 ∧ (∃ x ∈ t.link.out, x.typ = 0x24 ∧ x.port = p) ∧ s.keeps t
      (s.mayWrite who (R.LK_PCTRL_EN.addr p) = true → v &&& 1 = 1 → s.portEn p = false → goodTrain a → (s.lport p).cage = true →
        ∃ t : State, exec (.portEnable who p v a) s = .next t.stage5Check ∧ training t ∧ t.reg (R.LK_PCTRL_EN.addr p) = v &&& 0x1F) ∧
      (s.mayWrite who (R.LK_PCTRL_EN.addr p) = true → v &&& 1 = 0 →
        ∃ t : State, exec (.portEnable who p v a) s = .next t.stage5Check ∧ t.getI R.LK_PSTAT_STATE p = 0 ∧ t.portEn p = false) ∧
      (s.mayWrite who (R.LK_PCTRL_EN.addr p) = true → s.portEn p = true → s.getI R.LK_PSTAT_STATE p ≤ 2 → goodTrain a → (s.lport p).cage = true →
        ∃ t : State, exec (.retrain who p a) s = .next t.stage5Check ∧ training t) ∧
      (s.supvRuns = true → s.getI R.LK_PSTAT_STATE p = 6 → (s.lport p).cage = true → s.portEn p = true → goodTrain a →
        ((s.lport p).cause ≠ 2 → ∃ t, exec (.periodicRetrain [(p, a)]) s = .next t ∧ training t) ∧
        ((s.lport p).cause = 2 → exec (.periodicRetrain [(p, a)]) s = .next s)) ∧
      (∀ cause, s.portUp p = true → ∃ t, exec (.portDown p cause) s = .next t ∧
        t.getI R.LK_PSTAT_STATE p = (if s.portEn p then 2 else 0) ∧ s.noted 0x0502 [.w4 p, .w4 cause] ∈ t.sup.trace ∧
        (s.hand.running = none → s.keeps t))) ∧
  (
    ∀ (s : State) (p : Nat) (f : FrameIn), p < 16 → s.portUp p = true →
      (f.crcOk = true → f.nak = false → f.idle = false → f.seq % 2 ^ 24 = (s.lport p).expect → (s.lport p).expect < 2 ^ 24 →
        ∃ t, exec (.frameReceive p f) s = .next t ∧ (t.lport p).expect = ((s.lport p).expect + 1) % 2 ^ 24 ∧
          (t.lport p).nakDue = false ∧ (t.lport p).crcRun = 0 ∧ t = { s with link := { s.link with ports := t.link.ports } } ∧
          ∀ q, q ≠ p → t.lport q = s.lport q) ∧
      (f.crcOk = false → (s.lport p).crcRun < 3 →
        exec (.frameReceive p f) s = .next (s.setLport p { s.lport p with crcRun := (s.lport p).crcRun + 1, nakDue := true })) ∧
      (f.crcOk = false → 3 ≤ (s.lport p).crcRun → ∃ t, exec (.frameReceive p f) s = .next t ∧ t.portUp p = false) ∧
      (0 < (s.lport p).unackN → (s.lport p).resends < 7 → ∃ t, exec (.frameResendTimer p) s = .next t ∧
        t.lport p = { s.lport p with resends := (s.lport p).resends + 1 } ∧ t.hand = s.hand ∧ s.keeps t) ∧
      (0 < (s.lport p).unackN → 7 ≤ (s.lport p).resends → ∃ t, exec (.frameResendTimer p) s = .next t ∧ t.portUp p = false)) ∧
  (
    (∀ (s : State) (h : LHdr) (m : HelloIn), h.port < 16 → s.getI R.LK_PSTAT_STATE h.port = 2 → h.cls = 1 → 0 < h.len →
      let fits := 0 < m.seats ∧ m.seats ≤ 1024 ∧ m.rank < m.seats ∧ m.port ≤ 15
      (¬ fits → ∃ t : State, exec (.hello h m) s = .next t.stage5Check ∧ t.getI R.LK_PSTAT_STATE h.port = 6 ∧ (t.lport h.port).cause = 2 ∧
        s.keeps t) ∧ (fits →
      let same := m.tableId.toNat = s.rd64 R.LK_TABLE_ID_LO_ID R.LK_TABLE_ID_HI_ID ∧ m.tgen.toNat = s.rd R.LK_TGEN_GEN
      ∃ t : State, exec (.hello h m) s = .next t.stage5Check ∧ t.getI R.LK_PSTAT_PEER_RANK h.port = m.rank ∧ t.getI R.LK_PSTAT_PEER_PORT h.port = m.port ∧
        (same → t.getI R.LK_PSTAT_STATE h.port = if (s.lport h.port).half then 4 else 3) ∧
        (¬ same → t.getI R.LK_PSTAT_STATE h.port = 5) ∧ (t.lport h.port).expect = 0 ∧ (t.lport h.port).txSeq = 0 ∧
        s.noted 0x0501 [.w4 h.port, .w4 m.rank, .w4 (if (s.lport h.port).half then 4 else 8)] ∈ t.sup.trace ∧ s.keeps t)) ∧
    (∀ (s : State) (p : Nat) (a : TrainIn), p < 16 → s.rd R.HI_STATUS_STAGE = 5 → s.portUp p = true → (s.lport p).soaked = false →
      (∃ t : State, exec (.startUpSoak p true a) s = .next t.stage5Check ∧ (t.lport p).soaked = true ∧ t.portUp p = true ∧ t.tiles = s.tiles) ∧
      ((s.lport p).soaks = 0 → ∃ t : State, exec (.startUpSoak p false a) s = .next t.stage5Check ∧ t.portUp p = false ∧ (t.lport p).soaks = 1) ∧
      ((s.lport p).soaks ≠ 0 → ∃ t : State, exec (.startUpSoak p false a) s = .next t.stage5Check ∧ t.getI R.LK_PSTAT_STATE p = 6 ∧ (t.lport p).cause = 3)))

/-! ## Packets (R245 to R247, R343, R359 to R371) -/

/-- (1) A packet for another seat goes on with its HOPS one higher, and ends with HOP_LIMIT at the 32nd or UNREACHABLE without a port that is up; a packet of
the wrong generation, class, length or type is discarded with STRAY_LINK (R359, R361, R362).
(2) The owner of a piece answers a gather request with the piece's lines, their poison and its version, or parks it with PARKED while a stage piece is of an
earlier hand; it holds a request while a STORE with VSET writes the piece, or while no tracking entry is free; a relay that has the lines of this hand answers for
the owner with the recorded version (R239, R246, R364, R365).
(3) A response that answers an open request of this hand is written to its piece, with the version it carries, which VREC records, and the request closes; one
whose version VCMP or an earlier response forbids is a stale deal; any other response is discarded; PARKED marks the open request; a parked request that waited too long fails with GATHER_FAIL (R245, R246, R247, R365). -/
def Obligations.ForwardingAndGathers : Prop :=
  (
    ∀ (s : State) (h : LHdr) (body : Bytes), s.portUp h.port = true →
      let U := s.portsUp (s.getI R.LK_ROUTE_PORTS h.dest)
      (s.linkGood h = true → h.dest ≠ s.rank → h.hops < 31 → U ≠ [] → ∃ (t : State) (p : LinkOut), exec (.packetForward h body) s = .next t ∧
        t.link.out = s.link.out ++ [p] ∧ p.port ∈ U ∧ p.hops = h.hops + 1 ∧ p.dest = h.dest ∧ p.src = h.src ∧ p.typ = h.typ ∧ p.cls = h.cls ∧
        p.tgen = h.tgen ∧ p.body = body ∧ t.hand = s.hand ∧ s.keeps t) ∧
      (s.linkGood h = true → h.dest ≠ s.rank → 31 ≤ h.hops → ∃ t, exec (.packetForward h body) s = .next t ∧
        s.said s t 0x0508 [.w4 h.src, .w4 h.dest]) ∧
      (s.linkGood h = true → h.dest ≠ s.rank → h.hops < 31 → U = [] → ∃ t, exec (.packetForward h body) s = .next t ∧
        s.said s t 0x0507 [.w4 h.dest, .w4 h.typ]) ∧
      (s.linkGood h = false → ∃ t, exec (.packetForward h body) s = .next t ∧
        s.said s t 0x050F [.w4 h.src, .w4 h.typ, .w4 h.tgen.toNat]) ∧
      (s.linkGood h = true → h.dest = s.rank → exec (.packetForward h body) s = .next s)) ∧
  (
    (∀ (s : State) (h : LHdr) (r : GReq) (p : Piece) (v : W64), s.portUp h.port = true → s.linkGood h = true → h.typ = 1 → h.dest ≠ s.rank →
      linesOk r.lines = true → s.relays r = true → (s.dealer r.pos).piece r.shard = some p →
      (s.dealer r.pos).vrec.find? r.shard.toNat = some v → s.reachable h.src = true →
      ∃ (t : State) (bad : Nat), exec (.gatherReq h ⟨r, ⟨[], [], []⟩⟩) s = .next t ∧
        s.sent t h.src 2 0x02 (greqBytes r ++ leBytes 8 v.toNat ++ leBytes 8 bad ++ zeros 8 ++
          s.nearRd r.pos (p.off + 64 * r.first) (64 * r.lines)) ∧ t.hand = s.hand ∧ s.keeps t) ∧
    ∀ (s : State) (h : LHdr) (r : GReq) (p : Piece), s.arrives h 1 → 0 < r.lines → r.lines ≤ 64 →
      (s.dealer r.pos).piece r.shard = some p → s.inSvc r.pos = true → r.first + r.lines ≤ p.lines → s.reachable h.src = true →
      let early := stagePiece r.shard = true ∧ p.version.toNat < r.hand.toNat
      let c := Instr.gatherReq h ⟨r, ⟨[], [], []⟩⟩
      (¬ early → s.vsetOpen r.pos r.shard = false → s.hasEntry r.pos = true → ∃ (t : State) (bad : Nat), exec c s = .next t ∧
        s.sent t h.src 2 0x02 (greqBytes r ++ leBytes 8 p.version.toNat ++ leBytes 8 bad ++ zeros 8 ++
          s.nearRd r.pos (p.off + 64 * r.first) (64 * r.lines)) ∧ t.hand = s.hand ∧ t.link.parked = s.link.parked ∧ s.keeps t) ∧
      (¬ early → s.vsetOpen r.pos r.shard = true ∨ s.hasEntry r.pos = false → exec c s = .next
        { s with link := { s.link with parked := s.link.parked ++ [⟨h.src, r, ⟨[], [], []⟩⟩] } }) ∧
      (early → ∃ t, exec c s = .next t ∧ s.sent t h.src 1 0x03 (greqBytes r) ∧
        t.link.parked = s.link.parked ++ [⟨h.src, r, ⟨[], [], []⟩⟩] ∧ t.hand = s.hand ∧ s.keeps t)) ∧
  (
    (∀ (s : State) (h : LHdr) (r : GReq) (g : OpenGather) (p : Piece) (v : W64) (data : Bytes), s.arrives h 2 → s.openGather r = some g →
      r.hand = s.hand.hand → s.hand.outcome = none → (s.dealer r.pos).piece r.shard = some p →
      let stale := s.mixes r.pos g v = true ∨
        (bitOf g.flags.toNat 1 = true ∧ (s.dealer r.pos).vrec.find? r.shard.toNat ≠ some v)
      (stale → ∀ q, exec (.gatherRsp h r v q data) s = .next (s.staleDeal r.pos r.shard v)) ∧ (¬ stale →
      ∃ t : State, exec (.gatherRsp h r v 0 data) s = .next (t.pump r.pos) ∧
        (bitOf g.flags.toNat 1 = false → bitOf g.flags.toNat 0 = true → (t.dealer r.pos).vrec.find? r.shard.toNat = some v) ∧ (t.dealer r.pos).gathers = (s.dealer r.pos).gathers.erase g ∧
        (∀ q ∈ (t.dealer r.pos).pieces, q.shard = r.shard → q.version = v) ∧
        (∀ i, i < 64 * g.lines → (t.posn r.pos).near.get (p.off + 64 * g.first + i) 0 = data.getD i 0) ∧
        (∀ a, (a < p.off + 64 * g.first ∨ p.off + 64 * (g.first + g.lines) ≤ a) → (t.posn r.pos).near.get a 0 = (s.posn r.pos).near.get a 0) ∧
        (t.posn r.pos).stock = (s.posn r.pos).stock ∧ t.tiles = s.tiles ∧ t.hand = s.hand ∧ ∀ k, k ≠ r.pos → t.posn k = s.posn k)) ∧
    (∀ (s : State) (h : LHdr) (r : GReq) (v q : W64) (data : Bytes), s.arrives h 2 → s.openGather r = none →
      exec (.gatherRsp h r v q data) s = .next s) ∧
    (∀ (s : State) (h : LHdr) (r : GReq) (g : OpenGather), s.arrives h 3 → s.openGather r = some g → r.hand = s.hand.hand →
      ∃ t, exec (.parked h r) s = .next t ∧ (∀ x ∈ (t.dealer r.pos).gathers, x.tag = r.tag → x.parked = true) ∧
        (t.dealer r.pos).gathers.length = (s.dealer r.pos).gathers.length ∧ (t.posn r.pos).near = (s.posn r.pos).near ∧
        t.tiles = s.tiles ∧ t.hand = s.hand ∧ ∀ k, k ≠ r.pos → t.posn k = s.posn k) ∧
    (∀ (s : State) (k : Nat) (tag : W32) (g : OpenGather),
      (s.dealer k).gathers.find? (fun g => g.tag == tag && g.parked) = some g →
      ∃ t u : State, exec (.parkTimeout k tag) s = .next t ∧ t = u.misdeal 7 ∧ (u.dealer k).gathers = (s.dealer k).gathers.erase g ∧
        s.noted 0x040E [.w4 g.shard.toNat, .w4 (if g.retried then 2 else 1)] ∈ u.sup.trace))

/-- (1) Between hands the source of a copy answers with its lines, but not with lines of a mirror copy that a push is writing; the seat that asked stores them, and completes the descriptor with the last part
(R343, R397).
(2) A subpacket that arrives on a link does at the adder of its first entry's stack what an accumulation there does; one of a pot that the plan lacks is
STRAY; a seal notice of this hand strikes its stack from every record of the round, and frees those that await no other; a resend request sends the record's
subpackets again with RESENT (R291, R301, R303, R305). -/
def Obligations.CopyAndReduce : Prop :=
  (
    (∀ (s : State) (h : LHdr) (a : W64) (n : Nat) (tag : W32), s.arrives h 4 → 0 < n → n ≤ 64 → s.between = true →
      ((∃ i, i < n ∧ s.pushedAt (a.toNat + 64 * i) = true) → exec (.copyReq h a n tag ⟨[], [], []⟩) s = .next s) ∧
      ((∀ i, i < n → s.pushedAt (a.toNat + 64 * i) = false) → s.reach a.toNat (64 * n) false = .ok → s.reachable h.src = true → (∀ i, i < n → s.poisoned (a.toNat + 64 * i) = false) →
      ∃ t, exec (.copyReq h a n tag ⟨[], [], []⟩) s = .next t ∧
        s.sent t h.src 2 0x05 (copyReqBody a.toNat n tag.toNat ++ zeros 32 ++ s.devRd a.toNat (64 * n)) ∧ t.hand = s.hand ∧ s.keeps t)) ∧
    (∀ (s : State) (h : LHdr) (j : CopyJob) (a : W64) (n : Nat) (tag : W32) (data : Bytes), s.arrives h 5 → data.length = 64 * n →
      s.host.copies.find? (fun j => j.src == h.src && j.left.contains tag.toNat && j.srcAddr + 4096 * tag.toNat == a.toNat &&
        min 64 (j.lines - 64 * tag.toNat) == n) = some j → s.reach (j.dstAddr + 4096 * tag.toNat) (64 * n) true = .ok →
      (j.left = [tag.toNat] → ∃ t u : State, exec (.copyRsp h a n tag 0 data) s = .next t ∧
        t = u.complete j.q j.cid 0 (b2n j.poisoned) 0 ∧ s.stored u (j.dstAddr + 4096 * tag.toNat) data ∧
        u.host.copies = s.host.copies.erase j ∧ u.hand = s.hand) ∧
      (2 ≤ j.left.length → ∃ t, exec (.copyRsp h a n tag 0 data) s = .next t ∧
        s.stored t (j.dstAddr + 4096 * tag.toNat) data ∧
        t.host.copies = s.host.copies.erase j ++ [{ j with left := j.left.erase tag.toNat }] ∧ t.hand = s.hand))) ∧
  (
    (∀ (s : State) (h : LHdr) (p : CPkt), s.arrives h 0x10 →
      (∀ pe, s.potEnt p.hdr.pot.toNat = some pe →
        let k := pe.stackOf (p.hdr.start.toNat / 1024)
        (p.hdr.typ = 1 → exec (.linkContrib h p) s = exec (.accFp32 k p) s) ∧ (p.hdr.typ = 2 → exec (.linkContrib h p) s = exec (.accOnebit k p) s) ∧
        (p.hdr.typ = 3 → exec (.linkContrib h p) s = exec (.accDrain k p) s)) ∧
      (s.potEnt p.hdr.pot.toNat = none → ∃ t, exec (.linkContrib h p) s = .next t ∧
        s.said s t 0x0208 [.w8 p.hdr.hand.toNat, .w4 p.hdr.pot.toNat, .w4 p.hdr.seat.toNat])) ∧
    (∀ (s : State) (h : LHdr) (hand : W64) (pot round stack : Nat), s.arrives h 0x20 →
      let struck := fun (c : Crib) => if c.pkt.hdr.pot.toNat = pot ∧ c.pkt.hdr.round.toNat = round then
        { c with await := c.await.filter (fun x => x != (h.src, stack)) } else c
      (hand = s.hand.hand → ∃ t, exec (.sealNotice h hand pot round stack) s = .next t ∧ t = { s with pos := t.pos } ∧
        ∀ k, k < 48 → (t.posn k).pot.crib = ((s.posn k).pot.crib.map struck).filter (fun c => !c.await.isEmpty) ∧
          (t.posn k).pot.rounds = (s.posn k).pot.rounds ∧ (t.posn k).near = (s.posn k).near) ∧
      (hand ≠ s.hand.hand → exec (.sealNotice h hand pot round stack) s = .next s)) ∧
    (∀ (s : State) (h : LHdr) (crec : W32) (k : Nat) (c : Crib) (pe : PotEnt), s.arrives h 0x21 → s.hand.running.isSome = true →
      (s.posn k).pot.crib.find? (fun c => c.crec.toNat == crec.toNat) = some c → s.potEnt c.pkt.hdr.pot.toNat = some pe →
      pe.owner ≠ s.rank → s.reachable pe.owner = true →
      ∃ (t : State) (l : List LinkOut), exec (.resendReq h s.hand.hand crec ⟨k, ⟨[], [], []⟩⟩) s = .next t ∧ t.link.out = s.link.out ++ l ∧
        l.length = (subpackets ({ c.pkt with hdr := c.pkt.hdr.setFlag 3 } : CPkt).fresh).length ∧
        (∀ x ∈ l, x.typ = 0x10 ∧ x.cls = 3 ∧ x.dest = pe.owner ∧ x.src = s.rank) ∧ t.hand = s.hand ∧ s.keeps t))

/-- (1) The mirror seat stores the hi words that reach it, and after a pot's last unit returns the checksum of what it stored; at the owner an equal checksum
changes nothing, the first difference is MIRROR_MISMATCH and sends the pot once more, the second a fault; of a misdealt hand nothing is compared (R310,
R315).
(2) A push's bytes go into the mirror copy that is not active, behind what this push has brought there; where this seat cannot host them the owner is told with STATUS 1 and the
active copy stays; the last position's part, its checksum right, makes the written copy the active one; at the owner the last acknowledge ends the push, and
STATUS 1 fails it with MIRROR_INVALID (R340, R341). -/
def Obligations.MirrorAndPush : Prop :=
  (
    (∀ (s : State) (h : LHdr) (hand : W64) (pot stack : Nat) (off : W64) (data : Bytes), s.arrives h 0x11 → s.inSvc stack = true →
      off.toNat + data.length ≤ bandOff →
      ∃ t, exec (.mirrorPot h hand pot stack off data) s = .next t ∧
        (∀ i, i < data.length → (t.posn stack).near.get (off.toNat + i) 0 = data.getD i 0) ∧
        (∀ a, (a < off.toNat ∨ off.toNat + data.length ≤ a) → (t.posn stack).near.get a 0 = (s.posn stack).near.get a 0) ∧
        (∀ k, k ≠ stack → t.posn k = s.posn k) ∧ t.tiles = s.tiles ∧
        (∀ pe, s.potEnt pot = some pe → s.lastUnit pe stack off.toNat = true → s.reachable h.src = true →
          s.sent t h.src 1 0x22 (leBytes 8 hand.toNat ++ leBytes 4 pot ++ leBytes 8 (t.copySum pe).toNat)) ∧
        (s.potEnt pot = none ∨ (∀ pe, s.potEnt pot = some pe → s.lastUnit pe stack off.toNat = false) → t.link = s.link)) ∧
    (∀ (s : State) (h : LHdr) (pot : Nat) (sum : W64) (pe : PotEnt), s.arrives h 0x22 → s.potEnt pot = some pe → pe.owner = s.rank → pe.kind = 0 →
      let own := pe.stacks.foldl (fun (a : W64) k => a ^^^ (s.posn k).pot.mirrorSum.get pot 0) 0
      let k := pe.stacks.headD 0
      (own = sum → exec (.mirrorSum h s.hand.hand pot sum) s = .next s) ∧
      (s.hand.misdealt = true → exec (.mirrorSum h s.hand.hand pot sum) s = .next s) ∧
      (own ≠ sum → s.hand.misdealt = false → s.sealedAll pot pe = true → (s.posn k).pot.mirrorTries.get pot 0 = 1 →
        ∃ t u : State, exec (.mirrorSum h s.hand.hand pot sum) s = .next t ∧ t = u.misdeal 7 ∧ (u.posn k).pot.mirrorTries.get pot 0 = 2 ∧
          u.tiles = s.tiles ∧ u.hand.outcome = s.hand.outcome) ∧
      (own ≠ sum → s.hand.misdealt = false → s.sealedAll pot pe = true → (s.posn k).pot.mirrorTries.get pot 0 = 0 → s.reachable (s.getI R.LK_HOME_MIRROR s.rank) = true →
        ∃ t, exec (.mirrorSum h s.hand.hand pot sum) s = .next t ∧ (t.posn k).pot.mirrorTries.get pot 0 = 1 ∧
          s.noted 0x020C [.w4 pot] ∈ t.sup.trace ∧ t.tiles = s.tiles))) ∧
  (
    (∀ (s : State) (h : LHdr) (hand ver : W64) (k space : Nat) (off : W64) (data : Bytes) (total : Nat) (sum : W64), s.arrives h 0x12 →
      let on := s.link.mirror.hand == some hand && s.link.mirror.owner == h.src
      let c := s.copyBase s.pushCopy
      let n := if on then s.link.mirror.wrote.get k 0 else 0
      let last := ∀ j ∈ s.svc, j = k ∨ (on = true ∧ j ∈ s.link.mirror.done)
      let wrote := fun (t : State) => (∀ i, i < data.length → (t.posn k).stock.get (c + n + i) 0 = data.getD i 0) ∧
        (∀ a, (a < c + n ∨ c + n + data.length ≤ a) → (t.posn k).stock.get a 0 = (s.posn k).stock.get a 0) ∧
        (t.posn k).near = (s.posn k).near ∧ (∀ j, j ≠ k → t.posn j = s.posn j) ∧ t.tiles = s.tiles
      (s.canHost k total = true → n + data.length < total → ∃ t, exec (.push h hand k space off ver data total sum) s = .next t ∧ wrote t ∧
        t.link.mirror.wrote.get k 0 = n + data.length ∧ t.link.mirror.active = s.link.mirror.active ∧ t.hand = s.hand) ∧
      (s.canHost k total = true → total ≤ n + data.length → s.reachable h.src = true →
        ∃ t, exec (.push h hand k space off ver data total sum) s = .next t ∧ wrote t ∧
          (crc64 ((t.posn k).stock.bytes c total) = sum → s.sent t h.src 1 0x23 (pushAckBody hand k 0 sum)) ∧
          (crc64 ((t.posn k).stock.bytes c total) = sum → ¬ last → t.link.mirror.active = s.link.mirror.active ∧ k ∈ t.link.mirror.done) ∧
          (crc64 ((t.posn k).stock.bytes c total) = sum → last → t.link.mirror.active = some s.pushCopy ∧ t.link.mirror.hand = none ∧ t.on R.NM_UPD_STATUS_MIRROR_VALID = true ∧
            t.rd64 R.NM_MIRROR_HAND_LO_HAND R.NM_MIRROR_HAND_HI_HAND = hand.toNat) ∧
          (crc64 ((t.posn k).stock.bytes c total) ≠ sum → t.link.mirror.active = s.link.mirror.active ∧ t.link.mirror.hand = none)) ∧
      (s.canHost k total = false → s.reachable h.src = true → ∃ t, exec (.push h hand k space off ver data total sum) s = .next t ∧
        s.sent t h.src 1 0x23 (pushAckBody hand k 1 sum) ∧ t.pos = s.pos ∧ t.link.mirror.active = s.link.mirror.active)) ∧
    (∀ (s : State) (h : LHdr) (e : Export) (k : Nat) (sum : W64), s.arrives h 0x23 → s.hand.push = some e → s.hand.pushOpen.contains k = true →
      (s.hand.pushOpen.erase k ≠ [] → exec (.pushAck h e.hand k 0 sum) s =
        .next { s with hand := { s.hand with pushOpen := s.hand.pushOpen.erase k } }) ∧
      (s.hand.pushOpen.erase k = [] → ∃ t, exec (.pushAck h e.hand k 0 sum) s = .next t ∧ t.hand = { s.hand with push := none, pushOpen := [] } ∧
        t.on R.NM_UPD_STATUS_PUSH_BUSY = false ∧ s.keeps t) ∧
      (∃ t, exec (.pushAck h e.hand k 1 sum) s = .next t ∧ t.hand.push = none ∧ t.on R.NM_UPD_STATUS_PUSH_BUSY = false ∧
        s.noted 0x0A17 [.w8 e.hand.toNat, .w4 s.ownMirror] ∈ t.sup.trace ∧ s.keeps t)))

/-- (1) A child's value joins the open instance of its tree; at the root, with this seat's own and every child's there, the values are combined in ascending port
order, delivered to the trump root, and the next instance opens. A flooded result is delivered once, its second copy discarded (R366, R367).
(2) A flooded renege of the hand in progress counts as one, of another hand it only goes on; a flooded misdeal stops the hand with the cause it names, but not its
sweep, and MISDEAL_RECEIVED says so; a table trick that does not complete in time names its first missing child and misdeals the hand with the trick's cause (R368, R370,
R371, R556).
(3) Between hands, with every enabled tree's sum of ones equal to the seats, and tree 0xFF enabled in a table of more than one seat, COMMIT sets TABLE_OK with
TABLE_COMMITTED; with a tree whose sum differs TABLE_OK falls (R377). -/
def Obligations.TableTricks : Prop :=
  (
    (∀ (s : State) (h : LHdr) (tree : Nat) (fn : BitVec 4) (inst : Nat) (v : W32), s.arrives h 0x30 → s.treeOn tree = true → tree ≠ 0xFF →
      (s.childPorts (tree - 0xF0)).contains h.port = true →
      let n := tree - 0xF0
      let w := s.ttrick n
      inst = w.inst % 65536 →
      (w.own = none → w.ownRec = none → exec (.trickUp h tree fn inst v none) s = .next (s.setTTrick n { w with kids := w.kids.ins h.port v })) ∧
      (∀ g x, w.own = some (g, x) → w.sent = false → s.treeRoot n = true →
        (∀ p ∈ s.childPorts n, p = h.port ∨ (w.kids.find? p).isSome = true) →
        ∃ t, exec (.trickUp h tree fn inst v none) s = .next t ∧
          (t.trickOf tree).done = some ((s.childPorts n).foldl (fun a p => trickFn g a (if p = h.port then v else w.kids.get p 0)) x) ∧
          (t.ttrick n).inst = w.inst + 1 ∧ t.tiles = s.tiles ∧ t.pos = s.pos ∧ t.hand = s.hand)) ∧
    (∀ (s : State) (h : LHdr) (tree : Nat) (fn : BitVec 4) (inst : Nat) (v : W32) (rec : Option GateRec),
      s.floods h 0x31 (trickBody tree fn inst v rec) → s.treeOn tree = true → inst = (s.ttrick (tree - 0xF0)).inst % 65536 →
      (rec = none → tree ≠ 0xFF → ∃ t, exec (.trickRes h tree fn inst v rec) s = .next t ∧ (t.trickOf tree).done = some v ∧
        (t.ttrick (tree - 0xF0)).inst = (s.ttrick (tree - 0xF0)).inst + 1 ∧
        t.link.floods = s.link.floods ++ [(0x31, trickBody tree fn inst v rec)] ∧ t.hand = s.hand ∧ t.tiles = s.tiles ∧ t.pos = s.pos) ∧
      (∀ r, rec = some r → tree = 0xFF → r.crc = crc32c (gateBytes r) → ∃ t, exec (.trickRes h tree fn inst v rec) s = .next t ∧
        t.hand = { s.hand with result := some r } ∧ t.tiles = s.tiles ∧ t.pos = s.pos)) ∧
    (∀ (s : State) (h : LHdr) (tree : Nat) (fn : BitVec 4) (inst : Nat) (v : W32) (rec : Option GateRec), s.portUp h.port = true →
      s.linkGood h = true → h.typ = 0x31 → h.dest = 0xFFFF → s.seen 0x31 (trickBody tree fn inst v rec) = true →
      exec (.trickRes h tree fn inst v rec) s = .next s)) ∧
  (
    (∀ (s : State) (h : LHdr) (hand : W64) (layer tile seat round : Nat) (ecc : SeatEcc),
      s.floods h 0x32 (leBytes 8 hand.toNat ++ leBytes 2 layer ++ leBytes 2 tile ++ leBytes 2 seat) →
      (hand = s.hand.hand → s.hand.running.isSome = true → s.hand.outcome = none → ∃ t, exec (.linkRenege h hand layer tile ⟨seat, round, ecc⟩) s = .next t ∧
        t.rd R.PT_RENEGES_COUNT = min (s.rd R.PT_RENEGES_COUNT + 1) (2 ^ 32 - 1)) ∧
      (hand ≠ s.hand.hand → ∃ t, exec (.linkRenege h hand layer tile ⟨seat, round, ecc⟩) s = .next t ∧ t.hand = s.hand ∧ s.keeps t ∧
        t.link.floods.length = s.link.floods.length + 1)) ∧
    (∀ (s : State) (h : LHdr) (origin cause : Nat), s.floods h 0x33 (misdealBody s.hand.hand origin cause) → s.hand.running.isSome = true →
      s.hand.outcome = none → s.hand.sweep = false →
      ∃ t, exec (.linkMisdeal h s.hand.hand origin cause) s = .next t ∧ t.hand.misdealt = true ∧ t.hand.outcome = some (0x47, cause) ∧
        (∀ n, (t.tile n).prim.running = false) ∧ t.fab.started = false ∧
        s.noted 0x050B [.w8 s.hand.hand.toNat, .w4 origin, .w4 cause] ∈ t.sup.trace) ∧
    (∀ (s : State) (h : LHdr) (origin cause : Nat), s.floods h 0x33 (misdealBody s.hand.hand origin cause) → s.hand.sweep = true →
      ∃ t, exec (.linkMisdeal h s.hand.hand origin cause) s = .next t ∧ t.hand.outcome = s.hand.outcome ∧ t.hand.sweep = true ∧ s.keeps t ∧
        s.noted 0x050B [.w8 s.hand.hand.toNat, .w4 origin, .w4 cause] ∈ t.sup.trace) ∧
    (∀ (s : State) (tree p : Nat), s.treeOn tree = true →
      (s.ttrick (tree - 0xF0)).own.isSome = true ∨ (s.ttrick (tree - 0xF0)).ownRec.isSome = true → s.moving = true →
      (s.childPorts (tree - 0xF0)).find? (fun p => if tree = 0xFF then !((s.ttrick (tree - 0xF0)).kidRecs.any (fun e => e.1 == p))
        else ((s.ttrick (tree - 0xF0)).kids.find? p).isNone) = some p → s.hand.running.isSome = true →
      s.hand.outcome = none → s.hand.sweep = false →
      ∃ t, exec (.tableTrickTimeout tree) s = .next t ∧ t.hand.misdealt = true ∧ t.hand.outcome = some (0x47, 5) ∧
        s.noted 0x0509 [.w4 tree, .w4 p, .w4 (s.getI R.LK_PSTAT_PEER_RANK p)] ∈ t.sup.trace)) ∧
  (
    ∀ (s : State) (who : Agent) (res : List (Nat × Option W32)), s.mayWrite who R.LK_CMD_COMMIT.off = true → s.between = true →
      let answers := fun (n : Nat) (v : W32) => res.find? (fun e => e.1 == 0xF0 + n) = some (0xF0 + n, some v)
      ((∀ n, n < 16 → s.getI R.LK_TREE_EN n = 1 → ∃ v, answers n v ∧ v.toNat = s.rd R.LK_SEATS_S) →
        s.rd R.LK_SEATS_S ≤ 1 ∨ s.getI R.LK_TREE_EN 15 = 1 →
        ∃ t, exec (.commit who res) s = .next t ∧ t.on R.LK_STATUS_TABLE_OK = true ∧
          s.noted 0x050E [.w4 (s.rd R.LK_TGEN_GEN), .w4 (s.rd R.LK_SEATS_S)] ∈ t.sup.trace ∧ t.hand = s.hand ∧ s.keeps t) ∧
      (∀ n v, n < 16 → s.getI R.LK_TREE_EN n = 1 → answers n v → v.toNat ≠ s.rd R.LK_SEATS_S →
        ∃ t, exec (.commit who res) s = .next t ∧ t.on R.LK_STATUS_TABLE_OK = false ∧ s.keeps t))

/-! ## Clocks (R426 to R440) -/

/-- (1) A window in range extends or starts the run, one out of range ends it; the 16th in a row makes the crystal stable: the always-on domain runs from it,
XTAL_OK; the 500th without gives it up; a fixed crystal is stable after its one count. The loss of the crystal in use is fatal: the always-on domain returns to
the trimmed oscillator and every PLL is in holdover (R426 to R429).
(2) A switch that R432 admits changes the domain's source and is noted in its gate; a field island that loses lock runs on BACKUP, counted, with PLL_UNLOCK; a
controller's loss misdeals the hand, a link port's and an endpoint's takes it down, one of the supervisor or the I/O ring is fatal; a relock returns a field to
its PLL; a field whose relock fails asks to be folded and stays on BACKUP, a controller's positions leave service, a port has FAILED (R428, R432, R433). -/
def Obligations.CrystalAndClocks : Prop :=
  (
    ∀ (s : State) (c : Nat),
      let run := nextRun (s.rd R.CK_STATUS_RUN) s.clk.prev c
      let w := min (s.rd R.CK_XTAL_WINDOWS + 1) (2 ^ 15 - 1)
      let stable := fun (t : State) => t.clk.stable = true ∧ t.on R.CK_STATUS_XTAL_OK = true ∧ t.on R.CK_STATUS_REF_XTAL = true ∧
        t.getI R.CK_DSTAT_SRC 140 = 1 ∧ t.ticks = s.ticks + 10 ∧ t.tiles = s.tiles ∧ t.pos = s.pos ∧ t.hand = s.hand
      (s.judging = true → s.on R.CK_STATUS_FIXED = false →
        (run < 16 → w < 500 → ∃ t, exec (.xtalWindow c) s = .next t ∧ t.rd R.CK_STATUS_RUN = run ∧ t.rd R.CK_XTAL_WINDOWS = w ∧
          t.clk = { s.clk with prev := c } ∧ t = { s with regs := t.regs, clk := t.clk }) ∧
        (run = 16 → ∃ t, exec (.xtalWindow c) s = .next t ∧ stable t ∧
          ({ s with ticks := s.ticks + 10 } : State).noted 0x0701 [.w4 0, .w4 w] ∈ t.sup.trace) ∧
        (run < 16 → 500 ≤ w → ∃ t, exec (.xtalWindow c) s = .next t ∧ t.clk.failed = true ∧ t.clk.stable = false ∧
          s.noted 0x0702 [.w4 c] ∈ t.sup.trace)) ∧
      (s.judging = true → s.on R.CK_STATUS_FIXED = true → ∃ t, exec (.xtalFixedCount c) s = .next t ∧ stable t) ∧
      (s.judging = false → exec (.xtalWindow c) s = .next s ∧ exec (.xtalFixedCount c) s = .next s) ∧
      (s.on R.CK_STATUS_REF_XTAL = true → s.on R.CK_STATUS_XTAL_LOST = false → ∃ t, exec .xtalLost s = .next t ∧ t.fatalNow = true ∧
        t.clk.holdover = true ∧ t.on R.CK_STATUS_XTAL_LOST = true ∧ t.on R.CK_STATUS_REF_XTAL = false ∧ t.getI R.CK_DSTAT_SRC 140 = 0)) ∧
  (
    ∀ (s : State) (d us : Nat) (src : BitVec 2),
      (s.maySwitch d src.toNat = true → d ≠ 140 → d < 140 → ∃ t, exec (.sourceSwitch d src) s = .next t ∧ t.getI R.CK_DSTAT_SRC d = src.toNat ∧
        t.getI R.CK_DSTAT_LOCK d = s.getI R.CK_DSTAT_LOCK d ∧ d ∈ t.clk.disturbed ∧ t = { s with regs := t.regs, clk := t.clk }) ∧
      (s.maySwitch 140 src.toNat = true → ∃ t, exec (.sourceSwitch 140 src) s = .next t ∧ t.getI R.CK_DSTAT_SRC 140 = 1 ∧
        t.on R.CK_STATUS_REF_XTAL = true ∧ t.ticks = s.ticks + 10 ∧ t.tiles = s.tiles ∧ t.pos = s.pos ∧ t.hand = s.hand) ∧
      (s.maySwitch d src.toNat = false → exec (.sourceSwitch d src) s = .next s) ∧
      (d < 48 → s.domainOn d = true → s.getI R.CK_DSTAT_LOCK d = 1 → s.getI R.CK_DSTAT_SRC d = 1 → ∃ t, exec (.pllUnlock d) s = .next t ∧
        t.getI R.CK_DSTAT_LOCK d = 0 ∧ t.getI R.CK_DSTAT_SRC d = 2 ∧ t.rd R.CK_UNLOCKS_COUNT = min (s.rd R.CK_UNLOCKS_COUNT + 1) (2 ^ 32 - 1) ∧
        s.noted 0x0705 [.w4 d] ∈ t.sup.trace ∧ t.tiles = s.tiles ∧ t.pos = s.pos ∧ t.hand = s.hand) ∧
      (48 ≤ d → d < 120 → s.domainOn d = true → s.getI R.CK_DSTAT_LOCK d = 1 → ∃ t u : State, exec (.pllUnlock d) s = .next t ∧
        t = u.misdeal 7 ∧ u.getI R.CK_DSTAT_LOCK d = 0 ∧ u.tiles = s.tiles ∧ s.noted 0x0705 [.w4 d] ∈ u.sup.trace) ∧
      (120 ≤ d → d < 140 → s.domainOn d = true → s.getI R.CK_DSTAT_LOCK d = 1 → ∃ t, exec (.pllUnlock d) s = .next t ∧
        t.getI R.CK_DSTAT_LOCK d = 0 ∧ s.noted 0x0705 [.w4 d] ∈ t.sup.trace ∧ (d < 136 → t.portUp (d - 120) = false) ∧
        (136 ≤ d → d < 138 → bitOf t.host.linkUp.toNat (d - 136) = false) ∧ (138 ≤ d → t.fatalNow = true)) ∧
      (d < 140 → s.domainOn d = true → s.getI R.CK_DSTAT_LOCK d = 0 → d ∉ s.clk.dead → ∃ t, exec (.pllRelock d us) s = .next t ∧
        t.getI R.CK_DSTAT_LOCK d = 1 ∧ (d < 48 → t.getI R.CK_DSTAT_SRC d = 1) ∧ s.noted 0x0706 [.w4 d, .w4 us] ∈ t.sup.trace ∧
        t.tiles = s.tiles ∧ t.pos = s.pos ∧ t.hand = s.hand) ∧
      (d < 138 → s.domainOn d = true → s.getI R.CK_DSTAT_LOCK d = 0 → d ∉ s.clk.dead →
        ∃ t, exec (.relockFail d) s = .next t ∧ d ∈ t.clk.dead ∧ s.noted 0x0707 [.w4 d] ∈ t.sup.trace ∧ t.tiles = s.tiles ∧
          (d < 48 → bitOf t.clk.backup.toNat d = true ∧ t.foldPending d = true ∧ t.pos = s.pos) ∧
          (48 ≤ d → d < 96 → (t.posn (d - 48)).leave ≠ 0) ∧
          (96 ≤ d → d < 120 → (t.posn (2 * (d - 96))).leave ≠ 0 ∧ (t.posn (2 * (d - 96) + 1)).leave ≠ 0) ∧
          (120 ≤ d → d < 136 → t.getI R.LK_PSTAT_STATE (d - 120) = 6)))

/-- (1) The highest of the three requests comes into force with THROTTLE; a depth in range is taken and one above 10 ignored, and the spread moves at once where no
hand runs; once it has moved, the settings in force are the new ones, with SSC_CHANGED (R434, R435, R436).
(2) At the end of a gate every counter is stored, and FOUT says of every domain that is compared whether its count is off by more than PPM; where the comparison
is skipped FOUT stays (R437). A write of an enable register starts the blocks whose bit is 1, but no lost field, and gates those whose bit is 0, at the boundary
where the running hand uses them (R438, R440). -/
def Obligations.ClockLimits : Prop :=
  (
    ∀ (s : State) (who : Agent) (v : W32),
      let l := max (s.rd R.CK_THROTTLE_SW) (max (s.rd R.CK_THROTTLE_THERM) (s.rd R.CK_THROTTLE_SUPPLY))
      (l ≠ s.rd R.CK_THROTTLE_LEVEL → ∃ t, exec .throttleChange s = .next t ∧ t.rd R.CK_THROTTLE_LEVEL = l ∧
        (∀ d, d < 48 → d ∈ t.clk.disturbed) ∧ (s.clk.thrTick = none → l ≠ s.clk.thrNoted →
          s.noted 0x0709 [.w4 l, .w4 (s.rd R.CK_THROTTLE_SW), .w4 (s.rd R.CK_THROTTLE_THERM), .w4 (s.rd R.CK_THROTTLE_SUPPLY)] ∈ t.sup.trace) ∧
        t.tiles = s.tiles ∧ t.pos = s.pos ∧ t.hand = s.hand) ∧
      (l = s.rd R.CK_THROTTLE_LEVEL → exec .throttleChange s = .next s) ∧
      (s.mayWrite who R.CK_SSC_DEPTH.off = true → ∃ t, exec (.ckSscWrite who v) s = .next t ∧
        t.rd R.CK_SSC_DEPTH = (if bitsOf v.toNat 0 4 ≤ 10 then bitsOf v.toNat 0 4 else s.rd R.CK_SSC_DEPTH) ∧
        t.rd R.CK_SSC_RATE = bitsOf v.toNat 4 2 ∧ t.clk.sscPend = some (t.rd R.CK_SSC_DEPTH, t.rd R.CK_SSC_RATE) ∧
        t.clk.sscGo = s.hand.running.isNone ∧ t = { s with regs := t.regs, clk := t.clk }) ∧
      (∀ d r, s.clk.sscPend = some (d, r) → s.clk.sscGo = true → d ≤ 10 → r < 4 → ∃ t, exec .sscChange s = .next t ∧
        t.rd R.CK_SSC_DEPTH_ACT = d ∧ t.rd R.CK_SSC_RATE_ACT = r ∧ t.clk.sscPend = none ∧ s.noted 0x070A [.w4 d, .w4 r] ∈ t.sup.trace ∧
        t.tiles = s.tiles ∧ t.pos = s.pos)) ∧
  (
    (∀ (s : State) (l : List (Nat × Nat)), ∃ t, exec (.freqGate l) s = .next t ∧ t.clk.disturbed = [] ∧
      (∀ d, d < 140 → t.getI R.CK_DCOUNT_COUNT d = ((l.find? (fun e => e.1 == d)).map (·.2)).getD 0 % 2 ^ 32) ∧
      (∀ d, d < 140 → s.compares d = true → t.getI R.CK_DSTAT_FOUT d =
        b2n (offBy (((l.find? (fun e => e.1 == d)).map (·.2)).getD 0) (s.expected d) (s.rd R.CK_FTOL_PPM))) ∧
      (∀ d, d < 140 → s.compares d = false → t.getI R.CK_DSTAT_FOUT d = s.getI R.CK_DSTAT_FOUT d) ∧
      t.tiles = s.tiles ∧ t.pos = s.pos ∧ t.hand = s.hand) ∧
    (∀ (s : State) (who : Agent) (reg first : Nat) (v : W32), (reg, first) ∈ enableRegs → s.mayWrite who reg = true →
      let did := fun (t : State) => ∀ i, i < 32 →
        (bitOf (enableMask reg) i = false → t.enableBit reg i = s.enableBit reg i) ∧
        (bitOf (enableMask reg) i = true →
          (bitOf v.toNat i = true → (first + i < 48 → bitOf s.lost (first + i) = false) → t.enableBit reg i = true) ∧
          (bitOf v.toNat i = false → s.blockUsed (first + i) = false → t.enableBit reg i = false) ∧
          (bitOf v.toNat i = false → s.blockUsed (first + i) = true → s.enableBit reg i = true → t.enableBit reg i = true ∧
            (t.clk.enPend.find? (32 * reg + i)).isSome = true ∧ t.on R.CK_STATUS_EN_PEND = true))
      (∃ t, exec (.enableSet who reg v) s = .next t ∧ did t ∧ t.tiles = s.tiles ∧ t.pos = s.pos) ∧
      (∃ t, exec (.enableClear who reg v) s = .next t ∧ did t ∧ t.tiles = s.tiles ∧ t.pos = s.pos)))

/-! ## Power (R445 to R464) -/

/-- (1) A request that R446 lists runs the call; with every block's ACCEPT the module is in the target state and PW_CALL says so: entering IDLE takes the field rails
and what tiles hold, entering WATCH everything but the always-on domain; a call that a block aborts leaves the state, names the block, and is CALL_ABORT; a request
that is not listed, or comes before READY, is PW_REFUSED (R445, R446, R448, R449, R552).
(2) A call runs at most 5 rounds; while a hand runs, a field that is on refuses every call but one toward RUN, in the first round, for HAND; a supply that is in
protection refuses a call toward RUN for SUPPLY (R449, R454). -/
def Obligations.PowerCommands : Prop :=
  (
    ∀ (s : State) (who : Agent) (c : CallIn), s.mayPower who = true →
      let cmds : List (Instr × PState) := [(.pwCmdRun who c, .run), (.pwCmdHold who c, .hold), (.pwCmdIdle who c, .idle), (.pwCmdWatch who c, .watch)]
      ∀ i p, (i, p) ∈ cmds →
        ((s.rd R.HI_STATUS_STAGE < 6 ∨ mayMove s.pwr.pstate p = false) → ∃ t, exec i s = .next t ∧ s.said s t 0x0602 [.w4 p.num]) ∧
        (6 ≤ s.rd R.HI_STATUS_STAGE → mayMove s.pwr.pstate p = true → s.supvRuns = true →
          (∀ n, s.rounds_ c p.num 5 0 callBlocks = (none, n) → ∃ t, exec i s = .next t ∧ t.pwr.pstate = p ∧
            (p ≠ .watch → t.rd R.PW_CALL_RESULT = 1 ∧ t.rd R.PW_CALL_ROUNDS = n) ∧
            (p = .hold ∨ s.pwr.pstate = .hold ∧ p = .run → t.tiles = s.tiles ∧ t.pos = s.pos ∧
              s.noted 0x0601 [.w4 s.pwr.pstate.num, .w4 p.num] ∈ t.sup.trace) ∧
            (p = .idle → t.tiles = [] ∧ (∀ f, f < 48 → t.railOn f = false) ∧ t.hand.installed = none) ∧
            (p = .watch → t.tiles = [] ∧ t.pos = [] ∧ t.pwr.convOn = false ∧ t.fab.dmap.tiles = s.fab.dmap.tiles)) ∧
          (∀ b why n, s.rounds_ c p.num 5 0 callBlocks = (some (b, why), n) → ∃ t, exec i s = .next t ∧ t.pwr = s.pwr ∧
            t.rd R.PW_CALL_BLOCK = b ∧ t.rd R.PW_CALL_ROUNDS = n ∧ 2 ≤ t.rd R.PW_CALL_RESULT ∧
            s.noted 0x0603 [.w4 b, .w4 why, .w4 n] ∈ t.sup.trace ∧ t.tiles = s.tiles ∧ t.pos = s.pos ∧ t.hand.running = s.hand.running ∧
            t.hand.installed = s.hand.installed))) ∧
  (
    (∀ (s : State) (c : CallIn) (target : Nat), (s.rounds_ c target 5 0 callBlocks).2 ≤ 5) ∧
    (∀ (s : State) (c : CallIn) (target f : Nat), 0 < target → s.hand.running.isSome = true → f < 48 → s.fieldOn f = true →
      ∃ b, b ≤ f ∧ s.rounds_ c target 5 0 callBlocks = (some (b, 1), 1)) ∧
    (∀ (s : State) (c : CallIn) (f : Nat), f < 48 → s.fieldOn f = true → s.rd R.CK_THROTTLE_SUPPLY ≠ 0 → c.rounds = [] →
      ∃ b, b ≤ f ∧ s.rounds_ c 0 5 0 callBlocks = (some (b, 6), 1)))

/-- An enabled wake from WATCH is a module reset with its cause in PW_WAKE, toward what TARGET names; a sample updates PW_VIN (log 217), within the limits it does
no more, outside them it wakes with cause 4; a wet one is a leak, and so is a leak in any other state, which sends the module to WATCH; the wait after a breach ends in WATCH
(R450, R451, R464). -/
def Obligations.WatchAndWake : Prop :=
  ∀ (s : State),
    let asleep := s.inWatch = true ∧ s.on R.PW_STATE_LEAK = false ∧ (s.pwr.overvolt = true → s.rd R.PW_VIN_CV ≤ 6000)
    let dry := fun (lk : Bool) => (lk && s.on R.PW_WATCH_LIM_LEAK_EN) = false
    let read := fun (volts : Int) => s.wr R.PW_VIN_CV (min (100 * volts.toNat) 0xFFFF)
    let woken := fun (t : State) (cause : Nat) => t.pwr.entering = true ∧ t.pwr.wakeTarget = s.on R.PW_WAKE_TARGET ∧
      t.rd R.PW_WAKE_CAUSE = cause ∧ t.tiles = [] ∧ t.pos = [] ∧ t.hand.running = none ∧ t.clk.stable = false
    let slept := fun (t : State) => t.pwr.pstate = .watch ∧ t.pwr.entering = false ∧ t.pwr.convOn = false ∧ t.tiles = [] ∧ t.pos = []
    let within := fun (volts temp : Int) => (s.rd R.PW_WATCH_LIM_VLO : Int) ≤ volts ∧ volts ≤ s.rd R.PW_WATCH_LIM_VHI ∧
      temp ≤ s.rd R.PW_WATCH_LIM_TMAX
    (asleep → s.on R.PW_WAKE_I3C_EN = true → ∃ t, exec .wakeI3c s = .next t ∧ woken t 1) ∧
    (asleep → s.on R.PW_WAKE_MB_EN = true → ∃ t, exec .wakeMailbox s = .next t ∧ woken t 2) ∧
    (asleep → s.on R.PW_WAKE_WAKEN_EN = true → ∃ t, exec .wakeWaken s = .next t ∧ woken t 3) ∧
    (s.on R.PW_WAKE_I3C_EN = false → exec .wakeI3c s = .next s) ∧ (s.on R.PW_WAKE_MB_EN = false → exec .wakeMailbox s = .next s) ∧
    (s.on R.PW_WAKE_WAKEN_EN = false → exec .wakeWaken s = .next s) ∧
    (∀ volts temp lk, s.inWatch = true → s.on R.PW_STATE_LEAK = false → dry lk → within volts temp ∨ s.on R.PW_WAKE_BREACH_EN = false →
      exec (.watchSample volts temp lk) s = .next (read volts)) ∧
    (∀ volts temp lk, s.inWatch = true → s.on R.PW_STATE_LEAK = false → (s.pwr.overvolt = true → volts ≤ 60) → dry lk → ¬ within volts temp →
      s.on R.PW_WAKE_BREACH_EN = true → ∃ t, exec (.watchSample volts temp lk) s = .next t ∧ woken t 4 ∧ t.pwr.breach = some (volts, temp, false)) ∧
    (∀ volts temp, s.inWatch = true → s.on R.PW_STATE_LEAK = false → s.on R.PW_WATCH_LIM_LEAK_EN = true → s.on R.PW_WAKE_BREACH_EN = false →
      ∃ t, exec (.watchSample volts temp true) s = .next t ∧ t.on R.PW_STATE_LEAK = true ∧ t.pwr.pstate = .watch ∧
        s.noted 0x0612 [.w4 3] ∈ t.sup.trace) ∧
    (s.pwr.pstate ≠ .off → s.inWatch = false → ∃ t, exec .leak s = .next t ∧ slept t ∧ t.on R.PW_STATE_LEAK = true) ∧
    (s.pwr.breachWait = true → ∃ t, exec .breachWaitTimeout s = .next t ∧ slept t)

/-- (1) The input's events: converters start with BUS_SENSE closed; a high input is told once a minute; a sag asks for throttle 8 until it ends; below 45 V the module
is reset with its converters off, above 62 V it goes to WATCH, below 20 V it is OFF (R452 to R456, R534).
(2) Above the cap the cap request rises by one each millisecond, below 95% of it falls each tenth, an overcurrent asks for at least 8; a converter that fails is
removed, and fewer than 12 send the module to WATCH (R454, R457). -/
def Obligations.SupplyAndCap : Prop :=
  (
    ∀ (s : State) (cv us : Nat),
      let read := min cv 0xFFFF
      let dark := fun (t : State) => t.pwr.convOn = false ∧ t.tiles = [] ∧ t.pos = [] ∧ t.rd R.PW_CONV_K = 0
      (s.pwr.convOn = false → s.pwr.busSense = true → s.pwr.pstate ≠ .off → s.inWatch = false → ∃ t, exec .converterStart s = .next t ∧
        t.pwr.convOn = true ∧ t.rd R.PW_CONV_OK = (~~~ s.pwr.convBad).toNat ∧ t.tiles = s.tiles ∧ t.pos = s.pos ∧
        (s.pwr.modReset = false → t.rd R.HI_STATUS_STAGE = 1)) ∧
      (s.powered = true → (∀ m, s.pwr.vinHighMin = some m → m + minuteTicks ≤ s.ticks) → ∃ t, exec (.vinHigh cv) s = .next t ∧ t.rd R.PW_VIN_CV = read ∧
        t.pwr.vinHighMin = some s.ticks ∧ s.noted 0x0608 [.w4 cv] ∈ t.sup.trace ∧ t.tiles = s.tiles ∧ t.pos = s.pos) ∧
      (s.powered = true → s.pwr.sag = false → ∃ t, exec (.sag cv) s = .next t ∧ t.pwr = { s.pwr with sag := true } ∧
        t.rd R.PW_SAGS_COUNT = min (s.rd R.PW_SAGS_COUNT + 1) (2 ^ 32 - 1) ∧ t.rd R.CK_THROTTLE_SUPPLY = max 8 (s.rd R.PW_PLIMIT_CAP) ∧
        t.rd R.PW_VMIN_CV = min (s.rd R.PW_VMIN_CV) cv ∧ s.noted 0x0604 [.w4 cv] ∈ t.sup.trace ∧ t.tiles = s.tiles ∧ t.pos = s.pos) ∧
      (s.pwr.sag = true → ∃ t, exec (.sagEnd us cv) s = .next t ∧ t.pwr = { s.pwr with sag := false } ∧
        t.rd R.CK_THROTTLE_SUPPLY = s.rd R.PW_PLIMIT_CAP ∧ s.noted 0x0605 [.w4 us, .w4 cv] ∈ t.sup.trace ∧ t.tiles = s.tiles ∧ t.pos = s.pos) ∧
      (s.pwr.pstate ≠ .off → s.inWatch = false →
        (∃ t, exec (.supplyReset cv) s = .next t ∧ dark t ∧ t.rd R.PW_VIN_CV = read ∧ ∃ e ∈ t.sup.trace, e.code = 0x0606) ∧
        (∃ t, exec (.overvolt cv) s = .next t ∧ dark t ∧ t.pwr.pstate = .watch ∧ t.pwr.overvolt = true ∧ t.rd R.PW_VIN_CV = read)) ∧
      (∃ t, exec .inputOff s = .next t ∧ dark t ∧ t.pwr.pstate = .off ∧ t.sec.revoked = s.sec.revoked ∧ t.fab.dmap.tiles = s.fab.dmap.tiles)) ∧
  (
    ∀ (s : State), s.powered = true →
      let asked := fun (t : State) (n : Nat) => t.rd R.PW_PLIMIT_CAP = n ∧ t.rd R.CK_THROTTLE_SUPPLY = max (if s.pwr.sag then 8 else 0) n ∧
        t.tiles = s.tiles ∧ t.pos = s.pos
      (∃ t, exec .overcurrent s = .next t ∧ asked t (max 8 (s.rd R.PW_PLIMIT_CAP))) ∧
      (∀ w da cv, s.cap < w → ∃ t, exec (.capSample w da cv) s = .next t ∧ asked t (min 15 (s.rd R.PW_PLIMIT_CAP + 1)) ∧
        t.rd R.PW_PIN_W = min w 0xFFFF ∧ t.rd R.PW_PIN_DA = min da 0xFFFF) ∧
      (∀ w da cv, w * 100 < 95 * s.cap → 9 ≤ s.pwr.capLow → ∃ t, exec (.capSample w da cv) s = .next t ∧
        asked t (s.rd R.PW_PLIMIT_CAP - 1) ∧ t.pwr.capLow = 0) ∧
      (∀ w da cv, w * 100 < 95 * s.cap → s.pwr.capLow < 9 → ∃ t, exec (.capSample w da cv) s = .next t ∧
        t.rd R.PW_PLIMIT_CAP = s.rd R.PW_PLIMIT_CAP ∧ t.pwr.capLow = s.pwr.capLow + 1) ∧
      (∀ i cause, bitOf (s.rd R.PW_CONV_OK) i = true →
        let bad := s.pwr.convBad ||| (1 : BitVec 16) <<< i
        let k := ((List.range 16).filter (bitOf (~~~ bad).toNat)).length
        (12 ≤ k → ∃ t, exec (.convFail i cause) s = .next t ∧ t.pwr = { s.pwr with convBad := bad } ∧ t.rd R.PW_CONV_K = k ∧
          bitOf (t.rd R.PW_CONV_OK) i = false ∧ s.noted 0x060A [.w4 i, .w4 cause, .w4 k] ∈ t.sup.trace ∧ t.tiles = s.tiles ∧ t.hand.running = s.hand.running) ∧
        (k < 12 → ∃ t, exec (.convFail i cause) s = .next t ∧ t.pwr.pstate = .watch ∧ t.pwr.convOn = false)))

/-- A tripped fuse makes its field lost, its rail is off and what its tiles held is gone, and a hand in progress is misdealt with FUSE; a field too hot is folded and
its fold request set; a reading at FOLD_C asks for a fold; THERM rises while a sensor is at THR_C; a fold request clears once the folded field has cooled (R458 to
R463). -/
def Obligations.FieldsAndHeat : Prop :=
  (∀ (s : State) (f cause peak : Nat) (q : Int), f < 48 → s.railOn f = true →
    (∃ t, exec (.fuseTrip f cause peak) s = .next t ∧ bitOf t.lost f = true ∧ t.railOn f = false ∧ t.fieldOn f = false ∧
      (∀ n, tileField n = f → t.tile n = Tile.reset) ∧ s.noted 0x060B [.w4 f, .w4 cause, .w4 peak] ∈ t.sup.trace ∧
      (s.hand.running.isSome = true → s.hand.outcome = none → s.hand.sweep = false → s.hand.contributed = false →
        (s.fieldBit R.FB_LOST_LO_FIELDS R.FB_LOST_HI_FIELDS f true).treesLost = false → t.hand.outcome = some (0x47, 1)) ∧
      (s.fatalNow = false → (s.fieldBit R.FB_LOST_LO_FIELDS R.FB_LOST_HI_FIELDS f true).treesLost = true →
        t.fatalNow = true ∧ t.rd R.SP_FATAL_CODE = 0x030B)) ∧
    (∃ t, exec (.hotTrip f q) s = .next t ∧ bitOf t.folded f = true ∧ t.foldPending f = true ∧ t.railOn f = false ∧
      (∀ n, tileField n = f → t.tile n = Tile.reset) ∧ s.noted 0x060D [.w4 f, tempArg q] ∈ t.sup.trace) ∧
    (∀ ring : Int, s.powered = true → -160 ≤ q → q ≤ 600 → -160 ≤ ring → ring ≤ 600 → ring < 4 * (s.rd R.PW_THERM_FOLD_C : Int) →
      ring < 4 * (s.rd R.PW_THERM_HOT_C : Int) → s.pwr.last3.get ringKey [] = [] → s.pwr.last3.get (4 * f) [] = [] →
      (∀ j, 0 < j → j < 4 → s.pwr.sensors.find? (4 * f + j) = none) →
      ∃ t, exec (.sensorRead ⟨[(4 * f, q)], [], [], ring⟩) s = .next t ∧ t.getI R.PW_TEMP_VALID f = 1 ∧
        t.getI R.PW_TEMP_Q4 f = toBits q 11 ∧ (4 * (s.rd R.PW_THERM_FOLD_C : Int) ≤ q → t.foldPending f = true) ∧
        t.tiles = s.tiles ∧ t.pos = s.pos)) ∧
  (∀ (s : State) (r : SensorIn), s.powered = true → (∀ e ∈ r.near, e.1 < 48) → (∀ e ∈ r.far, e.1 < 96) →
    (∀ x ∈ r.ring :: s.pwr.last3.get ringKey [], x < 4 * (s.rd R.PW_THERM_HOT_C : Int)) → ∃ t, exec (.sensorRead r) s = .next t ∧
      ∀ f, f < 48 → s.railOn f = true → r.field.any (fun e => e.1 / 4 == f) = true →
        (t.fieldTemp f = none → t.getI R.PW_TEMP_VALID f = 0) ∧
        ∀ x, t.fieldTemp f = some x → t.getI R.PW_TEMP_VALID f = 1 ∧ t.getI R.PW_TEMP_Q4 f = toBits x 11 ∧
          (4 * (s.rd R.PW_THERM_FOLD_C : Int) ≤ x → t.foldPending f = true)) ∧
  (∀ (s : State) (f cause peak : Nat), f < 48 → s.railOn f = false → bitOf s.folded f = true → s.foldPending f = true → bitOf s.lost f = false →
    ∃ t, exec (.fuseTrip f cause peak) s = .next t ∧ bitOf t.lost f = true ∧ t.tiles = s.tiles ∧ t.hand.running = s.hand.running ∧
      s.noted 0x060B [.w4 f, .w4 cause, .w4 peak] ∈ t.sup.trace) ∧
  (∀ (s : State), s.powered = true →
    let thr := 4 * (s.rd R.PW_THERM_THR_C : Int)
    ((∃ e ∈ s.pwr.sensors, thr ≤ e.2) → ∃ t, exec .thermStep s = .next t ∧
      t.rd R.CK_THROTTLE_THERM = min 15 (s.rd R.CK_THROTTLE_THERM + 1) ∧ t = { s with regs := t.regs, pwr := t.pwr }) ∧
    ((∀ f, f < 48 → s.railOn f = false ∨ s.pwr.badField.getLsbD f = false) → (∀ e ∈ s.pwr.sensors, e.2 ≤ thr - 8) → 9 ≤ s.pwr.coolLowMs →
      ∃ t, exec .thermStep s = .next t ∧ t.rd R.CK_THROTTLE_THERM = s.rd R.CK_THROTTLE_THERM - 1 ∧ t = { s with regs := t.regs, pwr := t.pwr })) ∧
  (∀ (s : State) (f : Nat), f < 48 →
    (s.foldPending f = true → bitOf s.folded f = true → ∃ t, exec (.foldreqCool f) s = .next t ∧ t.foldPending f = false ∧
      (∀ g, g ≠ f → t.foldPending g = s.foldPending g) ∧ t = { s with regs := t.regs }) ∧
    (s.foldPending f = false ∨ bitOf s.folded f = false → exec (.foldreqCool f) s = .next s))

/-! ## The supervisor and its services (R474 to R498) -/

/-- A double-bit error, a wrong branch signature and an expired watchdog each reset the supervisor with their cause and their event; it comes back with the events
that waited; a kick changes nothing; a fatal error stops the module in stage 7 with its code, origin and dump, and ends the hand; an acknowledged record leaves the
management queue (R474 to R477, R481, R487). -/
def Obligations.SupervisorAndFatal : Prop :=
  (∀ (s : State) (a : W64), s.supvUp = true →
    let down := fun (t : State) (cause : Nat) => t.sup.down = true ∧ t.on R.SP_STATUS_UP = false ∧ t.rd R.SP_RESETS_CAUSE = cause ∧
      t.rd R.SP_RESETS_COUNT = min (s.rd R.SP_RESETS_COUNT + 1) 0xFFFF ∧ t.sup.session = false
    (∃ t, exec (.supvEcc a) s = .next t ∧ down t 3 ∧ ∃ e ∈ t.sup.trace, e.code = 0x0A22) ∧
    (s.sup.halted = false → ∃ t, exec (.supvCflow a) s = .next t ∧ down t 2 ∧ ∃ e ∈ t.sup.trace, e.code = 0x0A21) ∧
    (s.sup.halted = false → s.on R.SP_CTRL_WDOG_EN = true → ∃ t, exec .supvWdog s = .next t ∧ down t 1 ∧ ∃ e ∈ t.sup.trace, e.code = 0x0A20) ∧
    (s.on R.SP_CTRL_WDOG_EN = false ∨ s.sup.halted = true → exec .supvWdog s = .next s)) ∧
  (∀ (s : State), s.mayReturn = true → ∃ t, exec .supervisorBack s = .next t ∧ t.sup.down = false ∧
    t.on R.SP_STATUS_UP = true ∧ (s.sup.halted = false → t.sup.evBuf = []) ∧ ∃ e ∈ t.sup.trace, e.code = 0x0A23) ∧
  (∀ (s : State) (who : Agent), (s.mayWrite who R.SP_CTRL_KICK.off = true → ∃ t, exec (.kick who) s = .next t ∧ t.rd R.SP_CTRL_KICK = 0 ∧
      t.rd R.SP_CTRL_WDOG_EN = s.rd R.SP_CTRL_WDOG_EN ∧ t = { s with regs := t.regs } ∧ ∀ o, o ≠ R.SP_CTRL_KICK.off → t.reg o = s.reg o) ∧
    (s.mayWrite who R.SP_CTRL_KICK.off = false → exec (.kick who) s = .next s)) ∧
  (∀ (s : State) (code origin : Nat), s.powered = true →
    (s.fatalNow = false → ∃ t, exec (.fatal code origin) s = .next t ∧ t.fatalNow = true ∧
      t.rd R.HI_STATUS_STAGE = 7 ∧ t.on R.HI_STATUS_READY = false ∧ t.rd R.SP_FATAL_CODE = code % 65536 ∧
      t.rd R.SP_FATAL_ORIGIN = origin % 65536 ∧
      t.on R.HI_STATUS_DUMP_VALID = true ∧ t.hand.running = none ∧ t.hand.waiting = none ∧ t.fab.started = false ∧
      s.noted 0x0A25 [.w4 code, .w4 origin] ∈ t.sup.trace) ∧
    (s.fatalNow = true → ∃ t, exec (.fatal code origin) s = .next t ∧ s.said s t 0x0A25 [.w4 code, .w4 origin])) ∧
  (∀ (s : State) (q : W32), s.supvRuns = true →
    (s.sup.queue.any (fun e => e.seq == q) = false → exec (.pldmEventAck q) s = .next s) ∧
    (s.sup.queue.any (fun e => e.seq == q) = true →
      let u : State := { s with sup := { s.sup with queue := s.sup.queue.filter (fun e => e.seq != q) } }
      (s.sup.queueLost = 0 → exec (.pldmEventAck q) s = .next u) ∧
      (u.sup.queue.length < queueMax → s.sup.queueLost ≠ 0 → ∃ t, exec (.pldmEventAck q) s = .next t ∧ t.sup.queueLost = 0 ∧
        s.noted 0x0A2B [.w4 s.sup.queueLost] ∈ t.sup.trace)))

/-- (1) INFO answers the running version, the bank and whether a staged image is valid, DUMP_INFO the dump's hand, COMPLETE and DUMP_VALID; DUMP_CLEAR clears DUMP_VALID;
a nonzero ARG is BAD_ARG (R494, R495).
(2) FW_STAGE opens a staging, BUSY while one is open; a staging whose image passes R508 leaves it in the bank that does not run, with FW_STAGED, one that fails says
FW_STAGE_FAIL; FW_SWITCH waits for the boundary, FW_CANCEL discards the staged image, and firmware that does not report ready falls back (R495 to R498, R508).
(3) POWER over a management pair is a write of PW_CMD, over a host pair it is DENIED; LEAK_CLEAR clears the leak unless it is still sensed; SUPV_RESET resets the
supervisor with cause 4; MODULE_RESET with ARG 0 resets the module, with ARG 1 its supply too, and with any other it is BAD_ARG (R464, R493, R495, R550). -/
def Obligations.ManagementServices : Prop :=
  (
    ∀ (s : State) (pair : Nat) (via : Transport) (arg : BitVec 56), s.askable pair .i3c → s.askable pair via → (pair < 16 ∨ s.mayChange via = true) →
      let tells := fun (t : State) (w : W64) => t.acks pair 0 ∧ (t.pair pair).s2h.full = true ∧ (t.pair pair).s2h.word = w ∧ s.keeps t ∧ t.hand = s.hand
      let dump := s.nearRd s.highPos dumpOff 256
      (∃ t, exec (.info pair 0) s = .next t ∧ tells t (serviceWord 0x01
        (s.rd R.SP_FW_RUN_VERSION + s.rd R.HI_STATUS_BANK * 2 ^ 32 + s.rd R.SP_STATUS_STAGED * 2 ^ 48))) ∧
      (∃ t, exec (.dumpInfo pair 0) s = .next t ∧ tells t (serviceWord 0x05
        (field dump 8 8 % 2 ^ 48 + s.rd R.HI_STATUS_DUMP_VALID * 2 ^ 48 + field dump 0x3C 4 % 2 * 2 ^ 49))) ∧
      (∃ t, exec (.dumpClear pair 0 via) s = .next t ∧ t.acks pair 0 ∧ t.on R.HI_STATUS_DUMP_VALID = false ∧ s.keeps t ∧ t.hand = s.hand) ∧
      (arg ≠ 0 → ∃ t, exec (.info pair arg) s = .next t ∧ t.acks pair 2 ∧ (t.pair pair).s2h = (s.pair pair).s2h ∧ s.keeps t ∧ t.hand = s.hand)) ∧
  (
    (∀ (s : State) (pair : Nat) (via : Transport) (arg : BitVec 56), s.askable pair via → (pair < 16 ∨ s.mayChange via = true) →
      (arg.toNat % 4096 = 0 → arg.toNat < 0x048000000000 → (s.nearLoc arg.toNat).isSome = true →
        (s.stagingOpen = false → ∃ t, exec (.fwStage pair arg via) s = .next t ∧ t.acks pair 0 ∧ t.sup.open_ = s.sup.open_ ++ [(0x02, pair)] ∧ s.keeps t) ∧
        (s.stagingOpen = true → ∃ t, exec (.fwStage pair arg via) s = .next t ∧ t.acks pair 3 ∧ t.sup = s.sup ∧ s.keeps t)) ∧
      (s.sup.stagedImg.isSome = true → ∃ t, exec (.fwSwitch pair 0 via) s = .next t ∧ t.acks pair 0 ∧ t.on R.SP_STATUS_SWITCH_PEND = true ∧
        t.sup = s.sup ∧ s.keeps t) ∧
      (s.sup.stagedImg = none → ∃ t, exec (.fwSwitch pair 0 via) s = .next t ∧ t.acks pair 7 ∧ t.sup = s.sup ∧ s.keeps t) ∧
      (∃ t, exec (.fwCancel pair 0 via) s = .next t ∧ t.acks pair 0 ∧ t.sup.stagedImg = none ∧ t.on R.SP_STATUS_STAGED = false ∧
        t.on R.SP_STATUS_SWITCH_PEND = false ∧ s.keeps t)) ∧
    (∀ (s : State) (pair : Nat) (img : FwImage), s.supvRuns = true → (0x02, pair) ∈ s.sup.open_ →
      (s.fwVerify img = 0 → ∃ t, exec (.fwStageDone pair img) s = .next t ∧ t.sup.stagedImg = some img ∧
        t.sup.banks.find? s.otherBank = some img ∧ t.on R.SP_STATUS_STAGED = true ∧ t.rd R.SP_FW_STAGED_VERSION = img.fwver.toNat ∧
        s.noted 0x0A27 [.w4 img.fwver.toNat, .w4 s.otherBank] ∈ t.sup.trace ∧ s.keeps t) ∧
      (s.fwVerify img ≠ 0 → ∃ t, exec (.fwStageDone pair img) s = .next t ∧ t.sup.stagedImg = s.sup.stagedImg ∧ t.sup.banks = s.sup.banks ∧
        s.noted 0x0A28 [.w4 (s.fwVerify img)] ∈ t.sup.trace ∧ s.keeps t)) ∧
    (∀ (s : State), s.sup.trial = true → s.sup.halted = false → ∃ t, exec .fwFallback s = .next t ∧ t.sup.trial = false ∧ t.sup.down = false ∧
      t.rd R.SP_RESETS_CAUSE = 6 ∧ t.on R.SP_STATUS_SWITCH_PEND = false ∧ t.on R.SP_STATUS_UP = true ∧
      (∃ e ∈ t.sup.trace, e.code = 0x0A2A) ∧ t.tiles = s.tiles ∧ t.pos = s.pos)) ∧
  (
    ∀ (s : State) (pair : Nat) (c : CallIn), 16 ≤ pair → s.askable pair .i3c →
      (∀ p, (powerTarget p.num = some p) → ∃ t u : State, exec (.power pair (BitVec.ofNat 56 p.num) .i3c c) s = .next t ∧ t = u.pwCmd p c ∧
        u.acks pair 0 ∧ u.pwr = { s.pwr with breachWait := false } ∧ u.regs = s.regs ∧ s.keeps u ∧ u.hand = s.hand) ∧
      (∀ q arg, q < 16 → s.askable q .i3c → ∃ t, exec (.power q arg .i3c c) s = .next t ∧ t.acks q 6 ∧ t.pwr = s.pwr ∧ s.keeps t) ∧
      (s.inWatch = false →
        (∃ t, exec (.leakClear pair 0 .i3c false) s = .next t ∧ t.acks pair 0 ∧ t.on R.PW_STATE_LEAK = false ∧ s.keeps t) ∧
        (∃ t, exec (.leakClear pair 0 .i3c true) s = .next t ∧ t.acks pair 7 ∧ t.on R.PW_STATE_LEAK = s.on R.PW_STATE_LEAK ∧ s.keeps t)) ∧
      (∃ t, exec (.supvReset pair 0 .i3c) s = .next t ∧ t.sup.down = true ∧ t.rd R.SP_RESETS_CAUSE = 4 ∧ t.on R.SP_STATUS_UP = false) ∧
      (∃ t, exec (.moduleReset pair 0 .i3c) s = .next t ∧ t.tiles = [] ∧ t.pos = [] ∧ t.hand.running = none ∧ t.pwr.convOn = s.pwr.convOn ∧
        t.sec.revoked = s.sec.revoked ∧ (s.pwr.modReset = false → t.rd R.HI_STATUS_STAGE = 1)) ∧
      (∃ t, exec (.moduleReset pair 1 .i3c) s = .next t ∧ t.tiles = [] ∧ t.pos = [] ∧ t.pwr.convOn = false) ∧
      (∀ arg, arg ≠ 0 → arg ≠ 1 → ∃ t, exec (.moduleReset pair arg .i3c) s = .next t ∧ t.acks pair 2 ∧ s.keeps t ∧ t.hand = s.hand))

/-! ## MCTP, PLDM, SPDM (R487 to R492, R514, R515, R539) -/

/-- (1) MCTP control and PLDM: the bus owner assigns the endpoint ID, which GET_ENDPOINT_ID answers; SPDM is version 1.2; the message types, the event receiver, the
sensors' registers; firmware is staged, or DENIED over Ethernet outside a session (R487, R490, R491, R493).
(2) ENTDAA sets the dynamic address, with MGMT_LINK as I3C comes up; an abandoned transaction and a bus reset leave the module as it was; Ethernet's link says
MGMT_LINK up or down, and its session ends with it (R489, R539, R559). -/
def Obligations.MctpAndPldm : Prop :=
  (
    ∀ (s : State) (via : Transport), s.hears via →
      (∀ e, via ≠ .i3c → ∃ t, exec (.setEndpointId via e) s = .next t ∧ s.answered t []) ∧
      (∀ e, via = .i3c → ∃ t, exec (.setEndpointId via e) s = .next t ∧ t.sup = { s.sup with eid := e, resp := [[0], [e]] } ∧ s.keeps t ∧ t.regs = s.regs) ∧
      (∃ t, exec (.getEndpointId via) s = .next t ∧ s.answered t [[0], [s.sup.eid]]) ∧
      (∃ t, exec (.getMctpVersionSupport via 0x05) s = .next t ∧ s.answered t [[0], [1, 2]]) ∧
      (∃ t, exec (.getMessageTypeSupport via) s = .next t ∧ s.answered t [[0], [0x00, 0x01, 0x05, 0x06, 0x7F]]) ∧
      (∃ t v, exec (.getVendorDefinedMessageSupport via 0) s = .next t ∧ t.sup.resp = [[0], leBytes 4 v] ∧ s.keeps t ∧ t.regs = s.regs) ∧
      (∀ sel, sel ≠ 0 → ∃ t, exec (.getVendorDefinedMessageSupport via sel) s = .next t ∧ s.answered t []) ∧
      (∀ r, ∃ t, exec (.setEventReceiver via r) s = .next t ∧ t.sup = { s.sup with receiver := some r, resp := [[0]] } ∧ s.keeps t ∧ t.regs = s.regs) ∧
      (s.supvRuns = true →
        (∃ t, exec (.pldmSensorRead via 0 0) s = .next t ∧ s.answered t [[0], leBytes 4 (s.rd R.PW_VIN_CV)]) ∧
        (∃ t, exec (.pldmSensorRead via 7 0) s = .next t ∧ s.answered t [[0], leBytes 4 s.goodTiles]) ∧
        (∃ t, exec (.pldmSensorRead via 8 0) s = .next t ∧ s.answered t [[0], leBytes 4 s.pwr.pstate.num]) ∧
        (∀ f, f < 48 → s.getI R.PW_TEMP_VALID f = 0 → ∃ t, exec (.pldmSensorRead via 3 f) s = .next t ∧ s.answered t [[1]])) ∧
      (∀ img, s.mayChange via = true → s.supvRuns = true → s.stagingOpen = false → s.fwVerify img = 0 →
        ∃ t, exec (.pldmFwUpdate via img) s = .next t ∧ t.sup.stagedImg = some img ∧ t.sup.resp = [[0]] ∧ t.on R.SP_STATUS_STAGED = true ∧ s.keeps t) ∧
      (∀ img, s.mayChange via = false → ∃ t, exec (.pldmFwUpdate via img) s = .next t ∧ s.answered t [[6]])) ∧
  (
    ∀ (s : State),
      (∀ a, s.pwr.pstate ≠ .off → (s.sup.dynAddr.isSome = true → exec (.entdaa a) s = .next { s with sup := { s.sup with dynAddr := some a } }) ∧
        (s.sup.dynAddr = none → ∃ t, exec (.entdaa a) s = .next t ∧ t.sup.dynAddr = some a ∧ s.noted 0x0A2C [.w4 1, .w4 1] ∈ t.sup.trace ∧ s.keeps t)) ∧
      exec .i3cTimeout s = .next s ∧ exec .i3cSclLow s = .next s ∧
      (s.powered = true → s.on R.SP_STATUS_ETH_UP = false → ∃ t, exec (.ethernetLinkChange true) s = .next t ∧ t.on R.SP_STATUS_ETH_UP = true ∧
        s.noted 0x0A2C [.w4 2, .w4 1] ∈ t.sup.trace ∧ s.keeps t ∧ t.sup.session = s.sup.session) ∧
      (s.powered = true → ∃ t, exec (.ethernetLinkChange false) s = .next t ∧ t.on R.SP_STATUS_ETH_UP = false ∧ s.keeps t ∧
        (s.sup.sessionVia = some .ethernet → t.sup.session = false) ∧ (s.sup.sessionVia ≠ some .ethernet → t.sup.session = s.sup.session)))

/-- SPDM: version 1.2; RSA-3072 with SHA-256 alone is negotiated, and what needs it is answered only then; digests and certificates are of slot 0; a challenge, a
measurement and a key exchange are signed with the identity key; FINISH opens the session on its exchange's transport, with MGMT_LINK (R492, R514, R515). -/
def Obligations.Spdm : Prop :=
  ∀ (s : State) (via : Transport), s.viaUp via = true → s.supvRuns = true → s.powered = true →
    let chain := digestBytes (Config.sha256 Config.certChain)
    (∃ t, exec (.getVersion via) s = .next t ∧ s.answered t [[0], [1, 2]]) ∧
    (∃ t v, exec (.getCapabilities via) s = .next t ∧ t.sup.resp = [[0], leBytes 4 v] ∧ s.keeps t ∧ t.regs = s.regs) ∧
    (∀ a b, ∃ t, exec (.negotiateAlgorithms via a b) s = .next t ∧ t.sup.negotiated = (a && b) ∧ s.keeps t ∧ t.regs = s.regs) ∧
    (s.sup.negotiated = false → (∃ t, exec (.getDigests via) s = .next t ∧ s.answered t []) ∧
      (∃ t, exec (.getMeasurements via 1) s = .next t ∧ s.answered t [])) ∧
    (s.sup.negotiated = true →
      (∃ t, exec (.getDigests via) s = .next t ∧ s.answered t [[0], chain]) ∧
      (∀ o n, ∃ t, exec (.getCertificate via 0 o n) s = .next t ∧ s.answered t [[0], (Config.certChain.drop o).take n]) ∧
      (∀ k o n, k ≠ 0 → ∃ t, exec (.getCertificate via k o n) s = .next t ∧ s.answered t []) ∧
      (s.sec.identity = true →
        (∀ nonce, ∃ t, exec (.spdmChallenge via 0 nonce) s = .next t ∧ s.answered t [[0], chain, Config.rsaSign (Config.sha256 (chain ++ nonce))]) ∧
        (∀ i m, i ≠ 0xFF → s.measure i = some m → ∃ t, exec (.getMeasurements via i) s = .next t ∧
          s.answered t [[0], m, Config.rsaSign (Config.sha256 m)]) ∧
        (∀ x, ∃ t, exec (.keyExchange via x) s = .next t ∧ t.sup = { s.sup with handshake := some via, resp := [[0], Config.rsaSign (Config.sha256 x)] } ∧
          s.keeps t ∧ t.regs = s.regs))) ∧
    (s.sup.handshake = some via → ∃ t, exec (.finish via true) s = .next t ∧ t.sup.session = true ∧
      t.sup.sessionVia = some via ∧ t.sup.handshake = none ∧ t.on R.SP_STATUS_SESSION = true ∧
      (s.sup.session = false → s.noted 0x0A2C [.w4 3, .w4 1] ∈ t.sup.trace) ∧ s.keeps t) ∧
    (s.sup.handshake = some via → ∃ t, exec (.finish via false) s = .next t ∧ t.sup.session = s.sup.session ∧ t.sup.handshake = none ∧ t.sup.resp = []) ∧
    (s.sup.handshake ≠ some via → ∃ t, exec (.finish via true) s = .next t ∧ t.sup.session = s.sup.session ∧ t.sup.resp = [] ∧ s.keeps t)

/-! ## Security (R505 to R513) -/

/-- (1) Boot verifies the bank that the newest BANK record names; one that passes R508 runs, with BOOT_OK, in stage 2, and the counter rises where its header says
so; one that fails gives way to the other bank with BOOT_FALLBACK, and with both failed only the ROM's responder stays, with BOOT_FAIL (R508, R509, R511).
(2) An allowed policy operation changes what it names, commits a POLICY record of the new policy, says POLICY_CHANGE and done; a key that does not pass is RESULT 3,
an operation that is not allowed DENIED, one while another is under way BUSY, and while the supervisor is down it waits (R512, R513). -/
def Obligations.BootAndPolicy : Prop :=
  (
    ∀ (s : State) (b0 b1 : Option FwImage) (at_ : Nat) (r : LRec), s.mayBoot = true → s.hasSwitch = true → s.newestRec 0x0002 = some (at_, r) →
      let n := field r.payload 0 1 % 2
      let told := fun (t : State) (c : Nat) => ∃ e ∈ t.sup.trace, e.code = BitVec.ofNat 16 c
      let runs := fun (t : State) (k : Nat) (f : FwImage) => t.sup.down = false ∧ t.on R.SP_STATUS_UP = true ∧ t.rd R.HI_STATUS_BANK = k ∧
        t.rd R.SP_FW_RUN_VERSION = f.fwver.toNat ∧ t.rd R.HI_STATUS_STAGE = 2 ∧ t.sec.runSlot = f.slot ∧ told t 0x0801
      (∀ f, s.bankImage n b0 b1 = some f → s.fwVerify f = 0 → ∃ t, exec (.coldBoot b0 b1 true) s = .next t ∧ runs t n f ∧
        t.sec.counter = if f.advance ∧ s.sec.counter < f.svn then f.svn else s.sec.counter) ∧
      (∀ f g, s.bankImage n b0 b1 = some f → s.fwVerify f ≠ 0 → s.bankImage (1 - n) b0 b1 = some g →
        (s.fwVerify g = 0 → ∃ t, exec (.coldBoot b0 b1 true) s = .next t ∧ runs t (1 - n) g ∧ told t 0x0802 ∧ t.sec.counter = s.sec.counter ∧
          t.sec.revoked = s.sec.revoked) ∧
        (s.fwVerify g ≠ 0 → ∃ t, exec (.coldBoot b0 b1 true) s = .next t ∧ t.sup.romOnly = true ∧ t.sup.down = true ∧ told t 0x0803))) ∧
  (
    ∀ (s : State) (who : Agent) (v : W32) (ok : Bool), s.mayWrite who R.SC_KEYCMD_OP.off = true →
      let slot := bitsOf v.toNat 3 2
      let cmds : List (Instr × Nat) := [(.enroll who v ok, 1), (.remove who v, 2), (.require who v, 3), (.unrequire who v, 4),
        (.lockPolicy who v, 5), (.unlockpol who v, 6)]
      let free := s.sec.must = false ∧ s.sec.waits = [] ∧ s.sec.used + 2048 ≤ halfSize
      let changed := fun (c : Instr) (op : Nat) (x : Security) => s.sec.keyPend = none → s.keyAllowed who op = true → s.supvRuns = true → free →
        ∃ t, exec c s = .next t ∧ t.sec.keys = x.keys ∧ t.sec.require = x.require ∧ t.sec.locked = x.locked ∧ t.rd R.SC_KEYRES_RESULT = 1 ∧
          (∃ e ∈ t.sec.recs, e.typ = 0x000B ∧ e.payload = x.policyBytes ∧ e.committed = true) ∧
          (∃ e ∈ t.sup.trace, e.code = 0x0806 ∧ e.args = [.w4 op, .w4 slot]) ∧ s.keeps t ∧ t.sec.revoked = s.sec.revoked
      (∀ k, s.keyAt = some k → ok = true → changed (.enroll who v ok) 1 { s.sec with keys := s.sec.keys.ins slot k }) ∧
      (s.sec.keyPend = none → s.keyAllowed who 1 = true → s.supvRuns = true → s.keyAt = none ∨ ok = false →
        ∃ t, exec (.enroll who v ok) s = .next t ∧ t.rd R.SC_KEYRES_RESULT = 3 ∧ t = { s with regs := t.regs }) ∧
      changed (.remove who v) 2 { s.sec with keys := s.sec.keys.del slot } ∧
      changed (.require who v) 3 { s.sec with require := true } ∧
      changed (.unrequire who v) 4 { s.sec with require := false } ∧
      changed (.lockPolicy who v) 5 { s.sec with locked := true } ∧
      changed (.unlockpol who v) 6 { s.sec with locked := false } ∧
      ∀ c op, (c, op) ∈ cmds →
        (s.sec.keyPend.isSome = true → ∃ t, exec c s = .next t ∧ t.rd R.SC_KEYRES_RESULT = 4 ∧ t = { s with regs := t.regs }) ∧
        (s.sec.keyPend = none → s.keyAllowed who op = false → ∃ t, exec c s = .next t ∧ t.rd R.SC_KEYRES_RESULT = 2 ∧ t = { s with regs := t.regs }) ∧
        (s.sec.keyPend = none → s.keyAllowed who op = true → s.supvRuns = false → ∃ t, exec c s = .next t ∧
          (t.sec.keyPend.map (fun x => (x.1, x.2.1))) = some (op, slot) ∧ t = { s with sec := { s.sec with keyPend := t.sec.keyPend } }))

/-! ## The debug port (R516 to R521) -/

/-- (1) The TAP captures IDCODE, a new nonce with the serial, the status, or one bypass bit; a nonce is refused for a second after a denial; a token is verified
once shifted in: it unlocks with its rights, or is counted and voids the nonce; a TAP reset selects IDCODE (R516 to R518).
(2) A DAP access of a locked port answers LOCKED and does nothing; an unlocked one reads and writes memory, what it wrote in the supervisor's space, and the
registers of a tile's contexts, written only while the wafer is frozen; every scan captures the answer before it (R518, R519, R528).
(3) Locking, by command or at the end of a lifetime, takes the rights, releases the supervisor and thaws the wafer; the supervisor halts, resumes and steps
under the port's right, halts at its breakpoint with BREAK_HIT; a tile's breakpoint freezes the wafer (R520, R521, R528). -/
def Obligations.Debug : Prop :=
  (
    ∀ (s : State), s.tapUp = true →
      let only := fun (t : State) => t = { s with sec := t.sec, free := t.free }
      (∃ t, exec .idcode s = .next t ∧ only t ∧ t.sec.ir = 0x01 ∧
        t.sec.dr = BitVec.ofNat 384 (Config.stepping.toNat % 16 * 2 ^ 28 + 0x0A48 * 2 ^ 12 + 1)) ∧
      ((∀ a, s.sec.deniedAt = some a → a + secondTicks ≤ s.ticks) → ∃ t n, exec .challenge s = .next t ∧ only t ∧ t.sec.nonce = some n ∧ t.sec.ir = 0x10 ∧
        t.sec.dr = BitVec.ofNat 384 (n.toNat + Config.serial.toNat * 2 ^ 256 + s.sec.fails % 2 ^ 64 * 2 ^ 320)) ∧
      (∀ a, s.sec.deniedAt = some a → s.ticks < a + secondTicks → exec .challenge s = .next s) ∧
      (∀ x, s.sec.verifying = none → exec (.unlock x) s = .next { s with sec := { s.sec with ir := 0x11, verifying := some x } }) ∧
      (∀ x, s.sec.verifying = some x → s.tokenOk x = true → ∃ t, exec .tokenVerified s = .next t ∧ t.sec.unlocked = true ∧
        t.sec.rights = x.rights.setWidth 5 ∧ t.sec.lifetime = x.lifetime.toNat ∧ t.sec.unlocks = s.sec.unlocks + 1 ∧ t.sec.verifying = none ∧
        (∃ e ∈ t.sup.trace, e.code = 0x0807) ∧ s.keeps t) ∧
      (∀ x, s.sec.verifying = some x → s.tokenOk x = false → ∃ t, exec .tokenVerified s = .next t ∧ t.sec.unlocked = s.sec.unlocked ∧
        t.sec.rights = s.sec.rights ∧ t.sec.fails = s.sec.fails + 1 ∧ t.sec.nonce = none ∧ t.sec.deniedAt = some s.ticks ∧
        (∃ e ∈ t.sup.trace, e.code = 0x0808) ∧ s.keeps t) ∧
      (∃ t, exec .tapStatus s = .next t ∧ only t ∧ t.sec.dr = BitVec.ofNat 384 s.dbStatus) ∧
      (∀ b, ∃ t, exec (.bypass b) s = .next t ∧ only t ∧ t.sec.dr = BitVec.ofNat 384 b.toNat) ∧
      (∀ b, exec (.tapReset b) s = .next { s with sec := { s.sec with ir := 0x01 } })) ∧
  (
    ∀ (s : State) (a : BitVec 48) (v : W64), s.tapUp = true →
      let answers := fun (t : State) (st data : Nat) => t.sec.dapStatus = BitVec.ofNat 2 st ∧ t.sec.dapData = BitVec.ofNat 64 data
      let only := fun (t : State) => t = { s with sec := t.sec, free := t.free }
      (s.dbgOpen = false → ∀ size space, (∃ t, exec (.dapRead size space a ⟨[], [], []⟩) s = .next t ∧ only t ∧ answers t 3 0) ∧
        (∃ t, exec (.dapWrite size space a v) s = .next t ∧ only t ∧ answers t 3 0) ∧ (∃ t, exec .dapNop s = .next t ∧ only t ∧ answers t 3 0)) ∧
      (s.dbgOpen = true → ∃ t, exec .dapNop s = .next t ∧ only t ∧ t.sec.dapStatus = s.sec.dapStatus ∧
        t.sec.dr = BitVec.ofNat 384 (s.sec.dapStatus.toNat + s.sec.dapData.toNat * 2 ^ 56)) ∧
      (s.dbgOpen = true → s.right 2 = true → a.toNat % 8 = 0 → isReg a.toNat = false → s.gatedAt a.toNat = false → (s.loc a.toNat).isSome = true →
        s.poisoned a.toNat = false → ∃ t, exec (.dapRead 1 0 a ⟨[], [], []⟩) s = .next t ∧ only t ∧ answers t 0 (leNat (s.busBytes a.toNat 8))) ∧
      (s.dbgOpen = true → s.right 2 = true → a.toNat % 8 = 0 → isReg a.toNat = false → s.gatedAt a.toNat = false →
        (∃ k o, s.loc a.toNat = some (.near k o)) → (s.reach a.toNat 8 true = .ok) →
        ∃ t, exec (.dapWrite 1 0 a v) s = .next t ∧ s.stored t a.toNat (leBytes 8 v.toNat) ∧ answers t 0 0 ∧ t.tiles = s.tiles ∧ t.hand = s.hand) ∧
      (s.dbgOpen = true → s.right 0 = true → a.toNat % 8 = 0 → isSupv a.toNat = true → ∃ t, exec (.dapWrite 1 1 a v) s = .next t ∧ only t ∧
        answers t 0 0 ∧ ∀ i, i < 8 → t.sec.supvMem.find? (a.toNat + i) = some (BitVec.ofNat 8 (v.toNat / 2 ^ (8 * i)))) ∧
      (s.dbgOpen = true → s.right 0 = true → a.toNat % 8 = 0 → isSupv a.toNat = true → (∀ i, i < 8 →
        s.sec.supvMem.find? (a.toNat + i) = some (BitVec.ofNat 8 (v.toNat / 2 ^ (8 * i)))) →
        ∃ t, exec (.dapRead 1 1 a ⟨[], [], []⟩) s = .next t ∧ only t ∧ answers t 0 v.toNat) ∧
      (∀ n r, s.dbgOpen = true → s.right 1 = true → s.dapCtx a.toNat = some (n, false, r) → 0 < r → r < 32 →
        (∃ t, exec (.dapRead 0 2 a ⟨[], [], []⟩) s = .next t ∧ only t ∧ answers t 0 ((s.tile n).prim.g.get r 0).toNat) ∧
        (s.on R.FB_STATUS_FROZEN = false → ∃ t, exec (.dapWrite 0 2 a v) s = .next t ∧ only t ∧ answers t 2 0) ∧
        (s.on R.FB_STATUS_FROZEN = true → ∃ t, exec (.dapWrite 0 2 a v) s = .next t ∧ answers t 0 0 ∧
          (t.tile n).prim.g.get r 0 = v.setWidth 32 ∧ (∀ q, q ≠ r → (t.tile n).prim.g.get q 0 = (s.tile n).prim.g.get q 0) ∧
          (t.tile n).prim.pc = (s.tile n).prim.pc ∧ (∀ m, m ≠ n → t.tile m = s.tile m)))) ∧
  (
    ∀ (s : State) (who : Agent),
      let locked := fun (t : State) => t.sec.unlocked = false ∧ t.sec.rights = 0 ∧ t.sec.lifetime = 0 ∧ t.sup.halted = false ∧ t.on R.FB_STATUS_FROZEN = false ∧
        ∃ e ∈ t.sup.trace, e.code = 0x0809
      (s.sec.unlocked = true → s.mayWrite who R.DB_CTRL_LOCK.off = true → ∃ t, exec (.dbLock who) s = .next t ∧ locked t) ∧
      (s.sec.unlocked = true → s.sec.lifetime ≠ 0 → ∃ t, exec .lifetimeExpire s = .next t ∧ locked t) ∧
      (s.sec.lifetime = 0 → exec .lifetimeExpire s = .next s) ∧
      (s.mayDebug who = true → s.sup.halted = false → ∃ t, exec (.supvHalt who) s = .next t ∧ t = { s with sup := { s.sup with halted := true }, regs := t.regs } ∧
        t.on R.DB_STATUS_BREAK = false) ∧
      (s.mayDebug who = true → s.sup.halted = true → ∃ t, exec (.supvResume who) s = .next t ∧ t.sup.halted = false ∧ t.sup.evBuf = [] ∧
        (s.on R.FB_TRUMP_FLAGS_FAULT = false → t.tiles = s.tiles)) ∧
      (s.mayDebug who = true → ∃ t, exec (.supvStep who) s = .next t ∧ t = { s with sup := { s.sup with halted := true }, regs := t.regs }) ∧
      (∀ a : BitVec 48, s.supvUp = true → s.sup.halted = false → s.sbpHit a.toNat = true → ∃ t, exec (.supvBreakpoint a) s = .next t ∧
        t.sup.halted = true ∧ t.on R.DB_STATUS_BREAK = true ∧ s.noted 0x080A [.w8 a.toNat] ∈ t.sup.trace ∧ s.keeps t) ∧
      (∀ n side pc, ((s.tile n).ctx side).running = true → (s.tile n).bpHit side pc = true → s.on R.FB_STATUS_STALLED = false →
        ∃ t, exec (.tileBreakpoint n side pc) s = .next t ∧ t.on R.DB_STATUS_BREAK = true ∧ (∃ e ∈ t.sup.trace, e.code = 0x080A) ∧
          (s.on R.FB_STATUS_FROZEN = true → s.keeps t) ∧
          (s.on R.FB_STATUS_FROZEN = false → t.tiles = (s.freezeAt 0).tiles ∧ t.fEff = (s.freezeAt 0).fEff)))

/-- A record that reads back is committed under the next sequence number, one that does not is abandoned and the half is compacted before the next write; a
compaction makes the other half active with the next generation, a SWITCH record and the records that R525 keeps (R522 to R526). -/
def Obligations.Journal : Prop :=
  ∀ (s : State) (who : Agent) (r : LedgerIn), s.supvRuns = true → s.sec.must = false → s.sec.waits = [] →
    (r.payload ≠ [] → r.payload.length ≤ 1048576 → r.readsBack = true → s.sec.used + 32 + roundUp r.payload.length 16 ≤ halfSize →
      ∃ t, exec (.ledgerWrite r) s = .next t ∧ t.sec.recs = s.sec.recs ++ [⟨r.typ, s.sec.seq + 1, r.payload, true⟩] ∧ t.sec.seq = s.sec.seq + 1 ∧
        t.sec.half = s.sec.half ∧ s.keeps t ∧ t.hand = s.hand) ∧
    (r.payload ≠ [] → r.payload.length ≤ 1048576 → r.readsBack = false → exec (.ledgerWrite r) s = .next { s with sec := { s.sec with
      seq := s.sec.seq + 1, recs := s.sec.recs ++ [⟨r.typ, s.sec.seq + 1, r.payload, false⟩], must := true } }) ∧
    (s.mayWrite who R.LG_CTRL_COMPACT.off = true → ∃ t, exec (.compact who) s = .next t ∧ t.sec.half = (!s.sec.half) ∧ t.sec.gen = s.sec.gen + 1 ∧
      t.sec.seq = s.sec.seq + 1 ∧ t.sec.recs = ⟨0x0001, s.sec.seq + 1, leBytes 8 (s.sec.gen + 1), true⟩ :: keptRecs s.sec.recs ∧
      t.sec.other = s.sec.recs ∧ t.sec.compacting = false ∧ s.keeps t ∧ t.hand = s.hand)

/-! ## Start-up, pins and registers (R20, R219, R231, R386, R534, R540, R544, R545, R550, R551) -/

/-- (1) The input's rise begins a module as reset, with its fuses, ledger and defect map; BUS_SENSE opening is a supply reset, closing ends its wait; MOD_RESET_N holds
the module in reset and releases it into stage 1; fields power up into stage 3, or wait for the coolant; memory training leaves its positions in service and zeroed,
in stage 5 (R534, R540, R544, R545, R550, R551).
(2) A carrier wait is told when it begins; a new pluggable trains its port while it is enabled; a position that fails misdeals the hand and leaves service at the
boundary with its cause (R219, R351, R536, R544). -/
def Obligations.StartUpAndPositions : Prop :=
  (
    ∀ (s : State),
      (∀ b, s.pwr.pstate = .off → ∃ t, exec (.alwaysOnPowerUp b) s = .next t ∧ t.pwr.pstate = .run ∧ t.pwr.convOn = false ∧ t.tiles = [] ∧ t.pos = [] ∧
        t.on R.CK_STATUS_FIXED = b ∧ t.ticks = 0 ∧ t.sec.revoked = s.sec.revoked ∧ t.sec.counter = s.sec.counter ∧ t.sec.recs = s.sec.recs ∧
        t.sec.keys = s.sec.keys ∧ t.fab.dmap = s.fab.dmap ∧ t.hand = Hand.reset ∧ t.num = Numerics.reset) ∧
      (∀ b, s.pwr.pstate ≠ .off → exec (.alwaysOnPowerUp b) s = .next s) ∧
      (∀ cv, s.pwr.convOn = true → ∃ t, exec (.busSenseOpen cv) s = .next t ∧ t.pwr.busSense = false ∧ t.pwr.convOn = false ∧ t.tiles = [] ∧ t.pos = [] ∧
        ∃ e ∈ t.sup.trace, e.code = 0x0606) ∧
      (∃ t, exec .busSenseClose s = .next t ∧ t.pwr.busSense = true ∧ t = { s with pwr := { s.pwr with busSense := true, carrier := t.pwr.carrier } }) ∧
      (s.powered = true → s.pwr.modReset = false → ∃ t, exec .modResetAssert s = .next t ∧ t.pwr.modReset = true ∧ t.tiles = [] ∧ t.pos = [] ∧
        t.hand.running = none ∧ t.pwr.convOn = true ∧ t.sec.revoked = s.sec.revoked) ∧
      (s.powered = true → s.pwr.modReset = true → ∃ t, exec .modResetRelease s = .next t ∧
        t.pwr.modReset = false ∧ t.rd R.HI_STATUS_STAGE = 1 ∧ t.on R.CK_EN_MISC_SUPV = true ∧ t.tiles = s.tiles) ∧
      (∀ q trips, s.rd R.HI_STATUS_STAGE = 2 → s.wakeWaits = false → s.pwr.breach = none → s.powered = true → s.pwr.modReset = false →
        (s.coolantOk q = true → ∃ t, exec (.fieldPowerUp q trips) s = .next t ∧ t.rd R.HI_STATUS_STAGE = 3 ∧ t.on R.FB_STATUS_NT_BUSY = true ∧
          (∀ f, f < 48 → bitOf s.lost f = false → f ∉ trips → t.railOn f = true ∧ t.fieldOn f = true) ∧
          (∀ f, f < 48 → bitOf s.lost f = false → f ∈ trips → bitOf t.lost f = true ∧ t.railOn f = false) ∧ (trips = [] → t.tiles = s.tiles ∧ t.pos = s.pos)) ∧
        (s.coolantOk q = false → s.pwr.carrier ≠ 2 → ∃ t, exec (.fieldPowerUp q trips) s = .next t ∧ t.pwr.carrier = 2 ∧
          s.noted 0x0613 [.w4 2, .w4 0] ∈ t.sup.trace ∧ t.rd R.HI_STATUS_STAGE = 2)) ∧
      (∀ near far, s.rd R.HI_STATUS_STAGE = 4 → s.powered = true → s.pwr.modReset = false → s.newestRec 0x000D = none →
        s.wakeWaits = false → ∃ t, exec (.memoryTrainingDone near far) s = .next t ∧ 5 ≤ t.rd R.HI_STATUS_STAGE ∧
          (∀ k, k < 48 → k ∉ near → (∀ d ∈ far, d / 2 ≠ k) → t.inSvc k = true) ∧ (∀ k, (t.posn k).stock = []) ∧ (s.pwr.entering = false → t.tiles = s.tiles))) ∧
  (
    (∀ (s : State), s.pwr.busSense = false → s.pwr.convOn = false → s.pwr.pstate ≠ .off → s.inWatch = false → s.pwr.carrier ≠ 1 →
      ∃ t, exec (.carrierWait 1) s = .next t ∧ t.pwr = { s.pwr with carrier := 1, carrierS := 0 } ∧ s.noted 0x0613 [.w4 1, .w4 0] ∈ t.sup.trace ∧ s.keeps t) ∧
    (∀ (s : State), s.pwr.carrier = 2 → s.powered = true → ∃ t, exec (.carrierWait 2) s = .next t ∧
      t.pwr = { s.pwr with carrierS := s.pwr.carrierS + 60 } ∧ s.noted 0x0613 [.w4 2, .w4 (s.pwr.carrierS + 60)] ∈ t.sup.trace ∧ s.keeps t) ∧
    (∀ (s : State) (p : Nat) (a : TrainIn), p < 16 →
      (s.portEn p = false → exec (.pluggableReplaced p a) s = .next (s.onLport p (fun x => { x with cage := true }))) ∧
      (s.portEn p = true → s.portOn p = true → s.rd R.HI_STATUS_STAGE ≠ 5 → s.portUp p = false → s.getI R.LK_PSTAT_STATE p ≠ 5 → goodTrain a →
        ∃ t, exec (.pluggableReplaced p a) s = .next t ∧ t.getI R.LK_PSTAT_STATE p = 2 ∧ (t.lport p).cage = true ∧
          (∃ x ∈ t.link.out, x.typ = 0x24 ∧ x.port = p) ∧ s.keeps t)) ∧
    (∀ (s : State) (k cause : Nat), s.inSvc k = true → (s.posn k).leave = 0 →
      (s.hand.running = none → ∃ t, exec (.positionFailure k cause) s = .next t ∧ (t.posn k).leave = cause ∧ (t.posn k).near = (s.posn k).near ∧
        t.hand.running = none ∧ (s.hand.push = none → t.hand = s.hand) ∧ t.tiles = s.tiles ∧ ∀ j, j ≠ k → t.posn j = s.posn j) ∧
      (s.hand.running.isSome = true → s.hand.outcome = none → s.hand.sweep = false → s.hand.contributed = false →
        ∃ t, exec (.positionFailure k cause) s = .next t ∧ t.hand.outcome = some (0x47, 7))))

/-- A write of a register takes a value in its range and ignores one outside it; a write that its agent may not make is ignored; one that is misaligned, or that
meets a gated block, draws a Completer Abort and changes nothing else (R20, R386, R387, R422, R439, R440). -/
def Obligations.RegisterWrites : Prop :=
  ∀ (s : State),
    (∀ v : W32, 1 ≤ v.toNat → v.toNat ≤ 1000 → ∃ t, exec (.registerWrite .host R.PT_ROUND_TO_MS.off v) s = .next t ∧
      t.rd R.PT_ROUND_TO_MS = v.toNat ∧ t = { s with regs := t.regs } ∧ ∀ o, o ≠ R.PT_ROUND_TO_MS.off → t.reg o = s.reg o) ∧
    exec (.registerWrite .host R.PT_ROUND_TO_MS.off 0) s = .next s ∧
    (∀ v, exec (.registerWrite .host R.CK_EN_FIELD_LO_EN.off v) s = .next s) ∧
    (∀ v : W32, ∃ t, exec (.registerWrite .host R.NM_PIN_CODE.off v) s = .next t ∧ t = { s with num := { s.num with scale := t.num.scale } } ∧
      (∀ n, n ≠ s.rd R.NM_PIN_SEL_TENSOR → t.num.scale.get n Scale.reset = s.num.scale.get n Scale.reset)) ∧
    (∀ off v, off % 4 ≠ 0 → ∃ t, exec (.registerWrite .host off v) s = .next t ∧ t.host.aborts = s.host.aborts + 1 ∧ t.on R.HI_ERR_CABORT = true ∧
      s.noted 0x0904 [.w4 off, .w4 1] ∈ t.sup.trace ∧ s.keeps t) ∧
    (∀ p v, p < 16 → s.portOn p = false → ∃ t, exec (.registerWrite .host (R.LK_PCTRL_EN.addr p) v) s = .next t ∧ t.host.aborts = s.host.aborts + 1 ∧
      s.noted 0x0904 [.w4 (R.LK_PCTRL_EN.addr p), .w4 3] ∈ t.sup.trace ∧ t.reg (R.LK_PCTRL_EN.addr p) = s.reg (R.LK_PCTRL_EN.addr p) ∧ s.keeps t)

/-! ## The whole module -/

/-- MODEL'S OWN (log 4): a step with no command waiting is one tick of the reference: a THROTTLE note that waited, the end of a
neighbour test, the limit of stage 5, and nothing else. -/
def Obligations.IdleTick : Prop :=
  ∀ (s : State), s.pending = [] →
    ∃ t, step s = .next t ∧ t.ticks = s.ticks + 1 ∧ t.pending = [] ∧ t.hand.hand = s.hand.hand ∧
      (s.rd R.HI_STATUS_STAGE ≠ 5 → s.fab.nt = none → s.rd R.CK_THROTTLE_LEVEL = s.clk.thrNoted → t = { s with ticks := s.ticks + 1 })

/-! ## Rules stated whole -/

/-- R412, whole: a word sent to a full mailbox is not taken and sets OVERRUN, a word of 0 is taken like any other, and an acknowledge of an
empty mailbox or with code 0xFFFF changes no mailbox. -/
def Obligations.MailboxIgnores : Prop :=
  ∀ (s : State) (i : Nat),
    (∀ w, (s.pair i).h2s.full = true → ∃ t, exec (.mbH2sSend i w) s = .next t ∧
      t.pair i = { s.pair i with h2s := { (s.pair i).h2s with lo := w.setWidth 32, overrun := true } } ∧
      t = { s with host := { s.host with pairs := t.host.pairs } } ∧ ∀ j, j ≠ i → t.pair j = s.pair j) ∧
    ((s.pair i).h2s.full = false → ∃ t, exec (.mbH2sSend i 0) s = .next t ∧
      (t.pair i).h2s.full = true ∧ (t.pair i).h2s.word = 0 ∧ (t.pair i).h2s.overrun = false ∧ (t.pair i).s2h = (s.pair i).s2h ∧
      t = { s with host := { s.host with pairs := t.host.pairs } } ∧ ∀ j, j ≠ i → t.pair j = s.pair j) ∧
    (∀ code, ((s.pair i).h2s.full = false ∨ code = 0xFFFF) → ∃ t, exec (.mbH2sAck i code) s = .next t ∧
      t = { s with host := { s.host with pairs := t.host.pairs } } ∧ ∀ j, t.pair j = s.pair j) ∧
    (∀ code, ((s.pair i).s2h.full = false ∨ code = 0xFFFF) → (∀ r ∈ s.sup.results, r.1 ≠ i) → ∃ t, exec (.mbS2hAck i code) s = .next t ∧
      t = { s with host := { s.host with pairs := t.host.pairs } } ∧ ∀ j, t.pair j = s.pair j)

/-- R79, whole: FMT of a step must be the format of the buffer that BUF names. Where it is not, the step raises the format-mismatch fault
and no part of it runs: the state is that of the issue, with the run set up at its first step, and the sequencer fault 1, whatever upsets the lanes
would have met. -/
def Obligations.FormatMismatch : Prop :=
  ∀ (s : State) (a : Site) (f : MRunF) (ups : List (Nat × Upset)), s.canIssue a (wordOf 1 1 (mrunLow f)) f.dt [f.ga, f.gs] → f.bub = 0 →
    (a.side = true ∨ (s.tile a.tile).prim.window = false) →
    let line := ((s.ctx a).gr f.ga).toNat
    let stride := ((s.ctx a).gr f.gs).toNat
    (∀ i, i ≤ f.nm1.toNat → s.linesOk a.side (runLine line stride i) (recordLines f.fmt) = true) →
    ((s.tile a.tile).buf f.buf).side = a.side → ((s.tile a.tile).buf f.buf).fmt ≠ some f.fmt →
    exec (.mrun a f .ok .ok ups) s = .next
      ((((s.issued a (wordOf 1 1 (mrunLow f)) f.dt).onTile a.tile (fun x =>
        if a.side then { x with sideBeats := x.sideBeats + f.nm1.toNat } else x)).onCtx a (fun c =>
          { c with run := some ⟨f, (s.ctx a).pc, 0, ((s.ctx a).target f.dt).toNat, line, stride, ups, false⟩ })).seqFault
        a.tile a.side 1 (s.ctx a).pc)

/-! ## Resets and what is burnt (R326, R405, R438, R504, R550) -/

/-- The state after reset: no command waits, the next hand number is 1, no event has been emitted, no tile runs, every weight buffer is empty,
every enable is 0, READY is 0 and the start-up stage is 0, every register of the blocks reads its Reset column, among them the defaults that rules
name (R267, R269, R270, R330, R461, R476, R479), the canonical forms hold, and what is burnt on a module as shipped is burnt (R326, R405, R416,
R438). That the general registers of a tile read 0 before its first START, the fuses of a module as shipped, and what memory reads as are the
model's choice (logs 2, 5 and 70). -/
def Obligations.ResetValues : Prop :=
  let s := State.reset
  s.pending = [] ∧ s.hand.next = 1 ∧ s.hand.running = none ∧ s.seq = 0 ∧ s.fab.started = false ∧
  (∀ n d, ((s.tile n).ctx d).running = false ∧ ∀ q, ((s.tile n).ctx d).gr q = 0) ∧
  (∀ n b, ((s.tile n).buf b).fmt = none) ∧
  s.rd R.CK_EN_FIELD_LO_EN = 0 ∧ s.rd R.CK_EN_FIELD_HI_EN = 0 ∧ s.rd R.CK_EN_NEAR_LO_EN = 0 ∧ s.rd R.CK_EN_NEAR_HI_EN = 0 ∧
  s.rd R.CK_EN_FAR_EN = 0 ∧ s.rd R.CK_EN_LINK_EN = 0 ∧ s.rd R.HI_STATUS_READY = 0 ∧ s.rd R.HI_STATUS_STAGE = 0 ∧
  s.rd R.NM_CHOOSER_HEAD = 1 ∧ s.rd R.NM_CHOOSER_BACKOFF = 2 ∧ s.rd R.NM_CHOOSER_HOLD = 16 ∧ s.rd R.NM_SIL_SHARE_PPM = 999000 ∧
  s.rd R.NM_SIL_HANDS_N = 200 ∧ s.rd R.SP_WDOG_MS = 1000 ∧ s.rd R.SP_HAND_TO_S = 900 ∧ s.rd R.NM_SWEEP_TO_S = 30 ∧
  s.rd R.PW_THERM_THR_C = 95 ∧ s.rd R.PW_THERM_FOLD_C = 105 ∧ (∀ o, s.reg o = regReset o) ∧ s.regsOk = true ∧ s.memOk = true ∧
  s.burnt 1 [] 0 0

/-- A blown fuse is never restored, and no reset clears one (R504, R550): whatever command runs, what is burnt stays burnt. -/
def Obligations.BurntStays : Prop :=
  ∀ (s t : State) (l : BitVec 2) (k : Map (BitVec 256)) (r : BitVec 4) (c : Nat),
    s.burnt l k r c → stepsTo s t → t.burnt l k r c
end

