-- ==== Sys2Proof/Laws/Map.lean ====
section
/-! SUPPORT. What the operations on sparse tables do: a read after a write, other keys, and the canonical form that every one keeps. -/

namespace Sys2Proof.Machine

variable {α : Type}

/-! ## Reads after writes -/

@[simp] theorem Map.get_nil (k : Nat) (d : α) : Map.get ([] : Map α) k d = d := rfl

theorem Map.get_del_same (m : Map α) (k : Nat) (d : α) : (m.del k).get k d = d := by
  induction m with
  | nil => rfl
  | cons e t ih =>
    obtain ⟨j, x⟩ := e
    by_cases h : j = k <;> simp_all [Map.del, Map.get]

theorem Map.get_del_other (m : Map α) (k j : Nat) (d : α) (h : j ≠ k) : (m.del k).get j d = m.get j d := by
  induction m with
  | nil => rfl
  | cons e t ih =>
    obtain ⟨i, x⟩ := e
    by_cases hi : i = k
    · subst hi; simp [Map.del, Map.get, ih, Ne.symm h]
    · simp [Map.del, Map.get, hi, ih]

theorem Map.get_ins_same (m : Map α) (k : Nat) (v d : α) : (m.ins k v).get k d = v := by
  induction m with
  | nil => simp [Map.ins, Map.get]
  | cons e t ih =>
    obtain ⟨j, x⟩ := e
    by_cases h : k < j
    · simp [Map.ins, h, Map.get]
    · by_cases h2 : j = k
      · simp [Map.ins, Map.get, h2]
      · simp [Map.ins, Map.get, h, h2, ih]

theorem Map.get_ins_other (m : Map α) (k j : Nat) (v d : α) (h : j ≠ k) : (m.ins k v).get j d = m.get j d := by
  induction m with
  | nil => simp [Map.ins, Map.get, Ne.symm h]
  | cons e t ih =>
    obtain ⟨i, x⟩ := e
    by_cases h1 : k < i
    · simp [Map.ins, h1, Map.get, Ne.symm h]
    · by_cases h2 : i = k
      · subst h2; simp [Map.ins, Map.get, Ne.symm h]
      · simp [Map.ins, Map.get, h1, h2, ih]

/-- A read of the key written gives the value written. -/
@[simp] theorem Map.get_put_same [DecidableEq α] (m : Map α) (k : Nat) (v d : α) : (m.put k v d).get k d = v := by
  unfold Map.put
  split
  · rename_i h; rw [h]; exact Map.get_del_same m k d
  · exact Map.get_ins_same m k v d

/-- A write leaves every other key. -/
theorem Map.get_put_other [DecidableEq α] (m : Map α) (k j : Nat) (v d e : α) (h : j ≠ k) : (m.put k v d).get j e = m.get j e := by
  unfold Map.put
  split
  · exact Map.get_del_other m k j e h
  · exact Map.get_ins_other m k j v e h

/-- A read after a write, for any key. -/
theorem Map.get_put [DecidableEq α] (m : Map α) (k j : Nat) (v d : α) : (m.put k v d).get j d = if j = k then v else m.get j d := by
  split
  · subst_vars; exact Map.get_put_same m _ v d
  · exact Map.get_put_other m k j v d d ‹_›

/-- A read of two tables set end to end: the first answers for the keys it lists. -/
theorem Map.get_append (x y : Map α) (k : Nat) (d : α) : Map.get (x ++ y) k d = Map.get x k (Map.get y k d) := by
  induction x with
  | nil => rfl
  | cons e t ih => obtain ⟨j, v⟩ := e; by_cases h : j = k <;> simp_all [Map.get]

/-- A read through a selection of keys. -/
theorem Map.get_filter (m : Map α) (p : Nat → Bool) (k : Nat) (d : α) :
    Map.get (m.filter (fun e => p e.1)) k d = if p k then Map.get m k d else d := by
  induction m with
  | nil => simp
  | cons e t ih =>
    obtain ⟨j, v⟩ := e
    by_cases hj : j = k
    · subst hj; by_cases hp : p j = true <;> simp_all [Map.get]
    · by_cases hp : p j = true <;> simp_all [Map.get]

/-- The byte at address `j` of the entries of a string. -/
theorem Map.get_listed (a : Nat) (b : Bytes) (j : Nat) (d : Byte) (hd : a ≤ j ∧ j < a + b.length → d = 0) :
    Map.get (Map.listed a b) j d = if a ≤ j ∧ j < a + b.length then b.getD (j - a) 0 else d := by
  induction b generalizing a with
  | nil => simp [Map.listed]
  | cons x t ih =>
    simp only [List.length_cons] at hd ⊢
    have ih' := ih (a + 1) (fun h => hd ⟨by omega, by omega⟩)
    by_cases h1 : j = a
    · subst h1
      have h0 : d = 0 := hd ⟨by omega, by omega⟩
      rw [if_pos ⟨by omega, by omega⟩, Nat.sub_self, List.getD_cons_zero, Map.listed]
      by_cases hx : x = 0
      · rw [if_pos hx, ih', if_neg (by omega), h0, hx]
      · rw [if_neg hx, Map.get, if_pos rfl]
    · have h5 : Map.get (Map.listed a (x :: t)) j d = Map.get (Map.listed (a + 1) t) j d := by
        rw [Map.listed]
        by_cases hx : x = 0
        · rw [if_pos hx]
        · rw [if_neg hx, Map.get, if_neg (Ne.symm h1)]
      rw [h5, ih']
      by_cases h2 : a ≤ j ∧ j < a + (t.length + 1)
      · have h4 : j - a = (j - (a + 1)) + 1 := by omega
        rw [if_pos (by omega), if_pos h2, h4, List.getD_cons_succ]
      · rw [if_neg (by omega), if_neg h2]

/-- The byte at address `j` after a string is written from address `a`. -/
theorem Map.get_store (m : Map Byte) (a : Nat) (b : Bytes) (j : Nat) :
    (m.store a b).get j 0 = if a ≤ j ∧ j < a + b.length then b.getD (j - a) 0 else m.get j 0 := by
  unfold Map.store
  rw [Map.get_append, Map.get_append, Map.get_filter m (fun k => decide (k < a)), Map.get_filter m (fun k => decide (a + b.length ≤ k)),
    Map.get_listed]
  · simp only [decide_eq_true_eq]
    by_cases h1 : j < a
    · have h2 : ¬(a ≤ j ∧ j < a + b.length) := by omega
      have h3 : ¬(a + b.length ≤ j) := by omega
      rw [if_pos h1, if_neg h2, if_neg h2, if_neg h3]
    · rw [if_neg h1]
      by_cases h2 : j < a + b.length
      · rw [if_pos ⟨by omega, h2⟩, if_pos ⟨by omega, h2⟩]
      · have h3 : ¬(a ≤ j ∧ j < a + b.length) := by omega
        rw [if_neg h3, if_neg h3, if_pos (by omega)]
  · intro h
    have h3 : ¬(a + b.length ≤ j) := by omega
    simp [h3]

/-- Bytes outside those written are as they were. -/
theorem Map.get_store_out (m : Map Byte) (a : Nat) (b : Bytes) (j : Nat) (h : j < a ∨ a + b.length ≤ j) :
    (m.store a b).get j 0 = m.get j 0 := by
  rw [Map.get_store, if_neg (by omega)]

/-- Bytes read from an address, one by one. -/
theorem Map.bytes_eq (m : Map Byte) (a n : Nat) : m.bytes a n = (List.range n).map (fun i => m.get (a + i) 0) := by
  induction n generalizing a with
  | zero => rfl
  | succ n ih =>
    simp [Map.bytes, ih, List.range_succ_eq_map, Function.comp_def]
    intro i _; congr 1; omega

/-- What was written is what a read of the same bytes gives. -/
theorem Map.bytes_store (m : Map Byte) (a : Nat) (b : Bytes) : (m.store a b).bytes a b.length = b := by
  rw [Map.bytes_eq]
  apply List.ext_getElem
  · simp
  · intro i h1 h2
    rw [List.getElem_map, List.getElem_range, Map.get_store, if_pos (by omega), Nat.add_sub_cancel_left]
    simp [h2]

/-! ## The canonical form -/

theorem Map.sorted_weaken {a b : Nat} (m : Map α) (h : a ≤ b) (hs : Map.sorted (some b) m = true) : Map.sorted (some a) m = true := by
  cases m with
  | nil => rfl
  | cons e t =>
    obtain ⟨k, x⟩ := e
    simp only [Map.sorted, Bool.and_eq_true, decide_eq_true_eq] at hs ⊢
    exact ⟨by omega, hs.2⟩

theorem Map.sorted_none {lo : Option Nat} (m : Map α) (hs : Map.sorted lo m = true) : Map.sorted none m = true := by
  cases m with
  | nil => rfl
  | cons e t => simp only [Map.sorted, Bool.and_eq_true] at hs ⊢; exact ⟨trivial, hs.2⟩

theorem Map.sorted_ins (m : Map α) (lo : Option Nat) (k : Nat) (v : α) (hs : Map.sorted lo m = true) (hk : ∀ b, lo = some b → b < k) :
    Map.sorted lo (m.ins k v) = true := by
  induction m generalizing lo with
  | nil => cases lo <;> simp_all [Map.ins, Map.sorted]
  | cons e t ih =>
    obtain ⟨j, x⟩ := e
    simp only [Map.sorted, Bool.and_eq_true] at hs
    by_cases h1 : k < j
    · simp only [Map.ins, h1, if_true, Map.sorted, Bool.and_eq_true, decide_eq_true_eq]
      refine ⟨?_, trivial, hs.2⟩
      cases lo <;> simp_all
    · by_cases h2 : j = k
      · subst h2; simp only [Map.ins, h1, if_false, if_true, Map.sorted, Bool.and_eq_true]; exact hs
      · simp only [Map.ins, h1, h2, if_false, Map.sorted, Bool.and_eq_true]
        exact ⟨hs.1, ih (some j) hs.2 (by intro b hb; cases hb; omega)⟩

theorem Map.sorted_filter (m : Map α) (lo : Option Nat) (p : Nat × α → Bool) (hs : Map.sorted lo m = true) :
    Map.sorted lo (List.filter p m) = true := by
  induction m generalizing lo with
  | nil => rfl
  | cons e t ih =>
    obtain ⟨j, x⟩ := e
    simp only [Map.sorted, Bool.and_eq_true] at hs
    by_cases hp : p (j, x) = true
    · simp only [List.filter_cons, hp, if_true, Map.sorted, Bool.and_eq_true]; exact ⟨hs.1, ih (some j) hs.2⟩
    · simp only [List.filter_cons, hp]
      refine ih lo ?_
      cases lo with
      | none => exact Map.sorted_none t hs.2
      | some b => simp at hs; exact Map.sorted_weaken t (by omega) hs.2

theorem Map.del_eq_filter (m : Map α) (k : Nat) : m.del k = List.filter (fun e => e.1 != k) m := by
  induction m with
  | nil => rfl
  | cons e t ih => obtain ⟨j, x⟩ := e; by_cases h : j = k <;> simp [Map.del, h, ih]

theorem Map.mem_ins (m : Map α) (k : Nat) (v : α) (e : Nat × α) (h : e ∈ m.ins k v) : e = (k, v) ∨ e ∈ m := by
  induction m with
  | nil => simp_all [Map.ins]
  | cons x t ih =>
    obtain ⟨j, y⟩ := x
    unfold Map.ins at h
    split at h
    · simpa using h
    · split at h
      · simp at h; rcases h with h | h <;> simp [h]
      · simp at h; rcases h with h | h
        · simp [h]
        · rcases ih h with h | h <;> simp [h]

/-- A write keeps the canonical form. -/
theorem Map.wf_put [DecidableEq α] (m : Map α) (k : Nat) (v d : α) (h : Map.wf m d = true) : Map.wf (m.put k v d) d = true := by
  simp only [Map.wf, Bool.and_eq_true, List.all_eq_true, decide_eq_true_eq] at h ⊢
  unfold Map.put
  split
  · rw [Map.del_eq_filter]
    exact ⟨Map.sorted_filter m none _ h.1, fun e he => h.2 e (List.mem_filter.mp he).1⟩
  · refine ⟨Map.sorted_ins m none k v h.1 (by simp), fun e he => ?_⟩
    rcases Map.mem_ins m k v e he with rfl | he
    · assumption
    · exact h.2 e he

/-- Keeping only some entries keeps the canonical form. -/
theorem Map.wf_filter [DecidableEq α] (m : Map α) (d : α) (p : Nat × α → Bool) (h : Map.wf m d = true) : Map.wf (List.filter p m) d = true := by
  simp only [Map.wf, Bool.and_eq_true, List.all_eq_true, decide_eq_true_eq] at h ⊢
  exact ⟨Map.sorted_filter m none p h.1, fun e he => h.2 e (List.mem_filter.mp he).1⟩

/-- Changing every entry keeps the canonical form. -/
theorem Map.wf_mapVals [DecidableEq α] (m : Map α) (d : α) (f : α → α) : Map.wf (m.mapVals d f) d = true := by
  induction m with
  | nil => rfl
  | cons e t ih => exact Map.wf_put _ e.1 (f e.2) d ih

/-- A read of a table in which every entry has changed. -/
theorem Map.get_mapVals [DecidableEq α] (m : Map α) (d : α) (f : α → α) (k : Nat) (h : f d = d) :
    (m.mapVals d f).get k d = f (m.get k d) := by
  induction m with
  | nil => exact h.symm
  | cons e t ih =>
    obtain ⟨j, x⟩ := e
    show Map.get (Map.put (Map.mapVals t d f) j (f x) d) k d = _
    rw [Map.get_put, Map.get]
    by_cases hj : j = k
    · subst hj; simp
    · rw [if_neg (Ne.symm hj), if_neg hj, ih]

/-- Two tables set end to end have rising keys where each has and every key of the first lies below those of the second. -/
theorem Map.sorted_append (x y : Map α) (lo : Option Nat) (b : Nat) (hx : Map.sorted lo x = true) (hb : ∀ e ∈ x, e.1 < b)
    (hlo : ∀ l, lo = some l → l < b) (hy : Map.sorted none y = true) (hy' : ∀ e ∈ y, b ≤ e.1) : Map.sorted lo (x ++ y) = true := by
  induction x generalizing lo with
  | nil =>
    cases y with
    | nil => rfl
    | cons e t =>
      obtain ⟨k, v⟩ := e
      have h1 := hy' (k, v) (by simp)
      simp only [Map.sorted, Bool.and_eq_true] at hy
      simp only [List.nil_append, Map.sorted, Bool.and_eq_true, hy.2, and_true]
      cases lo with
      | none => rfl
      | some l => have := hlo l rfl; simp only [decide_eq_true_eq]; omega
  | cons e t ih =>
    obtain ⟨k, v⟩ := e
    simp only [Map.sorted, Bool.and_eq_true] at hx
    simp only [List.cons_append, Map.sorted, Bool.and_eq_true]
    refine ⟨hx.1, ih (some k) hx.2 (fun e he => hb e (by simp [he])) ?_⟩
    intro l hl; cases hl; exact hb (k, v) (by simp)

/-- The entries of a string lie at its addresses, hold no zero, and rise. -/
theorem Map.mem_listed (a : Nat) (b : Bytes) (e : Nat × Byte) (h : e ∈ Map.listed a b) : a ≤ e.1 ∧ e.1 < a + b.length ∧ e.2 ≠ 0 := by
  induction b generalizing a with
  | nil => simp [Map.listed] at h
  | cons x t ih =>
    simp only [List.length_cons]
    by_cases hx : x = 0
    · have := ih (a + 1) (by simpa [Map.listed, hx] using h); exact ⟨by omega, by omega, this.2.2⟩
    · simp only [Map.listed, hx, if_false, List.mem_cons] at h
      rcases h with rfl | h
      · exact ⟨Nat.le_refl a, by simp, hx⟩
      · have := ih (a + 1) h; exact ⟨by omega, by omega, this.2.2⟩

theorem Map.sorted_listed (a : Nat) (b : Bytes) (lo : Option Nat) (hl : ∀ l, lo = some l → l < a) : Map.sorted lo (Map.listed a b) = true := by
  induction b generalizing a lo with
  | nil => rfl
  | cons x t ih =>
    by_cases hx : x = 0
    · simp only [Map.listed, hx, if_true]; exact ih (a + 1) lo (fun l h => by have := hl l h; omega)
    · simp only [Map.listed, hx, if_false, Map.sorted, Bool.and_eq_true]
      refine ⟨?_, ih (a + 1) (some a) (fun l h => by cases h; omega)⟩
      cases lo with
      | none => rfl
      | some l => simpa using hl l rfl

/-- A string written into a memory keeps its canonical form. -/
theorem Memory.wf_store (m : Map Byte) (a : Nat) (b : Bytes) (h : Memory.wf m = true) : Memory.wf (m.store a b) = true := by
  simp only [Memory.wf, Map.wf, Bool.and_eq_true, List.all_eq_true, decide_eq_true_eq] at h ⊢
  unfold Map.store
  refine ⟨Map.sorted_append _ _ none a (Map.sorted_filter m none _ h.1) ?_ (by simp) ?_ ?_, ?_⟩
  · intro e he; simpa using (List.mem_filter.mp he).2
  · refine Map.sorted_append _ _ none (a + b.length) (Map.sorted_listed a b none (by simp)) ?_ (by simp) (Map.sorted_filter m none _ h.1) ?_
    · intro e he; exact (Map.mem_listed a b e he).2.1
    · intro e he; simpa using (List.mem_filter.mp he).2
  · intro e he
    rcases List.mem_append.mp he with he | he
    · exact (Map.mem_listed a b e he).1
    · have := (List.mem_filter.mp he).2; simp at this; omega
  · intro e he
    rcases List.mem_append.mp he with he | he
    · exact h.2 e (List.mem_filter.mp he).1
    · rcases List.mem_append.mp he with he | he
      · exact (Map.mem_listed a b e he).2.2
      · exact h.2 e (List.mem_filter.mp he).1

/-- Clearing a range keeps the canonical form. -/
theorem Memory.wf_clear (m : Map Byte) (a n : Nat) (h : Memory.wf m = true) : Memory.wf (m.clear a n) = true :=
  Map.wf_filter m 0 _ h

end Sys2Proof.Machine
end

