-- ==== Sys2Proof/Laws/Regs.lean ====
section
/-! SUPPORT. Reading and writing register fields: a field reads what was written to it, and every field apart from it reads as before. -/

namespace Sys2Proof.Machine

/-! ## Bit fields -/

theorem setBits_split (v lsb n x : Nat) :
    setBits v lsb n x = v / 2 ^ (lsb + n) * 2 ^ (lsb + n) + x % 2 ^ n * 2 ^ lsb + v % 2 ^ lsb := by
  have h1 : v = v / 2 ^ lsb * 2 ^ lsb + v % 2 ^ lsb := (Nat.div_add_mod' v _).symm
  have h2 : v / 2 ^ lsb = v / 2 ^ lsb / 2 ^ n * 2 ^ n + v / 2 ^ lsb % 2 ^ n := (Nat.div_add_mod' _ _).symm
  have h3 : v / 2 ^ lsb / 2 ^ n = v / 2 ^ (lsb + n) := by rw [Nat.div_div_eq_div_mul, pow_add]
  unfold setBits bitsOf
  have h4 : v / 2 ^ (lsb + n) * 2 ^ (lsb + n) = v / 2 ^ (lsb + n) * 2 ^ n * 2 ^ lsb := by rw [pow_add]; ring
  rw [h3] at h2
  have h5 : v = v / 2 ^ (lsb + n) * 2 ^ n * 2 ^ lsb + v / 2 ^ lsb % 2 ^ n * 2 ^ lsb + v % 2 ^ lsb := by
    conv_lhs => rw [h1, h2]
    ring
  rw [h4]
  omega

theorem bitsOf_setBits_same (v lsb n x : Nat) : bitsOf (setBits v lsb n x) lsb n = x % 2 ^ n := by
  rw [setBits_split]
  unfold bitsOf
  have hp : 0 < 2 ^ lsb := Nat.two_pow_pos _
  have e : v / 2 ^ (lsb + n) * 2 ^ (lsb + n) + x % 2 ^ n * 2 ^ lsb + v % 2 ^ lsb =
      (v / 2 ^ (lsb + n) * 2 ^ n + x % 2 ^ n) * 2 ^ lsb + v % 2 ^ lsb := by rw [pow_add]; ring
  rw [e, Nat.add_comm, Nat.add_mul_div_right _ _ hp, Nat.div_eq_of_lt (Nat.mod_lt _ hp), Nat.zero_add, Nat.mul_add_mod_self_right, Nat.mod_mod]

theorem bitsOf_setBits_low (v lsb n x l m : Nat) (h : l + m ≤ lsb) : bitsOf (setBits v lsb n x) l m = bitsOf v l m := by
  obtain ⟨k, rfl⟩ := Nat.exists_eq_add_of_le h
  rw [setBits_split]
  unfold bitsOf
  have e1 : ∀ a : Nat, a / 2 ^ l % 2 ^ m = a % 2 ^ (l + m) / 2 ^ l := by
    intro a; rw [pow_add, Nat.mod_mul_right_div_self]
  rw [e1, e1]
  congr 1
  have e : v / 2 ^ (l + m + k + n) * 2 ^ (l + m + k + n) + x % 2 ^ n * 2 ^ (l + m + k) + v % 2 ^ (l + m + k) =
      (v / 2 ^ (l + m + k + n) * 2 ^ (k + n) + x % 2 ^ n * 2 ^ k) * 2 ^ (l + m) + v % 2 ^ (l + m + k) := by
    simp only [pow_add]; ring
  rw [e, Nat.mul_add_mod_self_right, Nat.mod_mod_of_dvd]
  exact pow_dvd_pow 2 (Nat.le_add_right _ _)

theorem bitsOf_setBits_high (v lsb n x l m : Nat) (h : lsb + n ≤ l) : bitsOf (setBits v lsb n x) l m = bitsOf v l m := by
  obtain ⟨k, rfl⟩ := Nat.exists_eq_add_of_le h
  unfold bitsOf
  have e : ∀ a : Nat, a / 2 ^ (lsb + n + k) = a / 2 ^ (lsb + n) / 2 ^ k := by
    intro a; rw [pow_add, Nat.div_div_eq_div_mul]
  rw [e, e v, setBits_split]
  congr 2
  have hlt : x % 2 ^ n * 2 ^ lsb + v % 2 ^ lsb < 2 ^ (lsb + n) := by
    have h1 : x % 2 ^ n + 1 ≤ 2 ^ n := Nat.mod_lt _ (Nat.two_pow_pos _)
    have h2 : v % 2 ^ lsb < 2 ^ lsb := Nat.mod_lt _ (Nat.two_pow_pos _)
    calc x % 2 ^ n * 2 ^ lsb + v % 2 ^ lsb < x % 2 ^ n * 2 ^ lsb + 2 ^ lsb := by omega
      _ = (x % 2 ^ n + 1) * 2 ^ lsb := by ring
      _ ≤ 2 ^ n * 2 ^ lsb := Nat.mul_le_mul_right _ h1
      _ = 2 ^ (lsb + n) := by rw [pow_add]; ring
  rw [Nat.add_assoc, Nat.add_comm, Nat.add_mul_div_right _ _ (Nat.two_pow_pos _), Nat.div_eq_of_lt hlt, Nat.zero_add]

theorem setBits_lt (v lsb n x : Nat) (hv : v < 2 ^ 32) (h : lsb + n ≤ 32) : setBits v lsb n x < 2 ^ 32 := by
  have h0 : setBits v lsb n x / 2 ^ 32 = 0 := by
    obtain ⟨k, hk⟩ := Nat.exists_eq_add_of_le h
    have h1 := bitsOf_setBits_high v lsb n x (lsb + n + k) (setBits v lsb n x + v + 1) (by omega)
    rw [← hk] at h1
    unfold bitsOf at h1
    rw [Nat.div_eq_of_lt hv, Nat.zero_mod] at h1
    have h2 : setBits v lsb n x / 2 ^ 32 < 2 ^ (setBits v lsb n x + v + 1) :=
      lt_of_le_of_lt (Nat.div_le_self _ _) (lt_of_lt_of_le Nat.lt_two_pow_self (Nat.pow_le_pow_right (by omega) (by omega)))
    rwa [Nat.mod_eq_of_lt h2] at h1
  exact Nat.lt_of_div_eq_zero (by positivity) h0

/-! ## Words and fields -/

/-- A register reads the word stored in it. -/
@[simp] theorem State.reg_setReg_same (s : State) (o : Nat) (w : W32) : (s.setReg o w).reg o = w := by
  simp [State.reg, State.setReg]

/-- Another register reads as before. -/
theorem State.reg_setReg_other (s : State) (o p : Nat) (w : W32) (h : p ≠ o) : (s.setReg o w).reg p = s.reg p := by
  simp [State.reg, State.setReg, Map.get_put_other _ _ _ _ _ _ h]

/-- Whether register `j` of a field lies elsewhere than register `i` of another, in offset or in bits. -/
def Fld.apart (f : Fld) (i : Nat) (g : Fld) (j : Nat) : Bool :=
  f.addr i != g.addr j || decide (g.lsb + g.width ≤ f.lsb) || decide (f.lsb + f.width ≤ g.lsb)

/-- A field reads what was stored in it, modulo its width. -/
theorem State.getI_setI_same (s : State) (f : Fld) (i v : Nat) (h : f.lsb + f.width ≤ 32) : (s.setI f i v).getI f i = v % 2 ^ f.width := by
  unfold State.getI State.setI
  rw [State.reg_setReg_same, BitVec.toNat_ofNat, Nat.mod_eq_of_lt (setBits_lt _ _ _ _ (s.reg (f.addr i)).isLt h)]
  exact bitsOf_setBits_same _ _ _ _

/-- A field apart from the one stored reads as before. -/
theorem State.getI_setI_other (s : State) (f g : Fld) (i j v : Nat) (hf : f.lsb + f.width ≤ 32) (h : f.apart i g j = true) :
    (s.setI f i v).getI g j = s.getI g j := by
  unfold State.getI State.setI
  by_cases ho : g.addr j = f.addr i
  · rw [ho, State.reg_setReg_same, BitVec.toNat_ofNat, Nat.mod_eq_of_lt (setBits_lt _ _ _ _ (s.reg (f.addr i)).isLt hf)]
    simp only [Fld.apart, Bool.or_eq_true, bne_iff_ne, decide_eq_true_eq] at h
    rcases h with (h | h) | h
    · exact absurd ho.symm h
    · exact bitsOf_setBits_low _ _ _ _ _ _ h
    · exact bitsOf_setBits_high _ _ _ _ _ _ h
  · rw [State.reg_setReg_other _ _ _ _ ho]

/-- A field of a single register reads what was stored in it, modulo its width. -/
theorem State.rd_wr_same (s : State) (f : Fld) (v : Nat) (h : f.lsb + f.width ≤ 32) : (s.wr f v).rd f = v % 2 ^ f.width :=
  s.getI_setI_same f 0 v h

/-- A field apart from the one stored reads as before. -/
theorem State.rd_wr_other (s : State) (f g : Fld) (v : Nat) (hf : f.lsb + f.width ≤ 32) (h : f.apart 0 g 0 = true) :
    (s.wr f v).rd g = s.rd g :=
  s.getI_setI_other f g 0 0 v hf h

/-- A one-bit field reads 1 exactly where 1 was stored. -/
theorem State.on_wr_same (s : State) (f : Fld) (v : Nat) (h : f.lsb + f.width ≤ 32) : (s.wr f v).on f = (v % 2 ^ f.width == 1) := by
  unfold State.on; rw [s.rd_wr_same f v h]

/-- A one-bit field apart from the one stored reads as before. -/
theorem State.on_wr_other (s : State) (f g : Fld) (v : Nat) (hf : f.lsb + f.width ≤ 32) (h : f.apart 0 g 0 = true) :
    (s.wr f v).on g = s.on g := by
  unfold State.on; rw [s.rd_wr_other f g v hf h]

/-- A stored field lies within its width. -/
theorem State.getI_lt (s : State) (f : Fld) (i : Nat) : s.getI f i < 2 ^ f.width := Nat.mod_lt _ (Nat.two_pow_pos _)

end Sys2Proof.Machine
end

