-- ==== Sys2Proof/Laws/State.lean ====
section
/-! SUPPORT. What each named update of the state leaves as it was, one lemma for each field, and what it writes. -/

namespace Sys2Proof.Machine

/-! ### setReg -/

@[simp] theorem State.setReg_tiles (s : State) (o : Nat) (w : W32) : (s.setReg o w).tiles = s.tiles := rfl
@[simp] theorem State.setReg_pos (s : State) (o : Nat) (w : W32) : (s.setReg o w).pos = s.pos := rfl
@[simp] theorem State.setReg_fab (s : State) (o : Nat) (w : W32) : (s.setReg o w).fab = s.fab := rfl
@[simp] theorem State.setReg_num (s : State) (o : Nat) (w : W32) : (s.setReg o w).num = s.num := rfl
@[simp] theorem State.setReg_hand (s : State) (o : Nat) (w : W32) : (s.setReg o w).hand = s.hand := rfl
@[simp] theorem State.setReg_host (s : State) (o : Nat) (w : W32) : (s.setReg o w).host = s.host := rfl
@[simp] theorem State.setReg_link (s : State) (o : Nat) (w : W32) : (s.setReg o w).link = s.link := rfl
@[simp] theorem State.setReg_clk (s : State) (o : Nat) (w : W32) : (s.setReg o w).clk = s.clk := rfl
@[simp] theorem State.setReg_pwr (s : State) (o : Nat) (w : W32) : (s.setReg o w).pwr = s.pwr := rfl
@[simp] theorem State.setReg_sup (s : State) (o : Nat) (w : W32) : (s.setReg o w).sup = s.sup := rfl
@[simp] theorem State.setReg_sec (s : State) (o : Nat) (w : W32) : (s.setReg o w).sec = s.sec := rfl
@[simp] theorem State.setReg_seq (s : State) (o : Nat) (w : W32) : (s.setReg o w).seq = s.seq := rfl
@[simp] theorem State.setReg_ticks (s : State) (o : Nat) (w : W32) : (s.setReg o w).ticks = s.ticks := rfl
@[simp] theorem State.setReg_resetTick (s : State) (o : Nat) (w : W32) : (s.setReg o w).resetTick = s.resetTick := rfl
@[simp] theorem State.setReg_free (s : State) (o : Nat) (w : W32) : (s.setReg o w).free = s.free := rfl
@[simp] theorem State.setReg_pending (s : State) (o : Nat) (w : W32) : (s.setReg o w).pending = s.pending := rfl

/-! ### setI -/

@[simp] theorem State.setI_tiles (s : State) (f : Fld) (i v : Nat) : (s.setI f i v).tiles = s.tiles := rfl
@[simp] theorem State.setI_pos (s : State) (f : Fld) (i v : Nat) : (s.setI f i v).pos = s.pos := rfl
@[simp] theorem State.setI_fab (s : State) (f : Fld) (i v : Nat) : (s.setI f i v).fab = s.fab := rfl
@[simp] theorem State.setI_num (s : State) (f : Fld) (i v : Nat) : (s.setI f i v).num = s.num := rfl
@[simp] theorem State.setI_hand (s : State) (f : Fld) (i v : Nat) : (s.setI f i v).hand = s.hand := rfl
@[simp] theorem State.setI_host (s : State) (f : Fld) (i v : Nat) : (s.setI f i v).host = s.host := rfl
@[simp] theorem State.setI_link (s : State) (f : Fld) (i v : Nat) : (s.setI f i v).link = s.link := rfl
@[simp] theorem State.setI_clk (s : State) (f : Fld) (i v : Nat) : (s.setI f i v).clk = s.clk := rfl
@[simp] theorem State.setI_pwr (s : State) (f : Fld) (i v : Nat) : (s.setI f i v).pwr = s.pwr := rfl
@[simp] theorem State.setI_sup (s : State) (f : Fld) (i v : Nat) : (s.setI f i v).sup = s.sup := rfl
@[simp] theorem State.setI_sec (s : State) (f : Fld) (i v : Nat) : (s.setI f i v).sec = s.sec := rfl
@[simp] theorem State.setI_seq (s : State) (f : Fld) (i v : Nat) : (s.setI f i v).seq = s.seq := rfl
@[simp] theorem State.setI_ticks (s : State) (f : Fld) (i v : Nat) : (s.setI f i v).ticks = s.ticks := rfl
@[simp] theorem State.setI_resetTick (s : State) (f : Fld) (i v : Nat) : (s.setI f i v).resetTick = s.resetTick := rfl
@[simp] theorem State.setI_free (s : State) (f : Fld) (i v : Nat) : (s.setI f i v).free = s.free := rfl
@[simp] theorem State.setI_pending (s : State) (f : Fld) (i v : Nat) : (s.setI f i v).pending = s.pending := rfl

/-! ### wr -/

@[simp] theorem State.wr_tiles (s : State) (f : Fld) (v : Nat) : (s.wr f v).tiles = s.tiles := rfl
@[simp] theorem State.wr_pos (s : State) (f : Fld) (v : Nat) : (s.wr f v).pos = s.pos := rfl
@[simp] theorem State.wr_fab (s : State) (f : Fld) (v : Nat) : (s.wr f v).fab = s.fab := rfl
@[simp] theorem State.wr_num (s : State) (f : Fld) (v : Nat) : (s.wr f v).num = s.num := rfl
@[simp] theorem State.wr_hand (s : State) (f : Fld) (v : Nat) : (s.wr f v).hand = s.hand := rfl
@[simp] theorem State.wr_host (s : State) (f : Fld) (v : Nat) : (s.wr f v).host = s.host := rfl
@[simp] theorem State.wr_link (s : State) (f : Fld) (v : Nat) : (s.wr f v).link = s.link := rfl
@[simp] theorem State.wr_clk (s : State) (f : Fld) (v : Nat) : (s.wr f v).clk = s.clk := rfl
@[simp] theorem State.wr_pwr (s : State) (f : Fld) (v : Nat) : (s.wr f v).pwr = s.pwr := rfl
@[simp] theorem State.wr_sup (s : State) (f : Fld) (v : Nat) : (s.wr f v).sup = s.sup := rfl
@[simp] theorem State.wr_sec (s : State) (f : Fld) (v : Nat) : (s.wr f v).sec = s.sec := rfl
@[simp] theorem State.wr_seq (s : State) (f : Fld) (v : Nat) : (s.wr f v).seq = s.seq := rfl
@[simp] theorem State.wr_ticks (s : State) (f : Fld) (v : Nat) : (s.wr f v).ticks = s.ticks := rfl
@[simp] theorem State.wr_resetTick (s : State) (f : Fld) (v : Nat) : (s.wr f v).resetTick = s.resetTick := rfl
@[simp] theorem State.wr_free (s : State) (f : Fld) (v : Nat) : (s.wr f v).free = s.free := rfl
@[simp] theorem State.wr_pending (s : State) (f : Fld) (v : Nat) : (s.wr f v).pending = s.pending := rfl

/-! ### bumpI -/

@[simp] theorem State.bumpI_tiles (s : State) (f : Fld) (i n : Nat) : (s.bumpI f i n).tiles = s.tiles := rfl
@[simp] theorem State.bumpI_pos (s : State) (f : Fld) (i n : Nat) : (s.bumpI f i n).pos = s.pos := rfl
@[simp] theorem State.bumpI_fab (s : State) (f : Fld) (i n : Nat) : (s.bumpI f i n).fab = s.fab := rfl
@[simp] theorem State.bumpI_num (s : State) (f : Fld) (i n : Nat) : (s.bumpI f i n).num = s.num := rfl
@[simp] theorem State.bumpI_hand (s : State) (f : Fld) (i n : Nat) : (s.bumpI f i n).hand = s.hand := rfl
@[simp] theorem State.bumpI_host (s : State) (f : Fld) (i n : Nat) : (s.bumpI f i n).host = s.host := rfl
@[simp] theorem State.bumpI_link (s : State) (f : Fld) (i n : Nat) : (s.bumpI f i n).link = s.link := rfl
@[simp] theorem State.bumpI_clk (s : State) (f : Fld) (i n : Nat) : (s.bumpI f i n).clk = s.clk := rfl
@[simp] theorem State.bumpI_pwr (s : State) (f : Fld) (i n : Nat) : (s.bumpI f i n).pwr = s.pwr := rfl
@[simp] theorem State.bumpI_sup (s : State) (f : Fld) (i n : Nat) : (s.bumpI f i n).sup = s.sup := rfl
@[simp] theorem State.bumpI_sec (s : State) (f : Fld) (i n : Nat) : (s.bumpI f i n).sec = s.sec := rfl
@[simp] theorem State.bumpI_seq (s : State) (f : Fld) (i n : Nat) : (s.bumpI f i n).seq = s.seq := rfl
@[simp] theorem State.bumpI_ticks (s : State) (f : Fld) (i n : Nat) : (s.bumpI f i n).ticks = s.ticks := rfl
@[simp] theorem State.bumpI_resetTick (s : State) (f : Fld) (i n : Nat) : (s.bumpI f i n).resetTick = s.resetTick := rfl
@[simp] theorem State.bumpI_free (s : State) (f : Fld) (i n : Nat) : (s.bumpI f i n).free = s.free := rfl
@[simp] theorem State.bumpI_pending (s : State) (f : Fld) (i n : Nat) : (s.bumpI f i n).pending = s.pending := rfl

/-! ### bump -/

@[simp] theorem State.bump_tiles (s : State) (f : Fld) (n : Nat) : (s.bump f n).tiles = s.tiles := rfl
@[simp] theorem State.bump_pos (s : State) (f : Fld) (n : Nat) : (s.bump f n).pos = s.pos := rfl
@[simp] theorem State.bump_fab (s : State) (f : Fld) (n : Nat) : (s.bump f n).fab = s.fab := rfl
@[simp] theorem State.bump_num (s : State) (f : Fld) (n : Nat) : (s.bump f n).num = s.num := rfl
@[simp] theorem State.bump_hand (s : State) (f : Fld) (n : Nat) : (s.bump f n).hand = s.hand := rfl
@[simp] theorem State.bump_host (s : State) (f : Fld) (n : Nat) : (s.bump f n).host = s.host := rfl
@[simp] theorem State.bump_link (s : State) (f : Fld) (n : Nat) : (s.bump f n).link = s.link := rfl
@[simp] theorem State.bump_clk (s : State) (f : Fld) (n : Nat) : (s.bump f n).clk = s.clk := rfl
@[simp] theorem State.bump_pwr (s : State) (f : Fld) (n : Nat) : (s.bump f n).pwr = s.pwr := rfl
@[simp] theorem State.bump_sup (s : State) (f : Fld) (n : Nat) : (s.bump f n).sup = s.sup := rfl
@[simp] theorem State.bump_sec (s : State) (f : Fld) (n : Nat) : (s.bump f n).sec = s.sec := rfl
@[simp] theorem State.bump_seq (s : State) (f : Fld) (n : Nat) : (s.bump f n).seq = s.seq := rfl
@[simp] theorem State.bump_ticks (s : State) (f : Fld) (n : Nat) : (s.bump f n).ticks = s.ticks := rfl
@[simp] theorem State.bump_resetTick (s : State) (f : Fld) (n : Nat) : (s.bump f n).resetTick = s.resetTick := rfl
@[simp] theorem State.bump_free (s : State) (f : Fld) (n : Nat) : (s.bump f n).free = s.free := rfl
@[simp] theorem State.bump_pending (s : State) (f : Fld) (n : Nat) : (s.bump f n).pending = s.pending := rfl

/-! ### wr64 -/

@[simp] theorem State.wr64_tiles (s : State) (lo hi : Fld) (v : Nat) : (s.wr64 lo hi v).tiles = s.tiles := rfl
@[simp] theorem State.wr64_pos (s : State) (lo hi : Fld) (v : Nat) : (s.wr64 lo hi v).pos = s.pos := rfl
@[simp] theorem State.wr64_fab (s : State) (lo hi : Fld) (v : Nat) : (s.wr64 lo hi v).fab = s.fab := rfl
@[simp] theorem State.wr64_num (s : State) (lo hi : Fld) (v : Nat) : (s.wr64 lo hi v).num = s.num := rfl
@[simp] theorem State.wr64_hand (s : State) (lo hi : Fld) (v : Nat) : (s.wr64 lo hi v).hand = s.hand := rfl
@[simp] theorem State.wr64_host (s : State) (lo hi : Fld) (v : Nat) : (s.wr64 lo hi v).host = s.host := rfl
@[simp] theorem State.wr64_link (s : State) (lo hi : Fld) (v : Nat) : (s.wr64 lo hi v).link = s.link := rfl
@[simp] theorem State.wr64_clk (s : State) (lo hi : Fld) (v : Nat) : (s.wr64 lo hi v).clk = s.clk := rfl
@[simp] theorem State.wr64_pwr (s : State) (lo hi : Fld) (v : Nat) : (s.wr64 lo hi v).pwr = s.pwr := rfl
@[simp] theorem State.wr64_sup (s : State) (lo hi : Fld) (v : Nat) : (s.wr64 lo hi v).sup = s.sup := rfl
@[simp] theorem State.wr64_sec (s : State) (lo hi : Fld) (v : Nat) : (s.wr64 lo hi v).sec = s.sec := rfl
@[simp] theorem State.wr64_seq (s : State) (lo hi : Fld) (v : Nat) : (s.wr64 lo hi v).seq = s.seq := rfl
@[simp] theorem State.wr64_ticks (s : State) (lo hi : Fld) (v : Nat) : (s.wr64 lo hi v).ticks = s.ticks := rfl
@[simp] theorem State.wr64_resetTick (s : State) (lo hi : Fld) (v : Nat) : (s.wr64 lo hi v).resetTick = s.resetTick := rfl
@[simp] theorem State.wr64_free (s : State) (lo hi : Fld) (v : Nat) : (s.wr64 lo hi v).free = s.free := rfl
@[simp] theorem State.wr64_pending (s : State) (lo hi : Fld) (v : Nat) : (s.wr64 lo hi v).pending = s.pending := rfl

/-! ### setTile -/

@[simp] theorem State.setTile_regs (s : State) (t : Nat) (x : Tile) : (s.setTile t x).regs = s.regs := rfl
@[simp] theorem State.setTile_pos (s : State) (t : Nat) (x : Tile) : (s.setTile t x).pos = s.pos := rfl
@[simp] theorem State.setTile_fab (s : State) (t : Nat) (x : Tile) : (s.setTile t x).fab = s.fab := rfl
@[simp] theorem State.setTile_num (s : State) (t : Nat) (x : Tile) : (s.setTile t x).num = s.num := rfl
@[simp] theorem State.setTile_hand (s : State) (t : Nat) (x : Tile) : (s.setTile t x).hand = s.hand := rfl
@[simp] theorem State.setTile_host (s : State) (t : Nat) (x : Tile) : (s.setTile t x).host = s.host := rfl
@[simp] theorem State.setTile_link (s : State) (t : Nat) (x : Tile) : (s.setTile t x).link = s.link := rfl
@[simp] theorem State.setTile_clk (s : State) (t : Nat) (x : Tile) : (s.setTile t x).clk = s.clk := rfl
@[simp] theorem State.setTile_pwr (s : State) (t : Nat) (x : Tile) : (s.setTile t x).pwr = s.pwr := rfl
@[simp] theorem State.setTile_sup (s : State) (t : Nat) (x : Tile) : (s.setTile t x).sup = s.sup := rfl
@[simp] theorem State.setTile_sec (s : State) (t : Nat) (x : Tile) : (s.setTile t x).sec = s.sec := rfl
@[simp] theorem State.setTile_seq (s : State) (t : Nat) (x : Tile) : (s.setTile t x).seq = s.seq := rfl
@[simp] theorem State.setTile_ticks (s : State) (t : Nat) (x : Tile) : (s.setTile t x).ticks = s.ticks := rfl
@[simp] theorem State.setTile_resetTick (s : State) (t : Nat) (x : Tile) : (s.setTile t x).resetTick = s.resetTick := rfl
@[simp] theorem State.setTile_free (s : State) (t : Nat) (x : Tile) : (s.setTile t x).free = s.free := rfl
@[simp] theorem State.setTile_pending (s : State) (t : Nat) (x : Tile) : (s.setTile t x).pending = s.pending := rfl

/-! ### onTile -/

@[simp] theorem State.onTile_regs (s : State) (t : Nat) (f : Tile → Tile) : (s.onTile t f).regs = s.regs := rfl
@[simp] theorem State.onTile_pos (s : State) (t : Nat) (f : Tile → Tile) : (s.onTile t f).pos = s.pos := rfl
@[simp] theorem State.onTile_fab (s : State) (t : Nat) (f : Tile → Tile) : (s.onTile t f).fab = s.fab := rfl
@[simp] theorem State.onTile_num (s : State) (t : Nat) (f : Tile → Tile) : (s.onTile t f).num = s.num := rfl
@[simp] theorem State.onTile_hand (s : State) (t : Nat) (f : Tile → Tile) : (s.onTile t f).hand = s.hand := rfl
@[simp] theorem State.onTile_host (s : State) (t : Nat) (f : Tile → Tile) : (s.onTile t f).host = s.host := rfl
@[simp] theorem State.onTile_link (s : State) (t : Nat) (f : Tile → Tile) : (s.onTile t f).link = s.link := rfl
@[simp] theorem State.onTile_clk (s : State) (t : Nat) (f : Tile → Tile) : (s.onTile t f).clk = s.clk := rfl
@[simp] theorem State.onTile_pwr (s : State) (t : Nat) (f : Tile → Tile) : (s.onTile t f).pwr = s.pwr := rfl
@[simp] theorem State.onTile_sup (s : State) (t : Nat) (f : Tile → Tile) : (s.onTile t f).sup = s.sup := rfl
@[simp] theorem State.onTile_sec (s : State) (t : Nat) (f : Tile → Tile) : (s.onTile t f).sec = s.sec := rfl
@[simp] theorem State.onTile_seq (s : State) (t : Nat) (f : Tile → Tile) : (s.onTile t f).seq = s.seq := rfl
@[simp] theorem State.onTile_ticks (s : State) (t : Nat) (f : Tile → Tile) : (s.onTile t f).ticks = s.ticks := rfl
@[simp] theorem State.onTile_resetTick (s : State) (t : Nat) (f : Tile → Tile) : (s.onTile t f).resetTick = s.resetTick := rfl
@[simp] theorem State.onTile_free (s : State) (t : Nat) (f : Tile → Tile) : (s.onTile t f).free = s.free := rfl
@[simp] theorem State.onTile_pending (s : State) (t : Nat) (f : Tile → Tile) : (s.onTile t f).pending = s.pending := rfl

/-! ### setPos -/

@[simp] theorem State.setPos_regs (s : State) (k : Nat) (x : Pos) : (s.setPos k x).regs = s.regs := rfl
@[simp] theorem State.setPos_tiles (s : State) (k : Nat) (x : Pos) : (s.setPos k x).tiles = s.tiles := rfl
@[simp] theorem State.setPos_fab (s : State) (k : Nat) (x : Pos) : (s.setPos k x).fab = s.fab := rfl
@[simp] theorem State.setPos_num (s : State) (k : Nat) (x : Pos) : (s.setPos k x).num = s.num := rfl
@[simp] theorem State.setPos_hand (s : State) (k : Nat) (x : Pos) : (s.setPos k x).hand = s.hand := rfl
@[simp] theorem State.setPos_host (s : State) (k : Nat) (x : Pos) : (s.setPos k x).host = s.host := rfl
@[simp] theorem State.setPos_link (s : State) (k : Nat) (x : Pos) : (s.setPos k x).link = s.link := rfl
@[simp] theorem State.setPos_clk (s : State) (k : Nat) (x : Pos) : (s.setPos k x).clk = s.clk := rfl
@[simp] theorem State.setPos_pwr (s : State) (k : Nat) (x : Pos) : (s.setPos k x).pwr = s.pwr := rfl
@[simp] theorem State.setPos_sup (s : State) (k : Nat) (x : Pos) : (s.setPos k x).sup = s.sup := rfl
@[simp] theorem State.setPos_sec (s : State) (k : Nat) (x : Pos) : (s.setPos k x).sec = s.sec := rfl
@[simp] theorem State.setPos_seq (s : State) (k : Nat) (x : Pos) : (s.setPos k x).seq = s.seq := rfl
@[simp] theorem State.setPos_ticks (s : State) (k : Nat) (x : Pos) : (s.setPos k x).ticks = s.ticks := rfl
@[simp] theorem State.setPos_resetTick (s : State) (k : Nat) (x : Pos) : (s.setPos k x).resetTick = s.resetTick := rfl
@[simp] theorem State.setPos_free (s : State) (k : Nat) (x : Pos) : (s.setPos k x).free = s.free := rfl
@[simp] theorem State.setPos_pending (s : State) (k : Nat) (x : Pos) : (s.setPos k x).pending = s.pending := rfl

/-! ### onPos -/

@[simp] theorem State.onPos_regs (s : State) (k : Nat) (f : Pos → Pos) : (s.onPos k f).regs = s.regs := rfl
@[simp] theorem State.onPos_tiles (s : State) (k : Nat) (f : Pos → Pos) : (s.onPos k f).tiles = s.tiles := rfl
@[simp] theorem State.onPos_fab (s : State) (k : Nat) (f : Pos → Pos) : (s.onPos k f).fab = s.fab := rfl
@[simp] theorem State.onPos_num (s : State) (k : Nat) (f : Pos → Pos) : (s.onPos k f).num = s.num := rfl
@[simp] theorem State.onPos_hand (s : State) (k : Nat) (f : Pos → Pos) : (s.onPos k f).hand = s.hand := rfl
@[simp] theorem State.onPos_host (s : State) (k : Nat) (f : Pos → Pos) : (s.onPos k f).host = s.host := rfl
@[simp] theorem State.onPos_link (s : State) (k : Nat) (f : Pos → Pos) : (s.onPos k f).link = s.link := rfl
@[simp] theorem State.onPos_clk (s : State) (k : Nat) (f : Pos → Pos) : (s.onPos k f).clk = s.clk := rfl
@[simp] theorem State.onPos_pwr (s : State) (k : Nat) (f : Pos → Pos) : (s.onPos k f).pwr = s.pwr := rfl
@[simp] theorem State.onPos_sup (s : State) (k : Nat) (f : Pos → Pos) : (s.onPos k f).sup = s.sup := rfl
@[simp] theorem State.onPos_sec (s : State) (k : Nat) (f : Pos → Pos) : (s.onPos k f).sec = s.sec := rfl
@[simp] theorem State.onPos_seq (s : State) (k : Nat) (f : Pos → Pos) : (s.onPos k f).seq = s.seq := rfl
@[simp] theorem State.onPos_ticks (s : State) (k : Nat) (f : Pos → Pos) : (s.onPos k f).ticks = s.ticks := rfl
@[simp] theorem State.onPos_resetTick (s : State) (k : Nat) (f : Pos → Pos) : (s.onPos k f).resetTick = s.resetTick := rfl
@[simp] theorem State.onPos_free (s : State) (k : Nat) (f : Pos → Pos) : (s.onPos k f).free = s.free := rfl
@[simp] theorem State.onPos_pending (s : State) (k : Nat) (f : Pos → Pos) : (s.onPos k f).pending = s.pending := rfl

/-! ### nearWr -/

@[simp] theorem State.nearWr_regs (s : State) (k off : Nat) (b : Bytes) : (s.nearWr k off b).regs = s.regs := rfl
@[simp] theorem State.nearWr_tiles (s : State) (k off : Nat) (b : Bytes) : (s.nearWr k off b).tiles = s.tiles := rfl
@[simp] theorem State.nearWr_fab (s : State) (k off : Nat) (b : Bytes) : (s.nearWr k off b).fab = s.fab := rfl
@[simp] theorem State.nearWr_num (s : State) (k off : Nat) (b : Bytes) : (s.nearWr k off b).num = s.num := rfl
@[simp] theorem State.nearWr_hand (s : State) (k off : Nat) (b : Bytes) : (s.nearWr k off b).hand = s.hand := rfl
@[simp] theorem State.nearWr_host (s : State) (k off : Nat) (b : Bytes) : (s.nearWr k off b).host = s.host := rfl
@[simp] theorem State.nearWr_link (s : State) (k off : Nat) (b : Bytes) : (s.nearWr k off b).link = s.link := rfl
@[simp] theorem State.nearWr_clk (s : State) (k off : Nat) (b : Bytes) : (s.nearWr k off b).clk = s.clk := rfl
@[simp] theorem State.nearWr_pwr (s : State) (k off : Nat) (b : Bytes) : (s.nearWr k off b).pwr = s.pwr := rfl
@[simp] theorem State.nearWr_sup (s : State) (k off : Nat) (b : Bytes) : (s.nearWr k off b).sup = s.sup := rfl
@[simp] theorem State.nearWr_sec (s : State) (k off : Nat) (b : Bytes) : (s.nearWr k off b).sec = s.sec := rfl
@[simp] theorem State.nearWr_seq (s : State) (k off : Nat) (b : Bytes) : (s.nearWr k off b).seq = s.seq := rfl
@[simp] theorem State.nearWr_ticks (s : State) (k off : Nat) (b : Bytes) : (s.nearWr k off b).ticks = s.ticks := rfl
@[simp] theorem State.nearWr_resetTick (s : State) (k off : Nat) (b : Bytes) : (s.nearWr k off b).resetTick = s.resetTick := rfl
@[simp] theorem State.nearWr_free (s : State) (k off : Nat) (b : Bytes) : (s.nearWr k off b).free = s.free := rfl
@[simp] theorem State.nearWr_pending (s : State) (k off : Nat) (b : Bytes) : (s.nearWr k off b).pending = s.pending := rfl

/-! ### stockWr -/

@[simp] theorem State.stockWr_regs (s : State) (k off : Nat) (b : Bytes) : (s.stockWr k off b).regs = s.regs := rfl
@[simp] theorem State.stockWr_tiles (s : State) (k off : Nat) (b : Bytes) : (s.stockWr k off b).tiles = s.tiles := rfl
@[simp] theorem State.stockWr_fab (s : State) (k off : Nat) (b : Bytes) : (s.stockWr k off b).fab = s.fab := rfl
@[simp] theorem State.stockWr_num (s : State) (k off : Nat) (b : Bytes) : (s.stockWr k off b).num = s.num := rfl
@[simp] theorem State.stockWr_hand (s : State) (k off : Nat) (b : Bytes) : (s.stockWr k off b).hand = s.hand := rfl
@[simp] theorem State.stockWr_host (s : State) (k off : Nat) (b : Bytes) : (s.stockWr k off b).host = s.host := rfl
@[simp] theorem State.stockWr_link (s : State) (k off : Nat) (b : Bytes) : (s.stockWr k off b).link = s.link := rfl
@[simp] theorem State.stockWr_clk (s : State) (k off : Nat) (b : Bytes) : (s.stockWr k off b).clk = s.clk := rfl
@[simp] theorem State.stockWr_pwr (s : State) (k off : Nat) (b : Bytes) : (s.stockWr k off b).pwr = s.pwr := rfl
@[simp] theorem State.stockWr_sup (s : State) (k off : Nat) (b : Bytes) : (s.stockWr k off b).sup = s.sup := rfl
@[simp] theorem State.stockWr_sec (s : State) (k off : Nat) (b : Bytes) : (s.stockWr k off b).sec = s.sec := rfl
@[simp] theorem State.stockWr_seq (s : State) (k off : Nat) (b : Bytes) : (s.stockWr k off b).seq = s.seq := rfl
@[simp] theorem State.stockWr_ticks (s : State) (k off : Nat) (b : Bytes) : (s.stockWr k off b).ticks = s.ticks := rfl
@[simp] theorem State.stockWr_resetTick (s : State) (k off : Nat) (b : Bytes) : (s.stockWr k off b).resetTick = s.resetTick := rfl
@[simp] theorem State.stockWr_free (s : State) (k off : Nat) (b : Bytes) : (s.stockWr k off b).free = s.free := rfl
@[simp] theorem State.stockWr_pending (s : State) (k off : Nat) (b : Bytes) : (s.stockWr k off b).pending = s.pending := rfl

/-! ### hostWr -/

@[simp] theorem State.hostWr_regs (s : State) (a : Nat) (b : Bytes) : (s.hostWr a b).regs = s.regs := rfl
@[simp] theorem State.hostWr_tiles (s : State) (a : Nat) (b : Bytes) : (s.hostWr a b).tiles = s.tiles := rfl
@[simp] theorem State.hostWr_pos (s : State) (a : Nat) (b : Bytes) : (s.hostWr a b).pos = s.pos := rfl
@[simp] theorem State.hostWr_fab (s : State) (a : Nat) (b : Bytes) : (s.hostWr a b).fab = s.fab := rfl
@[simp] theorem State.hostWr_num (s : State) (a : Nat) (b : Bytes) : (s.hostWr a b).num = s.num := rfl
@[simp] theorem State.hostWr_hand (s : State) (a : Nat) (b : Bytes) : (s.hostWr a b).hand = s.hand := rfl
@[simp] theorem State.hostWr_link (s : State) (a : Nat) (b : Bytes) : (s.hostWr a b).link = s.link := rfl
@[simp] theorem State.hostWr_clk (s : State) (a : Nat) (b : Bytes) : (s.hostWr a b).clk = s.clk := rfl
@[simp] theorem State.hostWr_pwr (s : State) (a : Nat) (b : Bytes) : (s.hostWr a b).pwr = s.pwr := rfl
@[simp] theorem State.hostWr_sup (s : State) (a : Nat) (b : Bytes) : (s.hostWr a b).sup = s.sup := rfl
@[simp] theorem State.hostWr_sec (s : State) (a : Nat) (b : Bytes) : (s.hostWr a b).sec = s.sec := rfl
@[simp] theorem State.hostWr_seq (s : State) (a : Nat) (b : Bytes) : (s.hostWr a b).seq = s.seq := rfl
@[simp] theorem State.hostWr_ticks (s : State) (a : Nat) (b : Bytes) : (s.hostWr a b).ticks = s.ticks := rfl
@[simp] theorem State.hostWr_resetTick (s : State) (a : Nat) (b : Bytes) : (s.hostWr a b).resetTick = s.resetTick := rfl
@[simp] theorem State.hostWr_free (s : State) (a : Nat) (b : Bytes) : (s.hostWr a b).free = s.free := rfl
@[simp] theorem State.hostWr_pending (s : State) (a : Nat) (b : Bytes) : (s.hostWr a b).pending = s.pending := rfl

/-! ### setSq -/

@[simp] theorem State.setSq_regs (s : State) (q : Nat) (x : SubQ) : (s.setSq q x).regs = s.regs := rfl
@[simp] theorem State.setSq_tiles (s : State) (q : Nat) (x : SubQ) : (s.setSq q x).tiles = s.tiles := rfl
@[simp] theorem State.setSq_pos (s : State) (q : Nat) (x : SubQ) : (s.setSq q x).pos = s.pos := rfl
@[simp] theorem State.setSq_fab (s : State) (q : Nat) (x : SubQ) : (s.setSq q x).fab = s.fab := rfl
@[simp] theorem State.setSq_num (s : State) (q : Nat) (x : SubQ) : (s.setSq q x).num = s.num := rfl
@[simp] theorem State.setSq_hand (s : State) (q : Nat) (x : SubQ) : (s.setSq q x).hand = s.hand := rfl
@[simp] theorem State.setSq_link (s : State) (q : Nat) (x : SubQ) : (s.setSq q x).link = s.link := rfl
@[simp] theorem State.setSq_clk (s : State) (q : Nat) (x : SubQ) : (s.setSq q x).clk = s.clk := rfl
@[simp] theorem State.setSq_pwr (s : State) (q : Nat) (x : SubQ) : (s.setSq q x).pwr = s.pwr := rfl
@[simp] theorem State.setSq_sup (s : State) (q : Nat) (x : SubQ) : (s.setSq q x).sup = s.sup := rfl
@[simp] theorem State.setSq_sec (s : State) (q : Nat) (x : SubQ) : (s.setSq q x).sec = s.sec := rfl
@[simp] theorem State.setSq_seq (s : State) (q : Nat) (x : SubQ) : (s.setSq q x).seq = s.seq := rfl
@[simp] theorem State.setSq_ticks (s : State) (q : Nat) (x : SubQ) : (s.setSq q x).ticks = s.ticks := rfl
@[simp] theorem State.setSq_resetTick (s : State) (q : Nat) (x : SubQ) : (s.setSq q x).resetTick = s.resetTick := rfl
@[simp] theorem State.setSq_free (s : State) (q : Nat) (x : SubQ) : (s.setSq q x).free = s.free := rfl
@[simp] theorem State.setSq_pending (s : State) (q : Nat) (x : SubQ) : (s.setSq q x).pending = s.pending := rfl

/-! ### setLport -/

@[simp] theorem State.setLport_regs (s : State) (p : Nat) (x : LPort) : (s.setLport p x).regs = s.regs := rfl
@[simp] theorem State.setLport_tiles (s : State) (p : Nat) (x : LPort) : (s.setLport p x).tiles = s.tiles := rfl
@[simp] theorem State.setLport_pos (s : State) (p : Nat) (x : LPort) : (s.setLport p x).pos = s.pos := rfl
@[simp] theorem State.setLport_fab (s : State) (p : Nat) (x : LPort) : (s.setLport p x).fab = s.fab := rfl
@[simp] theorem State.setLport_num (s : State) (p : Nat) (x : LPort) : (s.setLport p x).num = s.num := rfl
@[simp] theorem State.setLport_hand (s : State) (p : Nat) (x : LPort) : (s.setLport p x).hand = s.hand := rfl
@[simp] theorem State.setLport_host (s : State) (p : Nat) (x : LPort) : (s.setLport p x).host = s.host := rfl
@[simp] theorem State.setLport_clk (s : State) (p : Nat) (x : LPort) : (s.setLport p x).clk = s.clk := rfl
@[simp] theorem State.setLport_pwr (s : State) (p : Nat) (x : LPort) : (s.setLport p x).pwr = s.pwr := rfl
@[simp] theorem State.setLport_sup (s : State) (p : Nat) (x : LPort) : (s.setLport p x).sup = s.sup := rfl
@[simp] theorem State.setLport_sec (s : State) (p : Nat) (x : LPort) : (s.setLport p x).sec = s.sec := rfl
@[simp] theorem State.setLport_seq (s : State) (p : Nat) (x : LPort) : (s.setLport p x).seq = s.seq := rfl
@[simp] theorem State.setLport_ticks (s : State) (p : Nat) (x : LPort) : (s.setLport p x).ticks = s.ticks := rfl
@[simp] theorem State.setLport_resetTick (s : State) (p : Nat) (x : LPort) : (s.setLport p x).resetTick = s.resetTick := rfl
@[simp] theorem State.setLport_free (s : State) (p : Nat) (x : LPort) : (s.setLport p x).free = s.free := rfl
@[simp] theorem State.setLport_pending (s : State) (p : Nat) (x : LPort) : (s.setLport p x).pending = s.pending := rfl

/-! ### onCtx -/

@[simp] theorem State.onCtx_regs (s : State) (a : Site) (f : Ctx → Ctx) : (s.onCtx a f).regs = s.regs := rfl
@[simp] theorem State.onCtx_pos (s : State) (a : Site) (f : Ctx → Ctx) : (s.onCtx a f).pos = s.pos := rfl
@[simp] theorem State.onCtx_fab (s : State) (a : Site) (f : Ctx → Ctx) : (s.onCtx a f).fab = s.fab := rfl
@[simp] theorem State.onCtx_num (s : State) (a : Site) (f : Ctx → Ctx) : (s.onCtx a f).num = s.num := rfl
@[simp] theorem State.onCtx_hand (s : State) (a : Site) (f : Ctx → Ctx) : (s.onCtx a f).hand = s.hand := rfl
@[simp] theorem State.onCtx_host (s : State) (a : Site) (f : Ctx → Ctx) : (s.onCtx a f).host = s.host := rfl
@[simp] theorem State.onCtx_link (s : State) (a : Site) (f : Ctx → Ctx) : (s.onCtx a f).link = s.link := rfl
@[simp] theorem State.onCtx_clk (s : State) (a : Site) (f : Ctx → Ctx) : (s.onCtx a f).clk = s.clk := rfl
@[simp] theorem State.onCtx_pwr (s : State) (a : Site) (f : Ctx → Ctx) : (s.onCtx a f).pwr = s.pwr := rfl
@[simp] theorem State.onCtx_sup (s : State) (a : Site) (f : Ctx → Ctx) : (s.onCtx a f).sup = s.sup := rfl
@[simp] theorem State.onCtx_sec (s : State) (a : Site) (f : Ctx → Ctx) : (s.onCtx a f).sec = s.sec := rfl
@[simp] theorem State.onCtx_seq (s : State) (a : Site) (f : Ctx → Ctx) : (s.onCtx a f).seq = s.seq := rfl
@[simp] theorem State.onCtx_ticks (s : State) (a : Site) (f : Ctx → Ctx) : (s.onCtx a f).ticks = s.ticks := rfl
@[simp] theorem State.onCtx_resetTick (s : State) (a : Site) (f : Ctx → Ctx) : (s.onCtx a f).resetTick = s.resetTick := rfl
@[simp] theorem State.onCtx_free (s : State) (a : Site) (f : Ctx → Ctx) : (s.onCtx a f).free = s.free := rfl
@[simp] theorem State.onCtx_pending (s : State) (a : Site) (f : Ctx → Ctx) : (s.onCtx a f).pending = s.pending := rfl

/-! ### freeW -/

@[simp] theorem State.freeW_regs (s : State) : (s.freeW).2.regs = s.regs := rfl
@[simp] theorem State.freeW_tiles (s : State) : (s.freeW).2.tiles = s.tiles := rfl
@[simp] theorem State.freeW_pos (s : State) : (s.freeW).2.pos = s.pos := rfl
@[simp] theorem State.freeW_fab (s : State) : (s.freeW).2.fab = s.fab := rfl
@[simp] theorem State.freeW_num (s : State) : (s.freeW).2.num = s.num := rfl
@[simp] theorem State.freeW_hand (s : State) : (s.freeW).2.hand = s.hand := rfl
@[simp] theorem State.freeW_host (s : State) : (s.freeW).2.host = s.host := rfl
@[simp] theorem State.freeW_link (s : State) : (s.freeW).2.link = s.link := rfl
@[simp] theorem State.freeW_clk (s : State) : (s.freeW).2.clk = s.clk := rfl
@[simp] theorem State.freeW_pwr (s : State) : (s.freeW).2.pwr = s.pwr := rfl
@[simp] theorem State.freeW_sup (s : State) : (s.freeW).2.sup = s.sup := rfl
@[simp] theorem State.freeW_sec (s : State) : (s.freeW).2.sec = s.sec := rfl
@[simp] theorem State.freeW_seq (s : State) : (s.freeW).2.seq = s.seq := rfl
@[simp] theorem State.freeW_ticks (s : State) : (s.freeW).2.ticks = s.ticks := rfl
@[simp] theorem State.freeW_resetTick (s : State) : (s.freeW).2.resetTick = s.resetTick := rfl
@[simp] theorem State.freeW_pending (s : State) : (s.freeW).2.pending = s.pending := rfl

/-! ### freeL -/

@[simp] theorem State.freeL_regs (s : State) : (s.freeL).2.regs = s.regs := rfl
@[simp] theorem State.freeL_tiles (s : State) : (s.freeL).2.tiles = s.tiles := rfl
@[simp] theorem State.freeL_pos (s : State) : (s.freeL).2.pos = s.pos := rfl
@[simp] theorem State.freeL_fab (s : State) : (s.freeL).2.fab = s.fab := rfl
@[simp] theorem State.freeL_num (s : State) : (s.freeL).2.num = s.num := rfl
@[simp] theorem State.freeL_hand (s : State) : (s.freeL).2.hand = s.hand := rfl
@[simp] theorem State.freeL_host (s : State) : (s.freeL).2.host = s.host := rfl
@[simp] theorem State.freeL_link (s : State) : (s.freeL).2.link = s.link := rfl
@[simp] theorem State.freeL_clk (s : State) : (s.freeL).2.clk = s.clk := rfl
@[simp] theorem State.freeL_pwr (s : State) : (s.freeL).2.pwr = s.pwr := rfl
@[simp] theorem State.freeL_sup (s : State) : (s.freeL).2.sup = s.sup := rfl
@[simp] theorem State.freeL_sec (s : State) : (s.freeL).2.sec = s.sec := rfl
@[simp] theorem State.freeL_seq (s : State) : (s.freeL).2.seq = s.seq := rfl
@[simp] theorem State.freeL_ticks (s : State) : (s.freeL).2.ticks = s.ticks := rfl
@[simp] theorem State.freeL_resetTick (s : State) : (s.freeL).2.resetTick = s.resetTick := rfl
@[simp] theorem State.freeL_pending (s : State) : (s.freeL).2.pending = s.pending := rfl

/-! ### freeB -/

@[simp] theorem State.freeB_regs (s : State) : (s.freeB).2.regs = s.regs := rfl
@[simp] theorem State.freeB_tiles (s : State) : (s.freeB).2.tiles = s.tiles := rfl
@[simp] theorem State.freeB_pos (s : State) : (s.freeB).2.pos = s.pos := rfl
@[simp] theorem State.freeB_fab (s : State) : (s.freeB).2.fab = s.fab := rfl
@[simp] theorem State.freeB_num (s : State) : (s.freeB).2.num = s.num := rfl
@[simp] theorem State.freeB_hand (s : State) : (s.freeB).2.hand = s.hand := rfl
@[simp] theorem State.freeB_host (s : State) : (s.freeB).2.host = s.host := rfl
@[simp] theorem State.freeB_link (s : State) : (s.freeB).2.link = s.link := rfl
@[simp] theorem State.freeB_clk (s : State) : (s.freeB).2.clk = s.clk := rfl
@[simp] theorem State.freeB_pwr (s : State) : (s.freeB).2.pwr = s.pwr := rfl
@[simp] theorem State.freeB_sup (s : State) : (s.freeB).2.sup = s.sup := rfl
@[simp] theorem State.freeB_sec (s : State) : (s.freeB).2.sec = s.sec := rfl
@[simp] theorem State.freeB_seq (s : State) : (s.freeB).2.seq = s.seq := rfl
@[simp] theorem State.freeB_ticks (s : State) : (s.freeB).2.ticks = s.ticks := rfl
@[simp] theorem State.freeB_resetTick (s : State) : (s.freeB).2.resetTick = s.resetTick := rfl
@[simp] theorem State.freeB_pending (s : State) : (s.freeB).2.pending = s.pending := rfl

/-! ### Tiles, positions, contexts -/

@[simp] theorem State.tile_setTile_same (s : State) (t : Nat) (x : Tile) : (s.setTile t x).tile t = x := by
  simp [State.tile, State.setTile]
theorem State.tile_setTile_other (s : State) (t u : Nat) (x : Tile) (h : u ≠ t) : (s.setTile t x).tile u = s.tile u := by
  simp [State.tile, State.setTile, Map.get_put_other _ _ _ _ _ _ h]
@[simp] theorem State.tile_onTile_same (s : State) (t : Nat) (f : Tile → Tile) : (s.onTile t f).tile t = f (s.tile t) := by
  simp [State.onTile]
theorem State.tile_onTile_other (s : State) (t u : Nat) (f : Tile → Tile) (h : u ≠ t) : (s.onTile t f).tile u = s.tile u :=
  s.tile_setTile_other t u _ h
@[simp] theorem State.posn_setPos_same (s : State) (k : Nat) (x : Pos) : (s.setPos k x).posn k = x := by
  simp [State.posn, State.setPos]
theorem State.posn_setPos_other (s : State) (k j : Nat) (x : Pos) (h : j ≠ k) : (s.setPos k x).posn j = s.posn j := by
  simp [State.posn, State.setPos, Map.get_put_other _ _ _ _ _ _ h]
@[simp] theorem State.posn_onPos_same (s : State) (k : Nat) (f : Pos → Pos) : (s.onPos k f).posn k = f (s.posn k) := by
  simp [State.onPos]
theorem State.posn_onPos_other (s : State) (k j : Nat) (f : Pos → Pos) (h : j ≠ k) : (s.onPos k f).posn j = s.posn j :=
  s.posn_setPos_other k j _ h

/-- A context reads what was put there. -/
@[simp] theorem Tile.ctx_setCtx_same (x : Tile) (d : Bool) (c : Ctx) : (x.setCtx d c).ctx d = c := by
  cases d <;> rfl
/-- The other context of the tile stays. -/
theorem Tile.ctx_setCtx_other (x : Tile) (d e : Bool) (c : Ctx) (h : e ≠ d) : (x.setCtx d c).ctx e = x.ctx e := by
  cases d <;> cases e <;> simp_all [Tile.ctx, Tile.setCtx]
@[simp] theorem State.ctx_onCtx_same (s : State) (a : Site) (f : Ctx → Ctx) : (s.onCtx a f).ctx a = f (s.ctx a) := by
  simp [State.ctx, State.onCtx]

/-! ### Registers and vector registers of a context -/

/-- G0 reads as 0 (R145). -/
@[simp] theorem Ctx.gr_zero (c : Ctx) : c.gr 0 = 0 := rfl
/-- A general register but G0 reads what was written (R145). -/
theorem Ctx.gr_setGr_same (c : Ctx) (r : BitVec 5) (v : W32) (h : r ≠ 0) : (c.setGr r v).gr r = v := by
  unfold Ctx.gr Ctx.setGr
  rw [if_neg h, if_neg h]
  exact Map.get_put_same _ _ _ _
/-- Other general registers stay. -/
theorem Ctx.gr_setGr_other (c : Ctx) (r q : BitVec 5) (v : W32) (h : q ≠ r) : (c.setGr r v).gr q = c.gr q := by
  have hn : q.toNat ≠ r.toNat := fun e => h (BitVec.eq_of_toNat_eq e)
  unfold Ctx.gr Ctx.setGr
  split
  · rfl
  · split
    · rfl
    · simp [Map.get_put_other _ _ _ _ _ _ hn]
/-- G0 ignores writes (R145). -/
@[simp] theorem Ctx.setGr_zero (c : Ctx) (v : W32) : c.setGr 0 v = c := rfl

/-! ### Folds over a state -/

@[simp] theorem State.each_nil {α : Type} (s : State) (f : State → α → State) : s.each [] f = s := rfl
@[simp] theorem State.each_cons {α : Type} (s : State) (a : α) (l : List α) (f : State → α → State) :
    s.each (a :: l) f = (f s a).each l f := rfl
/-- What every turn of a fold leaves as it was, the fold leaves. -/
theorem State.each_keeps {α β : Type} (p : State → β) (l : List α) (f : State → α → State) (h : ∀ s a, p (f s a) = p s) (s : State) :
    p (s.each l f) = p s := by
  induction l generalizing s with
  | nil => rfl
  | cons a t ih => rw [State.each_cons, ih, h]

end Sys2Proof.Machine
end

