-- ==== Sys2Proof/Laws/Emit.lean ====
section
/-! SUPPORT. What emitting an event can change: the event stores, the event ring and its counters, and the journal; and what it leaves. -/

namespace Sys2Proof.Machine

theorem State.Quiet.refl (s : State) : State.Quiet s s := ⟨rfl, fun _ _ => rfl⟩
theorem State.Quiet.trans {s t u : State} (h : State.Quiet s t) (g : State.Quiet t u) : State.Quiet s u :=
  ⟨g.still.trans h.still, fun o ho => (g.reg o ho).trans (h.reg o ho)⟩

theorem State.quiet_setReg (s : State) (o : Nat) (w : W32) (h : eventReg o = true) : State.Quiet s (s.setReg o w) :=
  ⟨rfl, fun p hp => s.reg_setReg_other o p w (by rintro rfl; rw [h] at hp; cases hp)⟩

theorem State.quiet_hostWr (s : State) (a : Nat) (b : Bytes) : State.Quiet s (s.hostWr a b) := ⟨rfl, fun _ _ => rfl⟩

theorem State.quiet_bump (s : State) (f : Fld) (n : Nat) (h : eventReg (f.addr 0) = true) : State.Quiet s (s.bump f n) :=
  s.quiet_setReg _ _ h

theorem State.quiet_wr (s : State) (f : Fld) (v : Nat) (h : eventReg (f.addr 0) = true) : State.Quiet s (s.wr f v) :=
  s.quiet_setReg _ _ h

/-- What a message for the event ring can change. -/
theorem State.quiet_msix (s : State) (v : Nat) (h : v < 256) : State.Quiet s (s.msix v) := by
  unfold State.msix
  split
  · refine ⟨rfl, fun p hp => ?_⟩
    have hne : p ≠ 0xE01000 + 4 * (v / 32) := by
      rintro rfl
      simp only [eventReg, Bool.or_eq_false_iff, Bool.and_eq_false_iff, decide_eq_false_iff_not] at hp
      omega
    simp [State.msixWr, State.reg, Map.get_put_other _ _ _ _ _ _ hne]
  · exact s.quiet_hostWr _ _

theorem bitsOf_lt (v l n : Nat) : bitsOf v l n < 2 ^ n := Nat.mod_lt _ (Nat.two_pow_pos _)

theorem State.quiet_evt (s : State) (o : OutQ) : State.Quiet s (s.setOutq .evt o) := ⟨rfl, fun _ _ => rfl⟩

theorem State.quiet_ringSignal (s : State) (n : Nat) : State.Quiet s (s.ringSignal .evt n) := by
  unfold State.ringSignal
  dsimp only
  split
  · exact (s.quiet_evt _).trans (State.quiet_msix _ _ (bitsOf_lt _ _ 8))
  · exact s.quiet_evt _

theorem State.quiet_ringFill (s : State) (w n : Nat) (b : Bytes) : State.Quiet s (s.ringFill .evt w n b) := by
  induction n generalizing s b with
  | zero => exact State.Quiet.refl s
  | succ n ih =>
    refine State.Quiet.trans ?_ (ih _ _)
    exact ((s.quiet_hostWr _ _).trans (State.quiet_setReg _ _ _ rfl)).trans (State.quiet_evt _ _)

theorem State.quiet_ringPut (s : State) (b : Bytes) : State.Quiet s (s.ringPut .evt b) :=
  ((s.quiet_ringFill _ _ _).trans (State.quiet_hostWr _ _ _)).trans (State.quiet_ringSignal _ _)

theorem State.quiet_manage (s : State) (e : EvRec) : State.Quiet s (s.manage e) := by
  unfold State.manage
  split
  · exact State.Quiet.refl s
  · split
    · split
      · exact ⟨rfl, fun _ _ => rfl⟩
      · exact (s.quiet_bump R.SP_EVTQ_LOST_COUNT 1 rfl).trans ⟨rfl, fun _ _ => rfl⟩
    · split
      · exact ⟨rfl, fun _ _ => rfl⟩
      · exact (s.quiet_bump R.SP_EVTQ_LOST_COUNT 1 rfl).trans ⟨rfl, fun _ _ => rfl⟩

theorem State.quiet_trace (s : State) (q : W32) (l : List EvRec) :
    State.Quiet s { s with seq := q, sup := { s.sup with trace := l } } := ⟨rfl, fun _ _ => rfl⟩

theorem State.quiet_emitRaw (s : State) (c : Nat) (a : List Arg) : State.Quiet s (s.emitRaw c a) := by
  unfold State.emitRaw
  dsimp only
  generalize hu : State.manage _ _ = u
  have h : State.Quiet s u := by
    rw [← hu]
    exact State.Quiet.trans (State.quiet_trace s _ _) (State.quiet_manage _ _)
  refine h.trans ?_
  split
  · exact State.quiet_bump _ _ _ rfl
  · split
    · exact State.quiet_ringPut _ _
    · exact ((State.quiet_bump _ R.HI_EVT_LOST_COUNT 1 rfl).trans (State.quiet_wr _ R.HI_ERR_EVT_LOST 1 rfl)).trans ⟨rfl, fun _ _ => rfl⟩

theorem State.quiet_compactNote (s : State) : State.Quiet s s.compactNote := by
  unfold State.compactNote
  exact State.Quiet.trans (t := s.freeW.2) ⟨rfl, fun _ _ => rfl⟩ (State.quiet_emitRaw _ _ _)

theorem State.quiet_putRec (s : State) (t : BitVec 16) (b : Bytes) : State.Quiet s (s.putRec t b) := ⟨rfl, fun _ _ => rfl⟩

theorem State.quiet_compactBegin (s : State) : State.Quiet s s.compactBegin := by
  unfold State.compactBegin
  split
  · exact State.Quiet.refl s
  · exact State.Quiet.trans (t := { s with sec := { s.sec with compacting := true } }) ⟨rfl, fun _ _ => rfl⟩ (State.quiet_compactNote _)

theorem State.quiet_putRecs (l : List (BitVec 16 × Bytes)) (s : State) :
    State.Quiet s (l.foldl (fun (s : State) w => s.putRec w.1 w.2) s) := by
  induction l generalizing s with
  | nil => exact State.Quiet.refl s
  | cons w l ih => exact (s.quiet_putRec w.1 w.2).trans (ih _)

theorem State.quiet_compactEnd (s : State) : State.Quiet s s.compactEnd := by
  unfold State.compactEnd
  refine State.Quiet.trans ?_ (State.quiet_putRecs _ _)
  refine State.Quiet.trans ?_ (State.quiet_compactNote _)
  exact ⟨rfl, fun _ _ => rfl⟩

theorem State.quiet_compactFirst (s : State) : State.Quiet s s.compactFirst := by
  unfold State.compactFirst
  split
  · exact (s.quiet_compactBegin).trans (State.quiet_compactEnd _)
  · exact State.Quiet.refl s

theorem State.quiet_ledgerWait (s : State) (t : BitVec 16) (b : Bytes) : State.Quiet s (s.ledgerWait t b) := by
  unfold State.ledgerWait
  have h : ∀ u : State, State.Quiet s u → ∀ c a, State.Quiet s (u.emitRaw c a) := fun u hu c a => hu.trans (State.quiet_emitRaw u c a)
  have hq : State.Quiet s (if t = 5 then { s with hand := { s.hand with unwritten := s.hand.unwritten + 1 } }
      else { s with sec := { s.sec with waits := s.sec.waits ++ [(t, b)] } }) := by
    split <;> exact ⟨rfl, fun _ _ => rfl⟩
  dsimp only
  split
  · exact h _ hq _ _
  · exact hq

/-- What a record of the journal can change. -/
theorem State.quiet_ledger (s : State) (t : Nat) (b : Bytes) : State.Quiet s (s.ledger t b) := by
  unfold State.ledger
  refine State.Quiet.trans (s.quiet_compactFirst) ?_
  dsimp only
  split
  · exact State.quiet_ledgerWait _ _ _
  · split
    · exact (State.quiet_putRec _ _ _).trans (State.quiet_compactBegin _)
    · exact State.quiet_putRec _ _ _

/-- What an event can change. -/
theorem State.quiet_emit (s : State) (c : Nat) (a : List Arg) : State.Quiet s (s.emit c a) := by
  unfold State.emit
  dsimp only
  split
  · exact State.quiet_emitRaw _ _ _
  · have h := s.quiet_emitRaw c a
    split
    · refine State.Quiet.trans h (State.Quiet.trans ?_ (State.quiet_ledger _ _ _))
      exact ⟨rfl, fun _ _ => rfl⟩
    · exact State.Quiet.trans h ⟨rfl, fun _ _ => rfl⟩

/-! ## What a quiet change leaves, field by field -/

section
variable {s t : State} (h : State.Quiet s t)
include h
theorem State.Quiet.tiles : t.tiles = s.tiles := (by have := congrArg State.tiles h.still; exact this)
theorem State.Quiet.pos : t.pos = s.pos := (by have := congrArg State.pos h.still; exact this)
theorem State.Quiet.fab : t.fab = s.fab := (by have := congrArg State.fab h.still; exact this)
theorem State.Quiet.num : t.num = s.num := (by have := congrArg State.num h.still; exact this)
theorem State.Quiet.link : t.link = s.link := (by have := congrArg State.link h.still; exact this)
theorem State.Quiet.clk : t.clk = s.clk := (by have := congrArg State.clk h.still; exact this)
theorem State.Quiet.pwr : t.pwr = s.pwr := (by have := congrArg State.pwr h.still; exact this)
theorem State.Quiet.ticks : t.ticks = s.ticks := (by have := congrArg State.ticks h.still; exact this)
theorem State.Quiet.resetTick : t.resetTick = s.resetTick := (by have := congrArg State.resetTick h.still; exact this)
theorem State.Quiet.pending : t.pending = s.pending := (by have := congrArg State.pending h.still; exact this)
theorem State.Quiet.getI (f : Fld) (i : Nat) (ho : eventReg (f.addr i) = false) : t.getI f i = s.getI f i := by
  unfold State.getI; rw [h.reg _ ho]
theorem State.Quiet.rd (f : Fld) (ho : eventReg (f.addr 0) = false) : t.rd f = s.rd f := h.getI f 0 ho
theorem State.Quiet.on (f : Fld) (ho : eventReg (f.addr 0) = false) : t.on f = s.on f := by unfold State.on; rw [h.rd f ho]
end

@[simp] theorem State.emit_tiles (s : State) (c : Nat) (a : List Arg) : (s.emit c a).tiles = s.tiles := (s.quiet_emit c a).tiles
@[simp] theorem State.emit_pos (s : State) (c : Nat) (a : List Arg) : (s.emit c a).pos = s.pos := (s.quiet_emit c a).pos
@[simp] theorem State.emit_fab (s : State) (c : Nat) (a : List Arg) : (s.emit c a).fab = s.fab := (s.quiet_emit c a).fab
@[simp] theorem State.emit_num (s : State) (c : Nat) (a : List Arg) : (s.emit c a).num = s.num := (s.quiet_emit c a).num
@[simp] theorem State.emit_link (s : State) (c : Nat) (a : List Arg) : (s.emit c a).link = s.link := (s.quiet_emit c a).link
@[simp] theorem State.emit_clk (s : State) (c : Nat) (a : List Arg) : (s.emit c a).clk = s.clk := (s.quiet_emit c a).clk
@[simp] theorem State.emit_pwr (s : State) (c : Nat) (a : List Arg) : (s.emit c a).pwr = s.pwr := (s.quiet_emit c a).pwr
@[simp] theorem State.emit_ticks (s : State) (c : Nat) (a : List Arg) : (s.emit c a).ticks = s.ticks := (s.quiet_emit c a).ticks
@[simp] theorem State.emit_pending (s : State) (c : Nat) (a : List Arg) : (s.emit c a).pending = s.pending := (s.quiet_emit c a).pending
/-- A register that is not an event's reads as before an event. -/
theorem State.emit_rd (s : State) (c : Nat) (a : List Arg) (f : Fld) (h : eventReg (f.addr 0) = false) : (s.emit c a).rd f = s.rd f :=
  (s.quiet_emit c a).rd f h
theorem State.emit_on (s : State) (c : Nat) (a : List Arg) (f : Fld) (h : eventReg (f.addr 0) = false) : (s.emit c a).on f = s.on f :=
  (s.quiet_emit c a).on f h
theorem State.emit_getI (s : State) (c : Nat) (a : List Arg) (f : Fld) (i : Nat) (h : eventReg (f.addr i) = false) :
    (s.emit c a).getI f i = s.getI f i := (s.quiet_emit c a).getI f i h

end Sys2Proof.Machine
end

