-- ==== Sys2Proof/Laws/Seq.lean ====
section
/-! SUPPORT. What decode does, once for every instruction: with nothing in its way it runs the meaning's action on the state after the
decode of its word; and what the updates of one context leave as they were. -/

namespace Sys2Proof.Machine

/-! ### Frames of one context -/

theorem State.elsewhere_refl (s : State) (n : Nat) : s.elsewhere s n := ⟨rfl, fun _ _ => rfl⟩

theorem State.elsewhere_trans {s t u : State} {n : Nat} (h : s.elsewhere t n) (g : t.elsewhere u n) : s.elsewhere u n := by
  refine ⟨?_, fun m hm => (g.2 m hm).trans (h.2 m hm)⟩
  rw [g.1, h.1]

theorem State.elsewhere_onTile (s : State) (n : Nat) (f : Tile → Tile) : s.elsewhere (s.onTile n f) n :=
  ⟨rfl, fun m hm => s.tile_onTile_other n m f hm⟩

theorem State.elsewhere_setTile (s : State) (n : Nat) (x : Tile) : s.elsewhere (s.setTile n x) n :=
  ⟨rfl, fun m hm => s.tile_setTile_other n m x hm⟩

theorem State.elsewhere_free (s : State) (n k : Nat) : s.elsewhere { s with free := k } n := ⟨rfl, fun _ _ => rfl⟩

theorem Tile.setCtx_setCtx (x : Tile) (d : Bool) (c e : Ctx) : (x.setCtx d c).setCtx d e = x.setCtx d e := by
  cases d <;> rfl

theorem Tile.setCtx_self (x : Tile) (d : Bool) : x.setCtx d (x.ctx d) = x := by cases d <;> rfl

/-- A change of one context changes nothing else. -/
theorem State.onlyCtx_onCtx (s : State) (a : Site) (f : Ctx → Ctx) : s.onlyCtx (s.onCtx a f) a :=
  ⟨s.elsewhere_onTile _ _, by simp [State.onCtx, State.ctx]⟩

theorem State.onlyCtx_free (s t : State) (a : Site) (k : Nat) (h : s.onlyCtx t a) : s.onlyCtx { t with free := k } a :=
  ⟨State.elsewhere_trans h.1 (State.elsewhere_free t _ k), h.2⟩

theorem State.ctx_eccCe (s : State) (a : Site) (n : Nat) (e : Ecc) : (s.eccCe n e).ctx a = s.ctx a := by
  unfold State.eccCe
  split
  · unfold State.sramCe State.stat State.ctx
    by_cases h : a.tile = n
    · rw [h, State.tile_onTile_same]; cases a.side <;> rfl
    · rw [State.tile_onTile_other _ _ _ _ h]
  · rfl

theorem State.elsewhere_eccCe (s : State) (n : Nat) (e : Ecc) : s.elsewhere (s.eccCe n e) n := by
  unfold State.eccCe State.sramCe State.stat
  split
  · exact s.elsewhere_onTile n _
  · exact s.elsewhere_refl _

/-- What decode leaves in its context. -/
@[simp] theorem State.ctx_decoded (s : State) (a : Site) (w : W64) : (s.decoded a w).ctx a = (s.ctx a).fold w := by
  simp [State.decoded, State.ctx_eccCe]

theorem State.elsewhere_decoded (s : State) (a : Site) (w : W64) : s.elsewhere (s.decoded a w) a.tile :=
  by
  unfold State.decoded State.onCtx
  exact State.elsewhere_trans (s.elsewhere_eccCe a.tile a.fetch) (State.elsewhere_onTile _ a.tile _)

theorem State.elsewhere_fab {s t : State} {n : Nat} (h : s.elsewhere t n) : t.fab = s.fab := by rw [h.1]
theorem State.elsewhere_regs {s t : State} {n : Nat} (h : s.elsewhere t n) : t.regs = s.regs := by rw [h.1]

@[simp] theorem State.fab_decoded (s : State) (a : Site) (w : W64) : (s.decoded a w).fab = s.fab :=
  State.elsewhere_fab (s.elsewhere_decoded a w)

@[simp] theorem State.fab_onCtx (s : State) (a : Site) (f : Ctx → Ctx) : (s.onCtx a f).fab = s.fab := rfl

/-! ### Decode -/

/-- With nothing in its way, decode runs the action on the state after the decode of the word. -/
theorem State.instr_run (s : State) (a : Site) (w : W64) (reads : List (BitVec 5)) (bad : Ctx → Option Nat)
    (run : BitVec 14 → State → State) (h : s.canDecode a w reads) (hb : bad (s.ctx a) = none) :
    s.instr a w reads bad run = run (s.ctx a).pc (s.decoded a w) := by
  obtain ⟨h1, h2, h3, h4, h5, h6⟩ := h
  unfold State.instr
  simp only [h1, h3, h4, h5, h6, hb, if_neg h2]
  rw [if_neg (by simp), if_neg (by simp), if_neg (by simp)]
  rfl

/-- A scalar operation changes its context alone. -/
theorem State.scalar_run (s : State) (a : Site) (op : Nat) (f : SFmt) (reads : List (BitVec 5)) (g : Ctx → Ctx)
    (h : s.canDecode a (wordOf 0 op (sLow f)) reads) :
    s.scalar a op f reads g = (s.decoded a (wordOf 0 op (sLow f))).onCtx a g :=
  s.instr_run _ _ _ _ _ h rfl

theorem State.branch_run (s : State) (a : Site) (op : Nat) (f : SFmt) (reads : List (BitVec 5)) (g : Ctx → Ctx)
    (h : s.canDecode a (wordOf 7 op (sLow f)) reads) :
    s.branch a op f reads g = (s.decoded a (wordOf 7 op (sLow f))).onCtx a g :=
  s.instr_run _ _ _ _ _ h rfl

/-- A marker joins the queue of its context at beat TC. -/
theorem State.marker_run (s : State) (a : Site) (n : Nat) (f : SFmt) (op : TOp) (h : s.canDecode a (wordOf 7 n (sLow f)) []) :
    s.marker a n f op = (s.decoded a (wordOf 7 n (sLow f))).onCtx a (fun c => c.enqueue op (s.ctx a).pc c.tc 0 0) :=
  s.instr_run _ _ _ _ _ h rfl

@[simp] theorem Ctx.target_fold (c : Ctx) (w : W64) (dt : BitVec 8) : (c.fold w).target dt = c.target dt := rfl
@[simp] theorem Ctx.gr_fold (c : Ctx) (w : W64) (r : BitVec 5) : (c.fold w).gr r = c.gr r := rfl

/-- Writing a general register through a context. -/
theorem State.wroteG_onCtx (s : State) (a : Site) (r : BitVec 5) (v : W32) (g : Ctx → W32) (hv : g (s.ctx a) = v) :
    s.wroteG (s.onCtx a (fun c => c.setGr r (g c))) a r v := by
  refine ⟨s.onlyCtx_onCtx _ _, ?_, fun q => ?_⟩
  · simp only [State.ctx_onCtx_same]
    unfold Ctx.setGr
    split <;> rfl
  · simp only [State.ctx_onCtx_same, hv]
    by_cases hq : q = r
    · subst hq
      by_cases h0 : q = 0
      · subst h0
        rw [if_neg (fun h => h.2 rfl)]
        rfl
      · rw [Ctx.gr_setGr_same _ _ _ h0, if_pos ⟨rfl, h0⟩]
    · rw [Ctx.gr_setGr_other _ _ _ _ hq, if_neg (fun h => hq h.1)]

/-- A timed word joins its unit's queue. -/
theorem State.timed_queues (s : State) (a : Site) (w : W64) (dt : BitVec 8) (op : TOp) (ga gs : BitVec 5) (reads : List (BitVec 5))
    (h : s.canDecode a w reads) (hq : (s.ctx a).full op.unit = false) :
    s.timed a w dt op ga gs reads =
      (s.timedTo a w dt).onCtx a (fun c => c.enqueue op (s.ctx a).pc ((s.ctx a).target dt) ga gs) := by
  unfold State.timed
  rw [hq, if_neg (by simp), s.instr_run _ _ _ _ _ h rfl]
  simp only [State.ctx_decoded, Ctx.target_fold, State.fab_onCtx, State.fab_decoded]
  unfold State.timedTo
  rfl

end Sys2Proof.Machine
end

