-- ==== Sys2Proof/Laws/Issue.lean ====
section
/-! SUPPORT. Issue of one timed instruction: with idle units and nothing in its way, what a command of the timed classes does is what its
instruction does at issue, on the state `issued`. -/

namespace Sys2Proof.Machine

/-! ### Idle contexts -/

theorem Ctx.turns_idle (c : Ctx) (h : c.idle) : c.turns = [] := by
  obtain ⟨h1, h2, h3, h4, h5, h6, h7⟩ := h
  simp [Ctx.turns, h1, h2, h4, h5, h6]

/-- Nothing can happen in a context that is idle. -/
theorem State.nextTurn_idle (s : State) (a : Site) (h : (s.ctx a).idle) : s.nextTurn a = none := by
  have h3 := h.2.2.1
  unfold State.nextTurn State.fillOn Ctx.due
  rw [h3, Ctx.turns_idle _ h]
  split <;> rfl

/-- Nothing issues in a context that does not run. -/
theorem State.nextTurn_halted (s : State) (a : Site) (h : (s.ctx a).running = false) : s.nextTurn a = none := by
  simp [State.nextTurn, State.issues, h]

theorem State.turnsOf_none (s : State) (a : Site) (n : Nat) (h : s.nextTurn a = none) : s.turnsOf a n = s := by
  cases n with
  | zero => rfl
  | succ n => simp [State.turnsOf, h]

theorem State.pumpOut_empty (s : State) (a : Site) (h : ((s.tile a.tile).ctx a.side).out = []) : s.pumpOut a = s := by
  simp [State.pumpOut, h]

theorem State.freezeCheck_off (s : State) (h : s.fab.freezing = false) : s.freezeCheck = s := by
  simp [State.freezeCheck, h]

/-- Nothing waits in a tile that can go on now. -/
def State.rests (s : State) (n : Nat) : Prop :=
  s.nextTurn (siteOf n false) = none ∧ s.nextTurn (siteOf n true) = none ∧ (s.tile n).prim.out = [] ∧ (s.tile n).side.out = [] ∧
    s.fab.freezing = false

theorem State.rests_of_calm (s : State) (n : Nat) (h : s.calm n) : s.rests n :=
  ⟨s.nextTurn_idle _ h.1, s.nextTurn_idle _ h.2.1, h.1.2.2.2.2.2.2, h.2.1.2.2.2.2.2.2, h.2.2⟩

theorem State.advance_rests (s : State) (n : Nat) (h : s.rests n) : s.advance n = s := by
  obtain ⟨h1, h2, h3, h4, h5⟩ := h
  have p1 : s.pumpOut (siteOf n false) = s := s.pumpOut_empty _ h3
  have p2 : s.pumpOut (siteOf n true) = s := s.pumpOut_empty _ h4
  unfold State.advance
  simp only [p1, p2, s.turnsOf_none _ _ h1, s.turnsOf_none _ _ h2, s.freezeCheck_off h5]

/-- One turn is taken, and then the tile rests. -/
theorem State.advance_one (s t : State) (n : Nat) (side : Bool) (h : s.nextTurn (siteOf n side) = some t)
    (ho : s.nextTurn (siteOf n (!side)) = none) (h3 : (s.tile n).prim.out = []) (h4 : (s.tile n).side.out = []) (ht : t.rests n) :
    s.advance n = t := by
  obtain ⟨t1, t2, t3, t4, t5⟩ := ht
  have p1 : s.pumpOut (siteOf n false) = s := s.pumpOut_empty _ h3
  have p2 : s.pumpOut (siteOf n true) = s := s.pumpOut_empty _ h4
  have q1 : t.pumpOut (siteOf n false) = t := t.pumpOut_empty _ t3
  have q2 : t.pumpOut (siteOf n true) = t := t.pumpOut_empty _ t4
  have e : turnLimit = 99999 + 1 := rfl
  unfold State.advance
  simp only [p1, p2]
  cases side
  · have r : s.turnsOf (siteOf n false) turnLimit = t := by
      rw [e, State.turnsOf, h]; exact t.turnsOf_none _ _ t1
    rw [r, t.turnsOf_none _ _ t2, q1, q2, t.freezeCheck_off t5]
  · have r : s.turnsOf (siteOf n true) turnLimit = t := by
      rw [e, State.turnsOf, h]; exact t.turnsOf_none _ _ t2
    rw [s.turnsOf_none (siteOf n false) _ ho, r, q1, q2, t.freezeCheck_off t5]

/-! ### What slips leave -/

/-- Whether a register counts the slips of a field. -/
def slipReg (o : Nat) : Bool := decide (R.FB_FSLIP_SLIPS.addr 0 ≤ o) && decide (o < R.FB_FSLIP_SLIPS.addr 48)

theorem slipReg_addr (f : Nat) (h : f < 48) : slipReg (R.FB_FSLIP_SLIPS.addr f) = true := by
  unfold slipReg Fld.addr R.FB_FSLIP_SLIPS
  rw [Bool.and_eq_true]
  constructor <;> (apply decide_eq_true; dsimp only; omega)

theorem State.fieldSlip_frame (s : State) (f i n : Nat) (hf : f < 48) :
    (s.fieldSlip f i n).tiles = s.tiles ∧ (s.fieldSlip f i n).pwr = s.pwr ∧ (s.fieldSlip f i n).ticks = s.ticks ∧
      (s.fieldSlip f i n).fab.started = s.fab.started ∧ (s.fieldSlip f i n).fab.freezing = s.fab.freezing ∧
      ∀ o, eventReg o = false → slipReg o = false → (s.fieldSlip f i n).reg o = s.reg o := by
  unfold State.fieldSlip
  dsimp only
  split
  · exact ⟨rfl, rfl, rfl, rfl, rfl, fun _ _ _ => rfl⟩
  · have hr : ∀ (u : State) o v, slipReg o = false → (u.setReg (R.FB_FSLIP_SLIPS.addr f) v).reg o = u.reg o := by
      intro u o v ho
      refine u.reg_setReg_other _ _ _ ?_
      rintro rfl
      rw [slipReg_addr f hf] at ho; cases ho
    split
    · refine ⟨by simp only [State.emit_tiles]; rfl, by simp only [State.emit_pwr]; rfl, by simp only [State.emit_ticks]; rfl,
        by simp only [State.emit_fab]; rfl, by simp only [State.emit_fab]; rfl, fun o ho hs => ?_⟩
      rw [(State.quiet_emit _ _ _).reg o ho]
      exact hr _ o _ hs
    · exact ⟨rfl, rfl, rfl, rfl, rfl, fun o _ hs => hr _ o _ hs⟩

/-- What a slip leaves as it was: every tile but its own, and there all but the count; the slips of the fields aside, every register that is not an
event's. -/
theorem State.slip_frame (s : State) (n k : Nat) (hf : tileField n < 48) :
    (∀ m, m ≠ n → (s.slip n k).tile m = s.tile m) ∧ (s.slip n k).tile n = { s.tile n with slip := satAdd (s.tile n).slip k } ∧
      (s.slip n k).fab.started = s.fab.started ∧ (s.slip n k).fab.freezing = s.fab.freezing ∧
      ∀ o, eventReg o = false → slipReg o = false → (s.slip n k).reg o = s.reg o := by
  have h := State.fieldSlip_frame (s.setTile n { s.tile n with slip := satAdd (s.tile n).slip k }) (tileField n)
    ((s.tile n).now false (s.tile n).prim.bc.toNat) k hf
  unfold State.slip
  dsimp only
  refine ⟨fun m hm => ?_, ?_, h.2.2.2.1, h.2.2.2.2.1, h.2.2.2.2.2⟩
  · unfold State.tile at *
    rw [h.1]
    exact s.tile_setTile_other n m _ hm
  · unfold State.tile at *
    rw [h.1]
    exact s.tile_setTile_same n _

/-! ### One update after another in a tile -/

theorem Map.del_ins {α : Type} (m : Map α) (k : Nat) (v : α) : (m.ins k v).del k = m.del k := by
  induction m with
  | nil => simp [Map.ins, Map.del]
  | cons e t ih =>
    obtain ⟨j, x⟩ := e
    by_cases h : k < j
    · simp [Map.ins, Map.del, h]
    · by_cases g : j = k
      · simp [Map.ins, Map.del, g]
      · simp [Map.ins, Map.del, h, g, ih]

theorem Map.ins_ins {α : Type} (m : Map α) (k : Nat) (v w : α) : (m.ins k v).ins k w = m.ins k w := by
  induction m with
  | nil => simp [Map.ins]
  | cons e t ih =>
    obtain ⟨j, x⟩ := e
    by_cases h : k < j
    · simp [Map.ins, h]
    · by_cases g : j = k
      · simp [Map.ins, g]
      · simp [Map.ins, h, g, ih]

/-- Of two writes to a tile the last counts, where the first left the tile listed. -/
theorem State.setTile_setTile (s : State) (n : Nat) (x y : Tile) (h : x ≠ Tile.reset) : (s.setTile n x).setTile n y = s.setTile n y := by
  unfold State.setTile Map.put
  rw [if_neg h]
  split
  · simp only [Map.del_ins]
  · simp only [Map.ins_ins]

/-- A tile in which a context runs is listed. -/
theorem Tile.ne_reset (x : Tile) (d : Bool) (h : (x.ctx d).running = true) : x ≠ Tile.reset := by
  rintro rfl
  cases d <;> exact absurd h (by decide)

theorem State.onTile_onTile (s : State) (n : Nat) (f g : Tile → Tile) (h : f (s.tile n) ≠ Tile.reset) :
    (s.onTile n f).onTile n g = s.onTile n (fun x => g (f x)) := by
  unfold State.onTile
  rw [State.tile_setTile_same, State.setTile_setTile _ _ _ _ h]

/-! ### Issue -/

/-- The schedule of a context that is ready runs on a tile of the wafer. -/
theorem State.field_of_ready (s : State) (a : Site) (h : s.ready a = true) : tileField a.tile < 48 := by
  unfold State.ready at h
  simp only [Bool.and_eq_true] at h
  have hf : s.fieldOn (tileField a.tile) = true := h.1.1.2
  by_contra hc
  have hlt : s.rd64 R.CK_EN_FIELD_LO_EN R.CK_EN_FIELD_HI_EN < 2 ^ 48 := by
    have h1 : s.rd R.CK_EN_FIELD_LO_EN < 2 ^ 32 := s.getI_lt R.CK_EN_FIELD_LO_EN 0
    have h2 : s.rd R.CK_EN_FIELD_HI_EN < 2 ^ 16 := s.getI_lt R.CK_EN_FIELD_HI_EN 0
    unfold State.rd64
    omega
  have hb : bitOf (s.rd64 R.CK_EN_FIELD_LO_EN R.CK_EN_FIELD_HI_EN) (tileField a.tile) = false := by
    unfold bitOf
    rw [Nat.div_eq_of_lt (lt_of_lt_of_le hlt (Nat.pow_le_pow_right (by omega) (by omega)))]
    rfl
  unfold State.fieldOn at hf
  rw [hb] at hf
  cases hf

/-- What decode into a queue leaves, of what decides about issue. -/
structure State.Onward (s t : State) (a : Site) (c : Ctx) : Prop where
  ctx : t.ctx a = c
  other : (t.tile a.tile).ctx (!a.side) = (s.tile a.tile).ctx (!a.side)
  corr : (t.tile a.tile).corr = (s.tile a.tile).corr
  side0 : (t.tile a.tile).side0 = (s.tile a.tile).side0
  started : t.fab.started = s.fab.started
  freezing : t.fab.freezing = s.fab.freezing
  reg : ∀ o, eventReg o = false → slipReg o = false → t.reg o = s.reg o

theorem State.onward_onCtx {s t : State} {a : Site} {c : Ctx} (h : s.Onward t a c) (f : Ctx → Ctx) : s.Onward (t.onCtx a f) a (f c) := by
  refine ⟨by rw [State.ctx_onCtx_same, h.ctx], ?_, ?_, ?_, h.started, h.freezing, h.reg⟩
  · rw [← h.other]; unfold State.onCtx; rw [State.tile_onTile_same]; cases a.side <;> rfl
  · rw [← h.corr]; unfold State.onCtx; rw [State.tile_onTile_same]; cases a.side <;> rfl
  · rw [← h.side0]; unfold State.onCtx; rw [State.tile_onTile_same]; cases a.side <;> rfl

theorem State.onward_slipOf {s t : State} {a : Site} {c : Ctx} (h : s.Onward t a c) (hf : tileField a.tile < 48) (n : Nat) :
    s.Onward (t.slipOf a n) a c := by
  unfold State.slipOf
  split
  · exact h
  · have g := t.slip_frame a.tile n hf
    refine ⟨?_, ?_, ?_, ?_, g.2.2.1.trans h.started, g.2.2.2.1.trans h.freezing, fun o ho hs => (g.2.2.2.2 o ho hs).trans (h.reg o ho hs)⟩
    · rw [← h.ctx]; unfold State.ctx; rw [g.2.1]; cases a.side <;> rfl
    · rw [← h.other, g.2.1]; cases a.side <;> rfl
    · rw [← h.corr, g.2.1]
    · rw [← h.side0, g.2.1]

theorem State.onward_decoded (s : State) (a : Site) (w : W64) : s.Onward (s.decoded a w) a ((s.ctx a).fold w) := by
  have h : s.Onward (s.eccCe a.tile a.fetch) a (s.ctx a) := by
    refine ⟨s.ctx_eccCe a _ _, ?_, ?_, ?_, by rw [State.elsewhere_fab (s.elsewhere_eccCe _ _)], by rw [State.elsewhere_fab (s.elsewhere_eccCe _ _)],
      fun o _ _ => by unfold State.reg; rw [State.elsewhere_regs (s.elsewhere_eccCe _ _)]⟩ <;>
    · unfold State.eccCe State.sramCe State.stat
      split
      · rw [State.tile_onTile_same]; try (cases a.side <;> rfl)
      · rfl
  exact State.onward_onCtx h (fun c => c.fold w)

theorem State.onward_timedTo (s : State) (a : Site) (w : W64) (dt : BitVec 8) (hf : tileField a.tile < 48) :
    s.Onward (s.timedTo a w dt) a { (s.ctx a).fold w with tc := (s.ctx a).target dt } := by
  have h0 := s.onward_decoded a w
  have h1 := State.onward_onCtx h0 (fun c => { c with tc := (s.ctx a).target dt })
  unfold State.timedTo
  dsimp only
  split
  · exact State.onward_slipOf h1 hf _
  · exact h1

theorem State.Onward.rd {s t : State} {a : Site} {c : Ctx} (h : s.Onward t a c) (f : Fld) (he : eventReg (f.addr 0) = false)
    (hs : slipReg (f.addr 0) = false) : t.rd f = s.rd f := by
  unfold State.rd State.getI
  rw [h.reg _ he hs]

theorem State.Onward.before {s t : State} {a : Site} {c : Ctx} (h : s.Onward t a c) (n : Nat) : t.before n = s.before n := by
  unfold State.before State.on State.rd64
  rw [h.rd _ (by decide) (by decide), h.rd _ (by decide) (by decide), h.rd _ (by decide) (by decide), h.freezing]

theorem State.Onward.fieldOn {s t : State} {a : Site} {c : Ctx} (h : s.Onward t a c) (n : Nat) : t.fieldOn n = s.fieldOn n := by
  unfold State.fieldOn State.fieldOff State.folded State.lost State.rd64
  rw [h.rd _ (by decide) (by decide), h.rd _ (by decide) (by decide), h.rd _ (by decide) (by decide), h.rd _ (by decide) (by decide),
    h.rd _ (by decide) (by decide), h.rd _ (by decide) (by decide)]

/-- The one turn of a context whose queue holds one instruction. -/
theorem Ctx.due_one (c : Ctx) (q : QIns) (h : ({ c with uq := [] } : Ctx).idle) (hq : c.uq = [q]) : c.due = [(2 * q.beat, .head q)] := by
  obtain ⟨_, h2, h3, h4, h5, h6, h7⟩ := h
  have h2 : c.run = none := h2
  have h3 : c.fill = none := h3
  have h4 : c.send = none := h4
  have h5 : c.recv = none := h5
  have h6 : c.binds = [] := h6
  have h7 : c.out = [] := h7
  have hb : c.busy q.op = false := by cases q.op <;> simp [Ctx.busy, h2, h3, h4, h5, h7]
  have ht : c.turns = [(2 * q.beat, .head q)] := by simp [Ctx.turns, h2, h4, h5, h6, hq, hb]
  simp [Ctx.due, ht, leastKey]

/-- With nothing in its way a timed instruction does at its decode what its operation does at issue, on the state `issued`. -/
theorem State.timed_run (s t : State) (a : Site) (w : W64) (dt : BitVec 8) (op : TOp) (ga gs : BitVec 5) (reads : List (BitVec 5))
    (h : s.canIssue a w dt reads) (hu : op.unit ≠ 0)
    (hi : (s.issued a w dt).issue (siteOf a.tile a.side)
      ⟨op, (s.ctx a).pc, ((s.ctx a).target dt).toNat, (s.ctx a).gr ga, (s.ctx a).gr gs⟩ = some t)
    (ht : t.rests a.tile) : (s.timed a w dt op ga gs reads).advance a.tile = t := by
  obtain ⟨hd, hc, hs, hr, hb⟩ := h
  have hidle : (s.ctx a).idle := by unfold State.ctx; cases a.side; exact hc.1; exact hc.2.1
  have hother : ((s.tile a.tile).ctx (!a.side)).idle := by cases a.side; exact hc.2.1; exact hc.1
  have hf := s.field_of_ready a hd.1
  have hfull : (s.ctx a).full op.unit = false := by
    unfold Ctx.full
    rw [hidle.1]
    simp
  rw [s.timed_queues a w dt op ga gs reads hd hfull]
  have hX := s.onward_timedTo a w dt hf
  generalize hXe : s.timedTo a w dt = X at hX
  have hV := State.onward_onCtx hX (fun c => c.enqueue op (s.ctx a).pc ((s.ctx a).target dt) ga gs)
  generalize hVe : X.onCtx a (fun c => c.enqueue op (s.ctx a).pc ((s.ctx a).target dt) ga gs) = V at hV
  have hsite : ∀ u : State, u.ctx (siteOf a.tile a.side) = u.ctx a := fun _ => rfl
  have hrun : (s.ctx a).running = true := by
    have := hd.1; unfold State.ready at this; simp only [Bool.and_eq_true] at this; exact this.1.1.1.1.2
  have hq1 : (V.ctx a).uq = [⟨op, (s.ctx a).pc, ((s.ctx a).target dt).toNat, (s.ctx a).gr ga, (s.ctx a).gr gs⟩] := by
    rw [hV.ctx]
    show (s.ctx a).uq ++ _ = _
    rw [hidle.1]; rfl
  have hq2 : ({ V.ctx a with uq := [] } : Ctx).idle := by
    rw [hV.ctx]
    exact ⟨rfl, hidle.2⟩
  have hdue := Ctx.due_one _ _ hq2 hq1
  refine State.advance_one _ _ _ a.side ?_ ?_ ?_ ?_ ht
  · have hiss : V.issues (siteOf a.tile a.side) = true := by
      have hr0 := hd.1
      unfold State.ready at hr0
      simp only [Bool.and_eq_true] at hr0
      unfold State.issues
      rw [hV.started, hs, hsite, hV.ctx]
      show (true && (s.ctx a).running && V.fieldOn (tileField a.tile) && !V.on R.FB_STATUS_STALLED && !(s.ctx a).fill.any (fun h => !h.go) &&
        decide ((V.tile a.tile).corr.length ≤ 1)) = true
      rw [hV.fieldOn, hV.corr, hidle.2.2.1, hrun, hr0.1.1.2]
      unfold State.on
      rw [hV.rd _ (by decide) (by decide)]
      have h3 : (!(s.rd R.FB_STATUS_STALLED == 1)) = true := hr0.1.2
      rw [h3]
      simp [hr]
    have hreach : V.reached (siteOf a.tile a.side) (2 * ((s.ctx a).target dt).toNat) = true := by
      unfold State.reached
      have h2 : 2 * ((s.ctx a).target dt).toNat % 2 = 0 := by omega
      have h3 : 2 * ((s.ctx a).target dt).toNat / 2 = ((s.ctx a).target dt).toNat := by omega
      simp only [h2, h3, if_pos]
      rw [hV.before, hsite, hV.ctx]
      have h4 : V.fromStart (siteOf a.tile a.side) ((s.ctx a).target dt).toNat = s.fromStart a ((s.ctx a).target dt).toNat := by
        unfold State.fromStart
        rw [← hV.side0]
        rfl
      rw [h4, hb]
      simp [Ctx.enqueue]
    have hfill : V.fillOn (siteOf a.tile a.side) = none := by
      unfold State.fillOn
      rw [hsite, hV.ctx]
      show (match (s.ctx a).fill with | none => none | some h => _) = none
      rw [hidle.2.2.1]
    have hturn : V.turn (siteOf a.tile a.side) (2 * ((s.ctx a).target dt).toNat,
        .head ⟨op, (s.ctx a).pc, ((s.ctx a).target dt).toNat, (s.ctx a).gr ga, (s.ctx a).gr gs⟩) = some t := by
      rw [← hi]
      unfold State.turn
      dsimp only
      congr 1
      have h3 : 2 * ((s.ctx a).target dt).toNat / 2 = ((s.ctx a).target dt).toNat := by omega
      rw [h3, ← hVe]
      unfold State.issued
      rw [hXe]
      unfold State.atBeat State.onCtx
      have hone : (a.side && op.unit != 0) = a.side := by simp [hu]
      have hXr : ((X.tile a.tile).ctx a.side).running = true := by
        have := hX.ctx; unfold State.ctx at this; rw [this]; exact hrun
      have hXu : ((X.tile a.tile).ctx a.side).uq = [] := by
        have := hX.ctx; unfold State.ctx at this; rw [this]; exact hidle.1
      dsimp only [siteOf]
      rw [State.onTile_onTile, State.onTile_onTile, State.onTile_onTile, State.onTile_onTile]
      · unfold State.onTile
        dsimp only
        congr 1
        have hXt : ((X.tile a.tile).ctx a.side).tc = (s.ctx a).target dt := by
          have := hX.ctx; unfold State.ctx at this; rw [this]; rfl
        generalize X.tile a.tile = x at hXu hXr hXt ⊢
        unfold Ctx.enqueue
        rw [hone]
        cases hside : a.side <;> rw [hside] at hXu hXt <;> simp [Tile.setCtx, Tile.ctx] at hXu hXt ⊢ <;> simp [hXu, hXt]
      all_goals
        refine Tile.ne_reset _ a.side ?_
        try simp only [State.tile_onTile_same]
        rw [← hXr]
        cases a.side <;> rfl
    unfold State.nextTurn
    rw [hiss, hfill, hsite, hdue]
    simp [hreach, hturn]
  · refine State.nextTurn_idle _ _ ?_
    show ((V.tile a.tile).ctx (!a.side)).idle
    rw [hV.other]; exact hother
  all_goals
    have ho : ∀ d, ((V.tile a.tile).ctx d).out = [] := by
      intro d
      by_cases hdd : d = a.side
      · have := hq2.2.2.2.2.2.2
        rw [hdd]; exact this
      · have : d = !a.side := by revert hdd; cases d <;> cases a.side <;> simp
        rw [this, hV.other]; exact hother.2.2.2.2.2.2
  · exact ho false
  · exact ho true

end Sys2Proof.Machine
end

