-- ==== Sys2Proof/WellFormed.lean ====
section
/-! DEFINITION. Which commands name parts that the module has (R17, R26, R388, R392, R415): a tile index, a position, a port, a
queue, a link, a field, a clock domain. Commands outside these bounds name nothing and are not commands of the module. -/

namespace Sys2Proof

/-- A number below a bound. -/
def below (b n : Nat) : Bool := decide (n < b)

/-- A tile index (R17). -/
def tileOk (t : Nat) : Bool := below 1152 t

/-- The port, class and lane of a packet on a link (R354, R359). -/
def hdrOk (h : LHdr) : Bool := below 16 h.port && below 4 h.cls && below 2 h.vl

/-- Whether a command names only parts that the module has. -/
def Instr.wf : Instr → Bool
  | .handBoundary b => b.rowFails.all (fun e => below 48 e.1) && b.tileFails.all tileOk
  | .handWatchdog => true
  | .add at_ _ => tileOk at_.tile
  | .sub at_ _ => tileOk at_.tile
  | .and at_ _ => tileOk at_.tile
  | .or at_ _ => tileOk at_.tile
  | .xor at_ _ => tileOk at_.tile
  | .shl at_ _ => tileOk at_.tile
  | .shr at_ _ => tileOk at_.tile
  | .sar at_ _ => tileOk at_.tile
  | .mul at_ _ => tileOk at_.tile
  | .addi at_ _ => tileOk at_.tile
  | .li at_ _ => tileOk at_.tile
  | .ldw at_ _ _ => tileOk at_.tile
  | .stw at_ _ _ => tileOk at_.tile
  | .mfs at_ _ => tileOk at_.tile
  | .beq at_ _ => tileOk at_.tile
  | .bne at_ _ => tileOk at_.tile
  | .blt at_ _ => tileOk at_.tile
  | .bltu at_ _ => tileOk at_.tile
  | .jmp at_ _ => tileOk at_.tile
  | .loop at_ _ => tileOk at_.tile
  | .waitb at_ _ => tileOk at_.tile
  | .phase at_ _ => tileOk at_.tile
  | .wopen at_ _ => tileOk at_.tile
  | .wclose at_ _ => tileOk at_.tile
  | .sigchk at_ _ => tileOk at_.tile
  | .endOp at_ _ => tileOk at_.tile
  | .nop at_ _ => tileOk at_.tile
  | .mrun at_ _ _ _ _ => tileOk at_.tile
  | .mfill at_ _ _ => tileOk at_.tile
  | .mown at_ _ => tileOk at_.tile
  | .queueSlotFreed tile _ => tileOk tile
  | .fillBufferRelease tile _ => tileOk tile
  | .vAdd at_ _ _ => tileOk at_.tile
  | .vSub at_ _ _ => tileOk at_.tile
  | .vMul at_ _ _ => tileOk at_.tile
  | .vFma at_ _ _ => tileOk at_.tile
  | .vMin at_ _ _ => tileOk at_.tile
  | .vMax at_ _ _ => tileOk at_.tile
  | .vAbs at_ _ _ => tileOk at_.tile
  | .vNeg at_ _ _ => tileOk at_.tile
  | .vDiv at_ _ _ => tileOk at_.tile
  | .vSqrt at_ _ _ => tileOk at_.tile
  | .vRcp at_ _ _ => tileOk at_.tile
  | .vRsq at_ _ _ => tileOk at_.tile
  | .vEq at_ _ => tileOk at_.tile
  | .vLt at_ _ => tileOk at_.tile
  | .vLe at_ _ => tileOk at_.tile
  | .vUnord at_ _ => tileOk at_.tile
  | .iadd at_ _ _ => tileOk at_.tile
  | .isub at_ _ _ => tileOk at_.tile
  | .iand at_ _ _ => tileOk at_.tile
  | .ior at_ _ _ => tileOk at_.tile
  | .ixor at_ _ _ => tileOk at_.tile
  | .ishl at_ _ _ => tileOk at_.tile
  | .ishr at_ _ _ => tileOk at_.tile
  | .isar at_ _ _ => tileOk at_.tile
  | .imin at_ _ _ => tileOk at_.tile
  | .imax at_ _ _ => tileOk at_.tile
  | .rsum at_ _ _ => tileOk at_.tile
  | .rmax at_ _ _ => tileOk at_.tile
  | .ramax at_ _ _ => tileOk at_.tile
  | .cvt at_ _ _ => tileOk at_.tile
  | .mov at_ _ _ => tileOk at_.tile
  | .sel at_ _ _ => tileOk at_.tile
  | .perm at_ _ _ => tileOk at_.tile
  | .bcast at_ _ _ => tileOk at_.tile
  | .draw at_ _ _ => tileOk at_.tile
  | .qpop at_ _ _ => tileOk at_.tile
  | .ld at_ _ _ _ => tileOk at_.tile
  | .st at_ _ => tileOk at_.tile
  | .send at_ _ _ => tileOk at_.tile
  | .recv at_ _ => tileOk at_.tile
  | .pots at_ _ _ => tileOk at_.tile
  | .trick at_ _ => tileOk at_.tile
  | .patrolScrub tile corrected => tileOk tile && corrected.all (below 5242880)
  | .externalAccess _ tile _ _ _ _ => tileOk tile
  | .fbTileInj _ tile _ => tileOk tile
  | .correctionDelivery tile pos => tileOk tile && below 48 pos.pos
  | .load d _ _ _ => below 64 d.q
  | .unload d _ => below 64 d.q
  | .deal d _ _ => below 64 d.q
  | .write d _ _ _ _ => below 64 d.q
  | .read d _ _ _ _ _ => below 64 d.q
  | .copy d srcRank _ _ _ => below 64 d.q && below 1024 srcRank
  | .copyTimeout q _ => below 64 q
  | .descNop d => below 64 d.q
  | .sqDoorbell q _ => below 64 q
  | .cqDoorbell q _ => below 64 q
  | .exportDoorbell ring _ => below 131 ring
  | .ringEnable _ ring _ => below 131 ring
  | .ringDisable _ ring _ => below 131 ring
  | .censusRingWrite => true
  | .deltaRingWrite => true
  | .coalTimer ring => below 131 ring
  | .msixUnmask vec => below 256 vec
  | .apertureRead _ _ _ => true
  | .apertureWrite _ _ _ => true
  | .apertureReadTimeout _ => true
  | .mbH2sSend pair _ => below 20 pair
  | .mbS2hSend pair _ => below 20 pair
  | .mbH2sAck pair _ => below 20 pair
  | .mbS2hAck pair _ => below 20 pair
  | .mbTimeout pair _ => below 20 pair
  | .flrPcieA => true
  | .flrPcieB => true
  | .perstAssert _ => true
  | .perstRelease _ => true
  | .pcieLinkChange _ _ _ => true
  | .routerEntry tile => tileOk tile
  | .flitReceive tile port _ _ => tileOk tile && below 16 port
  | .flitRefusal tile port _ _ => tileOk tile && below 4 port
  | .seamTimeout link => below 2376 link
  | .ntStart _ _ => true
  | .stop _ => true
  | .stall _ _ => true
  | .unstall _ => true
  | .start _ => true
  | .freeze _ _ => true
  | .step _ => true
  | .thaw _ => true
  | .flag tile _ _ => tileOk tile
  | .renege seat tile _ => below 1024 seat && tileOk tile
  | .contrib tree _ _ _ _ => below 256 tree
  | .result tree _ => below 256 tree
  | .trickTimeout tree => below 256 tree
  | .cmdFreeze _ _ _ => true
  | .cmdStep _ _ => true
  | .cmdThaw _ _ => true
  | .cmdStall _ _ => true
  | .cmdUnstall _ _ => true
  | .cmdStop _ _ => true
  | .weight pos _ _ => below 48 pos
  | .lines pos _ _ => below 48 pos
  | .store pos _ => below 48 pos
  | .gather pos _ => below 48 pos
  | .stockIn pos _ _ => below 48 pos
  | .stockOut pos _ _ => below 48 pos
  | .gatherTimeout pos _ => below 48 pos
  | .nearScrub pos _ => below 48 pos
  | .stockScrub far _ _ => below 24 far
  | .censusCollect => true
  | .contribPacket pos _ => below 48 pos
  | .accFp32 pos _ => below 48 pos
  | .accDrain pos _ => below 48 pos
  | .accOnebit pos _ => below 48 pos
  | .sealRound pos _ _ => below 48 pos
  | .roundTimeout pos _ _ => below 48 pos
  | .gateContribute _ => true
  | .gateDecide _ => true
  | .sweepStart => true
  | .sweepTimeout => true
  | .fullDeal => true
  | .pushStart => true
  | .pushLate => true
  | .go _ => true
  | .portEnable _ port _ _ => below 16 port
  | .retrain _ port _ => below 16 port
  | .portDown port _ => below 16 port
  | .frameReceive port _ => below 16 port
  | .frameResendTimer port => below 16 port
  | .packetForward h _ => hdrOk h
  | .gatherReq h _ => hdrOk h
  | .gatherRsp h _ _ _ _ => hdrOk h
  | .parked h _ => hdrOk h
  | .parkTimeout pos _ => below 48 pos
  | .copyReq h _ _ _ _ => hdrOk h
  | .copyRsp h _ _ _ _ _ => hdrOk h
  | .linkContrib h _ => hdrOk h
  | .mirrorPot h _ _ stack _ _ => hdrOk h && below 48 stack
  | .push h _ pos _ _ _ _ _ _ => hdrOk h && below 48 pos
  | .pushAck h _ pos _ _ => hdrOk h && below 48 pos
  | .sealNotice h _ _ _ stack => hdrOk h && below 48 stack
  | .resendReq h _ _ _ => hdrOk h
  | .mirrorSum h _ _ _ => hdrOk h
  | .hello h _ => hdrOk h
  | .trickUp h tree _ _ _ _ => hdrOk h && below 256 tree
  | .trickRes h tree _ _ _ _ => hdrOk h && below 256 tree
  | .linkRenege h _ _ tile seat => hdrOk h && tileOk tile && below 1024 seat.seat
  | .linkMisdeal h _ _ _ => hdrOk h
  | .tableTrickTimeout tree => below 256 tree
  | .commit _ results => results.all (fun e => below 256 e.1)
  | .startUpSoak port _ _ => below 16 port
  | .periodicRetrain ts => ts.all (fun e => below 16 e.1)
  | .xtalWindow _ => true
  | .xtalFixedCount _ => true
  | .xtalLost => true
  | .sourceSwitch d _ => below 141 d
  | .pllUnlock d => below 141 d
  | .pllRelock d _ => below 141 d
  | .relockFail d => below 141 d
  | .throttleChange => true
  | .ckSscWrite _ _ => true
  | .sscChange => true
  | .freqGate counts => counts.all (fun e => below 141 e.1)
  | .enableSet _ _ _ => true
  | .enableClear _ _ _ => true
  | .pwCmdRun _ _ => true
  | .pwCmdHold _ _ => true
  | .pwCmdIdle _ _ => true
  | .pwCmdWatch _ _ => true
  | .watchSample _ _ _ => true
  | .breachWaitTimeout => true
  | .wakeI3c => true
  | .wakeMailbox => true
  | .wakeWaken => true
  | .converterStart => true
  | .vinHigh _ => true
  | .sag _ => true
  | .sagEnd _ _ => true
  | .supplyReset _ => true
  | .overvolt _ => true
  | .inputOff => true
  | .overcurrent => true
  | .capSample _ _ _ => true
  | .convFail i _ => below 16 i
  | .fuseTrip field _ _ => below 48 field
  | .hotTrip field _ => below 48 field
  | .sensorRead _ => true
  | .thermStep => true
  | .foldreqCool field => below 48 field
  | .leak => true
  | .supvEcc _ => true
  | .supvCflow _ => true
  | .supvWdog => true
  | .kick _ => true
  | .supervisorBack => true
  | .fatal _ _ => true
  | .pldmEventAck _ => true
  | .info pair _ => below 20 pair
  | .fwStage pair _ _ => below 20 pair
  | .fwStageDone pair _ => below 20 pair
  | .fwSwitch pair _ _ => below 20 pair
  | .fwCancel pair _ _ => below 20 pair
  | .fwFallback => true
  | .dumpInfo pair _ => below 20 pair
  | .dumpClear pair _ _ => below 20 pair
  | .power pair _ _ _ => below 20 pair
  | .leakClear pair _ _ _ => below 20 pair
  | .supvReset pair _ _ => below 20 pair
  | .moduleReset pair _ _ => below 20 pair
  | .setEndpointId _ _ => true
  | .getEndpointId _ => true
  | .getMctpVersionSupport _ _ => true
  | .getMessageTypeSupport _ => true
  | .getVendorDefinedMessageSupport _ _ => true
  | .setEventReceiver _ _ => true
  | .pldmSensorRead _ _ _ => true
  | .pldmFwUpdate _ _ => true
  | .getVersion _ => true
  | .getCapabilities _ => true
  | .negotiateAlgorithms _ _ _ => true
  | .getDigests _ => true
  | .getCertificate _ _ _ _ => true
  | .spdmChallenge _ _ _ => true
  | .getMeasurements _ _ => true
  | .keyExchange _ _ => true
  | .finish _ _ => true
  | .entdaa _ => true
  | .i3cTimeout => true
  | .i3cSclLow => true
  | .coldBoot _ _ _ => true
  | .enroll _ _ _ => true
  | .remove _ _ => true
  | .require _ _ => true
  | .unrequire _ _ => true
  | .lockPolicy _ _ => true
  | .unlockpol _ _ => true
  | .idcode => true
  | .challenge => true
  | .unlock _ => true
  | .tokenVerified => true
  | .tapStatus => true
  | .bypass _ => true
  | .dapNop => true
  | .dapRead _ _ _ _ => true
  | .dapWrite _ _ _ _ => true
  | .dbLock _ => true
  | .lifetimeExpire => true
  | .supvHalt _ => true
  | .supvResume _ => true
  | .supvStep _ => true
  | .supvBreakpoint _ => true
  | .tileBreakpoint tile _ _ => tileOk tile
  | .ledgerWrite _ => true
  | .compact _ => true
  | .alwaysOnPowerUp _ => true
  | .fieldPowerUp _ trips => trips.all (below 48)
  | .busSenseOpen _ => true
  | .busSenseClose => true
  | .modResetAssert => true
  | .modResetRelease => true
  | .registerWrite _ _ _ => true
  | .pluggableReplaced port _ => below 16 port
  | .tapReset _ => true
  | .ethernetLinkChange _ => true
  | .positionFailure pos cause => below 48 pos && (cause == 3 || cause == 4)
  | .completionTimeout d _ => below 64 d.q
  | .busMasterEnable _ _ => true
  | .carrierWait cause => (cause == 1 || cause == 2)
  | .memoryTrainingDone nearFail farFail => nearFail.all (below 48) && farFail.all (below 96)

/-- The tile that a command names, if it names one. -/
def Instr.tileOf : Instr → Option Nat
  | .handBoundary _ => none
  | .handWatchdog => none
  | .add at_ _ => some at_.tile
  | .sub at_ _ => some at_.tile
  | .and at_ _ => some at_.tile
  | .or at_ _ => some at_.tile
  | .xor at_ _ => some at_.tile
  | .shl at_ _ => some at_.tile
  | .shr at_ _ => some at_.tile
  | .sar at_ _ => some at_.tile
  | .mul at_ _ => some at_.tile
  | .addi at_ _ => some at_.tile
  | .li at_ _ => some at_.tile
  | .ldw at_ _ _ => some at_.tile
  | .stw at_ _ _ => some at_.tile
  | .mfs at_ _ => some at_.tile
  | .beq at_ _ => some at_.tile
  | .bne at_ _ => some at_.tile
  | .blt at_ _ => some at_.tile
  | .bltu at_ _ => some at_.tile
  | .jmp at_ _ => some at_.tile
  | .loop at_ _ => some at_.tile
  | .waitb at_ _ => some at_.tile
  | .phase at_ _ => some at_.tile
  | .wopen at_ _ => some at_.tile
  | .wclose at_ _ => some at_.tile
  | .sigchk at_ _ => some at_.tile
  | .endOp at_ _ => some at_.tile
  | .nop at_ _ => some at_.tile
  | .mrun at_ _ _ _ _ => some at_.tile
  | .mfill at_ _ _ => some at_.tile
  | .mown at_ _ => some at_.tile
  | .queueSlotFreed tile _ => some tile
  | .fillBufferRelease tile _ => some tile
  | .vAdd at_ _ _ => some at_.tile
  | .vSub at_ _ _ => some at_.tile
  | .vMul at_ _ _ => some at_.tile
  | .vFma at_ _ _ => some at_.tile
  | .vMin at_ _ _ => some at_.tile
  | .vMax at_ _ _ => some at_.tile
  | .vAbs at_ _ _ => some at_.tile
  | .vNeg at_ _ _ => some at_.tile
  | .vDiv at_ _ _ => some at_.tile
  | .vSqrt at_ _ _ => some at_.tile
  | .vRcp at_ _ _ => some at_.tile
  | .vRsq at_ _ _ => some at_.tile
  | .vEq at_ _ => some at_.tile
  | .vLt at_ _ => some at_.tile
  | .vLe at_ _ => some at_.tile
  | .vUnord at_ _ => some at_.tile
  | .iadd at_ _ _ => some at_.tile
  | .isub at_ _ _ => some at_.tile
  | .iand at_ _ _ => some at_.tile
  | .ior at_ _ _ => some at_.tile
  | .ixor at_ _ _ => some at_.tile
  | .ishl at_ _ _ => some at_.tile
  | .ishr at_ _ _ => some at_.tile
  | .isar at_ _ _ => some at_.tile
  | .imin at_ _ _ => some at_.tile
  | .imax at_ _ _ => some at_.tile
  | .rsum at_ _ _ => some at_.tile
  | .rmax at_ _ _ => some at_.tile
  | .ramax at_ _ _ => some at_.tile
  | .cvt at_ _ _ => some at_.tile
  | .mov at_ _ _ => some at_.tile
  | .sel at_ _ _ => some at_.tile
  | .perm at_ _ _ => some at_.tile
  | .bcast at_ _ _ => some at_.tile
  | .draw at_ _ _ => some at_.tile
  | .qpop at_ _ _ => some at_.tile
  | .ld at_ _ _ _ => some at_.tile
  | .st at_ _ => some at_.tile
  | .send at_ _ _ => some at_.tile
  | .recv at_ _ => some at_.tile
  | .pots at_ _ _ => some at_.tile
  | .trick at_ _ => some at_.tile
  | .patrolScrub tile _ => some tile
  | .externalAccess _ tile _ _ _ _ => some tile
  | .fbTileInj _ tile _ => some tile
  | .correctionDelivery tile _ => some tile
  | .load _ _ _ _ => none
  | .unload _ _ => none
  | .deal _ _ _ => none
  | .write _ _ _ _ _ => none
  | .read _ _ _ _ _ _ => none
  | .copy _ _ _ _ _ => none
  | .copyTimeout _ _ => none
  | .descNop _ => none
  | .sqDoorbell _ _ => none
  | .cqDoorbell _ _ => none
  | .exportDoorbell _ _ => none
  | .ringEnable _ _ _ => none
  | .ringDisable _ _ _ => none
  | .censusRingWrite => none
  | .deltaRingWrite => none
  | .coalTimer _ => none
  | .msixUnmask _ => none
  | .apertureRead _ _ _ => none
  | .apertureWrite _ _ _ => none
  | .apertureReadTimeout _ => none
  | .mbH2sSend _ _ => none
  | .mbS2hSend _ _ => none
  | .mbH2sAck _ _ => none
  | .mbS2hAck _ _ => none
  | .mbTimeout _ _ => none
  | .flrPcieA => none
  | .flrPcieB => none
  | .perstAssert _ => none
  | .perstRelease _ => none
  | .pcieLinkChange _ _ _ => none
  | .routerEntry tile => some tile
  | .flitReceive tile _ _ _ => some tile
  | .flitRefusal tile _ _ _ => some tile
  | .seamTimeout _ => none
  | .ntStart _ _ => none
  | .stop _ => none
  | .stall _ _ => none
  | .unstall _ => none
  | .start _ => none
  | .freeze _ _ => none
  | .step _ => none
  | .thaw _ => none
  | .flag tile _ _ => some tile
  | .renege _ tile _ => some tile
  | .contrib _ _ _ _ _ => none
  | .result _ _ => none
  | .trickTimeout _ => none
  | .cmdFreeze _ _ _ => none
  | .cmdStep _ _ => none
  | .cmdThaw _ _ => none
  | .cmdStall _ _ => none
  | .cmdUnstall _ _ => none
  | .cmdStop _ _ => none
  | .weight _ _ _ => none
  | .lines _ _ _ => none
  | .store _ _ => none
  | .gather _ _ => none
  | .stockIn _ _ _ => none
  | .stockOut _ _ _ => none
  | .gatherTimeout _ _ => none
  | .nearScrub _ _ => none
  | .stockScrub _ _ _ => none
  | .censusCollect => none
  | .contribPacket _ _ => none
  | .accFp32 _ _ => none
  | .accDrain _ _ => none
  | .accOnebit _ _ => none
  | .sealRound _ _ _ => none
  | .roundTimeout _ _ _ => none
  | .gateContribute _ => none
  | .gateDecide _ => none
  | .sweepStart => none
  | .sweepTimeout => none
  | .fullDeal => none
  | .pushStart => none
  | .pushLate => none
  | .go _ => none
  | .portEnable _ _ _ _ => none
  | .retrain _ _ _ => none
  | .portDown _ _ => none
  | .frameReceive _ _ => none
  | .frameResendTimer _ => none
  | .packetForward _ _ => none
  | .gatherReq _ _ => none
  | .gatherRsp _ _ _ _ _ => none
  | .parked _ _ => none
  | .parkTimeout _ _ => none
  | .copyReq _ _ _ _ _ => none
  | .copyRsp _ _ _ _ _ _ => none
  | .linkContrib _ _ => none
  | .mirrorPot _ _ _ _ _ _ => none
  | .push _ _ _ _ _ _ _ _ _ => none
  | .pushAck _ _ _ _ _ => none
  | .sealNotice _ _ _ _ _ => none
  | .resendReq _ _ _ _ => none
  | .mirrorSum _ _ _ _ => none
  | .hello _ _ => none
  | .trickUp _ _ _ _ _ _ => none
  | .trickRes _ _ _ _ _ _ => none
  | .linkRenege _ _ _ tile _ => some tile
  | .linkMisdeal _ _ _ _ => none
  | .tableTrickTimeout _ => none
  | .commit _ _ => none
  | .startUpSoak _ _ _ => none
  | .periodicRetrain _ => none
  | .xtalWindow _ => none
  | .xtalFixedCount _ => none
  | .xtalLost => none
  | .sourceSwitch _ _ => none
  | .pllUnlock _ => none
  | .pllRelock _ _ => none
  | .relockFail _ => none
  | .throttleChange => none
  | .ckSscWrite _ _ => none
  | .sscChange => none
  | .freqGate _ => none
  | .enableSet _ _ _ => none
  | .enableClear _ _ _ => none
  | .pwCmdRun _ _ => none
  | .pwCmdHold _ _ => none
  | .pwCmdIdle _ _ => none
  | .pwCmdWatch _ _ => none
  | .watchSample _ _ _ => none
  | .breachWaitTimeout => none
  | .wakeI3c => none
  | .wakeMailbox => none
  | .wakeWaken => none
  | .converterStart => none
  | .vinHigh _ => none
  | .sag _ => none
  | .sagEnd _ _ => none
  | .supplyReset _ => none
  | .overvolt _ => none
  | .inputOff => none
  | .overcurrent => none
  | .capSample _ _ _ => none
  | .convFail _ _ => none
  | .fuseTrip _ _ _ => none
  | .hotTrip _ _ => none
  | .sensorRead _ => none
  | .thermStep => none
  | .foldreqCool _ => none
  | .leak => none
  | .supvEcc _ => none
  | .supvCflow _ => none
  | .supvWdog => none
  | .kick _ => none
  | .supervisorBack => none
  | .fatal _ _ => none
  | .pldmEventAck _ => none
  | .info _ _ => none
  | .fwStage _ _ _ => none
  | .fwStageDone _ _ => none
  | .fwSwitch _ _ _ => none
  | .fwCancel _ _ _ => none
  | .fwFallback => none
  | .dumpInfo _ _ => none
  | .dumpClear _ _ _ => none
  | .power _ _ _ _ => none
  | .leakClear _ _ _ _ => none
  | .supvReset _ _ _ => none
  | .moduleReset _ _ _ => none
  | .setEndpointId _ _ => none
  | .getEndpointId _ => none
  | .getMctpVersionSupport _ _ => none
  | .getMessageTypeSupport _ => none
  | .getVendorDefinedMessageSupport _ _ => none
  | .setEventReceiver _ _ => none
  | .pldmSensorRead _ _ _ => none
  | .pldmFwUpdate _ _ => none
  | .getVersion _ => none
  | .getCapabilities _ => none
  | .negotiateAlgorithms _ _ _ => none
  | .getDigests _ => none
  | .getCertificate _ _ _ _ => none
  | .spdmChallenge _ _ _ => none
  | .getMeasurements _ _ => none
  | .keyExchange _ _ => none
  | .finish _ _ => none
  | .entdaa _ => none
  | .i3cTimeout => none
  | .i3cSclLow => none
  | .coldBoot _ _ _ => none
  | .enroll _ _ _ => none
  | .remove _ _ => none
  | .require _ _ => none
  | .unrequire _ _ => none
  | .lockPolicy _ _ => none
  | .unlockpol _ _ => none
  | .idcode => none
  | .challenge => none
  | .unlock _ => none
  | .tokenVerified => none
  | .tapStatus => none
  | .bypass _ => none
  | .dapNop => none
  | .dapRead _ _ _ _ => none
  | .dapWrite _ _ _ _ => none
  | .dbLock _ => none
  | .lifetimeExpire => none
  | .supvHalt _ => none
  | .supvResume _ => none
  | .supvStep _ => none
  | .supvBreakpoint _ => none
  | .tileBreakpoint tile _ _ => some tile
  | .ledgerWrite _ => none
  | .compact _ => none
  | .alwaysOnPowerUp _ => none
  | .fieldPowerUp _ _ => none
  | .busSenseOpen _ => none
  | .busSenseClose => none
  | .modResetAssert => none
  | .modResetRelease => none
  | .registerWrite _ _ _ => none
  | .pluggableReplaced _ _ => none
  | .tapReset _ => none
  | .ethernetLinkChange _ => none
  | .positionFailure _ _ => none
  | .completionTimeout _ _ => none
  | .busMasterEnable _ _ => none
  | .carrierWait _ => none
  | .memoryTrainingDone _ _ => none

end Sys2Proof
end

