-- ==== Sys2Proof/Laws/PerInstr.lean ====
section
/-! SUPPORT. One lemma for each command: a well-formed command names no tile that the wafer does not have. -/

namespace Sys2Proof.Laws.Bounds

/-- A well-formed command names a tile of the wafer, if it names one (R17). -/
def Statement (i : Instr) : Prop := i.wf = true → ∀ t, i.tileOf = some t → t < 1152

/-- A command that names no tile meets the statement. -/
theorem none_ok (i : Instr) (h : i.tileOf = none) : Statement i := by
  intro _ t ht
  rw [h] at ht
  exact absurd ht (by simp)

/-- A command whose bounds include that of its tile meets the statement. -/
theorem some_ok (i : Instr) (u : Nat) (h : i.tileOf = some u) (b : i.wf = true → tileOk u = true) : Statement i := by
  intro w t ht
  rw [h] at ht
  cases ht
  simpa [tileOk, below] using b w

theorem handBoundary (b : BoundaryIn) : Statement (.handBoundary b) := none_ok _ rfl
theorem handWatchdog : Statement .handWatchdog := none_ok _ rfl
theorem add (at_ : Site) (f : SFmt) : Statement (.add at_ f) := some_ok _ _ rfl (fun w => w)
theorem sub (at_ : Site) (f : SFmt) : Statement (.sub at_ f) := some_ok _ _ rfl (fun w => w)
theorem and (at_ : Site) (f : SFmt) : Statement (.and at_ f) := some_ok _ _ rfl (fun w => w)
theorem or (at_ : Site) (f : SFmt) : Statement (.or at_ f) := some_ok _ _ rfl (fun w => w)
theorem xor (at_ : Site) (f : SFmt) : Statement (.xor at_ f) := some_ok _ _ rfl (fun w => w)
theorem shl (at_ : Site) (f : SFmt) : Statement (.shl at_ f) := some_ok _ _ rfl (fun w => w)
theorem shr (at_ : Site) (f : SFmt) : Statement (.shr at_ f) := some_ok _ _ rfl (fun w => w)
theorem sar (at_ : Site) (f : SFmt) : Statement (.sar at_ f) := some_ok _ _ rfl (fun w => w)
theorem mul (at_ : Site) (f : SFmt) : Statement (.mul at_ f) := some_ok _ _ rfl (fun w => w)
theorem addi (at_ : Site) (f : SFmt) : Statement (.addi at_ f) := some_ok _ _ rfl (fun w => w)
theorem li (at_ : Site) (f : SFmt) : Statement (.li at_ f) := some_ok _ _ rfl (fun w => w)
theorem ldw (at_ : Site) (f : SFmt) (ecc : Ecc) : Statement (.ldw at_ f ecc) := some_ok _ _ rfl (fun w => w)
theorem stw (at_ : Site) (f : SFmt) (ecc : Ecc) : Statement (.stw at_ f ecc) := some_ok _ _ rfl (fun w => w)
theorem mfs (at_ : Site) (f : SFmt) : Statement (.mfs at_ f) := some_ok _ _ rfl (fun w => w)
theorem beq (at_ : Site) (f : SFmt) : Statement (.beq at_ f) := some_ok _ _ rfl (fun w => w)
theorem bne (at_ : Site) (f : SFmt) : Statement (.bne at_ f) := some_ok _ _ rfl (fun w => w)
theorem blt (at_ : Site) (f : SFmt) : Statement (.blt at_ f) := some_ok _ _ rfl (fun w => w)
theorem bltu (at_ : Site) (f : SFmt) : Statement (.bltu at_ f) := some_ok _ _ rfl (fun w => w)
theorem jmp (at_ : Site) (f : SFmt) : Statement (.jmp at_ f) := some_ok _ _ rfl (fun w => w)
theorem loop (at_ : Site) (f : SFmt) : Statement (.loop at_ f) := some_ok _ _ rfl (fun w => w)
theorem waitb (at_ : Site) (f : SFmt) : Statement (.waitb at_ f) := some_ok _ _ rfl (fun w => w)
theorem phase (at_ : Site) (f : SFmt) : Statement (.phase at_ f) := some_ok _ _ rfl (fun w => w)
theorem wopen (at_ : Site) (f : SFmt) : Statement (.wopen at_ f) := some_ok _ _ rfl (fun w => w)
theorem wclose (at_ : Site) (f : SFmt) : Statement (.wclose at_ f) := some_ok _ _ rfl (fun w => w)
theorem sigchk (at_ : Site) (f : SFmt) : Statement (.sigchk at_ f) := some_ok _ _ rfl (fun w => w)
theorem endOp (at_ : Site) (f : SFmt) : Statement (.endOp at_ f) := some_ok _ _ rfl (fun w => w)
theorem nop (at_ : Site) (f : SFmt) : Statement (.nop at_ f) := some_ok _ _ rfl (fun w => w)
theorem mrun (at_ : Site) (f : MRunF) (ecc : Ecc) (bufEcc : Ecc) (ups : List (Nat × Upset)) : Statement (.mrun at_ f ecc bufEcc ups) := some_ok _ _ rfl (fun w => w)
theorem mfill (at_ : Site) (f : MFillF) (ecc : Ecc) : Statement (.mfill at_ f ecc) := some_ok _ _ rfl (fun w => w)
theorem mown (at_ : Site) (f : MOwnF) : Statement (.mown at_ f) := some_ok _ _ rfl (fun w => w)
theorem queueSlotFreed (tile : Nat) (side : Bool) : Statement (.queueSlotFreed tile side) := some_ok _ _ rfl (fun w => w)
theorem fillBufferRelease (tile : Nat) (buf : BitVec 1) : Statement (.fillBufferRelease tile buf) := some_ok _ _ rfl (fun w => w)
theorem vAdd (at_ : Site) (f : VFmt) (up : Option Upset) : Statement (.vAdd at_ f up) := some_ok _ _ rfl (fun w => w)
theorem vSub (at_ : Site) (f : VFmt) (up : Option Upset) : Statement (.vSub at_ f up) := some_ok _ _ rfl (fun w => w)
theorem vMul (at_ : Site) (f : VFmt) (up : Option Upset) : Statement (.vMul at_ f up) := some_ok _ _ rfl (fun w => w)
theorem vFma (at_ : Site) (f : VFmt) (up : Option Upset) : Statement (.vFma at_ f up) := some_ok _ _ rfl (fun w => w)
theorem vMin (at_ : Site) (f : VFmt) (up : Option Upset) : Statement (.vMin at_ f up) := some_ok _ _ rfl (fun w => w)
theorem vMax (at_ : Site) (f : VFmt) (up : Option Upset) : Statement (.vMax at_ f up) := some_ok _ _ rfl (fun w => w)
theorem vAbs (at_ : Site) (f : VFmt) (up : Option Upset) : Statement (.vAbs at_ f up) := some_ok _ _ rfl (fun w => w)
theorem vNeg (at_ : Site) (f : VFmt) (up : Option Upset) : Statement (.vNeg at_ f up) := some_ok _ _ rfl (fun w => w)
theorem vDiv (at_ : Site) (f : VFmt) (up : Option Upset) : Statement (.vDiv at_ f up) := some_ok _ _ rfl (fun w => w)
theorem vSqrt (at_ : Site) (f : VFmt) (up : Option Upset) : Statement (.vSqrt at_ f up) := some_ok _ _ rfl (fun w => w)
theorem vRcp (at_ : Site) (f : VFmt) (up : Option Upset) : Statement (.vRcp at_ f up) := some_ok _ _ rfl (fun w => w)
theorem vRsq (at_ : Site) (f : VFmt) (up : Option Upset) : Statement (.vRsq at_ f up) := some_ok _ _ rfl (fun w => w)
theorem vEq (at_ : Site) (f : VFmt) : Statement (.vEq at_ f) := some_ok _ _ rfl (fun w => w)
theorem vLt (at_ : Site) (f : VFmt) : Statement (.vLt at_ f) := some_ok _ _ rfl (fun w => w)
theorem vLe (at_ : Site) (f : VFmt) : Statement (.vLe at_ f) := some_ok _ _ rfl (fun w => w)
theorem vUnord (at_ : Site) (f : VFmt) : Statement (.vUnord at_ f) := some_ok _ _ rfl (fun w => w)
theorem iadd (at_ : Site) (f : VFmt) (up : Option Upset) : Statement (.iadd at_ f up) := some_ok _ _ rfl (fun w => w)
theorem isub (at_ : Site) (f : VFmt) (up : Option Upset) : Statement (.isub at_ f up) := some_ok _ _ rfl (fun w => w)
theorem iand (at_ : Site) (f : VFmt) (up : Option Upset) : Statement (.iand at_ f up) := some_ok _ _ rfl (fun w => w)
theorem ior (at_ : Site) (f : VFmt) (up : Option Upset) : Statement (.ior at_ f up) := some_ok _ _ rfl (fun w => w)
theorem ixor (at_ : Site) (f : VFmt) (up : Option Upset) : Statement (.ixor at_ f up) := some_ok _ _ rfl (fun w => w)
theorem ishl (at_ : Site) (f : VFmt) (up : Option Upset) : Statement (.ishl at_ f up) := some_ok _ _ rfl (fun w => w)
theorem ishr (at_ : Site) (f : VFmt) (up : Option Upset) : Statement (.ishr at_ f up) := some_ok _ _ rfl (fun w => w)
theorem isar (at_ : Site) (f : VFmt) (up : Option Upset) : Statement (.isar at_ f up) := some_ok _ _ rfl (fun w => w)
theorem imin (at_ : Site) (f : VFmt) (up : Option Upset) : Statement (.imin at_ f up) := some_ok _ _ rfl (fun w => w)
theorem imax (at_ : Site) (f : VFmt) (up : Option Upset) : Statement (.imax at_ f up) := some_ok _ _ rfl (fun w => w)
theorem rsum (at_ : Site) (f : VFmt) (up : Option Upset) : Statement (.rsum at_ f up) := some_ok _ _ rfl (fun w => w)
theorem rmax (at_ : Site) (f : VFmt) (up : Option Upset) : Statement (.rmax at_ f up) := some_ok _ _ rfl (fun w => w)
theorem ramax (at_ : Site) (f : VFmt) (up : Option Upset) : Statement (.ramax at_ f up) := some_ok _ _ rfl (fun w => w)
theorem cvt (at_ : Site) (f : VFmt) (up : Option Upset) : Statement (.cvt at_ f up) := some_ok _ _ rfl (fun w => w)
theorem mov (at_ : Site) (f : VFmt) (up : Option Upset) : Statement (.mov at_ f up) := some_ok _ _ rfl (fun w => w)
theorem sel (at_ : Site) (f : VFmt) (up : Option Upset) : Statement (.sel at_ f up) := some_ok _ _ rfl (fun w => w)
theorem perm (at_ : Site) (f : VFmt) (up : Option Upset) : Statement (.perm at_ f up) := some_ok _ _ rfl (fun w => w)
theorem bcast (at_ : Site) (f : VFmt) (up : Option Upset) : Statement (.bcast at_ f up) := some_ok _ _ rfl (fun w => w)
theorem draw (at_ : Site) (f : VFmt) (up : Option Upset) : Statement (.draw at_ f up) := some_ok _ _ rfl (fun w => w)
theorem qpop (at_ : Site) (f : VFmt) (up : Option Upset) : Statement (.qpop at_ f up) := some_ok _ _ rfl (fun w => w)
theorem ld (at_ : Site) (f : LFmt) (ecc : Ecc) (up : Option Upset) : Statement (.ld at_ f ecc up) := some_ok _ _ rfl (fun w => w)
theorem st (at_ : Site) (f : LFmt) : Statement (.st at_ f) := some_ok _ _ rfl (fun w => w)
theorem send (at_ : Site) (f : XFmt) (ecc : Ecc) : Statement (.send at_ f ecc) := some_ok _ _ rfl (fun w => w)
theorem recv (at_ : Site) (f : XFmt) : Statement (.recv at_ f) := some_ok _ _ rfl (fun w => w)
theorem pots (at_ : Site) (f : XFmt) (ecc : Ecc) : Statement (.pots at_ f ecc) := some_ok _ _ rfl (fun w => w)
theorem trick (at_ : Site) (f : TFmt) : Statement (.trick at_ f) := some_ok _ _ rfl (fun w => w)
theorem patrolScrub (tile : Nat) (corrected : List Nat) : Statement (.patrolScrub tile corrected) := some_ok _ _ rfl (fun w => (Bool.and_eq_true_iff.mp w).1)
theorem externalAccess (who : Agent) (tile : Nat) (off : Nat) (write : Option Bytes) (len : Nat) (ecc : Ecc) : Statement (.externalAccess who tile off write len ecc) := some_ok _ _ rfl (fun w => w)
theorem fbTileInj (who : Agent) (tile : Nat) (v : W32) : Statement (.fbTileInj who tile v) := some_ok _ _ rfl (fun w => w)
theorem correctionDelivery (tile : Nat) (pos : CorrAt) : Statement (.correctionDelivery tile pos) := some_ok _ _ rfl (fun w => (Bool.and_eq_true_iff.mp w).1)
theorem load (d : DHdr) (hostAddr : W64) (length : W64) (img : HostIn) : Statement (.load d hostAddr length img) := none_ok _ rfl
theorem unload (d : DHdr) (imageId : W64) : Statement (.unload d imageId) := none_ok _ rfl
theorem deal (d : DHdr) (f : DealD) (batch : HostIn) : Statement (.deal d f batch) := none_ok _ rfl
theorem write (d : DHdr) (hostAddr : W64) (devAddr : W64) (length : W64) (data : HostIn) : Statement (.write d hostAddr devAddr length data) := none_ok _ rfl
theorem read (d : DHdr) (hostAddr : W64) (devAddr : W64) (length : W64) (ecc : LineEcc) (err : HostErr) : Statement (.read d hostAddr devAddr length ecc err) := none_ok _ rfl
theorem copy (d : DHdr) (srcRank : Nat) (srcAddr : W64) (dstAddr : W64) (lines : Nat) : Statement (.copy d srcRank srcAddr dstAddr lines) := none_ok _ rfl
theorem copyTimeout (q : Nat) (cid : BitVec 16) : Statement (.copyTimeout q cid) := none_ok _ rfl
theorem descNop (d : DHdr) : Statement (.descNop d) := none_ok _ rfl
theorem sqDoorbell (q : Nat) (v : W32) : Statement (.sqDoorbell q v) := none_ok _ rfl
theorem cqDoorbell (q : Nat) (v : W32) : Statement (.cqDoorbell q v) := none_ok _ rfl
theorem exportDoorbell (ring : Nat) (v : W32) : Statement (.exportDoorbell ring v) := none_ok _ rfl
theorem ringEnable (who : Agent) (ring : Nat) (v : W32) : Statement (.ringEnable who ring v) := none_ok _ rfl
theorem ringDisable (who : Agent) (ring : Nat) (v : W32) : Statement (.ringDisable who ring v) := none_ok _ rfl
theorem censusRingWrite : Statement .censusRingWrite := none_ok _ rfl
theorem deltaRingWrite : Statement .deltaRingWrite := none_ok _ rfl
theorem coalTimer (ring : Nat) : Statement (.coalTimer ring) := none_ok _ rfl
theorem msixUnmask (vec : Nat) : Statement (.msixUnmask vec) := none_ok _ rfl
theorem apertureRead (off : Nat) (size : Nat) (ecc : LineEcc) : Statement (.apertureRead off size ecc) := none_ok _ rfl
theorem apertureWrite (off : Nat) (size : Nat) (v : W64) : Statement (.apertureWrite off size v) := none_ok _ rfl
theorem apertureReadTimeout (off : Nat) : Statement (.apertureReadTimeout off) := none_ok _ rfl
theorem mbH2sSend (pair : Nat) (w : W64) : Statement (.mbH2sSend pair w) := none_ok _ rfl
theorem mbS2hSend (pair : Nat) (w : W64) : Statement (.mbS2hSend pair w) := none_ok _ rfl
theorem mbH2sAck (pair : Nat) (code : BitVec 16) : Statement (.mbH2sAck pair code) := none_ok _ rfl
theorem mbS2hAck (pair : Nat) (code : BitVec 16) : Statement (.mbS2hAck pair code) := none_ok _ rfl
theorem mbTimeout (pair : Nat) (fromSupv : Bool) : Statement (.mbTimeout pair fromSupv) := none_ok _ rfl
theorem flrPcieA : Statement .flrPcieA := none_ok _ rfl
theorem flrPcieB : Statement .flrPcieB := none_ok _ rfl
theorem perstAssert (ep : BitVec 1) : Statement (.perstAssert ep) := none_ok _ rfl
theorem perstRelease (ep : BitVec 1) : Statement (.perstRelease ep) := none_ok _ rfl
theorem pcieLinkChange (ep : BitVec 1) (speed : Nat) (width : Nat) : Statement (.pcieLinkChange ep speed width) := none_ok _ rfl
theorem routerEntry (tile : Nat) : Statement (.routerEntry tile) := some_ok _ _ rfl (fun w => w)
theorem flitReceive (tile : Nat) (port : Nat) (side : Bool) (err : BitVec 528) : Statement (.flitReceive tile port side err) := some_ok _ _ rfl (fun w => (Bool.and_eq_true_iff.mp w).1)
theorem flitRefusal (tile : Nat) (port : Nat) (side near : Bool) : Statement (.flitRefusal tile port side near) := some_ok _ _ rfl (fun w => (Bool.and_eq_true_iff.mp w).1)
theorem seamTimeout (link : Nat) : Statement (.seamTimeout link) := none_ok _ rfl
theorem ntStart (who : Agent) (r : NtIn) : Statement (.ntStart who r) := none_ok _ rfl
theorem stop (cause : TrumpPkt) : Statement (.stop cause) := none_ok _ rfl
theorem stall (cause : Nat) (tick : TrumpPkt) : Statement (.stall cause tick) := none_ok _ rfl
theorem unstall (tick : TrumpPkt) : Statement (.unstall tick) := none_ok _ rfl
theorem start (tick : TrumpPkt) : Statement (.start tick) := none_ok _ rfl
theorem freeze (target : Nat) (hop : Hop) : Statement (.freeze target hop) := none_ok _ rfl
theorem step (n : TrumpPkt) : Statement (.step n) := none_ok _ rfl
theorem thaw (tick : TrumpPkt) : Statement (.thaw tick) := none_ok _ rfl
theorem flag (tile : Nat) (flags : BitVec 3) (hop : Hop) : Statement (.flag tile flags hop) := some_ok _ _ rfl (fun w => w)
theorem renege (seat : Nat) (tile : Nat) (layer : RenegePkt) : Statement (.renege seat tile layer) := some_ok _ _ rfl (fun w => (Bool.and_eq_true_iff.mp w).2)
theorem contrib (tree : Nat) (member : Nat) (fn : BitVec 4) (v : W32) (hop : Hop) : Statement (.contrib tree member fn v hop) := none_ok _ rfl
theorem result (tree : Nat) (hop : Hop) : Statement (.result tree hop) := none_ok _ rfl
theorem trickTimeout (tree : Nat) : Statement (.trickTimeout tree) := none_ok _ rfl
theorem cmdFreeze (who : Agent) (v : W32) (gather : Hop) : Statement (.cmdFreeze who v gather) := none_ok _ rfl
theorem cmdStep (who : Agent) (v : W32) : Statement (.cmdStep who v) := none_ok _ rfl
theorem cmdThaw (who : Agent) (v : W32) : Statement (.cmdThaw who v) := none_ok _ rfl
theorem cmdStall (who : Agent) (v : W32) : Statement (.cmdStall who v) := none_ok _ rfl
theorem cmdUnstall (who : Agent) (v : W32) : Statement (.cmdUnstall who v) := none_ok _ rfl
theorem cmdStop (who : Agent) (v : W32) : Statement (.cmdStop who v) := none_ok _ rfl
theorem weight (pos : Nat) (d : SDesc) (ecc : LineEcc) : Statement (.weight pos d ecc) := none_ok _ rfl
theorem lines (pos : Nat) (d : SDesc) (ecc : LineEcc) : Statement (.lines pos d ecc) := none_ok _ rfl
theorem store (pos : Nat) (d : SDesc) : Statement (.store pos d) := none_ok _ rfl
theorem gather (pos : Nat) (d : SDesc) : Statement (.gather pos d) := none_ok _ rfl
theorem stockIn (pos : Nat) (d : SDesc) (ecc : LineEcc) : Statement (.stockIn pos d ecc) := none_ok _ rfl
theorem stockOut (pos : Nat) (d : SDesc) (ecc : LineEcc) : Statement (.stockOut pos d ecc) := none_ok _ rfl
theorem gatherTimeout (pos : Nat) (tag : W32) : Statement (.gatherTimeout pos tag) := none_ok _ rfl
theorem nearScrub (pos : Nat) (ecc : LineEcc) : Statement (.nearScrub pos ecc) := none_ok _ rfl
theorem stockScrub (far : Nat) (ecc : LineEcc) (ecc2 : LineEcc) : Statement (.stockScrub far ecc ecc2) := none_ok _ rfl
theorem censusCollect : Statement .censusCollect := none_ok _ rfl
theorem contribPacket (pos : Nat) (p : CPkt) : Statement (.contribPacket pos p) := none_ok _ rfl
theorem accFp32 (pos : Nat) (p : CPkt) : Statement (.accFp32 pos p) := none_ok _ rfl
theorem accDrain (pos : Nat) (p : CPkt) : Statement (.accDrain pos p) := none_ok _ rfl
theorem accOnebit (pos : Nat) (p : CPkt) : Statement (.accOnebit pos p) := none_ok _ rfl
theorem sealRound (pos : Nat) (pot : Nat) (round : EccAt) : Statement (.sealRound pos pot round) := none_ok _ rfl
theorem roundTimeout (pos : Nat) (pot : Nat) (round : Nat) : Statement (.roundTimeout pos pot round) := none_ok _ rfl
theorem gateContribute (waited : Bool) : Statement (.gateContribute waited) := none_ok _ rfl
theorem gateDecide (r : GateRec) : Statement (.gateDecide r) := none_ok _ rfl
theorem sweepStart : Statement .sweepStart := none_ok _ rfl
theorem sweepTimeout : Statement .sweepTimeout := none_ok _ rfl
theorem fullDeal : Statement .fullDeal := none_ok _ rfl
theorem pushStart : Statement .pushStart := none_ok _ rfl
theorem pushLate : Statement .pushLate := none_ok _ rfl
theorem go (who : Agent) : Statement (.go who) := none_ok _ rfl
theorem portEnable (who : Agent) (port : Nat) (v : W32) (t : TrainIn) : Statement (.portEnable who port v t) := none_ok _ rfl
theorem retrain (who : Agent) (port : Nat) (t : TrainIn) : Statement (.retrain who port t) := none_ok _ rfl
theorem portDown (port : Nat) (cause : Nat) : Statement (.portDown port cause) := none_ok _ rfl
theorem frameReceive (port : Nat) (f : FrameIn) : Statement (.frameReceive port f) := none_ok _ rfl
theorem frameResendTimer (port : Nat) : Statement (.frameResendTimer port) := none_ok _ rfl
theorem packetForward (h : LHdr) (body : Bytes) : Statement (.packetForward h body) := none_ok _ rfl
theorem gatherReq (h : LHdr) (r : GServe) : Statement (.gatherReq h r) := none_ok _ rfl
theorem gatherRsp (h : LHdr) (r : GReq) (version : W64) (poison : W64) (data : Bytes) : Statement (.gatherRsp h r version poison data) := none_ok _ rfl
theorem parked (h : LHdr) (r : GReq) : Statement (.parked h r) := none_ok _ rfl
theorem parkTimeout (pos : Nat) (tag : W32) : Statement (.parkTimeout pos tag) := none_ok _ rfl
theorem copyReq (h : LHdr) (addr : W64) (lines : Nat) (tag : W32) (ecc : LineEcc) : Statement (.copyReq h addr lines tag ecc) := none_ok _ rfl
theorem copyRsp (h : LHdr) (addr : W64) (lines : Nat) (tag : W32) (poison : W64) (data : Bytes) : Statement (.copyRsp h addr lines tag poison data) := none_ok _ rfl
theorem linkContrib (h : LHdr) (p : CPkt) : Statement (.linkContrib h p) := none_ok _ rfl
theorem mirrorPot (h : LHdr) (hand : W64) (pot : Nat) (stack : Nat) (off : W64) (data : Bytes) : Statement (.mirrorPot h hand pot stack off data) := none_ok _ rfl
theorem push (h : LHdr) (hand : W64) (pos : Nat) (space : Nat) (off : W64) (version : W64) (data : Bytes) (total : Nat) (sum : W64) : Statement (.push h hand pos space off version data total sum) := none_ok _ rfl
theorem pushAck (h : LHdr) (hand : W64) (pos : Nat) (status : Nat) (sum : W64) : Statement (.pushAck h hand pos status sum) := none_ok _ rfl
theorem sealNotice (h : LHdr) (hand : W64) (pot : Nat) (round : Nat) (stack : Nat) : Statement (.sealNotice h hand pot round stack) := none_ok _ rfl
theorem resendReq (h : LHdr) (hand : W64) (crec : W32) (cstack : EccAt) : Statement (.resendReq h hand crec cstack) := none_ok _ rfl
theorem mirrorSum (h : LHdr) (hand : W64) (pot : Nat) (sum : W64) : Statement (.mirrorSum h hand pot sum) := none_ok _ rfl
theorem hello (h : LHdr) (m : HelloIn) : Statement (.hello h m) := none_ok _ rfl
theorem trickUp (h : LHdr) (tree : Nat) (fn : BitVec 4) (inst : Nat) (v : W32) (rec : Option GateRec) : Statement (.trickUp h tree fn inst v rec) := none_ok _ rfl
theorem trickRes (h : LHdr) (tree : Nat) (fn : BitVec 4) (inst : Nat) (v : W32) (rec : Option GateRec) : Statement (.trickRes h tree fn inst v rec) := none_ok _ rfl
theorem linkRenege (h : LHdr) (hand : W64) (layer : Nat) (tile : Nat) (seat : RenegeBy) : Statement (.linkRenege h hand layer tile seat) := some_ok _ _ rfl (fun w => (Bool.and_eq_true_iff.mp (Bool.and_eq_true_iff.mp w).1).2)
theorem linkMisdeal (h : LHdr) (hand : W64) (origin : Nat) (cause : Nat) : Statement (.linkMisdeal h hand origin cause) := none_ok _ rfl
theorem tableTrickTimeout (tree : Nat) : Statement (.tableTrickTimeout tree) := none_ok _ rfl
theorem commit (who : Agent) (results : List (Nat × Option W32)) : Statement (.commit who results) := none_ok _ rfl
theorem startUpSoak (port : Nat) (pass : Bool) (t : TrainIn) : Statement (.startUpSoak port pass t) := none_ok _ rfl
theorem periodicRetrain (ts : List (Nat × TrainIn)) : Statement (.periodicRetrain ts) := none_ok _ rfl
theorem xtalWindow (c : Nat) : Statement (.xtalWindow c) := none_ok _ rfl
theorem xtalFixedCount (c : Nat) : Statement (.xtalFixedCount c) := none_ok _ rfl
theorem xtalLost : Statement .xtalLost := none_ok _ rfl
theorem sourceSwitch (d : Nat) (src : BitVec 2) : Statement (.sourceSwitch d src) := none_ok _ rfl
theorem pllUnlock (d : Nat) : Statement (.pllUnlock d) := none_ok _ rfl
theorem pllRelock (d : Nat) (us : Nat) : Statement (.pllRelock d us) := none_ok _ rfl
theorem relockFail (d : Nat) : Statement (.relockFail d) := none_ok _ rfl
theorem throttleChange : Statement .throttleChange := none_ok _ rfl
theorem ckSscWrite (who : Agent) (v : W32) : Statement (.ckSscWrite who v) := none_ok _ rfl
theorem sscChange : Statement .sscChange := none_ok _ rfl
theorem freqGate (counts : List (Nat × Nat)) : Statement (.freqGate counts) := none_ok _ rfl
theorem enableSet (who : Agent) (reg : Nat) (v : W32) : Statement (.enableSet who reg v) := none_ok _ rfl
theorem enableClear (who : Agent) (reg : Nat) (v : W32) : Statement (.enableClear who reg v) := none_ok _ rfl
theorem pwCmdRun (who : Agent) (c : CallIn) : Statement (.pwCmdRun who c) := none_ok _ rfl
theorem pwCmdHold (who : Agent) (c : CallIn) : Statement (.pwCmdHold who c) := none_ok _ rfl
theorem pwCmdIdle (who : Agent) (c : CallIn) : Statement (.pwCmdIdle who c) := none_ok _ rfl
theorem pwCmdWatch (who : Agent) (c : CallIn) : Statement (.pwCmdWatch who c) := none_ok _ rfl
theorem watchSample (volts : Int) (temp : Int) (leak : Bool) : Statement (.watchSample volts temp leak) := none_ok _ rfl
theorem breachWaitTimeout : Statement .breachWaitTimeout := none_ok _ rfl
theorem wakeI3c : Statement .wakeI3c := none_ok _ rfl
theorem wakeMailbox : Statement .wakeMailbox := none_ok _ rfl
theorem wakeWaken : Statement .wakeWaken := none_ok _ rfl
theorem converterStart : Statement .converterStart := none_ok _ rfl
theorem vinHigh (cv : Nat) : Statement (.vinHigh cv) := none_ok _ rfl
theorem sag (cv : Nat) : Statement (.sag cv) := none_ok _ rfl
theorem sagEnd (us : Nat) (lowest : Nat) : Statement (.sagEnd us lowest) := none_ok _ rfl
theorem supplyReset (cv : Nat) : Statement (.supplyReset cv) := none_ok _ rfl
theorem overvolt (cv : Nat) : Statement (.overvolt cv) := none_ok _ rfl
theorem inputOff : Statement .inputOff := none_ok _ rfl
theorem overcurrent : Statement .overcurrent := none_ok _ rfl
theorem capSample (watts : Nat) (da : Nat) (cv : Nat) : Statement (.capSample watts da cv) := none_ok _ rfl
theorem convFail (i : Nat) (cause : Nat) : Statement (.convFail i cause) := none_ok _ rfl
theorem fuseTrip (field : Nat) (cause : Nat) (peak : Nat) : Statement (.fuseTrip field cause peak) := none_ok _ rfl
theorem hotTrip (field : Nat) (q4 : Int) : Statement (.hotTrip field q4) := none_ok _ rfl
theorem sensorRead (r : SensorIn) : Statement (.sensorRead r) := none_ok _ rfl
theorem thermStep : Statement .thermStep := none_ok _ rfl
theorem foldreqCool (field : Nat) : Statement (.foldreqCool field) := none_ok _ rfl
theorem leak : Statement .leak := none_ok _ rfl
theorem supvEcc (addr : W64) : Statement (.supvEcc addr) := none_ok _ rfl
theorem supvCflow (addr : W64) : Statement (.supvCflow addr) := none_ok _ rfl
theorem supvWdog : Statement .supvWdog := none_ok _ rfl
theorem kick (who : Agent) : Statement (.kick who) := none_ok _ rfl
theorem supervisorBack : Statement .supervisorBack := none_ok _ rfl
theorem fatal (code : Nat) (origin : Nat) : Statement (.fatal code origin) := none_ok _ rfl
theorem pldmEventAck (seq : W32) : Statement (.pldmEventAck seq) := none_ok _ rfl
theorem info (pair : Nat) (arg : BitVec 56) : Statement (.info pair arg) := none_ok _ rfl
theorem fwStage (pair : Nat) (arg : BitVec 56) (via : Transport) : Statement (.fwStage pair arg via) := none_ok _ rfl
theorem fwStageDone (pair : Nat) (img : FwImage) : Statement (.fwStageDone pair img) := none_ok _ rfl
theorem fwSwitch (pair : Nat) (arg : BitVec 56) (via : Transport) : Statement (.fwSwitch pair arg via) := none_ok _ rfl
theorem fwCancel (pair : Nat) (arg : BitVec 56) (via : Transport) : Statement (.fwCancel pair arg via) := none_ok _ rfl
theorem fwFallback : Statement .fwFallback := none_ok _ rfl
theorem dumpInfo (pair : Nat) (arg : BitVec 56) : Statement (.dumpInfo pair arg) := none_ok _ rfl
theorem dumpClear (pair : Nat) (arg : BitVec 56) (via : Transport) : Statement (.dumpClear pair arg via) := none_ok _ rfl
theorem power (pair : Nat) (arg : BitVec 56) (via : Transport) (c : CallIn) : Statement (.power pair arg via c) := none_ok _ rfl
theorem leakClear (pair : Nat) (arg : BitVec 56) (via : Transport) (sensed : Bool) : Statement (.leakClear pair arg via sensed) := none_ok _ rfl
theorem supvReset (pair : Nat) (arg : BitVec 56) (via : Transport) : Statement (.supvReset pair arg via) := none_ok _ rfl
theorem moduleReset (pair : Nat) (arg : BitVec 56) (via : Transport) : Statement (.moduleReset pair arg via) := none_ok _ rfl
theorem setEndpointId (via : Transport) (eid : Byte) : Statement (.setEndpointId via eid) := none_ok _ rfl
theorem getEndpointId (via : Transport) : Statement (.getEndpointId via) := none_ok _ rfl
theorem getMctpVersionSupport (via : Transport) (typ : Byte) : Statement (.getMctpVersionSupport via typ) := none_ok _ rfl
theorem getMessageTypeSupport (via : Transport) : Statement (.getMessageTypeSupport via) := none_ok _ rfl
theorem getVendorDefinedMessageSupport (via : Transport) (sel : Byte) : Statement (.getVendorDefinedMessageSupport via sel) := none_ok _ rfl
theorem setEventReceiver (via : Transport) (receiver : Byte) : Statement (.setEventReceiver via receiver) := none_ok _ rfl
theorem pldmSensorRead (via : Transport) (kind : Nat) (index : Nat) : Statement (.pldmSensorRead via kind index) := none_ok _ rfl
theorem pldmFwUpdate (via : Transport) (img : FwImage) : Statement (.pldmFwUpdate via img) := none_ok _ rfl
theorem getVersion (via : Transport) : Statement (.getVersion via) := none_ok _ rfl
theorem getCapabilities (via : Transport) : Statement (.getCapabilities via) := none_ok _ rfl
theorem negotiateAlgorithms (via : Transport) (rsa3072 : Bool) (sha256 : Bool) : Statement (.negotiateAlgorithms via rsa3072 sha256) := none_ok _ rfl
theorem getDigests (via : Transport) : Statement (.getDigests via) := none_ok _ rfl
theorem getCertificate (via : Transport) (slot : Nat) (off : Nat) (len : Nat) : Statement (.getCertificate via slot off len) := none_ok _ rfl
theorem spdmChallenge (via : Transport) (slot : Nat) (nonce : Bytes) : Statement (.spdmChallenge via slot nonce) := none_ok _ rfl
theorem getMeasurements (via : Transport) (index : Nat) : Statement (.getMeasurements via index) := none_ok _ rfl
theorem keyExchange (via : Transport) (exchange : Bytes) : Statement (.keyExchange via exchange) := none_ok _ rfl
theorem finish (via : Transport) (ok : Bool) : Statement (.finish via ok) := none_ok _ rfl
theorem entdaa (addr : BitVec 7) : Statement (.entdaa addr) := none_ok _ rfl
theorem i3cTimeout : Statement .i3cTimeout := none_ok _ rfl
theorem i3cSclLow : Statement .i3cSclLow := none_ok _ rfl
theorem coldBoot (bank0 : Option FwImage) (bank1 : Option FwImage) (sfdpOk : Bool) : Statement (.coldBoot bank0 bank1 sfdpOk) := none_ok _ rfl
theorem enroll (who : Agent) (v : W32) (keyOk : Bool) : Statement (.enroll who v keyOk) := none_ok _ rfl
theorem remove (who : Agent) (v : W32) : Statement (.remove who v) := none_ok _ rfl
theorem require (who : Agent) (v : W32) : Statement (.require who v) := none_ok _ rfl
theorem unrequire (who : Agent) (v : W32) : Statement (.unrequire who v) := none_ok _ rfl
theorem lockPolicy (who : Agent) (v : W32) : Statement (.lockPolicy who v) := none_ok _ rfl
theorem unlockpol (who : Agent) (v : W32) : Statement (.unlockpol who v) := none_ok _ rfl
theorem idcode : Statement .idcode := none_ok _ rfl
theorem challenge : Statement .challenge := none_ok _ rfl
theorem unlock (t : TokenIn) : Statement (.unlock t) := none_ok _ rfl
theorem tokenVerified : Statement .tokenVerified := none_ok _ rfl
theorem tapStatus : Statement .tapStatus := none_ok _ rfl
theorem bypass (bit : BitVec 1) : Statement (.bypass bit) := none_ok _ rfl
theorem dapNop : Statement .dapNop := none_ok _ rfl
theorem dapRead (size : BitVec 4) (space : BitVec 4) (addr : BitVec 48) (ecc : LineEcc) : Statement (.dapRead size space addr ecc) := none_ok _ rfl
theorem dapWrite (size : BitVec 4) (space : BitVec 4) (addr : BitVec 48) (data : W64) : Statement (.dapWrite size space addr data) := none_ok _ rfl
theorem dbLock (who : Agent) : Statement (.dbLock who) := none_ok _ rfl
theorem lifetimeExpire : Statement .lifetimeExpire := none_ok _ rfl
theorem supvHalt (who : Agent) : Statement (.supvHalt who) := none_ok _ rfl
theorem supvResume (who : Agent) : Statement (.supvResume who) := none_ok _ rfl
theorem supvStep (who : Agent) : Statement (.supvStep who) := none_ok _ rfl
theorem supvBreakpoint (addr : BitVec 48) : Statement (.supvBreakpoint addr) := none_ok _ rfl
theorem tileBreakpoint (tile : Nat) (side : Bool) (pc : BitVec 14) : Statement (.tileBreakpoint tile side pc) := some_ok _ _ rfl (fun w => w)
theorem ledgerWrite (r : LedgerIn) : Statement (.ledgerWrite r) := none_ok _ rfl
theorem compact (who : Agent) : Statement (.compact who) := none_ok _ rfl
theorem alwaysOnPowerUp (fixedPinLow : Bool) : Statement (.alwaysOnPowerUp fixedPinLow) := none_ok _ rfl
theorem fieldPowerUp (inletQ4 : Int) (trips : List Nat) : Statement (.fieldPowerUp inletQ4 trips) := none_ok _ rfl
theorem busSenseOpen (cv : Nat) : Statement (.busSenseOpen cv) := none_ok _ rfl
theorem busSenseClose : Statement .busSenseClose := none_ok _ rfl
theorem modResetAssert : Statement .modResetAssert := none_ok _ rfl
theorem modResetRelease : Statement .modResetRelease := none_ok _ rfl
theorem registerWrite (who : Agent) (off : Nat) (v : W32) : Statement (.registerWrite who off v) := none_ok _ rfl
theorem pluggableReplaced (port : Nat) (t : TrainIn) : Statement (.pluggableReplaced port t) := none_ok _ rfl
theorem tapReset (trstN : Bool) : Statement (.tapReset trstN) := none_ok _ rfl
theorem ethernetLinkChange (up : Bool) : Statement (.ethernetLinkChange up) := none_ok _ rfl
theorem positionFailure (pos : Nat) (cause : Nat) : Statement (.positionFailure pos cause) := none_ok _ rfl
theorem completionTimeout (d : DHdr) (hostAddr : W64) : Statement (.completionTimeout d hostAddr) := none_ok _ rfl
theorem busMasterEnable (ep : BitVec 1) (on : Bool) : Statement (.busMasterEnable ep on) := none_ok _ rfl
theorem carrierWait (cause : Nat) : Statement (.carrierWait cause) := none_ok _ rfl
theorem memoryTrainingDone (nearFail : List Nat) (farFail : List Nat) : Statement (.memoryTrainingDone nearFail farFail) := none_ok _ rfl

end Sys2Proof.Laws.Bounds
end

