-- ==== Sys2Proof/Tests/Slice0.lean ====
section
/-! SUPPORT. The model's own tests: the checks of WellFormed refuse what they should, commands do what worked examples of the specification say, and
the hypotheses of every statement are met by a concrete state. -/

namespace Sys2Proof.Tests

set_option Elab.async false

open Sys2Proof Sys2Proof.Machine

/-! ## Small states -/

/-- Tile 5, whose contexts both run; G1 is 7 and G2 is 3 in the primary. -/
def tile5 : Tile :=
  { Tile.reset with
    prim := { Ctx.reset with running := true, g := [(1, 7), (2, 3)] }
    side := { Ctx.reset with running := true } }

/-- A module that is powered and READY, with its supervisor, every field, controller and link port enabled, every position in service, and a
schedule that has begun on tile 5. -/
def run : State :=
  { State.reset with
    regs := [(0x4, 0xD), (0x100020, 0xFFFFFFFF), (0x100024, 0xFFFF), (0x100028, 0xFFFFFFFF), (0x10002C, 0xFFFF), (0x100030, 0xFFFFFF),
      (0x100034, 0xFFFF), (0x100038, 0xF), (0x400008, 0xFFFFFFFF), (0x40000C, 0xFFFF)]
    tiles := [(5, tile5)]
    fab := { Fabric.reset DefectMap.shipped with started := true }
    pwr := { Power.reset with convOn := true, busSense := true, pwrgd := true }
    sup := { Supv.reset with down := false } }

/-- The site of tile 5. -/
def at5 : Site := ⟨5, false, .ok, 0⟩
/-- The site of tile 5's side context. -/
def at5s : Site := ⟨5, true, .ok, 0⟩

/-- A scalar word with its fields. -/
def sf (gd ga gb : BitVec 5) (imm : BitVec 32) : SFmt := ⟨gd, ga, gb, 0, imm⟩
/-- A vector word. -/
def vf (vd va vb vc : BitVec 5) (msk : BitVec 3) (z : BitVec 1) : VFmt := ⟨0, vd, va, vb, vc, 0, msk, z, 0, 0, 0, 0⟩

/-- A packet of the trump network that comes in good order. -/
def hop0 : Hop := ⟨0, 0, 1⟩
/-- The same with its kind. -/
def hopOf (kind : BitVec 4) : Hop := ⟨0, 0, kind⟩
/-- A word stands at PC of a context. -/
def coded (s : State) (a : Site) (w : W64) : State :=
  s.onTile a.tile (fun x => { x with imem := x.imem.put (s.ctx a).pc.toNat w (BitVec.allOnes 64) })

/-- The state that an outcome holds. -/
def next? : Host.Outcome State Fault Refusal → Option State
  | .next t => some t
  | _ => none

/-! ## WellFormed: each check refuses a term -/

theorem test_wf_tile : (Instr.nop ⟨1152, false, .ok, 0⟩ (sf 0 0 0 0)).wf = false ∧ (Instr.nop ⟨1151, false, .ok, 0⟩ (sf 0 0 0 0)).wf = true := by decide
theorem test_wf_position : (Instr.nearScrub 48 ⟨[], [], []⟩).wf = false ∧ (Instr.nearScrub 47 ⟨[], [], []⟩).wf = true := by decide
theorem test_wf_failure_cause : (Instr.positionFailure 0 5).wf = false ∧ (Instr.positionFailure 48 3).wf = false := by decide
theorem test_wf_queue : (Instr.copyTimeout 64 0).wf = false := by decide
theorem test_wf_copy_source : (Instr.copy ⟨0, 0, 0, none⟩ 1024 0 0 0).wf = false := by decide
theorem test_wf_ring : (Instr.coalTimer 131).wf = false := by decide
theorem test_wf_vector : (Instr.msixUnmask 256).wf = false := by decide
theorem test_wf_mailbox : (Instr.mbTimeout 20 true).wf = false := by decide
theorem test_wf_router_port : (Instr.flitReceive 0 16 false 0).wf = false := by decide
theorem test_wf_mesh_link : (Instr.seamTimeout 2376).wf = false := by decide
theorem test_wf_seat : (Instr.renege 1024 0 ⟨0, 0, hop0, []⟩).wf = false := by decide
theorem test_wf_tree : (Instr.trickTimeout 256).wf = false := by decide
theorem test_wf_far : (Instr.stockScrub 24 ⟨[], [], []⟩ ⟨[], [], []⟩).wf = false := by decide
theorem test_wf_link_port : (Instr.frameResendTimer 16).wf = false := by decide
theorem test_wf_link_header : (Instr.packetForward ⟨16, 0, 0, 0, 0, 0, 0, 0, 0⟩ []).wf = false ∧
    (Instr.packetForward ⟨0, 4, 0, 0, 0, 0, 0, 0, 0⟩ []).wf = false ∧ (Instr.packetForward ⟨0, 0, 2, 0, 0, 0, 0, 0, 0⟩ []).wf = false := by decide
theorem test_wf_domain : (Instr.pllUnlock 141).wf = false := by decide
theorem test_wf_domains : (Instr.freqGate [(141, 0)]).wf = false := by decide
theorem test_wf_converter : (Instr.convFail 16 0).wf = false := by decide
theorem test_wf_field : (Instr.foldreqCool 48).wf = false := by decide
theorem test_wf_word : (Instr.patrolScrub 0 [5242880]).wf = false := by decide
theorem test_wf_carrier : (Instr.carrierWait 3).wf = false := by decide
theorem test_wf_boundary : (Instr.handBoundary ⟨true, [1152], [], [], [], [], []⟩).wf = false ∧
    (Instr.handBoundary ⟨true, [], [(48, 0, 0, true)], [], [], [], []⟩).wf = false := by decide
theorem test_wf_training : (Instr.memoryTrainingDone [48] []).wf = false ∧ (Instr.memoryTrainingDone [] [96]).wf = false := by decide
theorem test_wf_trips : (Instr.fieldPowerUp 0 [48]).wf = false := by decide
theorem test_wf_commit : (Instr.commit .host [(256, none)]).wf = false := by decide

theorem test_wf_retrains : (Instr.periodicRetrain [(16, ⟨[], 0, false, 0, 0⟩)]).wf = false := by decide


/-! ## Scalar and control instructions: worked by hand from R156 -/

/-- The word of a scalar or control instruction. -/
def sw (cls op : Nat) (f : SFmt) : W64 := wordOf cls op (sLow f)
/-- A command after its word stands at PC of tile 5's primary. -/
def ran (w : W64) (c : Instr) : Option State := next? (exec c (coded run at5 w))
/-- General register `r` of tile 5's primary after a scalar instruction. -/
def gAfter (op : Nat) (f : SFmt) (c : Site → SFmt → Instr) (r : BitVec 5) : Option W32 :=
  (ran (sw 0 op f) (c at5 f)).map (fun t => (t.ctx at5).gr r)

theorem test_add : gAfter 0 (sf 3 1 2 0) .add 3 = some 10 := by decide +kernel
theorem test_sub_wraps : gAfter 1 (sf 3 2 1 0) .sub 3 = some 0xFFFFFFFC := by decide +kernel
theorem test_shl : gAfter 5 (sf 1 1 2 0) .shl 1 = some 56 := by decide +kernel
theorem test_g0_reads_zero : gAfter 0 (sf 0 1 2 0) .add 0 = some 0 := by decide +kernel
theorem test_addi : gAfter 9 (sf 4 2 0 0xFFFFFFF0) .addi 4 = some 0xFFFFFFF3 := by decide +kernel
theorem test_jmp : (ran (sw 7 4 (sf 0 0 0 0x123)) (.jmp at5 (sf 0 0 0 0x123))).map (fun t => (t.ctx at5).pc) = some 0x123 := by decide +kernel
theorem test_illegal_target : (ran (sw 7 4 (sf 0 0 0 0x4000)) (.jmp at5 (sf 0 0 0 0x4000))).map (fun t => (t.ctx at5).running) = some false := by
  decide +kernel
theorem test_another_word : ran (sw 0 0 (sf 3 1 2 0)) (.add at5 (sf 4 1 2 0)) = some (coded run at5 (sw 0 0 (sf 3 1 2 0))) := by decide +kernel

/-! ## Hypotheses of the statements about tiles -/

/-- Every one of some words can be decoded by a context when it stands at PC. -/
def decodes (s : State) (a : Site) (l : List (W64 × List (BitVec 5))) : Prop := ∀ e ∈ l, (coded s a e.1).canDecode a e.1 e.2
/-- The same with issue; the delay of every word is 0. -/
def issues (s : State) (a : Site) (l : List (W64 × List (BitVec 5))) : Prop := ∀ e ∈ l, (coded s a e.1).canIssue a e.1 0 e.2

/-- A check of `canDecode`. -/
def decodesNow (s : State) (a : Site) (w : W64) (r : List (BitVec 5)) : Bool :=
  s.ready a && decide (a.fetch ≠ .double) && decide (s.fetched a = w) && legalWord (s.banks a.side).1 (s.banks a.side).2 w && evenPairs w &&
    !(s.ctx a).waitsFor r
/-- A check of `idle`. -/
def idles (c : Ctx) : Bool :=
  decide (c.uq = []) && decide (c.run = none) && decide (c.fill = none) && decide (c.send = none) && decide (c.recv = none) && decide (c.binds = []) &&
    decide (c.out = [])
/-- A check of `canIssue` with delay 0. -/
def issuesNow (s : State) (a : Site) (w : W64) (r : List (BitVec 5)) : Bool :=
  decodesNow s a w r && idles (s.tile a.tile).prim && idles (s.tile a.tile).side && !s.fab.freezing && s.fab.started &&
    decide ((s.tile a.tile).corr.length ≤ 1) && s.before (s.fromStart a ((s.ctx a).target 0).toNat)

theorem idles_idle {c : Ctx} (h : idles c = true) : c.idle := by
  simpa [idles, Ctx.idle, and_assoc] using h
theorem decodes_of {s : State} {a : Site} {l : List (W64 × List (BitVec 5))}
    (h : l.all (fun e => decodesNow (coded s a e.1) a e.1 e.2) = true) : decodes s a l := by
  intro e he
  simpa [decodesNow, State.canDecode, and_assoc] using List.all_eq_true.mp h e he
theorem issues_of {s : State} {a : Site} {l : List (W64 × List (BitVec 5))}
    (h : l.all (fun e => issuesNow (coded s a e.1) a e.1 e.2) = true) : issues s a l := by
  intro e he
  have := List.all_eq_true.mp h e he
  simp only [issuesNow, Bool.and_eq_true, decide_eq_true_eq, Bool.not_eq_true'] at this
  obtain ⟨⟨⟨⟨⟨⟨hd, hp⟩, hs⟩, hf⟩, hst⟩, hc⟩, hb⟩ := this
  exact ⟨by simpa [decodesNow, State.canDecode, and_assoc] using hd, ⟨idles_idle hp, idles_idle hs, hf⟩, hst, hc, hb⟩

theorem test_met_ScalarClass : decodes run at5 ([0, 1, 2, 3, 4, 5, 6, 7, 8].map (fun op => (sw 0 op (sf 3 1 2 0), [1, 2]))) ∧
    decodes run at5 [(sw 0 9 (sf 0 1 0 0xFFFFFFFF), [1]), (sw 0 0xA (sf 31 0 0 5), []), (sw 0 0xB (sf 3 1 0 16383), [1]),
      (sw 0 0xC (sf 0 1 2 0), [1, 2])] ∧ Ecc.corrected ≠ .double ∧ decodes run at5 ([0, 1, 2, 3, 4, 5, 6, 8, 9, 10, 0xFFFFFFFF].map
      (fun n => (sw 0 0xD (sf 3 0 0 n), []))) ∧ decodes run at5s [(sw 0 0xD (sf 3 0 0 7), [])] := by
  and_intros <;> first | exact decodes_of (by decide +kernel) | exact issues_of (by decide +kernel) | decide +kernel
/-- A hand of two micro-batches runs. -/
def playing2 : State := { run with hand := { Hand.reset with running := some ⟨0, 1, ⟨9, 0, 0, 0, 2, 0⟩, false, none⟩ } }
theorem test_met_ScalarClass_count : decodes playing2 at5 [(sw 0 0xD (sf 3 0 0 7), [])] ∧ playing2.hand.running.isSome = true := by
  and_intros <;> first | exact decodes_of (by decide +kernel) | exact issues_of (by decide +kernel) | decide +kernel

theorem test_met_ControlClass : decodes run at5 ([0, 1, 2, 3].map (fun op => (sw 7 op (sf 0 1 2 16383), [1, 2]))) ∧
    decodes run at5 [(sw 7 4 (sf 0 0 0 0), []), (sw 7 5 (sf 0 1 0 9), [1]), (sw 7 6 (sf 0 0 0 0xFFFFFFFF), []), (sw 7 0xC (sf 0 0 0 0), []),
      (sw 7 0xA (sf 0 0 0 0), [])] ∧ idles (run.tile 5).prim = true ∧ idles (run.tile 5).side = true ∧ run.fab.freezing = false ∧ (run.ctx at5).sig = (sf 0 0 0 0).imm := by
  and_intros <;> first | exact decodes_of (by decide +kernel) | exact issues_of (by decide +kernel) | decide +kernel

/-- Tile 5's primary waits for a trick result in G4. -/
def waiting : State := run.onCtx at5 (fun c => { c with waits := [⟨1, 4, true⟩] })
/-- Its matrix queue is full, and the word of another instruction stands at PC. -/
def filled16 : State := run.onCtx at5 (fun c => { c with uq := List.replicate 16 ⟨.mown ⟨0, 0, 0, 0⟩, 0, 9, 0, 0⟩ })

theorem test_met_InstructionDecode : State.reset.ready at5 = false ∧ (coded waiting at5 (sw 0 0 (sf 3 4 1 0))).ready at5 = true ∧
    ((coded waiting at5 (sw 0 0 (sf 3 4 1 0))).ctx at5).waitsFor [4, 1] = true ∧ evenPairs (sw 0 0 (sf 3 4 1 0)) = true ∧
    legalWord (run.banks false).1 (run.banks false).2 (sw 0 0 (sf 3 4 1 0)) = true ∧ (coded run at5 (sw 7 6 (sf 0 0 0 0))).fetched at5 ≠ sw 7 0xC (sf 0 0 0 0) ∧
    run.ready ⟨5, false, .double, 0⟩ = true ∧ run.fetched at5 = BitVec.allOnes 64 ∧ legalWord 0 8 (BitVec.allOnes 64) = false ∧
    decodes run at5 [(sw 7 0xA (sf 0 0 0 1), [])] ∧ (run.ctx at5).sig ≠ (sf 0 0 0 1).imm ∧
    (filled16.ctx at5).full (TOp.mown ⟨0, 0, 0, 0⟩).unit = true ∧ (run.ctx at5).full (TOp.mown ⟨0, 0, 0, 0⟩).unit = false := by
  and_intros <;> first | exact decodes_of (by decide +kernel) | exact issues_of (by decide +kernel) | decide +kernel
theorem test_held_decode : next? (exec (.add at5 (sf 3 4 1 0)) (coded waiting at5 (sw 0 0 (sf 3 4 1 0)))) =
    some (coded waiting at5 (sw 0 0 (sf 3 4 1 0))) := by decide +kernel

/-- A side MOWN of buffer A, which the side context owns, waits for a window; a PHASE waits for its beat. -/
def mownWaits : State := run.onTile 5 (fun x =>
  { x with side := { x.side with uq := [⟨.mown ⟨0, 0, 0, 0⟩, 0, 0, 0, 0⟩] }, bufA := { x.bufA with side := true } })
def phaseWaits : State := run.onCtx at5 (fun c => { c with binds := [(0, 3, 0)] })

theorem test_met_ScheduleTiming : issues run at5 [(sw 7 8 (sf 0 0 0 0), []), (sw 7 9 (sf 0 0 0 0), []), (sw 7 0xB (sf 0 0 0 0), [])] ∧
    issues run at5s [(sw 7 0xB (sf 0 0 0 0), [])] ∧ decodes run at5 [(sw 7 7 (sf 0 0 0 0), [])] ∧ idles (run.tile 5).prim = true ∧ idles (run.tile 5).side = true ∧ run.fab.freezing = false ∧
    (sf 0 0 0 0).imm.toNat < max 1 (run.tile 5).router.phases.length ∧ (run.ctx at5).tc.toNat = run.endBeat ∧
    ((run.onCtx at5 (fun c => { c with tc := 1 })).ctx at5).tc.toNat ≠ run.endBeat ∧ run.hand.sideRun = none := by
  and_intros <;> first | exact decodes_of (by decide +kernel) | exact issues_of (by decide +kernel) | decide +kernel
theorem test_met_ScheduleTiming_mown : decodes mownWaits at5 [(sw 7 8 (sf 0 0 0 0), [])] ∧ idles (mownWaits.tile 5).prim = true ∧
    idles { (mownWaits.tile 5).side with uq := [] } = true ∧ mownWaits.before (mownWaits.fromStart ⟨5, true, .ok, 0⟩ 0) = true ∧
    ((mownWaits.tile 5).buf 0).side = true ∧ (mownWaits.tile 5).side.running = true := by
  and_intros <;> first | exact decodes_of (by decide +kernel) | exact issues_of (by decide +kernel) | decide +kernel
theorem test_met_ScheduleTiming_phase : decodes phaseWaits at5 [(sw 7 6 (sf 0 0 0 4), [])] ∧ idles { phaseWaits.ctx at5 with binds := [] } = true ∧
    idles (phaseWaits.tile 5).side = true ∧ 3 < ((phaseWaits.ctx at5).tc + (sf 0 0 0 4).imm.setWidth 64).toNat ∧ phaseWaits.before 3 = true := by
  and_intros <;> first | exact decodes_of (by decide +kernel) | exact issues_of (by decide +kernel) | decide +kernel

/-- The word of a vector instruction. -/
def vw (op : Nat) (f : VFmt) : W64 := wordOf 2 op (vLow f)
theorem test_met_VectorElementwise : ((run.tile 5).inject 2).1 = none ∧ issues run at5 ([0x00, 0x01, 0x02, 0x04, 0x05, 0x08, 0x20, 0x21].map
      (fun op => (vw op (vf 1 2 3 0 0 1), []))) ∧ issues run at5 ([0x06, 0x07, 0x09, 0x0A, 0x0B, 0x1E].map (fun op => (vw op (vf 1 2 0 0 0 0), []))) ∧
    issues run at5 [(vw 0x03 (vf 31 31 31 31 7 1), []), (vw 0x1F (vf 1 2 3 7 0 0), [])] := by
  and_intros <;> first | exact decodes_of (by decide +kernel) | exact issues_of (by decide +kernel) | decide +kernel
theorem test_met_VectorIntegersAndReductions : ((run.tile 5).inject 2).1 = none ∧ issues run at5 ([0x10, 0x11, 0x12, 0x13, 0x14, 0x15, 0x16, 0x17, 0x18, 0x19].map
      (fun op => (vw op (vf 1 2 3 0 0 0), []))) ∧ issues run at5 ([0x0C, 0x0D, 0x0E, 0x0F].map (fun op => (vw op (vf 7 2 3 0 0 0), []))) ∧
    issues run at5 ([0x1A, 0x1B, 0x1C].map (fun op => (vw op (vf 1 2 0 0 0 0), []))) ∧
    ((run.ctx at5).el 2 0).toNat < 32 := by
  and_intros <;> first | exact decodes_of (by decide +kernel) | exact issues_of (by decide +kernel) | decide +kernel

/-- A queue entry of the primary, and of a tile that holds it. -/
def qent : QEnt := ⟨[(0, 9)], 1, false, false, 0, 0⟩
def queued : State := run.onTile 5 (fun x => { x with queue := [qent] })
theorem test_met_VectorDrawAndPop : ((queued.tile 5).inject 2).1 = none ∧ issues queued at5 [(vw 0x22 (vf 1 0 0 0 3 0), []), (vw 0x23 (vf 30 0 0 6 0 0), [])] ∧
    (queued.tile 5).oldest false = some qent ∧ issues run at5 [(vw 0x23 (vf 30 0 0 6 0 0), [])] ∧ (run.tile 5).oldest false = none := by
  and_intros <;> first | exact decodes_of (by decide +kernel) | exact issues_of (by decide +kernel) | decide +kernel
theorem test_qpop : (next? (exec (.qpop at5 (vf 2 0 0 2 0 0) none) (coded queued at5 (vw 0x23 (vf 2 0 0 2 0 0))))).map
    (fun t => ((t.ctx at5).el 2 0, (t.tile 5).queue)) = some (9, []) := by decide +kernel

/-- A conversion from FP32 to BF16 of the side context, which needs no binding, and upsets of a significand's and of the sign bit. -/
def cvtF : VFmt := ⟨0, 1, 2, 0, 0x00, 0x01, 0, 0, 0, 0, 0, 0⟩
def upset (bit : BitVec 5) (persist : Bool) : Upset := ⟨2, 63, bit, persist⟩
/-- The census slot 0 of tile 5's primary is bound to tensor 0. -/
def bound : State := run.onCtx at5 (fun c => { c with census := [(0, { CSlot.reset with bound := some (0, 0) })] })
theorem test_met_VectorConvertAndUpsets : issues run at5 [(vw 0x1D cvtF, []), (vw 0x00 (vf 1 2 3 0 0 0), []), (vw 0x12 (vf 1 2 3 0 0 0), [])] ∧
    issues bound at5 [(vw 0x1D cvtF, [])] ∧ ((bound.ctx at5).census.get cvtF.slot.toNat CSlot.reset).bound ≠ none ∧
    ((run.ctx at5).census.get cvtF.slot.toNat CSlot.reset).bound = none ∧ (elemOf cvtF.vc).isSome = true ∧ (elemOf cvtF.vx).isSome = true ∧
    issues run at5s [(vw 0x1D cvtF, [])] ∧ ((bound.tile 5).inject 2).1 = none ∧ ((run.tile 5).inject 2).1 = none ∧ (upset 22 true).target = 2 ∧
    (upset 22 false).bit.toNat < 23 ∧ 23 ≤ (upset 31 false).bit.toNat ∧ (upset 0 false).lane.toNat < 64 ∧
    ((run.ctx at5).mask (vf 1 2 3 0 0 0).msk.toNat).getLsbD 63 = true := by
  and_intros <;> first | exact decodes_of (by decide +kernel) | exact issues_of (by decide +kernel) | decide +kernel
theorem test_unbound_conversion_halts : (ran (vw 0x1D cvtF) (.cvt at5 cvtF none)).map (fun t => (t.ctx at5).running) = some false := by decide +kernel

/-! ## Hypotheses of the statements about the matrix unit -/

/-- A check of `canGo`. -/
def goesNow (s : State) (a : Site) : Bool :=
  s.fab.started && (s.ctx a).running && s.fieldOn (tileField a.tile) && s.moving && !s.fab.freezing && decide ((s.tile a.tile).corr.length ≤ 1) &&
    idles ((s.tile a.tile).ctx (!a.side))

/-- A buffer with FP16 rows for lane 0 and no usable sum row. -/
def wbuf : WBuf := ⟨some 2, 1, [], [], [], true, false⟩
/-- Tile 5 with such a buffer A, and its window as given. -/
def loaded (window : Bool) : State :=
  (run.onTile 5 (fun x => { x with bufA := wbuf })).onCtx at5 (fun c => { c with window := window })
/-- A word of the matrix unit. -/
def mownW (f : MOwnF) : W64 := wordOf 1 3 (mownLow f)
def mfillW (f : MFillF) : W64 := wordOf 1 2 (mfillLow f)
def mrunW (f : MRunF) : W64 := wordOf 1 1 (mrunLow f)
/-- The same with a window open, the buffer of the side context. -/
def lent : State := (loaded true).onTile 5 (fun x => { x with bufA := { wbuf with side := true } })

theorem test_met_MatrixBuffers_BufferOwnership : issues (loaded true) at5 [(mownW ⟨0, 0, 0, 0⟩, [])] ∧ issues (loaded false) at5 [(mownW ⟨0, 0, 0, 0⟩, [])] ∧
    issues (loaded false) at5s [(mownW ⟨0, 0, 0, 0⟩, [])] ∧ issues lent at5 [(mownW ⟨0, 0, 0, 0⟩, [])] ∧ issues lent at5s [(mownW ⟨0, 0, 0, 0⟩, [])] ∧
    ((loaded true).tile 5).prim.window = true ∧ (((loaded true).tile 5).buf 0).side = at5.side ∧ ((loaded false).tile 5).prim.window = false ∧
    at5s.side = true ∧ ((lent.tile 5).buf 0).side ≠ at5.side ∧ ((lent.tile 5).buf 0).side = at5s.side := by
  and_intros <;> first | exact issues_of (by decide +kernel) | decide +kernel

/-- MFILL of buffer A in FP16 under mask registers M2 and M3. -/
def mfillF (src : BitVec 3) : MFillF := ⟨0, 2, 0, src, 2, 0, 1, 0⟩
/-- Tile 5 with one lane in M2 and 20 flits in each of FIL0 and FIL1; the second names buffer A in a step that is still under way. -/
def fills : State := (run.onCtx at5 (fun c => { c with m := [(2, 1)] })).onTile 5 (fun x =>
  { x with router := { x.router with lanes := [(12, List.replicate 20 ⟨1, false, 0⟩), (14, List.replicate 20 ⟨2, false, 0⟩)] } })
def fillsLate : State := fills.onTile 5 (fun x => { x with useA := 100 })
def fillsDry : State := fills.onTile 5 (fun x => { x with router := { x.router with lanes := [] } })
def fillsShut : State := fills.onCtx at5 (fun c => { c with window := true })
/-- Tile 5 with G1 past its partition. -/
def fillsOut : State := fills.onCtx at5 (fun c => { c with g := [(1, 655360)] })
/-- A fill that waits for buffer A. -/
def fillHeld : FillHeld := ⟨mfillF 0, 1, 7, .ok, false, []⟩
def fillWaits : State := fills.onCtx at5 (fun c => { c with fill := some fillHeld })

theorem test_met_MatrixBuffers_WeightFill : issues fills at5 [(mfillW (mfillF 0), [1]), (mfillW (mfillF 1), [1])] ∧ issues fillsLate at5 [(mfillW (mfillF 0), [1])] ∧
    issues fillsDry at5 [(mfillW (mfillF 1), [1])] ∧ issues fillsShut at5 [(mfillW (mfillF 0), [1])] ∧ issues fillsOut at5 [(mfillW (mfillF 0), [1])] ∧
    (fills.tile 5).prim.window = false ∧ (fillsShut.tile 5).prim.window = true ∧ (fills.tile 5).standin = none ∧
    (fills.tile 5).useA ≤ (fills.tile 5).now false ((fills.ctx at5).target 0).toNat ∧
    ¬ (fillsLate.tile 5).useA ≤ (fillsLate.tile 5).now false ((fillsLate.ctx at5).target 0).toNat ∧
    fills.linesOk false 7 ((1 * rowBytes 2 + 63) / 64) = true ∧ fillsOut.linesOk false 655360 ((1 * rowBytes 2 + 63) / 64) = false ∧
    (fills.tile 5).ueIn 448 (1 * rowBytes 2) = none ∧ (1 * rowBytes 2 + 6 * chunkOf 2 + 63) / 64 ≤ 20 ∧
    ((fills.tile 5).router.lane (laneOut 1 false)).length = 20 ∧ ((fills.tile 5).router.lane (laneOut 2 false)).length = 20 ∧
    (((fills.tile 5).router.lane (laneOut 1 false)) ++ ((fills.tile 5).router.lane (laneOut 2 false))).any (·.poison) = false ∧
    (fillsDry.tile 5).router.lane (laneOut 1 false) = [] ∧ 0 < (1 * rowBytes 2 + 6 * chunkOf 2 + 63) / 64 := by
  and_intros <;> first | exact issues_of (by decide +kernel) | decide +kernel
theorem test_met_MatrixBuffers_FillRelease : (fillWaits.ctx at5).fill = some fillHeld ∧ idles { fillWaits.ctx at5 with fill := none } = true ∧
    goesNow fillWaits at5 = true ∧ fillHeld.go = false ∧ fillHeld.f.src = 0 ∧ (fillWaits.tile 5).standin = none ∧
    (fillWaits.tile 5).ueIn (64 * fillHeld.line) ((lanesOf fillHeld.mask).length * rowBytes fillHeld.f.fmt) = none ∧
    (run.wr R.FB_STATUS_STALLED 1).moving = false := by
  and_intros <;> decide +kernel

/-- MRUN of one FP16 step on line G1 into entry 0 of bank 0, of buffer A, with FIRST and LAST into the queue. -/
def mrunF : MRunF := ⟨0, 2, 0, 0, 0, 1, 1, 0, 0, 0, 0, 1, 0, 0⟩
/-- The same as a bubble, and toward a pot through list entry 31, which the second plan has. -/
def mrunBub : MRunF := { mrunF with bub := 1 }
def mrunMesh : MRunF := { mrunF with dst := 1 }
def planned : State := { loaded false with
  hand := { Hand.reset with plan := some ⟨false, false, 1, [⟨0, 0, 0, 1, 0, 64, 1, 1, 0⟩], [⟨5, 31, 2, 0, 0, 1024⟩]⟩ } }

theorem test_met_MatrixSteps_MatrixStep : issues (loaded false) at5 [(mrunW mrunF, [1, 0]), (mrunW mrunBub, [1, 0]), (mrunW mrunMesh, [1, 0])] ∧
    issues (loaded true) at5 [(mrunW mrunF, [1, 0])] ∧ issues planned at5 [(mrunW mrunMesh, [1, 0])] ∧ ((loaded true).tile 5).prim.window = true ∧
    ((loaded false).tile 5).prim.window = false ∧ (∀ i, i ≤ mrunF.nm1.toNat → (loaded false).linesOk false (runLine 7 0 i) (recordLines 2) = true) ∧
    ((loaded false).tile 5).ueIn 448 (rowBytes 2) = none ∧ (((loaded false).tile 5).buf 0).fmt = some mrunF.fmt ∧
    ((loaded false).tile 5).slotAt false ((loaded false).queueMax false) (((loaded false).tile 5).now false 0) = some (((loaded false).tile 5).now false 0) ∧
    (((loaded false).tile 5).inject 0).1 = none ∧ (((loaded false).tile 5).inject 1).1 = none ∧ (loaded false).drainEnt 5 = none ∧
    (planned.drainEnt 5).isSome = true ∧ mrunF.first = 1 ∧ mrunF.bub = 0 ∧ mrunBub.bub = 1 := by
  and_intros <;> first | exact issues_of (by decide +kernel) | decide +kernel
theorem test_met_MatrixSteps_MatrixStep_compare (e : Acc) : compareStep (planned.tile 5) wbuf e ≠ some true := by
  simp [compareStep, wbuf]

/-- The queue is full; a step waits for a slot, and one is free. -/
def full : State := (loaded false).onTile 5 (fun x => { x with queue := List.replicate 8 qent })
def runHeld : RunHeld := ⟨mrunF, 3, 0, 0, 7, 0, [], false⟩
def runWaits : State := (loaded false).onCtx at5 (fun c => { c with run := some runHeld })
theorem test_met_MatrixSteps_QueueFull : issues full at5 [(mrunW mrunF, [1, 0])] ∧ (full.tile 5).prim.window = false ∧
    (full.tile 5).slotAt false (full.queueMax false) ((full.tile 5).now false 0) = none ∧
    (∀ i, i ≤ mrunF.nm1.toNat → full.linesOk false (runLine 7 0 i) (recordLines 2) = true) ∧ ((full.tile 5).buf 0).fmt = some 2 ∧
    (runWaits.ctx at5).run = some runHeld ∧ idles { runWaits.ctx at5 with run := none } = true ∧ goesNow runWaits at5 = true ∧
    runHeld.beat ≤ (runWaits.ctx at5).tc.toNat ∧ runHeld.step = runHeld.f.nm1.toNat ∧ ((runWaits.tile 5).buf 0).fmt = some 2 ∧
    ((runWaits.tile 5).slotAt false (runWaits.queueMax false) ((runWaits.tile 5).now false 0)).isSome = true ∧
    (runWaits.tile 5).ueIn 448 (rowBytes 2) = none ∧ ((runWaits.tile 5).inject 0).1 = none ∧ ((runWaits.tile 5).inject 1).1 = none ∧
    idles (run.tile 5).prim = true ∧ idles (run.tile 5).side = true ∧ run.fab.freezing = false := by
  and_intros <;> first | exact issues_of (by decide +kernel) | decide +kernel
theorem test_met_MatrixSteps_QueueFull_compare (e : Acc) : compareStep (runWaits.tile 5) ((runWaits.tile 5).buf 0) e ≠ some true := by
  have : (runWaits.tile 5).buf 0 = wbuf := by decide +kernel
  rw [this]; simp [compareStep, wbuf]
/-- Four recoveries within 1,024 beats. -/
def recovered4 : State := run.onTile 5 (fun x => { x with recov := [1, 2, 3, 4] })
theorem test_met_MatrixSteps_RecoveryBudget :
    4 ≤ (((recovered4.tile 5).recov.filter (fun r => decide ((recovered4.tile 5).now false 5 < r + 1024))).length) ∧
    ((run.tile 5).recov.filter (fun r => decide ((run.tile 5).now false 5 < r + 1024))).length ≤ 3 ∧ ((run.tile 5).inject 0).1 = none ∧
    ((run.tile 5).inject 1).1 = none := by
  and_intros <;> decide +kernel
/-- Tile 5 with lane 3 in stand-in mode, whose row alone is in the buffer: its result and the checker's agree, whatever is drawn. -/
def standing : State := run.onTile 5 (fun x => { x with standin := some 3, bufA := { wbuf with mask := 8 } })
theorem sub_self_zero (b : Bool) (m : Nat) (e : Int) : ∃ c, (sumFV [FV.num b m e]).sub (FV.num b m e) = .num c 0 0 := by
  by_cases h : m = 0
  · subst h
    simp [sumFV, FV.sub, FV.neg, FV.add]
  · cases b <;> simp [sumFV, FV.sub, FV.neg, FV.add, h, sgn, scaleTo]
theorem stepVal_finite (i : Nat) : (f32 (stepVal i [])).finite = true := by
  unfold stepVal
  dsimp only
  split
  · rename_i h; simp only [Bool.and_eq_true] at h; exact h.1.2
  · decide +kernel
theorem agree_self (i : Nat) (mu : W32) (h : ∀ c, disagree (.num c 0 0) mu = false) :
    disagree ((sumFV [f32 (stepVal i [])]).sub (f32 (stepVal i []))) mu = false := by
  have := stepVal_finite i
  cases hf : f32 (stepVal i []) with
  | num b m e => obtain ⟨c, hc⟩ := sub_self_zero b m e; rw [hc]; exact h c
  | _ => simp [hf, FV.finite] at this
theorem test_met_MatrixSteps_RecoveryBudget_replay :
    ((standing.tile 5).recov.filter (fun r => decide ((standing.tile 5).now false 5 < r + 1024))).length ≤ 3 ∧
    ((standing.tile 5).inject 0).1 = none ∧ ((standing.tile 5).inject 1).1 = none ∧
    (fun r : StepOut => disagree ((sumFV (r.p.map (fun e => f32 e.2))).sub (f32 r.q)) r.mu)
      (stepOut ((standing.tile 5).buf 0) [] 0 (standing.tile 5).standin []) = false := by
  refine ⟨by decide +kernel, by decide +kernel, by decide +kernel, ?_⟩
  have h : stepOut ((standing.tile 5).buf 0) [] 0 (standing.tile 5).standin [] =
      ⟨[(3, stepVal (0 + 128) [])], stepVal (0 + 128) [], toF32Up (sumFV [])⟩ := rfl
  rw [h]
  exact agree_self _ _ (by decide +kernel)

/-- A step of one beat from buffer B, which holds no rows. -/
def mrunB : MRunF := { mrunF with buf := 1 }
theorem test_met_FormatMismatch : issues (loaded false) at5 [(mrunW mrunB, [1, 0])] ∧ mrunB.bub = 0 ∧ ((loaded false).tile 5).prim.window = false ∧
    (∀ i, i ≤ mrunB.nm1.toNat → (loaded false).linesOk false (runLine (((loaded false).ctx at5).gr mrunB.ga).toNat
      (((loaded false).ctx at5).gr mrunB.gs).toNat i) (recordLines mrunB.fmt) = true) ∧
    (((loaded false).tile 5).buf 1).side = at5.side ∧ (((loaded false).tile 5).buf 1).fmt ≠ some mrunB.fmt := by
  and_intros <;> first | exact issues_of (by decide +kernel) | decide +kernel

/-! ## Memory, mesh and trump instructions -/

/-- An image that gives the side context an entry of the queue, a bank and a MiB of SRAM. -/
def img : Image :=
  { kind := 0, signed := false, id := 9, base := 0, length := 64, seed := 0, excl := 0, cribPeak := 0, beatsFixed := 4, beatsPerMb := 1, mbMax := 8,
    sideImem := 1, sideSram := 1, sideBanks := 1, sideQueue := 1, minFw := 0, digest := 0, sections := [], bytes := [], sweepLen := 3,
    sweepPc := [] }
/-- Tile 5 on trees 0 and 1, with pot list entries, and 3 flits for its primary. -/
def meshed : State :=
  { run.onTile 5 (fun x => { x with router := { x.router with trees := 3, lanes := [(10, List.replicate 3 ⟨5, false, 0⟩)] } }) with
    hand := { Hand.reset with plan := some ⟨false, false, 1, [⟨0, 0, 0, 1, 0, 64, 1, 1, 0⟩], [⟨5, 0, 0, 0, 0, 64⟩, ⟨5, 1, 1, 0, 0, 1024⟩]⟩ } }
/-- SEND, RECV and POTS of lines from G1. -/
def xf (n : BitVec 10) (mode : BitVec 1) (gl : BitVec 5) : XFmt := ⟨0, 1, 0, n, mode, gl, 0⟩
def xw (op : Nat) (f : XFmt) : W64 := wordOf 4 op (xLow f)
/-- G1 past the partition; a full local port; no flit. -/
def outside : State := meshed.onCtx at5 (fun c => { c with g := [(1, 655360)] })
def fullPort : State := meshed.onTile 5 (fun x => { x with router := { x.router with lanes := [(laneIn 4 false, List.replicate 8 ⟨5, false, 0⟩)] } })
def noFlit : State := meshed.onTile 5 (fun x => { x with router := { x.router with lanes := [] } })
/-- A SEND and a RECV with 2 flits to go, whose beats the next WAITB passes. -/
def meshHeld : MeshHeld := ⟨3, 0, 7, 2, .ok⟩
def sends : State := meshed.onCtx at5 (fun c => { c with send := some meshHeld })
def recvs : State := meshed.onCtx at5 (fun c => { c with recv := some meshHeld })

theorem test_met_LoadStore : issues run at5 [(wordOf 3 0 (lLow ⟨0, 3, 1, 0, 0⟩), [1]), (wordOf 3 1 (lLow ⟨0, 3, 1, 0, 0⟩), [1]),
      (wordOf 3 0 (lLow ⟨0, 3, 1, 655350, 0⟩), [1]), (wordOf 3 1 (lLow ⟨0, 3, 1, 655350, 0⟩), [1])] ∧ ((run.tile 5).inject 2).1 = none ∧
    run.linesOk false 7 4 = true ∧ (run.tile 5).ueIn 448 256 = none ∧ run.linesOk false ((7 + 655350) % 2 ^ 20) 4 = false ∧
    run.linesOk false ((7 + 655349) % 2 ^ 20) 4 = true := by
  and_intros <;> first | exact issues_of (by decide +kernel) | decide +kernel
theorem test_met_SendReceive : issues meshed at5 [(xw 0 (xf 2 0 0), [1]), (xw 1 (xf 2 0 0), [1])] ∧ meshed.linesOk false 7 3 = true ∧
    (meshed.tile 5).ueIn 448 64 = none ∧ ((meshed.tile 5).router.lane (laneIn 4 false)).length < 8 ∧ issues fullPort at5 [(xw 0 (xf 2 0 0), [1])] ∧
    8 ≤ ((fullPort.tile 5).router.lane (laneIn 4 false)).length ∧ (meshed.tile 5).router.lane (laneOut 0 false) = List.replicate 3 ⟨5, false, 0⟩ ∧
    issues noFlit at5 [(xw 1 (xf 2 0 0), [1])] ∧ (noFlit.tile 5).router.lane (laneOut 0 false) = [] ∧
    issues outside at5 [(xw 0 (xf 2 0 0), [1]), (xw 1 (xf 2 0 0), [1])] ∧ outside.linesOk false 655360 3 = false := by
  and_intros <;> first | exact issues_of (by decide +kernel) | decide +kernel
theorem test_met_SendReceive_waitb : decodes sends at5 [(sw 7 6 (sf 0 0 0 4), [])] ∧ decodes recvs at5 [(sw 7 6 (sf 0 0 0 4), [])] ∧
    goesNow sends at5 = true ∧ goesNow recvs at5 = true ∧ meshHeld.beat + 2 ≤ ((sends.ctx at5).tc + 4).toNat + 1 ∧
    (sends.ctx at5).send = some meshHeld ∧ idles { sends.ctx at5 with send := none } = true ∧
    ((sends.tile 5).router.lane (laneIn 4 false)).length + 2 ≤ 8 ∧ (sends.tile 5).ueIn 448 128 = none ∧ (recvs.ctx at5).recv = some meshHeld ∧
    idles { recvs.ctx at5 with recv := none } = true ∧ 2 ≤ ((recvs.tile 5).router.lane (laneOut 0 false)).length ∧
    (((recvs.tile 5).router.lane (laneOut 0 false)).take 2).any (·.poison) = false := by
  and_intros <;> first | exact decodes_of (by decide +kernel) | decide +kernel

/-- TRICK of G1 on tree 1 with MAX; tile 5 waits for the tree's last result already. -/
def trickF : TFmt := ⟨0, 1, 4, 2, 1, 0⟩
def waits0 : State := meshed.onCtx at5 (fun c => { c with waits := [⟨0, 4, true⟩] })
theorem test_met_PotContributions : issues meshed at5 [(xw 2 (xf 3 0 0), [1]), (xw 2 (xf 63 1 1), [1]), (xw 2 (xf 3 0 7), [1])] ∧
    (meshed.potsEnt at5 (xf 3 0 0)).isSome = true ∧ (meshed.potsEnt at5 (xf 63 1 1)).isSome = true ∧ meshed.potsEnt at5 (xf 3 0 7) = none ∧
    meshed.linesOk false 7 (potsLines (xf 63 1 1)) = true ∧ (meshed.tile 5).ueIn 448 (64 * potsLines (xf 63 1 1)) = none ∧
    issues meshed at5 [(wordOf 5 0 (tLow trickF), [1]), (wordOf 5 0 (tLow { trickF with tree := 2 }), [1])] ∧ (meshed.ctx at5).waits = [] ∧
    (meshed.tile 5).onTree 1 = false ∧ (meshed.members 1).contains 5 = true ∧ (meshed.members 2).contains 5 = false ∧
    (meshed.trickOf 1).got.contains 5 = false ∧ (meshed.trickOf 1).done = none ∧ (meshed.trickOf 1).fn = none := by
  and_intros <;> first | exact issues_of (by decide +kernel) | decide +kernel
theorem test_met_PotContributions_waits : issues (meshed.onCtx at5s (fun c => { c with waits := [⟨1, 4, true⟩] })) at5 [(wordOf 5 0 (tLow trickF), [1])] ∧
    ((meshed.onCtx at5s (fun c => { c with waits := [⟨1, 4, true⟩] })).tile 5).onTree 1 = true := by
  and_intros <;> first | exact issues_of (by decide +kernel) | decide +kernel
theorem test_trick_max : (next? (exec (.trick at5 trickF) (coded meshed at5 (wordOf 5 0 (tLow trickF))))).map (fun t => (t.trickOf 1).done) = some (some 7) := by
  decide +kernel

/-! ## Tile events, the mesh and the trump network -/

theorem allCalm_of {s : State} (h : s.tiles.all (fun e => idles e.2.prim && idles e.2.side) = true) (hf : s.fab.freezing = false) : s.allCalm := by
  have key : ∀ (l : Map Tile) (n : Nat), l.all (fun e => idles e.2.prim && idles e.2.side) = true →
      idles (l.get n Tile.reset).prim = true ∧ idles (l.get n Tile.reset).side = true := by
    intro l n
    induction l with
    | nil => intro _; exact (by decide : idles Tile.reset.prim = true ∧ idles Tile.reset.side = true)
    | cons e t ih =>
      intro hl
      obtain ⟨he, ht⟩ := (by simpa using hl : (idles e.2.prim = true ∧ idles e.2.side = true) ∧ _)
      by_cases hk : e.1 = n
      · simpa [Map.get, hk] using he
      · simpa [Map.get, hk] using ih (by simpa using ht)
  intro n
  exact ⟨idles_idle (key s.tiles n h).1, idles_idle (key s.tiles n h).2, hf⟩

/-- The debug port is unlocked, with every right. -/
def unlocked : State := { run with sec := { run.sec with unlocked := true, rights := 31, lifetime := 60 } }
theorem test_met_TileUpkeep : run.fieldOn (tileField 5) = true ∧ State.reset.fieldOn (tileField 5) = false ∧ run.mayReach .host = true ∧
    run.tileReach 5 = true ∧ 0x27FFFFF + [(7 : Byte)].length ≤ 0x2800000 ∧ (run.tile 5).ueIn 0x27FFFFF 1 = none ∧ run.right 3 = false ∧
    unlocked.right 3 = true ∧ unlocked.mayReach .tap = true ∧ run.mayReach .tap = false := by decide +kernel
theorem test_patrol : (next? (exec (.patrolScrub 5 [9]) run)).map (fun t => (t.tile 5).stat) = some 0x1000 := by decide +kernel

/-- A correction that waits at tile 5, with its crib record on position 2. -/
def crib5 : Crib := ⟨3, mkPkt ⟨3, 0, 0, 31, 0, 5, 0, 0, 0, 0, 0, 128, 0, 3, 1⟩ [], [], 2⟩
def corr5 : Corr := ⟨31, 0, 0, 1, [(0, 7)]⟩
def corrects : State :=
  { run.onTile 5 (fun x => { x with corr := [corr5] }) with
    pos := [(2, { Pos.reset with pot := { PotAdder.reset with crib := [crib5] } })] }
theorem test_met_Corrections_CorrectionDelivery : (corrects.tile 5).corr = [corr5] ∧ (corrects.posn 2).pot.crib.find? (fun r => r.pkt.hdr.tile.toNat == 5 &&
      r.pkt.hdr.gl.toNat == corr5.gl && r.pkt.hdr.round.toNat == corr5.round && r.pkt.hdr.start.toNat == corr5.start) = some crib5 ∧
    idles (corrects.tile 5).prim = true ∧ idles (corrects.tile 5).side = true ∧ corrects.fab.freezing = false ∧
    corrects.pos.all (fun e => e.2.pot.crib.all (fun x => x.fix ≠ 1)) = true ∧ (corrects.posn 3).pot.crib = [] := by decide +kernel

/-- A flit whose CRC is right, and a hit that makes it wrong. -/
def goodFlit : Flit := ⟨0, false, 0⟩
def flip0 : BitVec 528 := 1#528 <<< 512
/-- One flit on its way to the west port of tile 5, with retries on. -/
def onWays : State := (run.onTile (resendKey 5 3 false).1 (fun x => { x with router := { x.router with
  flight := [((resendKey 5 3 false).2, [goodFlit])] } })).wr R.FB_CTRL_RETRY_EN 1
/-- The same after two refusals; with the lane full. -/
def refusing : State := onWays.onTile 5 (fun x => { x with router := { x.router with refused := [(6, 2)] } })
def stuffed : State := onWays.onTile 5 (fun x => { x with router := { x.router with lanes := [(laneIn 3 false, List.replicate 4 goodFlit)] } })
theorem test_met_FlitReceive : onWays.onWay 5 3 false = [goodFlit] ∧ (onWays.laneAt 5 3 false).length < laneDepth 5 3 false ∧
    (onWays.tile (resendKey 5 3 false).1).router.resend.contains (resendKey 5 3 false).2 = false ∧
    (hitFlit goodFlit 0).crc = crc16 (flitBytes (hitFlit goodFlit 0)) ∧ (hitFlit goodFlit flip0).crc ≠ crc16 (flitBytes (hitFlit goodFlit flip0)) ∧
    onWays.on R.FB_CTRL_RETRY_EN = true ∧ (onWays.tile 5).router.refused.get 6 0 < 2 ∧ 2 ≤ (refusing.tile 5).router.refused.get 6 0 ∧
    refusing.onWay 5 3 false = [goodFlit] ∧ (refusing.laneAt 5 3 false).length < laneDepth 5 3 false ∧ run.onWay 5 3 false = [] ∧
    laneDepth 5 3 false ≤ (stuffed.laneAt 5 3 false).length := by decide +kernel

/-- A scheduled router on tile 5 whose one entry moves its local input east, with and without a flit there, in a schedule of 4 beats. -/
def routed (l : List Flit) : State :=
  { run.onTile 5 (fun x => { x with prim := { x.prim with running := false }, router := { x.router with
      mode := .scheduled, sched := [(0, 0x28)], phases := [(0, 1)], lanes := if l.isEmpty then [] else [(laneIn 4 false, l)] } }) with
    hand := { Hand.reset with images := [img], installed := some 9, running := some ⟨0, 1, ⟨9, 0, 0, 0, 0, 0⟩, false, none⟩ } }
/-- The same with the link to the east dead. -/
def routedOut : State := { routed [] with fab := { (routed []).fab with dmap := { (routed []).fab.dmap with linkDead := [linkOf 5 1] } } }
theorem test_met_RouterAndNeighbour_RouterEntry : idles ((routed []).tile 5).prim = true ∧ idles ((routed []).tile 5).side = true ∧ (routed []).fab.freezing = false ∧
    ((routed []).tile 5).corr.length ≤ 1 ∧ (routed []).fieldOn (tileField 5) = true ∧ (routed []).on R.FB_STATUS_STALLED = false ∧
    (routed []).rmode 5 = .scheduled ∧ (routed []).fab.started = true ∧ ((routed []).tile 5).router.rb < (routed []).endBeat ∧
    (routed []).before ((routed []).tile 5).router.rb = true ∧ ((routed []).tile 5).prim.running = false ∧
    (outsOf ((routed []).tile 5).router.due.entry false).map (fun o => (srcOf ((routed []).tile 5).router.due.entry o - 1, o)) = [(4, 1)] ∧
    (routed [goodFlit]).room 5 1 false = true ∧ (∀ o, o < 7 → srcOf ((routed []).tile 5).router.due.entry o ≤ 5) ∧
    outsOf ((routed []).tile 5).router.due.entry true = [] ∧ ((routed []).tile 5).router.due.lane (laneIn 4 false) = [] ∧
    (routed []).absentPort 5 ((routed []).tile 5).router.due.entry = none ∧ run.rmode 5 = .idle := by decide +kernel
theorem test_met_RouterAndNeighbour_RouterEntry_absent : routedOut.absentPort 5 (routedOut.tile 5).router.due.entry = some 1 ∧ routedOut.rmode 5 = .scheduled ∧
    routedOut.fieldOn (tileField 5) = true ∧ (routedOut.tile 5).router.due.lane (laneIn 4 false) = [] ∧ idles (routedOut.tile 5).prim = true := by decide +kernel
theorem test_route_moves : (next? (exec (.routerEntry 5) (routed [goodFlit]))).map (fun t => ((t.tile 5).router.rb, (t.tile 5).router.lane (laneIn 4 false))) =
    some (1, []) := by decide +kernel
theorem test_route_waits : (next? (exec (.routerEntry 5) (routed []))).map (fun t => ((t.tile 5).router.rb, (t.tile 5).router.slips)) = some (0, 1) := by
  decide +kernel
theorem test_met_RouterAndNeighbour_NeighbourTest : run.mayWrite .supervisor R.FB_CTRL_NT_START.off = true ∧ run.hand.running = none ∧ run.hand.waiting = none ∧
    run.fab.nt = none ∧ run.rd R.HI_STATUS_STAGE ≠ 3 ∧ (run.wr R.HI_STATUS_STAGE 3).rd R.HI_STATUS_STAGE = 3 ∧
    run.mayWrite .tap R.FB_CTRL_NT_START.off = false := by decide +kernel

/-- A frozen wafer, and a stalled one whose freeze waits. -/
def stands : State := run.onCtx at5 (fun c => { c with tc := 5 })
def frozen : State := run.wr R.FB_STATUS_FROZEN 1
def stalled : State := { run.wr R.FB_STATUS_STALLED 1 with fab := { run.fab with stallAt := some 0, freezePend := some 7 } }
theorem test_met_StallAndFreeze : run.on R.FB_STATUS_STALLED = false ∧ stalled.on R.FB_STATUS_STALLED = true ∧ stalled.fab.stallAt = some 0 ∧
    run.fab.stallAt = none ∧ frozen.on R.FB_STATUS_FROZEN = true ∧ frozen.on R.FB_STATUS_STALLED = false ∧ run.on R.FB_STATUS_FROZEN = false ∧
    stalled.fab.freezePend = some 7 ∧ stalled.on R.FB_STATUS_FROZEN = false ∧ frozen.fEff + 1 < 2 ^ 48 ∧ 0 ≤ frozen.fEff ∧
    stands.tiles.all (fun x => stands.ctxThere x.1 (max 0 stands.topBeat % 2 ^ 48) && stands.routerThere x.1 (max 0 stands.topBeat % 2 ^ 48)) = true ∧
    stands.on R.FB_STATUS_STALLED = false ∧ stands.on R.FB_STATUS_FROZEN = false := by decide +kernel
theorem test_met_StallAndFreeze_calm : run.allCalm ∧ stands.allCalm ∧ frozen.allCalm ∧ stalled.allCalm ∧ goodHop (hopOf 4) 4 ∧ goodHop (hopOf 5) 5 ∧ goodHop (hopOf 6) 6 ∧
    goodHop (hopOf 7) 7 ∧ goodHop (hopOf 8) 8 := by
  unfold goodHop
  and_intros <;> first | exact allCalm_of (by decide +kernel) (by decide +kernel) | decide

/-- A hand that plays, one that sweeps, and one that is set up. -/
def playing : State := { run with hand := { Hand.reset with running := some ⟨0, 1, ⟨9, 0, 0, 0, 2, 0⟩, false, none⟩ } }
def sweeping : State := { playing with hand := { playing.hand with sweep := true } }
def setUp : State := { playing with fab := { playing.fab with started := false } }
theorem test_met_TrumpCommands : run.mayTrump .supervisor = true ∧ run.mayTrump .tap = false ∧ (0x10000 : W32).toNat / 65536 = 1 ∧
    stalled.mayTrump .supervisor = true ∧ playing.hand.running.isSome = true ∧ playing.hand.outcome = none ∧
    playing.hand.sweep = false ∧ playing.hand.contributed = false ∧ sweeping.hand.sweep = true ∧ run.hand.running = none ∧
    setUp.hand.running.isSome = true ∧ setUp.fab.started = false ∧ setUp.hand.outcome = none ∧ setUp.recovering = false ∧
    (setUp.tile 5).prim.running = true ∧ run.fatalNow = false ∧ (3 : BitVec 3).getLsbD 2 = false ∧ (4 : BitVec 3).getLsbD 2 = true ∧
    3 < (⟨0, 4, 3⟩ : Hop).perr ∧ kindReserved 0xC = true := by decide +kernel
theorem test_met_TrumpCommands_calm : setUp.allCalm ∧ goodHop (hopOf 9) 9 ∧ goodHop (hopOf 1) 1 ∧ goodHop (hopOf 0xB) 0xB ∧ goodHop (hopOf 3) 3 := by
  unfold goodHop
  and_intros <;> first | exact allCalm_of (by decide +kernel) (by decide +kernel) | decide

/-- Tile 5 waits on tree 1 for a result that is there; tree 1 is open; the same with no member. -/
def settled : State := ({ meshed with fab := { meshed.fab with tricks := [(1, ⟨0, some 2, [5], 7, some 7⟩)] } } : State).onCtx at5 (fun c =>
  { c with waits := [⟨1, 4, true⟩] })
def open1 : State := { meshed with fab := { meshed.fab with tricks := [(1, ⟨0, some 2, [6], 7, none⟩)] } }
def memberless : State := { run with fab := open1.fab }
theorem test_met_Tricks : (meshed.members 1).contains 5 = true ∧ (meshed.trickOf 1).got.contains 5 = false ∧ (meshed.trickOf 1).done = none ∧
    (meshed.trickOf 1).fn = none ∧ (settled.trickOf 1).done = some 7 ∧ settled.moving = true ∧ (open1.trickOf 1).fn = some 2 ∧
    (open1.trickOf 1).got ≠ [] ∧ (open1.trickOf 1).done = none ∧ open1.moving = true ∧ open1.members 1 ≠ [] ∧ memberless.members 1 = [] ∧
    (memberless.trickOf 1).got ≠ [] ∧ (run.trickOf 1).got = [] := by
  decide +kernel
theorem test_met_Tricks_calm : settled.allCalm ∧ meshed.allCalm ∧ goodHop (hopOf 1) 1 ∧ goodHop (hopOf 2) 2 := by
  unfold goodHop
  and_intros <;> first | exact allCalm_of (by decide +kernel) (by decide +kernel) | decide
theorem test_trick_result : (next? (exec (.result 1 (hopOf 2)) settled)).map (fun t => ((t.ctx at5).gr 4, (t.ctx at5).waits)) = some (7, []) := by decide +kernel
/-! ## The host interface -/

/-- A descriptor of queue 0. -/
def hdr0 : DHdr := ⟨0, 0, 1, none⟩
/-- A host with queue 0 open and one descriptor in it, completion ring and export rings on, the aperture enabled at stack 0, both endpoints up. -/
def hosted : State :=
  { run with
    regs := [(0x4, 0xD), (0x8, 2), (0x108, 16), (0x10C, 1), (0x128, 16), (0x12C, 0x1000001), (0x148, 26), (0x14C, 1), (0x1008, 4), (0x100C, 1), (0x101C, 1),
      (0x1028, 4), (0x102C, 1)] ++ run.regs.drop 1
    num := { Numerics.reset with recs := [List.replicate 64 1], segs := [List.replicate 100 2] }
    host := { HostIf.reset [] 3 with linkUp := 3, bme := 3, cen := { OutQ.reset with unsig := 2 }, sqs := [(1, ⟨[7], false⟩)] } }
/-- A table of two seats, this one rank 0, the other reached through port 0, which is up; the other mirrors this one. -/
def seated (s : State) : State :=
  ((((s.wr R.LK_TABLE_ID_LO_ID 5).setI R.LK_PSTAT_STATE 0 3).setI R.LK_ROUTE_PORTS 1 1).setI R.LK_HOME_MIRROR 0 1).setI R.LK_HOME_OWNER 1 1

/-- Queue 0 with descriptor 7 started; the same while its disable waits. -/
def busyQ (stopping : Bool) : State := { hosted with host := { hosted.host with sqs := [(0, ⟨[7], stopping⟩)] } }
theorem test_met_TakeAndComplete : hosted.mayStart hdr0 = true ∧ hosted.pwr.pstate ≠ .idle ∧ hosted.fatalNow = false ∧ (7 : BitVec 16) ∈ ((busyQ false).sq 0).started ∧
    ((busyQ false).sq 0).stopping = false ∧ (8 : BitVec 16) ∉ ((busyQ false).sq 0).started ∧ (busyQ false).ringOn (.cq 0) = true ∧
    2 ≤ (busyQ false).ringSize (.cq 0) ∧ (busyQ false).ringSize (.cq 0) ≤ 65536 ∧ ((busyQ true).sq 0).started = [7] ∧ ((busyQ true).sq 0).stopping = true := by
  decide +kernel
theorem test_met_MoveAndCopy_starts : hosted.starts hdr0 ∧ (seated hosted).starts hdr0 := by unfold State.starts; decide +kernel
/-- The same after a fatal error, and with an uncorrectable line behind address 64. -/
def fatal1 : State := hosted.wr R.HI_STATUS_FATAL 1
def poison1 : State := hosted.onPos 0 (fun p => { p with nearBad := [1] })
theorem test_met_MoveAndCopy : (hosted.take hdr0).reach 64 8 true = .ok ∧ (hosted.take hdr0).reach 64 8 false = .ok ∧
    (∀ i, i < 8 → (hosted.take hdr0).poisoned (64 + i) = false) ∧ bitOf hdr0.flags.toNat 1 = false ∧ hdr0.flags.toNat < 2 ∧ hdr0.rsvBad = none ∧
    fatal1.mayStart hdr0 = true ∧ fatal1.fatalNow = true ∧ fatal1.pwr.pstate ≠ .idle ∧
    (poison1.take hdr0).reach 0 128 false = .ok ∧ (poison1.take hdr0).poisoned 64 = true ∧ (∀ i, i < 64 → (poison1.take hdr0).poisoned i = false) ∧
    (1 : Nat) ≠ (seated hosted).rank ∧ (seated hosted).between = true ∧ (seated hosted).reachable 1 = true ∧
    ((seated hosted).take hdr0).reach 64 64 true = .ok := by decide +kernel
theorem test_met_MoveAndCopy_poison : poison1.starts hdr0 := by unfold State.starts; decide +kernel
/-- A copy that waits. -/
def copying : State := { hosted with host := { hosted.host with copies := [⟨0, 1, 1, 0, 64, 1, [0], false⟩] } }
theorem test_met_MoveAndCopy_CopyTimeout : (copying.host.copies.find? (fun j => j.q == 0 && j.cid == 1)).isSome = true := by decide

theorem test_met_HostRings_Doorbells : bitOf (hosted.reg (sqOff 0 + 0xC)).toNat 0 = true ∧ (hosted.sq 0).stopping = false ∧ (3 : W32).toNat < 4 ∧
    (1 + 4 - 0) % 4 ≤ (3 + 4 - 0) % 4 ∧ ¬ ((4 : W32).toNat < 4) ∧ bitOf (hosted.reg (sqOff 1 + 0xC)).toNat 0 = false ∧
    hosted.ringOn (.cq 0) = true ∧ (0 : Nat) < hosted.ringSize (.cq 0) ∧ hosted.ringOn (.cq 1) = false ∧ hosted.ringOn .cen = true ∧
    hosted.ringOn .dlt = true ∧ hosted.ringOn .evt = true ∧ run.ringOn .evt = false ∧ exportRing 128 = some .evt ∧
    (0 : Nat) < hosted.ringSize .dlt ∧ 0 < hosted.ringSize .cen ∧ 0 < hosted.ringSize .evt := by decide +kernel
theorem test_met_HostRings_RingControl : hosted.mayWrite .host (ringBlock 128 + 0xC) = true ∧ bitOf (run.reg (ringBlock 128 + 0xC)).toNat 0 = false ∧
    (hosted.setReg (ringBlock 128 + 0xC) 0).ringCause 128 = none ∧ bitOf ((hosted.setReg (ringBlock 128 + 0xC) 0).reg (ringBlock 128 + 0xC)).toNat 0 = false ∧
    (run.setReg (ringBlock 128 + 8) 1).ringCause 128 = some 1 ∧ (hosted.sq 0).started = [] ∧ ((busyQ false).sq 0).started ≠ [] ∧
    (busyQ false).mayWrite .host (ringBlock 0 + 0xC) = true ∧ bitOf ((busyQ false).reg (ringBlock 0 + 0xC)).toNat 0 = true ∧
    hosted.mayWrite .host (ringBlock 64 + 0xC) = true ∧ bitOf (hosted.reg (sqOff 0 + 0xC)).toNat 0 = true ∧
    hosted.mayWrite .host (ringBlock 65 + 0xC) = true ∧ bitOf (hosted.reg (sqOff 1 + 0xC)).toNat 0 = false := by decide +kernel
theorem test_met_HostRings_ExportRings : hosted.ringReady .cen = true ∧ 0 < hosted.ringRoom .cen ∧ hosted.num.recs ≠ [] ∧ hosted.ringSize .cen ≤ 65536 ∧
    hosted.ringReady .dlt = true ∧ hosted.num.segs = [List.replicate 100 2] ∧ roundUp 100 64 / 64 ≤ hosted.ringRoom .dlt ∧ hosted.ringSize .dlt < 2 ^ 32 ∧
    bitsOf (hosted.rreg .cen 0xC) 24 8 ≠ 0 ∧ hosted.host.cen.unsig ≠ 0 ∧ hosted.ringOn .cen = true ∧
    bitOf ((hosted.msixWr 0xE01000 1).msixRd 0xE01000) 0 = true ∧ (hosted.msixWr 0xE01000 1).master 0 = true := by
  decide +kernel
/-- The aperture on tile 0's registers. -/
def onRegs : State := (hosted.wr R.HI_APER_HI_BASE 0x2000).wr R.HI_APER_LO_BASE 0x30
theorem test_met_ApertureAndMailboxes_Aperture : hosted.aperCause 0 8 false = none ∧ hosted.aperCause 8 8 true = none ∧ hosted.poisoned (hosted.aperAddr 0) = false ∧
    hosted.loc (hosted.aperAddr 8) = some (.near 0 8) ∧ hosted.aperCause 4 8 false = some 1 ∧ run.aperCause 0 4 true = some 4 ∧
    poison1.aperCause 64 8 false = none ∧ poison1.poisoned (poison1.aperAddr 64) = true ∧ onRegs.aperCause 4 4 true = none ∧
    onRegs.loc (onRegs.aperAddr 4) = some (.treg 0 4) := by decide +kernel
/-- A mailbox that is full both ways. -/
def mailed : State := hosted.setPair 2 { Pair.reset with h2s := { Box.reset with full := true, word := 5 }, s2h := { Box.reset with full := true } }
/-- The same with a result that waits for the mailbox. -/
def answers : State := { mailed with sup := { mailed.sup with results := [(2, 9)] } }
theorem test_met_ApertureAndMailboxes_Mailboxes : (hosted.pair 2).h2s.full = false ∧ (mailed.pair 2).h2s.full = true ∧ mailed.supvRuns = true ∧ hosted.supvRuns = true ∧
    (hosted.pair 2).s2h.full = false ∧ (mailed.pair 2).h2s.timeout = false ∧ mailed.pwr.pstate ≠ .off ∧ mailed.pwr.pstate ≠ .watch ∧
    (mailed.pair 2).s2h.full = true ∧ (mailed.pair 2).s2h.timeout = false ∧ bitOf mailed.host.linkUp.toNat 0 = true ∧ (0 : BitVec 16) ≠ 0xFFFF ∧
    (∀ r ∈ mailed.sup.results, r.1 ≠ 2) ∧ answers.sup.results.find? (fun r => r.1 == 2) = some (2, 9) ∧ (answers.pair 2).s2h.full = true ∧
    answers.supvRuns = true := by decide +kernel
theorem test_met_MailboxIgnores : (mailed.pair 2).h2s.full = true ∧ (hosted.pair 2).h2s.full = false ∧ (hosted.pair 2).s2h.full = false ∧
    (∀ r ∈ hosted.sup.results, r.1 ≠ 2) := by decide +kernel
theorem test_mailbox_overrun : (next? (exec (.mbH2sSend 2 0) mailed)).map (fun t => ((t.pair 2).h2s.overrun, (t.pair 2).h2s.word)) = some (true, 5) := by
  decide +kernel
/-- An endpoint that may come up. -/
def rising : State := { run.setI R.CK_DSTAT_LOCK 136 1 with host := HostIf.reset [] 1 }
theorem test_met_PcieEndpoints : rising.host.evtLostNow = 0 ∧ rising.master 0 = false ∧ rising.epReady 0 = true ∧
    hosted.ringEp .dlt = 0 ∧ (hosted.setReg 0x14C 5).ringEp .dlt = 1 := by decide +kernel

/-! ## Dealers, reduction, census, gate and sweep -/

/-- A stream descriptor of a kind over one line, on edge port 0 where it uses one. -/
def desc (kind ports : BitVec 8) (addr addr2 : BitVec 64) : SDesc :=
  ⟨kind, 0, ports, 0, 0, 0, 0, addr, addr2, 0, 0, 0, 1, 0, 0, 0⟩
/-- A seat that plays two micro-batches, with dealer 0 at its first descriptor. -/
def dealt (d : SDesc) : State :=
  { playing with
    pos := [(0, { Pos.reset with dealer := { Dealer.reset with descs := [d], sweepFirst := 1 } })]
    fab := { playing.fab with edgeOut := [(0, [goodFlit])] } }
/-- The same with no flit at the port, and with lines of the slice that a full deal has not read. -/
def unfed (d : SDesc) : State := { dealt d with fab := { (dealt d).fab with edgeOut := [] } }
def exported (d : SDesc) : State := { dealt d with hand := { (dealt d).hand with full := some ⟨1, 1, 9, [⟨0, 0, 0, 4, true⟩], 0⟩ } }
def weightD : SDesc := { desc 1 1 0 0 with srcf := 2, dstf := 2, mask := 1 }
def gatherD : SDesc := { desc 4 0 0 0 with shard := 1 }
/-- A check of `dealsNow` for a descriptor without a version rule. -/
def dealsAsks (s : State) (k : Nat) (d : SDesc) (kind : Nat) : Bool :=
  s.dealing k && !d.reserved && decide (d.kind.toNat = kind) && decide (d.count ≠ 0) && decide ((s.dealer k).opened = []) && s.hasEntry k &&
    decide (s.link.parked = []) && s.mayBegin k (s.opens k d) && decide (bitsOf d.flags.toNat 0 2 = 0) && !s.hand.sweep
theorem dealsNow_of {s : State} {k : Nat} {d : SDesc} {kind : Nat} (h : dealsAsks s k d kind = true) : s.dealsNow k d kind := by
  simp only [dealsAsks, Bool.and_eq_true, Bool.not_eq_true', decide_eq_true_eq] at h
  obtain ⟨⟨⟨⟨⟨⟨⟨⟨⟨h1, h2⟩, h3⟩, h4⟩, h5⟩, h6⟩, h7⟩, h8⟩, h9⟩, h10⟩ := h
  exact ⟨h1, h2, h3, h4, h5, h6, h7, h8, Or.inr (Or.inl h9), Or.inl (by simp [h10]), Or.inl h10⟩
def reservedD : SDesc := { desc 1 1 0 0 with kind := 0xFF }
theorem test_met_Dealers : (dealt weightD).dealsNow 0 weightD 1 ∧ (dealt (desc 2 1 64 0)).dealsNow 0 (desc 2 1 64 0) 2 ∧
    (dealt (desc 3 1 64 0)).dealsNow 0 (desc 3 1 64 0) 3 ∧ (dealt (desc 5 0 0 64)).dealsNow 0 (desc 5 0 0 64) 5 ∧
    (dealt (desc 5 0 0 sweepOff)).dealsNow 0 (desc 5 0 0 sweepOff) 5 ∧ (dealt (desc 3 1 sweepOff 0)).dealsNow 0 (desc 3 1 sweepOff 0) 3 ∧
    (dealt (desc 6 0 0 64)).dealsNow 0 (desc 6 0 0 64) 6 ∧ (exported (desc 6 0 0 64)).dealsNow 0 (desc 6 0 0 64) 6 ∧
    (unfed (desc 3 1 64 0)).dealsNow 0 (desc 3 1 64 0) 3 ∧ (seated (dealt gatherD)).dealsNow 0 gatherD 4 := by
  refine ⟨?_, ?_, ?_, ?_, ?_, ?_, ?_, ?_, ?_, ?_⟩ <;> exact dealsNow_of (by decide +kernel)
theorem test_met_Dealers_rest : onesOf weightD.ports.toNat 3 = [0] ∧ weightD.srcf = weightD.dstf ∧ (elemOf (weightD.dstf.setWidth 5)).isSome = true ∧
    onesOf ({ weightD with ports := 3 } : SDesc).ports.toNat 3 = [0, 1] ∧
    (((List.range 1).flatMap (fun _ => List.range 1)).foldl (fun s j => s.sendFill 0 weightD j) (dealt weightD)).aheadFits 0 = true ∧
    ((dealt (desc 2 1 64 0)).toEdge 0 0 [goodFlit]).aheadFits 0 = true ∧ (dealt reservedD).dealing 0 = true ∧ reservedD.reserved = true ∧
    tracked 64 = false ∧ tracked sweepOff = true ∧ tracked (shadowOff - 1) = true ∧ tracked shadowOff = false ∧
    (1 : Nat) ≤ ((dealt (desc 3 1 64 0)).fab.edgeOut.get (edgeKey 0 0) []).length ∧ (unfed (desc 3 1 64 0)).fab.edgeOut.get (edgeKey 0 0) [] = [] ∧
    (dealt (desc 3 1 64 0)).exporting 0 1 64 1 = false ∧ (dealt (desc 6 0 0 64)).exporting 0 0 64 1 = false ∧
    (dealt (desc 6 0 0 64)).deltaCodes = false ∧ (exported (desc 6 0 0 64)).exporting 0 0 64 1 = true ∧
    (seated (dealt gatherD)).reachable ((seated (dealt gatherD)).ownerOf 1) = true ∧
    ((seated (dealt gatherD)).dealer 0).gathers.length + (gatherD.count.toNat + 63) / 64 ≤ 8192 := by
  and_intros <;> decide +kernel
/-- A gather that is open, and one that has been retried. -/
def gathers : State := (seated run).onDealer 0 (fun d => { d with gathers := [⟨3, 0, 0, 1, 0, false, false, 0⟩, ⟨4, 0, 0, 1, 0, true, false, 0⟩, ⟨5, 0, 0, 1, 0, false, true, 0⟩] })
theorem test_met_GathersAndScrubbers_Gathers : ((gathers.dealer 0).gathers.find? (fun g => g.tag == 3)).isSome = true ∧ gathers.on R.LK_CTRL_MIRROR = true ∧
    (gathers.wr R.DL_CTRL_MIRROR_RETRY 1).on R.DL_CTRL_MIRROR_RETRY = true ∧ gathers.mirrorOf 0 ≠ gathers.ownerOf 0 ∧ stagePiece 0 = false ∧
    gathers.reachable (gathers.mirrorOf 0) = true ∧ ((gathers.dealer 0).gathers.find? (fun g => g.tag == 4)).map (fun g => (g.retried, g.parked)) = some (true, false) ∧
    ((gathers.dealer 0).gathers.find? (fun g => g.tag == 5)).map (·.parked) = some true := by
  decide +kernel
theorem test_met_GathersAndScrubbers_Scrubbers : ((run.wr R.DL_CTRL_SCRUB_N 1).wr R.DL_CTRL_SCRUB_S 1).on R.DL_CTRL_SCRUB_N = true ∧ run.rd R.DL_SCRUB_NEAR_H ≠ 0 ∧
    run.inSvc 47 = true ∧ (run.wr R.DL_CTRL_SCRUB_N 0).on R.DL_CTRL_SCRUB_N = false ∧ run.rd R.DL_SCRUB_STOCK_H ≠ 0 ∧ run.inSvc (2 * 23 + 1) = true ∧
    ((run.wr R.DL_CTRL_SCRUB_N 1).wr R.DL_CTRL_SCRUB_S 1).on R.DL_CTRL_SCRUB_S = true := by decide +kernel

/-- A hand of two rounds with pot 0 of this seat on stack 0, over 16 entries, and pot 1 of seat 1. -/
def pot0 : PotEnt := ⟨0, 0, 0, 1, 0, 16, 1, 1, 0⟩
def reducing : State := (fun s : State => { s with
  hand := { s.hand with plan := some ⟨false, false, 2, [pot0, { pot0 with owner := 1 }], []⟩ } }) (seated playing)
/-- A packet of one entry for a pot. -/
def packet (typ : BitVec 8) (pot : BitVec 32) : CPkt := (mkPkt ⟨typ, 0, 0, 0, 0, 5, 0, pot, 0, 0, 0, 1, 0, 0, 1⟩ (leBytes 4 0x3F800000)).fresh
theorem test_met_Corrections_SendingController : (packet 1 1).poison = false ∧ (packet 1 1).crcOk = true ∧ (reducing.potEnt 1).map (·.owner) = some 1 ∧ reducing.reachable 1 = true ∧
    (1 : Nat) ≠ reducing.rank ∧ reducing.cribUsed 0 + (packet 1 1).size ≤ cribSize := by decide +kernel
/-- A crib of `n` records of one line; 2.5 GiB of them leave no room. -/
def cribOf (n : Nat) : State := { reducing with pos := [(0, { Pos.reset with pot := { PotAdder.reset with crib := List.replicate n crib5 } })] }
theorem cribOf_used (n : Nat) : (cribOf n).cribUsed 0 = n * 64 := by
  have h : (cribOf n).cribUsed 0 = ((List.replicate n crib5).map (fun c => c.pkt.size)).sum + 0 := rfl
  have h1 : crib5.pkt.size = 64 := by decide +kernel
  rw [h, List.map_replicate, List.sum_replicate, h1, smul_eq_mul, Nat.add_zero]
theorem cribOf_room (n : Nat) : ((cribOf n).posn 0).pot.cribFull = false := rfl
theorem cribOf_pot (n : Nat) : (cribOf n).potEnt 1 = reducing.potEnt 1 := rfl
theorem test_met_Corrections_SendingController_full : cribSize < (cribOf 41943040).cribUsed 0 + (packet 1 1).size ∧
    ((cribOf 41943040).posn 0).pot.cribFull = false ∧ ((cribOf 41943040).potEnt 1).isSome = true := by
  have h2 : 0 < (packet 1 1).size := by decide +kernel
  rw [cribOf_used, cribOf_pot, cribOf_room]
  exact ⟨by simp only [cribSize]; omega, rfl, by decide +kernel⟩
/-- Round 0 of pot 0 is open, and one complete. -/
def rounds (done : Bool) : State := reducing.onPos 0 (fun p => { p with pot := { p.pot with rounds := [⟨0, 0, 0, [(0, 7)], [(0, 1)], [], done, false, [0]⟩] } })
/-- Its last subpacket is sent again, and awaited. -/
def resending : State := reducing.onPos 0 (fun p => { p with pot := { p.pot with resent := [(recOf (packet 1 0).hdr, 0, 0)] } })
def again : CPkt := (mkPkt { (packet 1 0).hdr with flags := 8 } (packet 1 0).payload).fresh
theorem test_met_Pots : reducing.potEnt 0 = some pot0 ∧ pot0.kind = 0 ∧ pot0.owner = reducing.rank ∧ (packet 1 0).hdr.typ = 1 ∧ (packet 3 0).hdr.typ = 3 ∧
    (packet 2 0).hdr.typ = 2 ∧ (packet 1 0).poison = false ∧ (packet 1 0).crcOk = true ∧ again.hdr.flag 3 = true ∧ again.crcOk = true ∧
    (recOf again.hdr, again.hdr.start.toNat, again.hdr.pot.toNat) ∈ (resending.posn 0).pot.resent ∧ again.hdr.typ = 1 ∧ again.poison = false ∧
    (recOf again.hdr, again.hdr.start.toNat, again.hdr.pot.toNat) ∉ (reducing.posn 0).pot.resent ∧
    reducing.hand.running.isSome = true ∧ reducing.hand.outcome = none ∧ (reducing.posn 0).pot.input = [] ∧ (reducing.posn 0).pot.ahead.length < trackMax ∧
    (packet 1 0).hdr.hand = reducing.hand.hand ∧ 0 < reducing.rounds ∧ 0 + 1 ≤ pot0.entries ∧
    pot0.stackOf 0 = 0 ∧ (reducing.posn 0).pot.sealed.get 0 0 ≤ 0 ∧ (packet 1 0).hdr.epoch.toNat = reducing.epoch (reducing.potLayer 0) ∧
    reducing.ordered = false ∧ (∀ e ∈ ((reducing.posn 0).pot.open_ 0 0 0).cnt, e.2 < reducing.need pot0) ∧ 0 < reducing.need pot0 ∧
    (packet 1 0).hdr.flag 3 = false ∧ (packet 2 0).hdr.flag 3 = false ∧ (packet 3 0).hdr.flag 3 = false := by
  and_intros <;> decide +kernel
theorem test_met_Pots_SealAndRenege : ((rounds true).posn 0).pot.rounds.find? (fun x => x.pot == 0 && x.round == 0) =
      some ⟨0, 0, 0, [(0, 7)], [(0, 1)], [], true, false, [0]⟩ ∧ ((rounds true).posn 0).pot.sealed.get 0 0 = 0 ∧ (rounds true).rank = 0 ∧
    (rounds true).potEnt 0 = some pot0 ∧ 0 + 1 < (rounds true).rounds ∧ 0 ∈ pot0.stacks ∧ (rounds true).ordered = false ∧
    ((rounds false).posn 0).pot.rounds.find? (fun x => x.pot == 0 && x.round == 0) = some ⟨0, 0, 0, [(0, 7)], [(0, 1)], [], false, false, [0]⟩ ∧
    (rounds false).moving = true ∧ (rounds true).hand.running.isSome = true ∧ (rounds true).hand.outcome = none ∧ (rounds true).epoch 0 < 255 ∧
    (rounds true).pots_.zipIdx.all (fun p => decide ((rounds true).potLayer p.2 = 0 → p.1.kind ≠ 1)) = true ∧
    (List.range 48).all (fun k => !(rounds true).lateAt k 0 0) = true ∧ (rounds true).pots_.length = 2 ∧
    (∀ e ∈ (rounds true).pos, e.2.pot.ahead = [] ∧ e.2.pot.input = [] ∧ e.2.pot.crib = []) := by
  and_intros <;> decide +kernel
/-- An ORDERED plan; round 0 of pot 0 sealed at position 0, which makes a renege of round 0 late. -/
def ordered1 : State := { rounds true with hand := { (rounds true).hand with plan := some ⟨true, false, 2, [pot0], []⟩ } }
def sealed1 : State := (rounds true).onPos 0 (fun p => { p with pot := { p.pot with sealed := [(0, 1)], rounds := [] } })
theorem test_met_Pots_SealAndRenege_late : ordered1.ordered = true ∧ ordered1.potEnt 0 = some pot0 ∧ sealed1.pots_.zipIdx.head? = some (pot0, 0) ∧
    sealed1.potLayer 0 = 0 ∧ pot0.owner = sealed1.rank ∧ sealed1.lateAt 0 0 (sealed1.renegeRound 1 5 0 0) = true ∧ 1 ≠ sealed1.rank ∧
    sealed1.hand.running.isSome = true ∧ sealed1.hand.outcome = none ∧ sealed1.epoch 0 < 255 := by
  and_intros <;> decide +kernel
theorem test_met_Pots_SealAndRenege_hop : goodHop (hopOf 0xA) 0xA := by unfold goodHop; decide
theorem test_fp32_contribution : (next? (exec (.accFp32 0 (packet 1 0)) reducing)).map (fun t => ((t.posn 0).pot.open_ 0 0 0).buf) =
    some [(0, 0x3F800000)] := by decide +kernel

/-- A hand that has ended, with one HISTORY and WATCH tensor. -/
def collecting : State := { playing with
  num := { Numerics.reset with tensors := [⟨0, 5, 1, 0, 0, []⟩] }, hand := { playing.hand with outcome := some (0, 0) } }
/-- The same of a misdealt hand. -/
def collectBad : State := { collecting with hand := { collecting.hand with outcome := some (0x47, 3) } }
theorem test_met_CensusCollection : collecting.collectDue = true ∧ collecting.misdealtHand = false ∧ collecting.num.tensors[0]?.isSome = true ∧
    collectBad.collectDue = true ∧ collectBad.misdealtHand = true ∧ playing.collectDue = false := by decide +kernel
/-- A schedule whose tiles have ended. -/
def ended : State := playing.onTile 5 (fun x => { x with prim := { x.prim with running := false, ended := true } })
/-- A gate record with one contributor of one seat, no flag and norm 0, and the hand that has it. -/
def rec0 : GateRec := gateCrc ⟨0, 0, 1, 1, 0, 2, 0, 0, 0, 0, 0, 0, 0, 0⟩
def judged (flags : BitVec 32) : State := { ended with hand := { ended.hand with contributed := true, result := some { rec0 with flags := flags } } }
/-- The same of a seat with a fault since its contribution, and the record of no contributor. -/
def judgedLate : State := { judged 0 with hand := { (judged 0).hand with misdealt := true } }
def recNone : GateRec := { rec0 with contrib := 0 }
theorem test_met_Gate : ended.gateDue = true ∧ ended.alone = true ∧ (ended.wr R.PT_STATUS_ALL_SEALED 1).on R.PT_STATUS_ALL_SEALED = true ∧
    (seated ended).gateDue = true ∧ (seated ended).alone = false ∧ playing.gateDue = false ∧ ended.on R.PT_STATUS_ALL_SEALED = false ∧
    (judged 0).hand.running.isSome = true ∧ (judged 0).hand.outcome = none ∧ (judged 0).hand.contributed = true ∧ (judged 0).recovering = false ∧
    (judged 0).hand.result = some rec0 ∧ rec0.decision = 0 ∧ (judged 0).supvRuns = true ∧
    (judged 0).hand.misdealt = false ∧ judgedLate.hand.misdealt = true ∧ (gateVerdict false 0 0 rec0).map (·.decision) = some 1 ∧
    (gateVerdict false 0 0 { rec0 with flags := 1 }).map (·.decision) = some 2 ∧ (gateVerdict false 0 0 { rec0 with flags := 4 }).map (·.decision) = some 3 ∧
    rec0.contrib ≠ 0 ∧ rec0.contrib = rec0.seats ∧ (d64 rec0.lnorm).finite = true ∧ recNone.contrib = 0 ∧ recNone.decision = 0 := by decide +kernel
/-- A record for each row of the gate's table. -/
theorem test_met_Gate_GateVerdicts : bitOf ({ rec0 with flags := 32 } : GateRec).flags.toNat 5 = true ∧ bitOf ({ rec0 with flags := 8 } : GateRec).flags.toNat 3 = true ∧
    ({ rec0 with contrib := 2 } : GateRec).contrib ≠ rec0.seats ∧ bitOf ({ rec0 with flags := 16 } : GateRec).flags.toNat 4 = true ∧
    bitOf ({ rec0 with flags := 16 } : GateRec).flags.toNat 0 = false := by decide +kernel
theorem test_gate_applies : (next? (exec (.gateDecide rec0) (judged 0))).map (fun t => (t.rd R.NM_UPD_STATUS_DECISION, t.rd R.NM_STEP_LO_STEP)) =
    some (1, 1) := by decide +kernel
/-- A hand to be applied, and one that sweeps. -/
def applied : State := { ended with hand := { ended.hand with contributed := true, result := some { rec0 with decision := 1 } } }
/-- The same while a push is due. -/
def appliedPush : State := { applied with hand := { applied.hand with pushPend := true } }
theorem test_met_Sweep : applied.hand.running.isSome = true ∧ applied.hand.outcome = none ∧ applied.hand.result = some { rec0 with decision := 1 } ∧
    applied.hand.contributed = true ∧ applied.hand.sweep = false ∧ applied.hand.misdealt = false ∧
    applied.pushing = false ∧ appliedPush.pushing = true ∧ 5 ∈ applied.footprint ∧ 6 ∉ applied.footprint ∧ sweeping.hand.sweep = true ∧
    sweeping.fab.started = true ∧ sweeping.moving = true ∧ sweeping.hand.running.isSome = true ∧ sweeping.hand.outcome = none ∧
    (applied.dealer 0).descs = [] ∧ ((dealt weightD).dealer 0).descs ≠ [] := by
  and_intros <;> decide +kernel
/-- An export of one part. -/
def export1 : Export := ⟨1, 1, 9, [⟨0, 0, 0, 4, true⟩], 0⟩
def exports : State := (fun s : State => { s with hand := { s.hand with full := some export1, push := some export1, pushPend := true } }) (seated hosted)
/-- The same with the port to the mirror seat down. -/
def cutOff : State := exports.setI R.LK_PSTAT_STATE 0 0
theorem test_met_ExportsAndRestore : exports.hand.full = some export1 ∧ (∀ p ∈ export1.parts, p.lines ≤ segLines ∧ exports.staged p.pos = 0) ∧
    export1.parts.length ≤ 48 ∧ (export1.parts.map (·.pos)).Nodup ∧ exports.ringOn .dlt = true ∧ exports.hand.exports = [] ∧
    ({ run with hand := exports.hand } : State).ringOn .dlt = false ∧ exports.hand.push = some export1 ∧ exports.hand.pushPend = true ∧
    exports.reachable exports.ownMirror = true ∧
    cutOff.hand.push = some export1 ∧ cutOff.hand.pushPend = true ∧ cutOff.reachable cutOff.ownMirror = false ∧
    appliedPush.pushing = true ∧ appliedPush.hand.running.isSome = true ∧ appliedPush.hand.outcome = none ∧ appliedPush.hand.sweep = false ∧
    run.mayWrite .host R.NM_RESTORE_CMD_GO.off = true ∧ run.between = true ∧ run.pushing = false ∧ run.link.mirror.hand = none := by
  and_intros <;> decide +kernel
/-! ## Images, deals and the boundary -/

/-- A TENSOR payload of one tensor of one dimension (R253, R254). -/
def oneTensor : Bytes := leBytes 4 1 ++ zeros 60 ++ [1, 0, 0, 0, 0, 0, 1, 0] ++ leBytes 4 1 ++ zeros 20
/-- A PRIMARY image with an empty footprint and one tensor: its header (R134), its section table (R136) and its two sections;
the checksums are computed by hand. -/
def headBytes : Bytes :=
  leBytes 4 0x49445844 ++ [0, 2, 1, 0] ++ leBytes 8 9 ++ zeros 8 ++ leBytes 8 608 ++ zeros 40 ++ leBytes 2 1 ++ zeros 6 ++ leBytes 2 2 ++ zeros 2 ++
    leBytes 4 256 ++ zeros 164
def tableBytes : Bytes :=
  leBytes 4 1 ++ leBytes 4 0xFFFFFFFF ++ leBytes 8 320 ++ leBytes 8 144 ++ leBytes 4 0x6C1B2165 ++ zeros 4 ++
  leBytes 4 7 ++ leBytes 4 0xFFFFFFFF ++ leBytes 8 512 ++ leBytes 8 96 ++ leBytes 4 0x3F2ADD86 ++ zeros 4
def imgBytes : Bytes := headBytes ++ leBytes 4 0xF795AB72 ++ tableBytes ++ zeros 192 ++ oneTensor

theorem test_image_format : headBytes.length = 252 ∧ formatFlaws imgBytes 608 = [] := by decide +kernel
/-- The published check value of CRC-32C. -/
theorem test_crc32c : crc32c [0x31, 0x32, 0x33, 0x34, 0x35, 0x36, 0x37, 0x38, 0x39] = 0xE3069283 := by decide +kernel
theorem test_image_has_no_flaw : hosted.signFlaws (imageOf imgBytes) = [] ∧ hosted.baseFlaws (imageOf imgBytes) = [] ∧
    encodingFlaws (imageOf imgBytes) = [] ∧ (imageOf imgBytes).walks = [] ∧ operandFlaws (imageOf imgBytes) none [] = [] ∧
    hosted.placeFlaws (imageOf imgBytes) = [] ∧ hosted.scheduleFlaws (imageOf imgBytes) none [] = [] ∧ hosted.resourceFlaws (imageOf imgBytes) [] = [] := by
  decide +kernel
/-- A check of a CRC-32C over chunks, each with the register after it. -/
def crcVia (c : W32) : List (Bytes × W32) → Bool
  | [] => true
  | p :: l => decide (p.1.foldl (crcByteR 32 0x82F63B78) c = p.2) && crcVia p.2 l
theorem crcVia_fold (l : List (Bytes × W32)) (c : W32) (h : crcVia c l = true) :
    (l.flatMap (·.1)).foldl (crcByteR 32 0x82F63B78) c = (l.map (·.2)).getLastD c := by
  induction l generalizing c with
  | nil => rfl
  | cons p l ih =>
    simp only [crcVia, Bool.and_eq_true, decide_eq_true_eq] at h
    obtain ⟨h1, h2⟩ := h
    rw [List.flatMap_cons, List.foldl_append, h1, ih p.2 h2]
    cases l <;> rfl
/-- Chunks of 32 bytes. -/
def chunks32 (b : Bytes) (rs : List W32) : List (Bytes × W32) := rs.zipIdx.map (fun e => ((b.drop (32 * e.2)).take 32, e.1))
theorem crc_of (b : Bytes) (rs : List W32) (h : crcVia 0xFFFFFFFF (chunks32 b rs) = true) (hb : (chunks32 b rs).flatMap (·.1) = b) :
    crc32c b = ~~~ ((chunks32 b rs).map (·.2)).getLastD 0xFFFFFFFF := by
  have := crcVia_fold _ _ h
  rw [hb] at this
  rw [← this]; rfl
theorem imgBytes_crc : crcFlaws imgBytes = [] := by
  have h1 : crc32c (slice imgBytes 0 0xFC) = 0xF795AB72 :=
    crc_of _ [0xbe92239d, 0x7e72466a, 0x235949af, 0xad6d438c, 0x5cc10d9, 0x2b00f036, 0xa5786c2b, 0x86a548d] (by decide +kernel) (by decide +kernel)
  have h2 : crc32c (slice imgBytes 320 144) = 0x6C1B2165 :=
    crc_of _ [0x756ec955, 0xfc371498, 0xae0dfb54, 0xf7d89b24, 0x93e4de9a] (by decide +kernel) (by decide +kernel)
  have h3 : crc32c (slice imgBytes 512 96) = 0x3F2ADD86 := crc_of _ [0x48c8199e, 0x8839fb9a, 0xc0d52279] (by decide +kernel) (by decide +kernel)
  have hs : sectionTable imgBytes = [⟨1, 0xFFFFFFFF, 320, 144, 0x6C1B2165⟩, ⟨7, 0xFFFFFFFF, 512, 96, 0x3F2ADD86⟩] := by decide +kernel
  have hf : field imgBytes 0xFC 4 = 0xF795AB72 := by decide +kernel
  simp [crcFlaws, hs, hf, h1, h2, h3, payload, flaw]
theorem validate_of (s : State) (b : Bytes) (n : Nat) (h1 : formatFlaws b n = []) (hc : crcFlaws b = [])
    (h2 : firstFlaw (([] : List Flaw) ++ s.signFlaws (imageOf b) ++ flaw (decide (s.rd R.SP_FW_RUN_VERSION < (imageOf b).minFw.toNat)) 4 inTable ++
      s.baseFlaws (imageOf b)) = none)
    (h3 : firstFlaw (encodingFlaws (imageOf b) ++ operandFlaws (imageOf b) (s.image (imageOf b).base) (imageOf b).walks ++
      s.placeFlaws (imageOf b) ++ s.scheduleFlaws (imageOf b) (s.image (imageOf b).base) (imageOf b).walks ++
      s.resourceFlaws (imageOf b) (imageOf b).walks ++ flaw (s.duplicate (imageOf b).id) 11 inTable) = none) :
    s.validate b n = .inr ((imageOf b).recorded (imageOf b).walks) := by
  unfold State.validate
  rw [h1]
  dsimp only
  rw [hc, h2]
  dsimp only
  rw [h3]
theorem imgBytes_id : ((imageOf imgBytes).recorded (imageOf imgBytes).walks).id = 9 := by decide +kernel
theorem test_met_ImagesAndDeals_ImageStore_accepts : ∃ m, hosted.validate imgBytes 608 = .inr m ∧ m.id = 9 :=
  ⟨_, validate_of hosted imgBytes 608 (by decide +kernel) imgBytes_crc (by decide +kernel) (by decide +kernel), imgBytes_id⟩
theorem test_met_ImagesAndDeals_ImageStore_rejects : hosted.validate [1, 2] 2 = .inl (1, 0xFFFF) ∧ hosted.starts hdr0 := by
  unfold State.starts; decide +kernel
/-- A loaded image, a SIDE image of it, and deals of them. -/
def stored (torn : Bool) : State :=
  (fun s : State => { s with hand := { s.hand with images := [{ img with kind := 1 }, { img with kind := 3, id := 10, base := 9 }, { img with kind := 1, id := 11 }] } })
    (hosted.wr R.NM_UPD_STATUS_TORN (if torn then 1 else 0))
def withBase : State := { stored false with hand := { (stored false).hand with installed := some 9 } }
def tornBase : State := withBase.wr R.NM_UPD_STATUS_TORN 1
theorem test_met_ImagesAndDeals : (stored false).starts hdr0 ∧ (stored false).image 9 ≠ none ∧ (stored false).image 12 = none ∧
    ([(stored false).hand.running, (stored false).hand.waiting, (stored false).hand.sideRun, (stored false).hand.sideWait].any (fun o => dealNames o 11)) = false ∧
    ((stored false).hand.images.any (fun m => m.base == 9)) = true ∧ ((stored false).hand.images.any (fun m => m.base == 11)) = false ∧
    (stored false).mayDeal ⟨9, 0, 0, 0, 1, 0⟩ = true ∧ ((stored false).wr R.HI_CTRL_HOLD_DEALS 1).mayDeal ⟨9, 0, 0, 0, 1, 0⟩ = false ∧
    ((stored false).image 9).map (fun m => ((stored false).entryReason m ⟨9, 0, 0, 0, 8, 0⟩, (stored false).entryReason m ⟨9, 0, 0, 0, 9, 0⟩,
      (stored true).entryReason m ⟨9, 0, 0, 0, 1, 0⟩)) = some (none, some 3, some 5) ∧
    ((stored false).image 10).map (stored false).hosted = some false ∧ (withBase.image 10).map withBase.hosted = some true ∧
    (tornBase.image 10).map tornBase.hosted = some true ∧ tornBase.on R.NM_UPD_STATUS_TORN = true ∧ withBase.on R.NM_UPD_STATUS_TORN = false ∧
    ((stored false).take hdr0).reach 64 64 true = .ok ∧ hdr0.q < 64 := by
  unfold State.starts; decide +kernel
/-- A hand that has ended, between hands with a deal of an image that is not loaded, and one that plays. -/
def handOver : State := { hosted with hand := { playing.hand with outcome := some (3, 0) } }
def unloaded : State := { hosted with hand := { Hand.reset with waiting := some ⟨0, 1, ⟨12, 0, 0, 0, 2, 0⟩, false, some 0⟩ } }
/-- A boundary with nothing reported. -/
def quiet : BoundaryIn := ⟨true, [], [], [], [], [], []⟩
/-- Between hands with a deal of an image that is loaded, where the seat is torn or not. -/
def dealable (torn : Bool) : State := { stored torn with
  hand := { (stored torn).hand with waiting := some ⟨0, 1, ⟨9, 0, 0, 0, 2, 0⟩, false, some 0⟩ } }
theorem test_met_HandBoundary : playing.atBoundary = false ∧ handOver.atBoundary = true ∧ handOver.hand.running.isSome = true ∧ handOver.hand.outcome = some (3, 0) ∧
    handOver.on R.SP_STATUS_SWITCH_PEND = false ∧ handOver.hand.waiting = none ∧ unloaded.atBoundary = true ∧ unloaded.pwr.pstate = .run ∧
    unloaded.hand.running = none ∧ unloaded.on R.SP_STATUS_SWITCH_PEND = false ∧
    unloaded.image 12 = none ∧ playing.handTimed = true ∧ playing.hand.contributed = false ∧ playing.hand.sweep = false ∧ sweeping.handTimed = true ∧
    ended.handTimed = true ∧ run.handTimed = false := by
  and_intros <;> decide +kernel
theorem test_met_HandBoundary_deal : (dealable false).atBoundary = true ∧ (dealable false).on R.SP_STATUS_SWITCH_PEND = false ∧ (dealable false).pwr.pstate = .run ∧
    (((dealable false).closing.beforeDeal quiet).image 9).map (fun m => (((dealable false).closing.beforeDeal quiet).boundaryReason
      ⟨0, 1, ⟨9, 0, 0, 0, 2, 0⟩, false, some 0⟩ m, ((((dealable false).closing.beforeDeal quiet).foldFor m quiet).unfoldMap).barred m)) = some (none, false) ∧
    (((dealable true).closing.beforeDeal quiet).image 9).map (fun m => (((dealable true).closing.beforeDeal quiet).boundaryReason
      ⟨0, 1, ⟨9, 0, 0, 0, 2, 0⟩, false, some 0⟩ m)) = some (some 5) := by
  and_intros <;> decide +kernel
/-- A recovery deal, and a gate record that is kept. -/
def kept1 : State := { run with hand := { run.hand with kept := some { rec0 with decision := 1 } } }
theorem test_met_HandBoundary_HandSetUp : bitOf (1 : BitVec 16).toNat 0 = true ∧ bitOf (0 : BitVec 16).toNat 0 = false ∧ kept1.hand.kept.isSome = true ∧ 47 ∈ kept1.svc := by
  decide +kernel
theorem test_hand_number : handOver.closeHand.hand.next = 1 := by decide +kernel

/-! ## Links -/

/-- Port 0 in a state, enabled. -/
def port (n : Nat) (x : LPort) : State :=
  (((seated run).setI R.LK_PSTAT_STATE 0 n).setI R.LK_PCTRL_EN 0 1).setLport 0 x
def goodTrain0 : TrainIn := ⟨[], 0, false, 0, 25⟩
theorem test_met_PortsAndHello_PortTraining : run.rd R.HI_STATUS_STAGE ≠ 5 ∧ run.portOn 15 = true ∧ run.mayWrite .host (R.LK_PCTRL_EN.addr 0) = true ∧
    ((1 : W32) &&& 1 = 1) ∧ ((4 : W32) &&& 1 = 0) ∧ run.portEn 0 = false ∧ goodTrain goodTrain0 ∧ (run.lport 0).cage = true ∧ (port 2 LPort.reset).portEn 0 = true ∧
    (port 2 LPort.reset).getI R.LK_PSTAT_STATE 0 ≤ 2 ∧ (port 6 LPort.reset).getI R.LK_PSTAT_STATE 0 = 6 ∧ run.supvRuns = true ∧
    ((port 6 { LPort.reset with cause := 2 }).lport 0).cause = 2 ∧ ((port 6 LPort.reset).lport 0).cause ≠ 2 ∧
    (port 3 LPort.reset).portUp 0 = true ∧ (port 3 LPort.reset).hand.running = none := by unfold goodTrain; decide +kernel
theorem test_met_PortsAndHello_LinkFrames : (port 3 LPort.reset).portUp 0 = true ∧ (0 : Nat) % 2 ^ 24 = ((port 3 LPort.reset).lport 0).expect ∧
    ((port 3 { LPort.reset with crcRun := 3 }).lport 0).crcRun = 3 ∧ ((port 3 LPort.reset).lport 0).crcRun < 3 ∧
    0 < ((port 3 { LPort.reset with unackN := 1, resends := 6 }).lport 0).unackN ∧ ((port 3 { LPort.reset with unackN := 1, resends := 6 }).lport 0).resends < 7 ∧
    7 ≤ ((port 3 { LPort.reset with unackN := 1, resends := 7 }).lport 0).resends := by decide +kernel
theorem test_frame_accepted : (next? (exec (.frameReceive 0 ⟨true, 0, false, false, 0, 0, []⟩) (port 3 LPort.reset))).map (fun t => (t.lport 0).expect) =
    some 1 := by decide +kernel
/-- A HELLO of this table from rank 1 of 2, and a link header on port 0. -/
def hello1 : HelloIn := ⟨5, 0, 1, 2, 0⟩
def lh (dest typ cls hops : Nat) : LHdr := ⟨0, cls, 0, dest, 1, typ, hops, 1, 0⟩
/-- Stage 5 with an up port. -/
def soaking (x : LPort) : State := (port 3 x).wr R.HI_STATUS_STAGE 5
theorem test_met_PortsAndHello_HelloAndSoak : (lh 0 0x24 1 0).port < 16 ∧ (port 2 LPort.reset).getI R.LK_PSTAT_STATE 0 = 2 ∧ hello1.rank < hello1.seats ∧
    hello1.tableId.toNat = (port 2 LPort.reset).rd64 R.LK_TABLE_ID_LO_ID R.LK_TABLE_ID_HI_ID ∧ hello1.tgen.toNat = (port 2 LPort.reset).rd R.LK_TGEN_GEN ∧
    hello1.port ≤ 15 ∧ ¬ (({ hello1 with rank := 5 } : HelloIn).rank < hello1.seats) ∧
    ({ hello1 with tgen := 9 } : HelloIn).tgen.toNat ≠ (port 2 LPort.reset).rd R.LK_TGEN_GEN ∧
    (soaking LPort.reset).rd R.HI_STATUS_STAGE = 5 ∧ (soaking LPort.reset).portUp 0 = true ∧ ((soaking LPort.reset).lport 0).soaked = false ∧
    (soaking LPort.reset).pwr.entering = false ∧ ((soaking LPort.reset).lport 0).soaks = 0 ∧ ((soaking { LPort.reset with soaks := 1 }).lport 0).soaks ≠ 0 := by
  decide +kernel
theorem test_met_ForwardingAndGathers_Forwarding : (seated run).portUp 0 = true ∧ (seated run).linkGood (lh 1 0x01 2 0) = true ∧ (1 : Nat) ≠ (seated run).rank ∧
    (lh 1 0x01 2 30).hops < 31 ∧ 31 ≤ (lh 1 0x01 2 31).hops ∧ (seated run).portsUp ((seated run).getI R.LK_ROUTE_PORTS 1) ≠ [] ∧
    (seated run).portsUp ((seated run).getI R.LK_ROUTE_PORTS 2) = [] ∧ (seated run).linkGood (lh 1 0x01 3 0) = false ∧
    (lh 0 0x01 2 0).dest = (seated run).rank := by decide +kernel
/-- Position 0 with a piece of four lines, of version 4; a gather of its tail; open gathers of this seat. -/
def owner (shard : W32) (l : List OpenGather) : State :=
  (fun s : State => { s with pos := [(0, { Pos.reset with dealer := { Dealer.reset with pieces := [⟨shard, 4, 128, 4⟩], gathers := l } })] }) (seated run)
def greq (shard : W32) (hand : W64) : GReq := ⟨hand, shard, 2, 2, 0, 7⟩
def openG (parked : Bool) : OpenGather := ⟨7, 1, 2, 2, 0, false, parked, 0⟩
/-- A STORE with VSET that writes the piece. -/
def vsetting : State := (owner 1 []).onDealer 0 (fun d => { d with opened := [⟨0, { desc 3 1 64 0 with flags := 4, shard := 1 }, 0, 0, ⟨[], [], []⟩, 1, 0, true, none⟩] })
/-- A relay that gathered lines 0 to 3 of the piece in version 4. -/
def relay1 : State := ((owner 1 []).onDealer 0 (fun d => { d with vrec := [(1, 4)], gathered := [(1, 0, 4)] })).wr R.LK_CTRL_RELAY 1
theorem test_met_ForwardingAndGathers_GatherPackets : (owner 1 []).arrives (lh 0 1 2 0) 1 ∧ ((owner 1 []).dealer 0).piece 1 = some ⟨1, 4, 128, 4⟩ ∧ (owner 1 []).inSvc 0 = true ∧
    (greq 1 0).lines = 2 ∧ (greq 1 0).first + (greq 1 0).lines ≤ 4 ∧ (owner 1 []).reachable (lh 0 1 2 0).src = true ∧ stagePiece 1 = false ∧
    (owner 1 []).vsetOpen 0 1 = false ∧ (owner 1 []).hasEntry 0 = true ∧ vsetting.vsetOpen 0 1 = true ∧ vsetting.arrives (lh 0 1 2 0) 1 ∧
    (vsetting.dealer 0).piece 1 = some ⟨1, 4, 128, 4⟩ ∧ stagePiece 0x80000001 = true ∧
    (greq 0x80000001 4).hand.toNat ≤ 4 ∧ 4 < (greq 0x80000001 5).hand.toNat ∧ (owner 0x80000001 []).arrives (lh 0 1 2 0) 1 ∧
    relay1.portUp 0 = true ∧ relay1.linkGood (lh 1 1 2 0) = true ∧ (1 : Nat) ≠ relay1.rank ∧ relay1.relays (greq 1 0) = true ∧
    (relay1.dealer 0).vrec.find? 1 = some 4 ∧ linesOk 2 = true := by
  unfold State.arrives; and_intros <;> decide +kernel
/-- The gather's descriptor has taken lines of version 3. -/
def mixed : State := (owner 1 [openG false]).onDealer 0 (fun d => { d with opened := [⟨0, gatherD, 0, 0, ⟨[], [], []⟩, 1, 0, true, some 3⟩] })
theorem test_met_ForwardingAndGathers_GatherAnswers : (owner 1 [openG false]).arrives (lh 0 2 2 0) 2 ∧ (owner 1 [openG false]).openGather (greq 1 0) = some (openG false) ∧
    (greq 1 0).hand = (owner 1 []).hand.hand ∧ (owner 1 []).hand.outcome = none ∧ (owner 1 []).openGather (greq 1 0) = none ∧
    (owner 1 [openG false]).mixes 0 (openG false) 4 = false ∧ bitOf (openG false).flags.toNat 1 = false ∧ mixed.mixes 0 (openG false) 4 = true ∧
    mixed.arrives (lh 0 2 2 0) 2 ∧ mixed.openGather (greq 1 0) = some (openG false) ∧
    (owner 1 [openG false]).arrives (lh 0 3 1 0) 3 ∧ (owner 1 []).hand.running = none ∧
    (((owner 1 [openG true]).dealer 0).gathers.find? (fun g => g.tag == 7 && g.parked)) = some (openG true) := by
  unfold State.arrives; and_intros <;> decide +kernel
/-- A copy of this seat from seat 1, with its last part left, and with two left. -/
def asked (left : List Nat) : State := (fun s : State => { s with host := { s.host with copies := [⟨0, 1, 1, 0, 0x10000, 65, left, false⟩] } }) (seated hosted)
/-- A push of this seat's peer writes the mirror copy at position 0. -/
def pushed : State := (fun s : State => { s with link := { s.link with mirror := { s.link.mirror with hand := some 1, wrote := [(0, 4096)] } } }) (seated run)
theorem test_met_CopyAndReduce_CopyPackets : pushed.arrives (lh 0 4 2 0) 4 ∧ pushed.between = true ∧
    pushed.pushedAt (0x100000000000 + pushed.copyBase pushed.pushCopy) = true ∧ (seated run).between = true ∧
    (∀ i, i < 2 → (seated run).pushedAt (0x1000 + 64 * i) = false) ∧ (∀ i, i < 2 → (seated run).poisoned (0x1000 + 64 * i) = false) ∧
    (seated run).reachable 1 = true ∧ (asked [0, 1]).arrives (lh 0 5 2 0) 5 ∧ (asked [0, 1]).host.copies.map (fun j => j.left.length) = [2] ∧ (seated run).arrives (lh 0 4 2 0) 4 ∧ (seated run).reach 0x1000 (64 * 2) false = .ok ∧ (seated run).poisoned 0x1040 = false ∧
    (asked [1]).arrives (lh 0 5 2 0) 5 ∧ ((asked [1]).host.copies.find? (fun j => j.src == 1 && j.left.contains 1 && j.srcAddr + 4096 * 1 == 4096 &&
      min 64 (j.lines - 64 * 1) == 1)).isSome = true ∧ (asked [1]).reach (0x10000 + 4096 * 1) 64 true = .ok ∧ 2 ≤ ([0, 1] : List Nat).length := by
  unfold State.arrives; decide +kernel


/-! ## The reduction, the mirror, the pushes, and the table's tricks on the links -/

/-- A header on port 0 whose class is its type's. -/
def lt (dest typ : Nat) : LHdr := lh dest typ ((typeClass typ).getD 0) 0
/-- A record of the crib of stack 0, of pot 1, which waits for stack 0 of seat 1. -/
def crib1 : Crib := ⟨5, packet 1 1, [(1, 0)], 0⟩
def cribbed : State := reducing.onPos 0 (fun p => { p with pot := { p.pot with crib := [crib1] } })
theorem test_met_CopyAndReduce_ReducePackets : reducing.arrives (lt 0 0x10) 0x10 ∧ reducing.potEnt 0 = some pot0 ∧ (packet 1 0).hdr.typ = 1 ∧ reducing.potEnt 2 = none ∧
    cribbed.arrives (lt 0 0x20) 0x20 ∧ cribbed.arrives (lt 0 0x21) 0x21 ∧ cribbed.hand.running.isSome = true ∧
    (cribbed.posn 0).pot.crib.find? (fun c => c.crec.toNat == 5) = some crib1 ∧ (cribbed.potEnt 1).map (·.owner) = some 1 ∧ (1 : Nat) ≠ cribbed.rank ∧
    cribbed.reachable 1 = true ∧ crib1.pkt.hdr.pot.toNat = 1 := by unfold State.arrives; decide +kernel
/-- A pot of FP32 kind that this seat owns is mirrored; one try has been made in the second state. -/
def tried (n : Nat) : State := reducing.onPos 0 (fun p => { p with pot := { p.pot with mirrorSum := [(0, 7)], mirrorTries := if n = 0 then [] else [(0, n)], sealed := [(0, 2)] } })
theorem test_met_MirrorAndPush_MirrorPackets : reducing.arrives (lt 0 0x11) 0x11 ∧ reducing.inSvc 47 = true ∧ (bandOff - 8) + 8 ≤ bandOff ∧
    reducing.lastUnit pot0 0 0 = true ∧ reducing.lastUnit pot0 0 4096 = false ∧ reducing.potEnt 2 = none ∧ reducing.reachable 1 = true ∧
    (tried 0).arrives (lt 0 0x22) 0x22 ∧ (tried 0).potEnt 0 = some pot0 ∧ pot0.owner = (tried 0).rank ∧ pot0.kind = 0 ∧
    pot0.stacks = [0] ∧ ((tried 0).posn 0).pot.mirrorSum.get 0 0 = 7 ∧ ((tried 0).posn 0).pot.mirrorTries.get 0 0 = 0 ∧
    ((tried 1).posn 0).pot.mirrorTries.get 0 0 = 1 ∧ (tried 0).sealedAll 0 pot0 = true ∧ (tried 1).sealedAll 0 pot0 = true ∧
    (tried 1).arrives (lt 0 0x22) 0x22 ∧ (tried 0).hand.misdealt = false ∧
    pot0.stacks.foldl (fun (a : W64) k => a ^^^ ((tried 0).posn k).pot.mirrorSum.get 0 0) 0 = 7 ∧
    (tried 0).reachable ((tried 0).getI R.LK_HOME_MIRROR (tried 0).rank) = true := by unfold State.arrives; decide +kernel
/-- A seat that hosts seat 1's mirror copies and receives a push of hand 3; one that may not host; and an owner whose push awaits two positions. -/
def hosting (en : Nat) : State :=
  (fun s : State => { s with link := { s.link with mirror := { s.link.mirror with hand := some 3, owner := 1 } } })
    (((seated run).wr R.NM_MIRROR_HOST_EN en).wr R.NM_MIRROR_B_GIB 1)
/-- The same with position 0 alone in service. -/
def single : State := (hosting 1).wr64 R.DL_INSVC_LO_POS R.DL_INSVC_HI_POS 1
def pushOpens (l : List Nat) : State := { exports with hand := { exports.hand with pushOpen := l } }
theorem test_met_MirrorAndPush_PushPackets : (hosting 1).arrives (lt 0 0x12) 0x12 ∧ (hosting 1).link.mirror.hand = some 3 ∧ (hosting 1).link.mirror.owner = (lt 0 0x12).src ∧
    (hosting 1).canHost 0 64 = true ∧ (hosting 0).canHost 0 64 = false ∧ (hosting 1).link.mirror.wrote.get 0 0 + 32 < 64 ∧
    (hosting 1).reachable (lt 0 0x12).src = true ∧ (pushOpens [0, 1]).arrives (lt 0 0x23) 0x23 ∧ (pushOpens [0]).hand.push = some export1 ∧
    (pushOpens [0]).hand.pushOpen.contains 0 = true ∧ (pushOpens [0]).hand.pushOpen.erase 0 = [] ∧ (pushOpens [0, 1]).hand.pushOpen.erase 0 ≠ [] := by
  unfold State.arrives; decide +kernel
theorem test_met_MirrorAndPush_PushPackets_last : single.canHost 0 64 = true ∧ single.reachable 1 = true ∧ (∀ j, j < 48 → single.inSvc j = true → j = 0) := by decide +kernel
/-- This seat is the root of tree 0xF0, and of the gate's tree, with one child on port 0; its own value is there or not. -/
def rooted (own : Option (BitVec 4 × W32)) : State :=
  ((((seated playing).setI R.LK_TREE_EN 0 1).setI R.LK_TREE_PARENT 0 0x1F).setI R.LK_TREE_CHILDREN 0 1 |>.setI R.LK_TREE_EN 15 1).setTTrick 0
    { TTrick.reset with own := own }
theorem test_met_TableTricks : (rooted none).arrives (lt 0 0x30) 0x30 ∧ (rooted none).treeOn 0xF0 = true ∧ (rooted none).treeOn 0xFF = true ∧
    ((rooted none).childPorts 0).contains (lt 0 0x30).port = true ∧ ((rooted none).ttrick 0).inst % 65536 = 0 ∧ ((rooted none).ttrick 0).own = none ∧
    ((rooted none).ttrick 0).ownRec = none ∧ ((rooted (some (0, 4))).ttrick 0).own = some (0, 4) ∧ ((rooted (some (0, 4))).ttrick 0).sent = false ∧
    (rooted none).treeRoot 0 = true ∧ (∀ p ∈ (rooted none).childPorts 0, p = (lt 0 0x30).port) ∧
    (rooted none).floods (lt 0xFFFF 0x31) 0x31 (trickBody 0xF0 0 0 9 none) ∧
    (rooted none).floods (lt 0xFFFF 0x31) 0x31 (trickBody 0xFF 0 0 0 (some rec0)) ∧ rec0.crc = crc32c (gateBytes rec0) := by
  unfold State.arrives State.floods; decide +kernel
theorem test_trick_sum : (next? (exec (.trickUp (lt 0 0x30) 0xF0 0 0 9 none) (rooted (some (0, 4))))).map (fun t => (t.ttrick 0).inst) = some 1 := by decide +kernel
/-- The same flood a second time. -/
def flooded : State := (fun s : State => { s with link := { s.link with floods := [(0x31, trickBody 0xF0 0 0 9 none)] } }) (rooted none)
theorem test_met_TableTricks_again : flooded.portUp 0 = true ∧ flooded.linkGood (lt 0xFFFF 0x31) = true ∧ (lt 0xFFFF 0x31).dest = 0xFFFF ∧
    flooded.seen 0x31 (trickBody 0xF0 0 0 9 none) = true := by decide +kernel
theorem test_met_TableTricks_TableFloods : (rooted none).floods (lt 0xFFFF 0x32) 0x32 (leBytes 8 0 ++ leBytes 2 3 ++ leBytes 2 5 ++ leBytes 2 1) ∧
    (rooted none).hand.hand = 0 ∧ (1 : W64) ≠ (rooted none).hand.hand ∧ (rooted none).hand.running.isSome = true ∧ (rooted none).hand.outcome = none ∧
    (rooted none).floods (lt 0xFFFF 0x33) 0x33 (misdealBody (rooted none).hand.hand 1 5) ∧ (rooted none).hand.sweep = false ∧
    (rooted none).portUp 0 = true ∧ (rooted none).linkGood (lt 0xFFFF 0x33) = true ∧
    ((rooted (some (0, 4))).ttrick 0).own.isSome = true ∧ (rooted none).moving = true ∧
    ((rooted none).childPorts 0).find? (fun p => (((rooted none).ttrick 0).kids.find? p).isNone) = some 0 := by
  unfold State.floods; decide +kernel
/-- The same seat in its sweep. -/
def rootedSweep : State := { rooted none with hand := { (rooted none).hand with sweep := true } }
theorem test_met_TableTricks_TableFloods_sweep : rootedSweep.floods (lt 0xFFFF 0x33) 0x33 (misdealBody rootedSweep.hand.hand 1 5) ∧
    rootedSweep.hand.sweep = true := by unfold State.floods; decide +kernel
/-- Between hands, with trees 0 and 15 enabled in a table of two seats. -/
def tables : State := (((seated run).wr R.LK_SEATS_S 2).setI R.LK_TREE_EN 0 1).setI R.LK_TREE_EN 15 1
theorem test_met_TableTricks_TableCommit : tables.mayWrite .host R.LK_CMD_COMMIT.off = true ∧ tables.between = true ∧
    (∀ n, n < 16 → tables.getI R.LK_TREE_EN n = 1 → ([(0xF0, some 2), (0xFF, some 2)] : List (Nat × Option W32)).find? (fun e => e.1 == 0xF0 + n) =
      some (0xF0 + n, some 2)) ∧ (2 : W32).toNat = tables.rd R.LK_SEATS_S ∧ tables.getI R.LK_TREE_EN 15 = 1 ∧ (3 : W32).toNat ≠ tables.rd R.LK_SEATS_S := by
  decide +kernel

/-! ## Clocks and power -/

/-- The crystal after `n` good windows of which the last counted its nominal, and after `w` windows in all. -/
def judged16 (n w : Nat) : State := (fun s : State => { s with clk := { s.clk with stable := false, prev := 100000 } })
  ((run.wr R.CK_STATUS_RUN n).wr R.CK_XTAL_WINDOWS w)
theorem test_met_CrystalAndClocks_Crystal : (judged16 3 5).judging = true ∧ (judged16 3 5).on R.CK_STATUS_FIXED = false ∧ inRange 97500 = true ∧
    nextRun 15 100000 100000 = 16 ∧ nextRun 3 100000 0 < 16 ∧ min ((judged16 3 498).rd R.CK_XTAL_WINDOWS + 1) (2 ^ 15 - 1) < 500 ∧
    500 ≤ min ((judged16 3 499).rd R.CK_XTAL_WINDOWS + 1) (2 ^ 15 - 1) ∧ ((judged16 0 0).wr R.CK_STATUS_FIXED 1).judging = true ∧
    ((judged16 0 0).wr R.CK_STATUS_FIXED 1).on R.CK_STATUS_FIXED = true ∧
    ({ judged16 0 0 with clk := { run.clk with stable := true } } : State).judging = false ∧
    (run.wr R.CK_STATUS_REF_XTAL 1).on R.CK_STATUS_REF_XTAL = true ∧ (run.wr R.CK_STATUS_REF_XTAL 1).on R.CK_STATUS_XTAL_LOST = false := by decide +kernel
theorem test_crystal_window : nextRun 3 100000 100004 = 4 ∧ nextRun 3 100000 100005 = 1 ∧ nextRun 3 100000 97499 = 0 := by decide
/-- A domain with a lock and a source. -/
def dom (d lock src : Nat) (s : State) : State := (s.setI R.CK_DSTAT_LOCK d lock).setI R.CK_DSTAT_SRC d src
theorem test_met_CrystalAndClocks_ClockSources : (dom 0 1 1 run).maySwitch 0 2 = true ∧ (dom 138 1 0 run).maySwitch 138 1 = true ∧ (dom 0 1 1 run).maySwitch 0 0 = false ∧
    (dom 47 1 1 run).domainOn 47 = true ∧ (dom 47 1 1 run).getI R.CK_DSTAT_LOCK 47 = 1 ∧ (dom 47 1 1 run).getI R.CK_DSTAT_SRC 47 = 1 ∧
    (dom 48 1 1 playing).domainOn 48 = true ∧ (dom 119 1 1 playing).domainOn 119 = true ∧ (dom 119 1 1 playing).getI R.CK_DSTAT_LOCK 119 = 1 ∧
    (dom 0 0 2 run).getI R.CK_DSTAT_LOCK 0 = 0 ∧ (0 : Nat) ∉ (dom 0 0 2 run).clk.dead ∧ (dom 0 0 2 run).foldPending 0 = false := by decide +kernel
/-- A new depth of spread that waits. -/
def spreading : State := { run with clk := { run.clk with sscPend := some (10, 3), sscGo := true } }
theorem test_met_ClockLimits_ThrottleAndSpread : max ((run.wr R.CK_THROTTLE_SW 4).rd R.CK_THROTTLE_SW) 0 ≠ (run.wr R.CK_THROTTLE_SW 4).rd R.CK_THROTTLE_LEVEL ∧
    run.clk.thrTick = none ∧ (4 : Nat) ≠ run.clk.thrNoted ∧ max (run.rd R.CK_THROTTLE_SW) (max (run.rd R.CK_THROTTLE_THERM) (run.rd R.CK_THROTTLE_SUPPLY)) =
      run.rd R.CK_THROTTLE_LEVEL ∧ run.mayWrite .host R.CK_SSC_DEPTH.off = true ∧ bitsOf (10 : W32).toNat 0 4 ≤ 10 ∧ ¬ bitsOf (11 : W32).toNat 0 4 ≤ 10 ∧
    spreading.clk.sscPend = some (10, 3) ∧ spreading.clk.sscGo = true := by decide +kernel
theorem test_met_ClockLimits_GatesAndEnables : (dom 0 1 1 (run.wr R.CK_FMEAS_WATCH_EN 1)).compares 0 = true ∧ run.compares 139 = false ∧
    (∀ e ∈ enableRegs, run.mayWrite .supervisor e.1 = true) ∧ bitOf (enableMask R.CK_EN_MISC_PCIE_A.off) 0 = false ∧
    bitOf (enableMask R.CK_EN_FIELD_HI_EN.off) 15 = true ∧ bitOf (enableMask R.CK_EN_FIELD_HI_EN.off) 16 = false ∧ bitOf run.lost 47 = false ∧
    run.blockUsed 0 = false ∧ playing.blockUsed (tileField 5) = true ∧ playing.enableBit R.CK_EN_FIELD_LO_EN.off (tileField 5) = true := by decide +kernel

/-- READY. -/
def ready (s : State) : State := s.wr R.HI_STATUS_STAGE 6
def asked0 (l : List (List (Nat × CallAns))) : CallIn := ⟨l, [], [], []⟩
theorem test_met_PowerCommands : (ready run).mayPower .host = true ∧ (ready run).rd R.HI_STATUS_STAGE = 6 ∧ (run.wr R.HI_STATUS_STAGE 5).rd R.HI_STATUS_STAGE < 6 ∧
    mayMove .run .run = false ∧ mayMove .run .hold = true ∧ mayMove .hold .run = true ∧ mayMove .run .idle = true ∧ mayMove .idle .watch = true ∧
    (ready run).supvRuns = true ∧ (ready run).rounds_ (asked0 []) PState.hold.num 5 0 callBlocks = (none, 1) ∧
    (ready run).rounds_ (asked0 []) PState.watch.num 5 0 callBlocks = (none, 1) ∧
    ((ready run).rounds_ (asked0 [[(0, .silent)]]) PState.hold.num 5 0 callBlocks).1.isSome = true := by decide +kernel
theorem test_met_PowerCommands_TheCall : playing.hand.running.isSome = true ∧ playing.fieldOn 0 = true ∧ playing.fieldOn 47 = true ∧
    (run.wr R.CK_THROTTLE_SUPPLY 1).rd R.CK_THROTTLE_SUPPLY ≠ 0 ∧ (run.wr R.CK_THROTTLE_SUPPLY 1).fieldOn 47 = true ∧ (asked0 []).rounds = [] := by
  decide +kernel
theorem test_met_PowerCommands_TheCall_refused : playing.rounds_ (asked0 []) 1 5 0 callBlocks = (some (0, 1), 1) := by decide +kernel
/-- Asleep in WATCH, between 40 V and 60 V and below 80 °C. -/
def asleep : State := { ((run.wr R.PW_WATCH_LIM_VLO 40).wr R.PW_WATCH_LIM_VHI 60).wr R.PW_WATCH_LIM_TMAX 80 with pwr := { run.pwr with pstate := .watch, convOn := false } }
/-- The same after an overvoltage that is over. -/
def overvolted : State := { asleep.wr R.PW_VIN_CV 5900 with pwr := { asleep.pwr with overvolt := true } }
theorem test_met_WatchAndWake : asleep.inWatch = true ∧ asleep.on R.PW_STATE_LEAK = false ∧ asleep.pwr.overvolt = false ∧ overvolted.pwr.overvolt = true ∧
    overvolted.rd R.PW_VIN_CV ≤ 6000 ∧ overvolted.inWatch = true ∧ overvolted.on R.PW_STATE_LEAK = false ∧
    (asleep.wr R.PW_WAKE_I3C_EN 1).on R.PW_WAKE_I3C_EN = true ∧ (asleep.wr R.PW_WAKE_MB_EN 1).on R.PW_WAKE_MB_EN = true ∧
    (asleep.wr R.PW_WAKE_WAKEN_EN 1).on R.PW_WAKE_WAKEN_EN = true ∧ (asleep.wr R.PW_WAKE_I3C_EN 0).on R.PW_WAKE_I3C_EN = false ∧
    (asleep.wr R.PW_WAKE_MB_EN 0).on R.PW_WAKE_MB_EN = false ∧ (asleep.wr R.PW_WAKE_WAKEN_EN 0).on R.PW_WAKE_WAKEN_EN = false ∧
    (asleep.wr R.PW_WAKE_BREACH_EN 0).on R.PW_WAKE_BREACH_EN = false ∧ (asleep.wr R.PW_WATCH_LIM_LEAK_EN 0).on R.PW_WATCH_LIM_LEAK_EN = false ∧
    (asleep.rd R.PW_WATCH_LIM_VLO : Int) ≤ 40 ∧ 60 ≤ (asleep.rd R.PW_WATCH_LIM_VHI : Int) ∧ (80 : Int) ≤ asleep.rd R.PW_WATCH_LIM_TMAX ∧
    ¬ (81 : Int) ≤ asleep.rd R.PW_WATCH_LIM_TMAX ∧ (asleep.wr R.PW_WAKE_BREACH_EN 1).on R.PW_WAKE_BREACH_EN = true ∧
    ((asleep.wr R.PW_WATCH_LIM_LEAK_EN 1).wr R.PW_WAKE_BREACH_EN 0).on R.PW_WATCH_LIM_LEAK_EN = true ∧ run.pwr.pstate ≠ .off ∧ run.inWatch = false ∧
    ({ run with pwr := { run.pwr with breachWait := true } } : State).pwr.breachWait = true := by decide +kernel
theorem test_wake : (next? (exec .wakeI3c (asleep.wr R.PW_WAKE_I3C_EN 1))).map (fun t => (t.rd R.PW_WAKE_CAUSE, t.pwr.entering)) = some (1, true) := by decide +kernel
theorem test_met_SupplyAndCap_Supply : State.reset.pwr.convOn = false ∧ ({ State.reset with pwr := { Power.reset with busSense := true } } : State).pwr.busSense = true ∧
    Power.reset.pstate ≠ .off ∧ State.reset.inWatch = false ∧ Power.reset.modReset = false ∧ run.powered = true ∧ run.pwr.vinHighMin = none ∧
    run.pwr.sag = false ∧ ({ run with pwr := { run.pwr with sag := true } } : State).pwr.sag = true ∧ (65535 : Nat) < 65536 := by decide +kernel
theorem test_sag : (next? (exec (.sag 5100) run)).map (fun t => (t.rd R.CK_THROTTLE_SUPPLY, t.rd R.PW_VMIN_CV)) = some (8, 5100) := by decide +kernel
/-- A cap of 10,000 W with 16 converters, the tenth cool millisecond, and four converters already failed. -/
def capped (low : Nat) (bad : BitVec 16) : State :=
  { ((run.wr R.PW_PLIMIT_W 10000).wr R.PW_CONV_K 16).wr R.PW_CONV_OK (~~~ bad).toNat with pwr := { run.pwr with capLow := low, convBad := bad } }
theorem test_met_SupplyAndCap_PowerCap : (capped 0 0).powered = true ∧ (capped 0 0).cap < 10001 ∧ 9499 * 100 < 95 * (capped 9 0).cap ∧ (capped 9 0).pwr.capLow = 9 ∧
    (capped 8 0).pwr.capLow < 9 ∧ bitOf ((capped 0 0).rd R.PW_CONV_OK) 15 = true ∧
    12 ≤ ((List.range 16).filter (bitOf (~~~ ((7 : BitVec 16) ||| (1 : BitVec 16) <<< 3)).toNat)).length ∧
    ((List.range 16).filter (bitOf (~~~ ((15 : BitVec 16) ||| (1 : BitVec 16) <<< 4)).toNat)).length < 12 ∧
    bitOf ((capped 0 7).rd R.PW_CONV_OK) 3 = true ∧ bitOf ((capped 0 15).rd R.PW_CONV_OK) 4 = true := by decide +kernel
/-- Every rail on, limits of 85, 95 and 105 °C, and sensor 0 reading a quarter of `q` °C; a field that asks to be folded and is. -/
def warm (q : Int) : State :=
  (fun s : State => { s with pwr := { s.pwr with sensors := [(0, q)], coolLowMs := 9 } })
    (((((run.wr R.PW_RAIL_LO_ON 0xFFFFFFFF).wr R.PW_RAIL_HI_ON 0xFFFF).wr R.PW_THERM_THR_C 85).wr R.PW_THERM_FOLD_C 95).wr R.PW_THERM_HOT_C 105)
def cooling : State := (run.wr R.PW_FOLDREQ_HI_REQ 0x8000).wr R.FB_FOLDED_HI_FIELDS 0x8000
/-- A hot field folded and cooling, its rail off; a hand that plays on tile 5, whose field is all that trees 0 and 1 have. -/
def hotFolded : State := (cooling.wr R.PW_RAIL_LO_ON 0xFFFFFFFF).wr R.PW_RAIL_HI_ON 0x7FFF
def onTrees : State := { (warm 0).onTile 5 (fun x => { x with router := { x.router with trees := 3 } }) with hand := playing.hand }
theorem test_met_FieldsAndHeat_fuse : hotFolded.railOn 47 = false ∧ bitOf hotFolded.folded 47 = true ∧ hotFolded.foldPending 47 = true ∧
    bitOf hotFolded.lost 47 = false ∧ onTrees.railOn (tileField 5) = true ∧ onTrees.fatalNow = false ∧
    (onTrees.fieldBit R.FB_LOST_LO_FIELDS R.FB_LOST_HI_FIELDS (tileField 5) true).treesLost = true ∧ onTrees.railOn 47 = true ∧ tileField 5 ≠ 47 ∧
    (onTrees.fieldBit R.FB_LOST_LO_FIELDS R.FB_LOST_HI_FIELDS 47 true).treesLost = false ∧ onTrees.hand.running.isSome = true ∧
    onTrees.hand.outcome = none ∧ onTrees.hand.sweep = false ∧ onTrees.hand.contributed = false := by
  and_intros <;> decide +kernel
/-- A reading of one junction sensor of field 47. -/
def sensed : SensorIn := ⟨[(4 * 47, 100)], [(47, 80)], [(95, 80)], 100⟩
theorem test_met_FieldsAndHeat_sensed : sensed.near.all (fun e => decide (e.1 < 48)) = true ∧ sensed.far.all (fun e => decide (e.1 < 96)) = true ∧
    (∀ x ∈ sensed.ring :: (warm 0).pwr.last3.get ringKey [], x < 4 * ((warm 0).rd R.PW_THERM_HOT_C : Int)) ∧ (warm 0).railOn 47 = true ∧
    sensed.field.any (fun e => e.1 / 4 == 47) = true ∧ (next? (exec (.sensorRead sensed) (warm 0))).map (fun t => t.fieldTemp 47) = some (some 100) := by
  and_intros <;> decide +kernel
theorem test_met_FieldsAndHeat : (warm 0).railOn 0 = true ∧ (warm 0).railOn 47 = true ∧ playing.hand.outcome = none ∧ (warm 0).powered = true ∧
    (100 : Int) < 4 * ((warm 0).rd R.PW_THERM_FOLD_C : Int) ∧ (100 : Int) < 4 * ((warm 0).rd R.PW_THERM_HOT_C : Int) ∧
    (warm 0).pwr.last3.get ringKey [] = [] ∧ (warm 0).pwr.last3.get 0 [] = [] ∧ (∀ j, j < 4 → 0 < j → (warm 0).pwr.sensors.find? (4 * 0 + j) = none) ∧
    4 * ((warm 0).rd R.PW_THERM_FOLD_C : Int) ≤ 380 ∧ (∃ e ∈ (warm 340).pwr.sensors, 4 * ((warm 340).rd R.PW_THERM_THR_C : Int) ≤ e.2) ∧
    (∀ f, f < 48 → (warm 332).railOn f = false ∨ (warm 332).pwr.badField.getLsbD f = false) ∧
    (∀ e ∈ (warm 332).pwr.sensors, e.2 ≤ 4 * ((warm 332).rd R.PW_THERM_THR_C : Int) - 8) ∧ 9 ≤ (warm 332).pwr.coolLowMs ∧
    cooling.foldPending 47 = true ∧ bitOf cooling.folded 47 = true ∧ cooling.foldPending 46 = false := by decide +kernel

/-! ## The supervisor, its services and the management interface -/

/-- The supervisor down, in stage 2. -/
def fallen : State := { run.wr R.HI_STATUS_STAGE 2 with sup := { run.sup with down := true } }
def watched (en : Nat) : State := run.wr R.SP_CTRL_WDOG_EN en
/-- The management queue with record 9. -/
def mgmtQueue : State := { run with sup := { run.sup with queue := [⟨0, 9, 0, 0, []⟩] } }
/-- The same after a loss; with the supervisor halted; one that is halted and comes back. -/
def mgmtLost : State := { mgmtQueue with sup := { mgmtQueue.sup with queueLost := 2 } }
def haltedUp : State := { run with sup := { run.sup with halted := true } }
theorem test_met_SupervisorAndFatal : run.supvUp = true ∧ run.sup.halted = false ∧ (watched 1).on R.SP_CTRL_WDOG_EN = true ∧
    (watched 0).on R.SP_CTRL_WDOG_EN = false ∧ fallen.mayReturn = true ∧ fallen.sup.halted = false ∧ run.mayWrite .supervisor R.SP_CTRL_KICK.off = true ∧
    run.powered = true ∧ run.fatalNow = false ∧ (run.wr R.HI_STATUS_FATAL 1).fatalNow = true ∧ mgmtQueue.supvRuns = true ∧ mgmtQueue.sup.queueLost = 0 ∧
    mgmtLost.supvRuns = true ∧ mgmtLost.sup.queueLost ≠ 0 ∧ (mgmtLost.sup.queue.filter (fun e => e.seq != 9)).length < queueMax ∧
    mgmtLost.sup.queue.any (fun e => e.seq == 9) = true ∧ haltedUp.supvUp = true ∧ haltedUp.sup.halted = true ∧
    run.mayWrite .tap R.SP_CTRL_KICK.off = false ∧
    mgmtQueue.sup.queue.any (fun e => e.seq == 9) = true := by decide +kernel
theorem test_watchdog : (next? (exec .supvWdog (watched 1))).map (fun t => (t.sup.down, t.rd R.SP_RESETS_CAUSE)) = some (true, 1) := by decide +kernel
theorem test_met_ManagementServices_info : hosted.askable 0 .i3c ∧ hosted.askable 16 .i3c ∧ hosted.askable 19 .i3c ∧ (0 : Nat) < 16 ∧ hosted.mayChange .i3c = true ∧
    (1 : BitVec 56) ≠ 0 := by unfold State.askable; decide +kernel
/-- A firmware image that slot 0 of a shipped module verifies, and one below its counter. -/
def fw1 : FwImage := ⟨true, 0, true, 0x10000, 3, 0, 0, true, [1]⟩
def stage1 (l : List (Nat × Nat)) (i : Option FwImage) : State := { hosted with sup := { hosted.sup with open_ := l, stagedImg := i } }
theorem test_met_ManagementServices_firmware : (stage1 [] none).askable 16 .i3c ∧ (0x1000 : BitVec 56).toNat % 4096 = 0 ∧
    ((stage1 [] none).nearLoc 0x1000).isSome = true ∧ (stage1 [] none).stagingOpen = false ∧ (stage1 [(0x02, 16)] none).stagingOpen = true ∧
    (stage1 [] (some fw1)).sup.stagedImg.isSome = true ∧ (stage1 [] none).sup.stagedImg = none ∧ (0x02, 16) ∈ (stage1 [(0x02, 16)] none).sup.open_ ∧
    (stage1 [] none).fwVerify fw1 = 0 ∧ (stage1 [] none).fwVerify { fw1 with sigOk := false } ≠ 0 ∧ (stage1 [] none).supvRuns = true ∧
    ({ run with sup := { run.sup with trial := true } } : State).sup.trial = true ∧ run.sup.halted = false := by
  unfold State.askable; decide +kernel
theorem test_met_ManagementServices_power : hosted.askable 16 .i3c ∧ hosted.askable 15 .i3c ∧ powerTarget 0 = some .run ∧ powerTarget 3 = some .watch ∧
    PState.watch.num = 3 ∧ hosted.inWatch = false ∧ hosted.pwr.modReset = false ∧ (2 : BitVec 56) ≠ 0 ∧ (2 : BitVec 56) ≠ 1 := by
  unfold State.askable; decide +kernel
/-- A module whose management Ethernet is up, with and without a session over it. -/
def eth (ses : Bool) : State :=
  { run.wr R.SP_STATUS_ETH_UP 1 with sup := { run.sup with session := ses, sessionVia := if ses then some .ethernet else none } }
theorem test_met_MctpAndPldm : run.hears .i3c ∧ (eth false).hears .ethernet ∧ run.supvRuns = true ∧ run.getI R.PW_TEMP_VALID 47 = 0 ∧ run.mayChange .i3c = true ∧
    run.stagingOpen = false ∧ run.fwVerify fw1 = 0 ∧ (eth false).mayChange .ethernet = false ∧ (eth true).mayChange .ethernet = true ∧ (1 : Byte) ≠ 0 := by
  unfold State.hears; decide +kernel
theorem test_met_MctpAndPldm_links : run.pwr.pstate ≠ .off ∧ run.sup.dynAddr = none ∧
    ({ run with sup := { run.sup with dynAddr := some 9 } } : State).sup.dynAddr.isSome = true ∧ run.powered = true ∧ run.on R.SP_STATUS_ETH_UP = false ∧
    (eth true).sup.sessionVia = some .ethernet ∧ (eth false).sup.sessionVia ≠ some .ethernet := by decide +kernel
/-- Algorithms negotiated, and a key exchange over I3C. -/
def agreed : State := { run with sup := { run.sup with negotiated := true, handshake := some .i3c } }
theorem test_met_Spdm : run.viaUp .i3c = true ∧ run.supvRuns = true ∧ run.powered = true ∧ run.sup.negotiated = false ∧ agreed.sup.negotiated = true ∧
    agreed.sec.identity = true ∧ agreed.measure 4 = some [0] ∧ (4 : Nat) ≠ 0xFF ∧ agreed.sup.handshake = some .i3c ∧ agreed.sup.session = false ∧
    run.sup.handshake ≠ some .i3c := by decide +kernel

/-! ## Boot, policy, the debug port, the ledger -/

/-- A module that waits to boot, as shipped. -/
def booting : State := { run.wr R.HI_STATUS_STAGE 1 with sup := { run.sup with down := true }, clk := { run.clk with stable := true } }
theorem test_met_BootAndPolicy_boot : booting.mayBoot = true ∧ booting.hasSwitch = true ∧
    booting.newestRec 0x0002 = some (16781312, ⟨0x0002, 2, List.replicate 40 0, true⟩) ∧ field (List.replicate 40 (0 : Byte)) 0 1 % 2 = 0 ∧
    booting.bankImage 0 (some fw1) none = some fw1 ∧ booting.bankImage 1 none (some fw1) = some fw1 ∧ booting.fwVerify fw1 = 0 ∧
    booting.fwVerify { fw1 with sigOk := false } ≠ 0 := by decide +kernel
theorem test_boot : (next? (exec (.coldBoot (some fw1) none true) booting)).map (fun t => (t.rd R.HI_STATUS_STAGE, t.sec.counter)) = some (2, 3) := by decide +kernel
/-- A key with exponent 65,537 at near-memory address 0. -/
def keyed : State := (run.busWr 384 [1, 0, 1, 0])
def pending0 : State := { run with sec := { run.sec with keyPend := some (1, 0, true) } }
theorem test_met_BootAndPolicy_policy : keyed.mayWrite .host R.SC_KEYCMD_OP.off = true ∧ keyed.keyAt.isSome = true ∧ run.keyAt = none ∧
    keyed.sec.keyPend = none ∧ keyed.keyAllowed .host 1 = true ∧ keyed.keyAllowed .host 2 = true ∧ run.supvRuns = true ∧ keyed.sec.must = false ∧
    keyed.sec.waits = [] ∧ keyed.sec.used + 2048 ≤ halfSize ∧ pending0.sec.keyPend.isSome = true ∧ run.keyAllowed .supervisor 2 = false ∧
    ({ run with sec := { run.sec with locked := true } } : State).keyAllowed .host 6 = false ∧ fallen.supvRuns = false := by decide +kernel
/-- A token for a nonce, and a port that verifies one. -/
def token0 (ok : Bool) : TokenIn := ⟨true, 0, 31, Config.serial, 5, 60, 0, ok⟩
def verifying (ok : Bool) : State := { run with sec := { run.sec with nonce := some 5, verifying := some (token0 ok) } }
theorem test_met_Debug_tap : run.tapUp = true ∧ run.sec.deniedAt = none ∧
    ({ run with sec := { run.sec with deniedAt := some 0 } } : State).ticks < 0 + secondTicks ∧ run.sec.verifying = none ∧
    (verifying true).sec.verifying = some (token0 true) ∧ (verifying true).tapUp = true := by
  refine ⟨?_, ?_, ?_, ?_, rfl, ?_⟩ <;> decide +kernel
theorem test_met_Debug_token : (verifying true).tokenOk (token0 true) = true ∧ (verifying false).tokenOk (token0 false) = false := by
  have h : Map.get [] 0 0#256 = 0#256 := by decide
  constructor <;> simp [State.tokenOk, verifying, token0, run, State.reset, Security.shipped, h]
theorem test_met_Debug_dap : run.dbgOpen = false ∧ unlocked.dbgOpen = true ∧ unlocked.right 2 = true ∧ isReg 64 = false ∧ unlocked.gatedAt 64 = false ∧
    unlocked.poisoned 64 = false ∧ (unlocked.loc 64) = some (.near 0 64) ∧ unlocked.reach 64 8 true = .ok ∧ unlocked.right 0 = true ∧
    isSupv (32 * 2 ^ 20 - 8) = true ∧ isSupv (32 * 2 ^ 20) = false ∧ isSupv (2 ^ 32) = true ∧ unlocked.dapCtx (5 + 4096) = some (5, false, 1) ∧
    unlocked.dapCtx (5 + 31 * 4096) = some (5, false, 31) ∧ unlocked.right 1 = true ∧ unlocked.on R.FB_STATUS_FROZEN = false ∧
    (unlocked.wr R.FB_STATUS_FROZEN 1).on R.FB_STATUS_FROZEN = true := by decide +kernel
/-- What the debug port wrote in the supervisor's space, and a breakpoint on tile 5's primary. -/
def supvWritten : State := { unlocked with sec := { unlocked.sec with supvMem := (List.range 8).map (fun i => (i, 0)) } }
def broken : State := (unlocked.onTile 5 (fun x => { x with tbp := [(0, 0x8000)] })).setI R.DB_SBP_LO_EN 7 1
theorem test_met_Debug_control : (∀ i, i < 8 → supvWritten.sec.supvMem.find? (0 + i) = some 0) ∧ unlocked.sec.unlocked = true ∧
    unlocked.mayWrite .tap R.DB_CTRL_LOCK.off = true ∧ unlocked.sec.lifetime ≠ 0 ∧ run.sec.lifetime = 0 ∧ unlocked.mayDebug .tap = true ∧
    unlocked.sup.halted = false ∧ ({ unlocked with sup := { unlocked.sup with halted := true } } : State).mayDebug .tap = true ∧
    unlocked.supvUp = true ∧ broken.sbpHit 0 = true ∧ ((broken.tile 5).ctx false).running = true ∧ (broken.tile 5).bpHit false 0 = true ∧
    broken.on R.FB_STATUS_STALLED = false := by decide +kernel
theorem test_met_Journal : run.supvRuns = true ∧ run.sec.must = false ∧ run.sec.waits = [] ∧ ([1] : Bytes) ≠ [] ∧
    run.sec.used + 32 + roundUp 1 16 ≤ halfSize ∧ run.mayWrite .host R.LG_CTRL_COMPACT.off = true := by decide +kernel
theorem test_ledger : (next? (exec (.ledgerWrite ⟨0x0100, [1], true⟩) run)).map (fun t => t.sec.seq) = some 4 := by decide +kernel

/-! ## Start-up, positions, registers, the whole module -/

/-- OFF; a module in reset, and one released; one in a stage. -/
def off : State := { State.reset with pwr := { Power.reset with pstate := .off } }
def held (b : Bool) : State := { run.wr R.CK_STATUS_REF_XTAL 1 with pwr := { run.pwr with modReset := b } }
def stage (n : Nat) : State := run.wr R.HI_STATUS_STAGE n
theorem test_met_StartUpAndPositions_start : off.pwr.pstate = .off ∧ run.pwr.pstate ≠ .off ∧ run.pwr.convOn = true ∧ (held false).powered = true ∧
    (held false).pwr.modReset = false ∧ (held true).powered = true ∧ (held true).pwr.modReset = true ∧ (held true).on R.CK_STATUS_REF_XTAL = true ∧
    (stage 2).wakeWaits = false ∧ (stage 4).wakeWaits = false ∧ bitOf (stage 2).lost 47 = false ∧
    (stage 4).powered = true ∧ (stage 4).pwr.modReset = false ∧ (stage 2).rd R.HI_STATUS_STAGE = 2 ∧ (stage 2).pwr.breach = none ∧ (stage 2).powered = true ∧ (stage 2).pwr.modReset = false ∧
    (stage 2).coolantOk (-80) = true ∧ (stage 2).coolantOk 160 = true ∧ (stage 2).coolantOk 161 = false ∧ (stage 2).coolantOk (-81) = false ∧
    (stage 2).pwr.carrier ≠ 2 ∧ (stage 4).rd R.HI_STATUS_STAGE = 4 ∧ (stage 4).newestRec 0x000D = none ∧ (stage 4).pwr.entering = false ∧
    (47 : Nat) ∉ ([46] : List Nat) := by decide +kernel
def noBus : State := { State.reset with pwr := { Power.reset with busSense := false, convOn := false } }
theorem test_met_StartUpAndPositions_rest : noBus.pwr.busSense = false ∧ noBus.pwr.convOn = false ∧ noBus.inWatch = false ∧ noBus.pwr.carrier ≠ 1 ∧
    ({ run with pwr := { run.pwr with carrier := 2 } } : State).powered = true ∧ run.portEn 15 = false ∧ (port 0 LPort.reset).portEn 0 = true ∧
    (port 0 LPort.reset).portOn 0 = true ∧ (port 0 LPort.reset).rd R.HI_STATUS_STAGE ≠ 5 ∧ (port 0 LPort.reset).portUp 0 = false ∧
    (port 0 LPort.reset).getI R.LK_PSTAT_STATE 0 ≠ 5 ∧ goodTrain goodTrain0 ∧ run.inSvc 47 = true ∧ (run.posn 47).leave = 0 ∧ run.hand.running = none ∧
    playing.hand.running.isSome = true ∧ playing.hand.outcome = none ∧ playing.hand.sweep = false ∧ playing.hand.contributed = false := by
  unfold goodTrain; decide +kernel
theorem test_met_RegisterWrites : 1 ≤ (1 : W32).toNat ∧ (1000 : W32).toNat ≤ 1000 ∧ (2 : Nat) % 4 ≠ 0 ∧ State.reset.portOn 15 = false := by decide +kernel
theorem test_met_IdleTick : State.reset.pending = [] ∧ State.reset.fab.nt = none ∧ State.reset.rd R.HI_STATUS_STAGE ≠ 5 ∧
    State.reset.rd R.CK_THROTTLE_LEVEL = State.reset.clk.thrNoted := by decide +kernel
theorem test_met_BurntStays : State.reset.burnt 1 [] 0 0 ∧ stepsTo State.reset { State.reset with ticks := 1 } := by
  unfold State.burnt stepsTo; exact ⟨by decide, rfl⟩
theorem test_met_StepRunsFront : (next? (step { run with pending := [.kick .host, .leak] })).map (fun t => t.pending) = some [.leak] := by decide +kernel
end Sys2Proof.Tests
end

/-! SUPPORT. The vector registers of a context after a write under a mask (R110): what each element reads, and that nothing else of the context
differs. -/

namespace Sys2Proof.Machine

/-! ### Elements and masks -/

theorem Ctx.el_setEl (c : Ctx) (r j q i : Nat) (w : W32) (hj : j < 64) (hi : i < 64) :
    (c.setEl r j w).el q i = if q = r ∧ i = j then w else c.el q i := by
  have hkey : 64 * q + i = 64 * r + j ↔ q = r ∧ i = j := by omega
  simp only [Ctx.el, Ctx.setEl, Map.get_put, hkey]

/-- Elements after writes to some places of a register. -/
theorem Ctx.el_foldl_setEl (l : List Nat) (hl : ∀ j ∈ l, j < 64) (c : Ctx) (r : Nat) (on : Nat → Bool) (new : Nat → W32) (q i : Nat)
    (hi : i < 64) :
    (l.foldl (fun c j => if on j then c.setEl r j (new j) else c) c).el q i =
      if q = r ∧ i ∈ l ∧ on i then new i else c.el q i := by
  induction l generalizing c with
  | nil => simp
  | cons j t ih =>
    rw [List.foldl_cons, ih (fun k hk => hl k (List.mem_cons_of_mem j hk))]
    have hset : (if on j then c.setEl r j (new j) else c).el q i = if q = r ∧ i = j ∧ on i then new i else c.el q i := by
      by_cases hj : on j = true
      · rw [if_pos hj, c.el_setEl r j q i _ (hl j List.mem_cons_self) hi]
        by_cases hij : i = j <;> simp [hij, hj]
      · rw [if_neg hj]
        by_cases hij : i = j <;> simp [hij, hj]
    rw [hset]
    by_cases hnew : q = r ∧ on i = true
    · by_cases hij : i = j
      · subst hij; simp [hnew]
      · simp [hnew, hij]
    · have hout : ∀ p, ¬(q = r ∧ p ∧ on i = true) := fun p hp => hnew ⟨hp.1, hp.2.2⟩
      rw [if_neg (hout _), if_neg (hout _), if_neg (hout _)]

/-- A register written under a mask: the places that `on` names hold the new values, every other element what it held. -/
theorem Ctx.el_setVec (c : Ctx) (r : Nat) (on : Nat → Bool) (new : Nat → W32) (q i : Nat) (hi : i < 64) :
    (c.setVec r on new).el q i = if q = r ∧ on i then new i else c.el q i := by
  unfold Ctx.setVec
  rw [Ctx.el_foldl_setEl _ (fun j hj => List.mem_range.mp hj) c r on new q i hi]
  simp [hi]

/-- Writes to elements change the vector registers alone, and those by the vector registers alone. -/
theorem Ctx.foldl_setEl_eq (l : List Nat) (c : Ctx) (r : Nat) (on : Nat → Bool) (new : Nat → W32) (d : Ctx) (h : d.v = c.v) :
    l.foldl (fun c j => if on j then c.setEl r j (new j) else c) d =
      { d with v := (l.foldl (fun c j => if on j then c.setEl r j (new j) else c) c).v } := by
  induction l generalizing c d with
  | nil => simp [← h]
  | cons j t ih =>
    rw [List.foldl_cons, List.foldl_cons]
    by_cases hj : on j = true
    · rw [if_pos hj, if_pos hj, ih (c.setEl r j (new j)) (d.setEl r j (new j)) (by simp [Ctx.setEl, h])]
      rfl
    · rw [if_neg hj, if_neg hj, ih c d h]

theorem Ctx.setVec_eq (c d : Ctx) (h : d.v = c.v) (r : Nat) (on : Nat → Bool) (new : Nat → W32) :
    d.setVec r on new = { d with v := (c.setVec r on new).v } :=
  Ctx.foldl_setEl_eq _ c r on new d h

theorem Ctx.vec_congr (c d : Ctx) (h : d.v = c.v) (r : Nat) : d.vec r = c.vec r := by
  have hel : d.el r = c.el r := by funext i; rw [Ctx.el, h, Ctx.el]
  rw [Ctx.vec, hel, Ctx.vec]

theorem Ctx.setBytes_eq (c d : Ctx) (h : d.v = c.v) (r off : Nat) (b : Bytes) :
    d.setBytes r off b = { d with v := (c.setBytes r off b).v } := by
  have hb : d.vecBytes r = c.vecBytes r := by rw [Ctx.vecBytes, Ctx.vec_congr c d h, Ctx.vecBytes]
  unfold Ctx.setBytes
  rw [hb, Ctx.setVec_eq c d h]

theorem Ctx.codes_eq (c d : Ctx) (h : d.v = c.v) (r part : Nat) (e : Elem) : d.codes r part e = c.codes r part e := by
  simp only [Ctx.codes, Ctx.vecBytes, Ctx.vec_congr c d h]

/-- A conversion's result changes the vector registers alone, and those by the vector registers alone (R161). -/
theorem Ctx.cvtPut_eq (c d : Ctx) (h : d.v = c.v) (f : VFmt) (e : Elem) (on : Nat → Bool) (r : Converted) :
    d.cvtPut f e on r = { d with v := (c.cvtPut f e on r).v } := by
  unfold Ctx.cvtPut
  dsimp only
  rw [Ctx.codes_eq c d h]
  generalize hnew : (List.range 64).map _ = new
  have hput : ∃ w, (if e.bits = 32 then d.setVec f.vd.toNat (fun _ => true) (fun i => BitVec.ofNat 32 (new.getD i 0))
        else d.setBytes f.vd.toNat (f.part.toNat * 8 * e.bits) (packCodes e.bits new)) = { d with v := w } ∧
      (if e.bits = 32 then c.setVec f.vd.toNat (fun _ => true) (fun i => BitVec.ofNat 32 (new.getD i 0))
        else c.setBytes f.vd.toNat (f.part.toNat * 8 * e.bits) (packCodes e.bits new)) = { c with v := w } := by
    split
    · exact ⟨_, Ctx.setVec_eq c d h _ _ _, Ctx.setVec_eq c c rfl _ _ _⟩
    · exact ⟨_, Ctx.setBytes_eq c d h _ _ _, Ctx.setBytes_eq c c rfl _ _ _⟩
  obtain ⟨w, hd, hc⟩ := hput
  rw [hd, hc]
  cases r.scales with
  | none => rfl
  | some ab => exact Ctx.setBytes_eq { c with v := w } { d with v := w } rfl _ _ _

theorem Ctx.mask_setMk (c : Ctx) (r q : Nat) (w : W64) : (c.setMk r w).mask q = if q = r then w else c.mask q :=
  Map.get_put _ _ _ _ _

/-- A write under a mask and Z (R110) is the named write of one vector register. -/
theorem State.wroteV_vput (s : State) (a : Site) (r : Nat) (on : Nat → Bool) (z : Bool) (new : Nat → W32) :
    s.wroteV (s.vput a r on z new) a r on z new := by
  refine ⟨s.onlyCtx_onCtx _ _, ?_, fun q i hi => ?_⟩
  · unfold State.vput
    rw [State.ctx_onCtx_same, Ctx.setVec_eq (s.ctx a) (s.ctx a) rfl]
  · unfold State.vput
    rw [State.ctx_onCtx_same, Ctx.el_setVec _ _ _ _ _ _ hi]
    by_cases hq : q = r <;> cases on i <;> cases z <;> simp [hq]

end Sys2Proof.Machine

/-! SUPPORT. The frames of a vector operation: what the way of a timed word to its issue leaves of its tile, and the changes after which a tile
has nothing more to issue than before. -/

namespace Sys2Proof.Machine

/-! ### A tile beside its contexts -/

@[simp] theorem Tile.setCtx_queue (x : Tile) (d : Bool) (c : Ctx) : (x.setCtx d c).queue = x.queue := by cases d <;> rfl
@[simp] theorem Tile.setCtx_popped (x : Tile) (d : Bool) (c : Ctx) : (x.setCtx d c).popped = x.popped := by cases d <;> rfl
@[simp] theorem Tile.setCtx_slip (x : Tile) (d : Bool) (c : Ctx) : (x.setCtx d c).slip = x.slip := by cases d <;> rfl
@[simp] theorem Tile.setCtx_sram (x : Tile) (d : Bool) (c : Ctx) : (x.setCtx d c).sram = x.sram := by cases d <;> rfl
@[simp] theorem Tile.setCtx_acc (x : Tile) (d : Bool) (c : Ctx) : (x.setCtx d c).acc = x.acc := by cases d <;> rfl
@[simp] theorem Tile.setCtx_inj (x : Tile) (d : Bool) (c : Ctx) : (x.setCtx d c).inj = x.inj := by cases d <;> rfl
@[simp] theorem Tile.setCtx_stat (x : Tile) (d : Bool) (c : Ctx) : (x.setCtx d c).stat = x.stat := by cases d <;> rfl
@[simp] theorem Tile.setCtx_chkcnt (x : Tile) (d : Bool) (c : Ctx) : (x.setCtx d c).chkcnt = x.chkcnt := by cases d <;> rfl

/-- A tile with other marks and counts: STAT, SLIP and the beats of its side context (R126, R127, R133). -/
def Tile.marked (x : Tile) (st sl : W32) (sb : Nat) : Tile := { x with stat := st, slip := sl, sideBeats := sb }

@[simp] theorem Tile.marked_queue (x : Tile) (st sl : W32) (sb : Nat) : (x.marked st sl sb).queue = x.queue := rfl
@[simp] theorem Tile.marked_popped (x : Tile) (st sl : W32) (sb : Nat) : (x.marked st sl sb).popped = x.popped := rfl
@[simp] theorem Tile.marked_sram (x : Tile) (st sl : W32) (sb : Nat) : (x.marked st sl sb).sram = x.sram := rfl
@[simp] theorem Tile.marked_acc (x : Tile) (st sl : W32) (sb : Nat) : (x.marked st sl sb).acc = x.acc := rfl
@[simp] theorem Tile.marked_inj (x : Tile) (st sl : W32) (sb : Nat) : (x.marked st sl sb).inj = x.inj := rfl
@[simp] theorem Tile.marked_chkcnt (x : Tile) (st sl : W32) (sb : Nat) : (x.marked st sl sb).chkcnt = x.chkcnt := rfl

@[simp] theorem State.tile_emit (s : State) (c n : Nat) (l : List Arg) : (s.emit c l).tile n = s.tile n := by
  rw [State.tile, State.emit_tiles, State.tile]

/-! ### What the way to issue leaves -/

theorem State.pos_fieldSlip (s : State) (f i n : Nat) : (s.fieldSlip f i n).pos = s.pos := by
  unfold State.fieldSlip
  dsimp only
  split
  · rfl
  · split
    · rw [State.emit_pos]; rfl
    · rfl

theorem State.pos_slipOf (s : State) (a : Site) (n : Nat) : (s.slipOf a n).pos = s.pos := by
  unfold State.slipOf
  split
  · rfl
  · exact State.pos_fieldSlip _ _ _ _

theorem State.slip_tile (s : State) (n k : Nat) (hf : tileField n < 48) :
    (s.slip n k).tile n = { s.tile n with slip := satAdd (s.tile n).slip k } := by
  obtain ⟨_, htile, _⟩ := s.slip_frame n k hf
  exact htile

/-- What a slip of the primary leaves in its tile: all but the count. -/
theorem State.slipOf_tile (s : State) (a : Site) (n : Nat) (hf : tileField a.tile < 48) :
    (s.slipOf a n).tile a.tile =
      { s.tile a.tile with slip := if a.side then (s.tile a.tile).slip else satAdd (s.tile a.tile).slip n } := by
  unfold State.slipOf
  cases a.side
  · exact s.slip_tile a.tile n hf
  · rfl

theorem State.slipOf_other (s : State) (a : Site) (n m : Nat) (hf : tileField a.tile < 48) (hm : m ≠ a.tile) :
    (s.slipOf a n).tile m = s.tile m := by
  unfold State.slipOf
  split
  · rfl
  · exact (s.slip_frame a.tile n hf).1 m hm

theorem Tile.marked_slip (x : Tile) (st sl k : W32) (sb : Nat) (d : Bool) (c : Ctx) :
    ({ (x.marked st sl sb).setCtx d c with slip := k } : Tile) = (x.marked st k sb).setCtx d c := by cases d <;> rfl

theorem State.decoded_tile (s : State) (a : Site) (w : W64) :
    ∃ st, (s.decoded a w).tile a.tile =
      ((s.tile a.tile).marked st (s.tile a.tile).slip (s.tile a.tile).sideBeats).setCtx a.side ((s.ctx a).fold w) := by
  have hctx : (s.eccCe a.tile a.fetch).ctx a = s.ctx a := s.ctx_eccCe a _ _
  have hx : ∃ st, (s.eccCe a.tile a.fetch).tile a.tile = (s.tile a.tile).marked st (s.tile a.tile).slip (s.tile a.tile).sideBeats := by
    unfold State.eccCe State.sramCe State.stat
    split
    · exact ⟨_, State.tile_onTile_same _ _ _⟩
    · exact ⟨(s.tile a.tile).stat, rfl⟩
  obtain ⟨st, hst⟩ := hx
  refine ⟨st, ?_⟩
  rw [State.decoded, State.onCtx, State.tile_onTile_same, ← State.ctx, hctx, hst]

theorem State.timedTo_tile (s : State) (a : Site) (w : W64) (dt : BitVec 8) (hf : tileField a.tile < 48) :
    ∃ st sl, (s.timedTo a w dt).tile a.tile =
      ((s.tile a.tile).marked st sl (s.tile a.tile).sideBeats).setCtx a.side { (s.ctx a).fold w with tc := (s.ctx a).target dt } := by
  obtain ⟨st, h⟩ := s.decoded_tile a w
  unfold State.timedTo
  dsimp only
  split
  · rw [State.slipOf_tile _ _ _ hf, State.onCtx, State.tile_onTile_same, h, Tile.setCtx_setCtx, Tile.ctx_setCtx_same]
    exact ⟨st, _, Tile.marked_slip _ _ _ _ _ _ _⟩
  · refine ⟨st, (s.tile a.tile).slip, ?_⟩
    rw [State.onCtx, State.tile_onTile_same, h, Tile.setCtx_setCtx, Tile.ctx_setCtx_same]

/-- The tile of the state `issued`: beside its context only marks and counts differ. -/
theorem State.issued_tile (s : State) (a : Site) (w : W64) (dt : BitVec 8) (hf : tileField a.tile < 48) :
    ∃ st sl sb, (s.issued a w dt).tile a.tile =
      ((s.tile a.tile).marked st sl sb).setCtx a.side { (s.ctx a).fold w with tc := (s.ctx a).target dt, bc := (s.ctx a).target dt } := by
  obtain ⟨st, sl, h⟩ := s.timedTo_tile a w dt hf
  refine ⟨st, sl, (s.tile a.tile).sideBeats + b2n a.side, ?_⟩
  rw [State.issued, State.tile_onTile_same, State.onCtx, State.tile_onTile_same, h]
  cases a.side <;> rfl

theorem State.issued_other (s : State) (a : Site) (w : W64) (dt : BitVec 8) (hf : tileField a.tile < 48) (n : Nat) (hn : n ≠ a.tile) :
    (s.issued a w dt).tile n = s.tile n := by
  unfold State.issued State.timedTo State.onCtx
  rw [State.tile_onTile_other _ _ _ _ hn, State.tile_onTile_other _ _ _ _ hn]
  split
  · rw [State.slipOf_other _ _ _ _ hf hn, State.tile_onTile_other _ _ _ _ hn, (s.elsewhere_decoded a w).2 n hn]
  · rw [State.tile_onTile_other _ _ _ _ hn, (s.elsewhere_decoded a w).2 n hn]

theorem State.issued_pos (s : State) (a : Site) (w : W64) (dt : BitVec 8) : (s.issued a w dt).pos = s.pos := by
  have hd : (s.decoded a w).pos = s.pos := by rw [(s.elsewhere_decoded a w).1]
  unfold State.issued State.timedTo State.onCtx
  split
  · exact (State.pos_slipOf _ _ _).trans hd
  · exact hd

/-- The context in which a timed word issues. -/
theorem State.issued_ctx (s : State) (a : Site) (w : W64) (dt : BitVec 8) (hf : tileField a.tile < 48) :
    (s.issued a w dt).ctx a = { (s.ctx a).fold w with tc := (s.ctx a).target dt, bc := (s.ctx a).target dt } := by
  obtain ⟨st, sl, sb, h⟩ := s.issued_tile a w dt hf
  rw [State.ctx, h, Tile.ctx_setCtx_same]

section
variable (s : State) (a : Site) (w : W64) (dt : BitVec 8) (hf : tileField a.tile < 48)
include hf

/-! Issue leaves the registers, the masks, the generator and the census of its context (R146). -/

theorem State.issued_g : ((s.issued a w dt).ctx a).g = (s.ctx a).g := by rw [s.issued_ctx a w dt hf]; rfl
theorem State.issued_v : ((s.issued a w dt).ctx a).v = (s.ctx a).v := by rw [s.issued_ctx a w dt hf]; rfl
theorem State.issued_m : ((s.issued a w dt).ctx a).m = (s.ctx a).m := by rw [s.issued_ctx a w dt hf]; rfl
theorem State.issued_gen : ((s.issued a w dt).ctx a).gen = (s.ctx a).gen := by rw [s.issued_ctx a w dt hf]; rfl
theorem State.issued_census : ((s.issued a w dt).ctx a).census = (s.ctx a).census := by rw [s.issued_ctx a w dt hf]; rfl

theorem State.issued_el (q i : Nat) : ((s.issued a w dt).ctx a).el q i = (s.ctx a).el q i := by
  rw [Ctx.el, s.issued_v a w dt hf, Ctx.el]

theorem State.issued_mask (q : Nat) : ((s.issued a w dt).ctx a).mask q = (s.ctx a).mask q := by
  rw [Ctx.mask, s.issued_m a w dt hf, Ctx.mask]

theorem State.issued_active (f : VFmt) :
    ((s.issued a w dt).ctx a).active f = fun i => ((s.ctx a).mask f.msk.toNat).getLsbD i := by
  funext i
  rw [Ctx.active, s.issued_mask a w dt hf]

end

/-- Whether an injection is armed depends on the injection register alone (R128). -/
theorem Tile.inject_congr (x y : Tile) (t : Nat) (h : y.inj = x.inj) : (y.inject t).1 = (x.inject t).1 := by
  unfold Tile.inject
  rw [h]
  dsimp only
  split <;> rfl

/-- No injection has been spent or armed on the way to issue. -/
theorem State.issued_inject (s : State) (a : Site) (w : W64) (dt : BitVec 8) (hf : tileField a.tile < 48) :
    (((s.issued a w dt).tile a.tile).inject 2).1 = ((s.tile a.tile).inject 2).1 := by
  obtain ⟨st, sl, sb, h⟩ := s.issued_tile a w dt hf
  exact Tile.inject_congr _ _ 2 (by simp [h])

/-! ### Changes after which a tile has nothing more to issue -/

/-- In tile `n` every idle context is idle still and every halted one halted, and no freeze begins. -/
structure State.Settles (s t : State) (n : Nat) : Prop where
  idle : ∀ d, ((s.tile n).ctx d).idle → ((t.tile n).ctx d).idle
  halted : ∀ d, ((s.tile n).ctx d).running = false → ((t.tile n).ctx d).running = false
  freezing : s.fab.freezing = false → t.fab.freezing = false

theorem State.Settles.refl (s : State) (n : Nat) : s.Settles s n := ⟨fun _ h => h, fun _ h => h, fun h => h⟩

theorem State.Settles.trans {s t u : State} {n : Nat} (h : s.Settles t n) (g : t.Settles u n) : s.Settles u n :=
  ⟨fun d hd => g.idle d (h.idle d hd), fun d hd => g.halted d (h.halted d hd), fun hf => g.freezing (h.freezing hf)⟩

theorem Ctx.out_of_idle (c : Ctx) (h : c.idle) : c.out = [] := by
  obtain ⟨_, _, _, _, _, _, hout⟩ := h
  exact hout

theorem State.Settles.calm {s t : State} {n : Nat} (h : s.Settles t n) (hc : s.calm n) : t.calm n :=
  ⟨h.idle false hc.1, h.idle true hc.2.1, h.freezing hc.2.2⟩

/-- A change that leaves the contexts of the tile and the freeze. -/
theorem State.settles_of_ctx {s t : State} (n : Nat) (h : ∀ d, (t.tile n).ctx d = (s.tile n).ctx d)
    (hf : t.fab.freezing = s.fab.freezing) : s.Settles t n :=
  ⟨fun d hd => (h d).symm ▸ hd, fun d hd => (h d).symm ▸ hd, fun h => hf.trans h⟩

theorem State.settles_of_tiles {s t : State} (n : Nat) (ht : t.tiles = s.tiles) (hf : t.fab.freezing = s.fab.freezing) : s.Settles t n :=
  State.settles_of_ctx n (fun d => by rw [State.tile, ht, State.tile]) hf

theorem State.settles_hand (s : State) (n : Nat) (h : Hand) : s.Settles { s with hand := h } n := State.settles_of_tiles n rfl rfl
theorem State.settles_wr (s : State) (n : Nat) (f : Fld) (v : Nat) : s.Settles (s.wr f v) n := State.settles_of_tiles n rfl rfl

theorem State.settles_emit (s : State) (n c : Nat) (l : List Arg) : s.Settles (s.emit c l) n :=
  State.settles_of_tiles n (s.emit_tiles c l) (by rw [s.emit_fab])

/-- A change of a tile that leaves both its contexts. -/
theorem State.settles_onTile (s : State) (n : Nat) (f : Tile → Tile) (hp : ∀ x, (f x).prim = x.prim) (hs : ∀ x, (f x).side = x.side) :
    s.Settles (s.onTile n f) n := by
  refine State.settles_of_ctx n (fun d => ?_) rfl
  rw [State.tile_onTile_same]
  cases d
  · exact hp _
  · exact hs _

/-- A change of one context that queues nothing and starts nothing. -/
theorem State.settles_onCtx (s : State) (a : Site) (g : Ctx → Ctx) (hi : (s.ctx a).idle → (g (s.ctx a)).idle)
    (hr : (s.ctx a).running = false → (g (s.ctx a)).running = false) : s.Settles (s.onCtx a g) a.tile := by
  have hctx : ∀ d, ((s.onCtx a g).tile a.tile).ctx d = if d = a.side then g (s.ctx a) else (s.tile a.tile).ctx d := by
    intro d
    rw [State.onCtx, State.tile_onTile_same]
    split
    · next h => rw [h, Tile.ctx_setCtx_same]; rfl
    · next h => exact Tile.ctx_setCtx_other _ _ _ _ h
  refine ⟨fun d hd => ?_, fun d hd => ?_, fun hf => hf⟩ <;> rw [hctx] <;> split
  · next h => rw [h] at hd; exact hi hd
  · exact hd
  · next h => rw [h] at hd; exact hr hd
  · exact hd

theorem State.settles_slip (s : State) (n k : Nat) (hf : tileField n < 48) : s.Settles (s.slip n k) n := by
  obtain ⟨_, _, _, hfree, _⟩ := s.slip_frame n k hf
  exact State.settles_of_ctx n (fun d => by rw [s.slip_tile n k hf]; cases d <;> rfl) hfree

theorem State.settles_slipOf (s : State) (a : Site) (k : Nat) (hf : tileField a.tile < 48) : s.Settles (s.slipOf a k) a.tile := by
  unfold State.slipOf
  split
  · exact State.Settles.refl s _
  · exact s.settles_slip _ k hf

theorem State.settles_haltCtx (s : State) (n : Nat) (side : Bool) : s.Settles (s.haltCtx n side) n :=
  s.settles_onCtx (siteOf n side) (fun c => { c.halt with running := false }) (fun _ => ⟨rfl, rfl, rfl, rfl, rfl, rfl, rfl⟩) (fun _ => rfl)

theorem State.running_haltCtx (s : State) (n : Nat) (side : Bool) : (((s.haltCtx n side).tile n).ctx side).running = false := by
  rw [State.haltCtx, State.tile_onTile_same, Tile.ctx_setCtx_same]

theorem State.settles_suspect (s : State) (n cause : Nat) : s.Settles (s.suspect n cause) n := by
  unfold State.suspect
  split
  · exact State.Settles.refl s n
  · refine State.Settles.trans ?_ (State.settles_emit _ n _ _)
    exact State.settles_onTile _ n _ (fun _ => rfl) (fun _ => rfl)

/-! ### STOP and a fault of the tile settle it (R207, R208, R210) -/

theorem State.stallEnd_frame (s : State) : s.stallEnd.tiles = s.tiles ∧ s.stallEnd.fab.freezing = s.fab.freezing := by
  unfold State.stallEnd
  dsimp only
  split <;> exact ⟨rfl, rfl⟩

theorem State.tile_stopWafer (s : State) (n : Nat) : s.stopWafer.tile n = (s.tile n).stop := by
  unfold State.stopWafer State.tile
  rw [State.wr_tiles, (State.stallEnd_frame _).1]
  exact Map.get_mapVals s.tiles Tile.reset Tile.stop n rfl

theorem State.freezing_stopWafer (s : State) : s.stopWafer.fab.freezing = false := by
  unfold State.stopWafer
  rw [State.wr_fab, (State.stallEnd_frame _).2]

theorem State.settles_stopWafer (s : State) (n : Nat) : s.Settles s.stopWafer n := by
  refine ⟨fun d _ => ?_, fun d h => ?_, fun _ => s.freezing_stopWafer⟩ <;> rw [s.tile_stopWafer n] <;> cases d
  · exact ⟨rfl, rfl, rfl, rfl, rfl, rfl, rfl⟩
  · exact ⟨rfl, rfl, rfl, rfl, rfl, rfl, rfl⟩
  · rfl
  · exact h

theorem State.settles_linkOut (s : State) (n : Nat) (p : LinkOut) : s.Settles (s.linkOut p) n := by
  unfold State.linkOut
  dsimp only
  split <;> exact State.settles_of_tiles n rfl rfl

theorem State.settles_each {α : Type} (n : Nat) (f : State → α → State) (h : ∀ (s : State) (e : α), s.Settles (f s e) n) (l : List α) (s : State) :
    s.Settles (s.each l f) n := by
  induction l generalizing s with
  | nil => exact State.Settles.refl s n
  | cons e l ih => exact (h s e).trans (ih (f s e))

theorem State.settles_flood (s : State) (n src typ hops : Nat) (body : Bytes) (port : Option Nat) :
    s.Settles (s.flood src typ hops body port).1 n := by
  unfold State.flood
  split
  · exact State.Settles.refl s n
  · refine State.Settles.trans ?_ (State.settles_each n _ (fun u _ => u.settles_linkOut n _) _ _)
    exact State.settles_of_tiles n rfl rfl

theorem State.settles_tear (s : State) (n : Nat) : s.Settles s.tear n := by
  unfold State.tear
  refine State.Settles.trans ?_ (State.settles_hand _ n _)
  refine State.Settles.trans ?_ (State.settles_emit _ n _ _)
  exact ((s.settles_stopWafer n).trans (State.settles_wr _ n _ _)).trans (State.settles_wr _ n _ _)

theorem State.settles_misdealNow (s : State) (n cause : Nat) : s.Settles (s.misdealNow cause) n := by
  unfold State.misdealNow
  refine State.Settles.trans ?_ (State.settles_hand _ n _)
  refine (s.settles_stopWafer n).trans ?_
  split
  · exact State.Settles.refl _ n
  · exact State.Settles.trans (State.settles_flood _ n _ _ _ _ _) (State.settles_emit _ n _ _)

theorem State.settles_misdeal (s : State) (n cause : Nat) : s.Settles (s.misdeal cause) n := by
  unfold State.misdeal
  split
  · exact State.Settles.refl s n
  · split
    · exact s.settles_tear n
    · split
      · exact s.settles_hand n _
      · exact s.settles_misdealNow n cause

theorem State.settles_supvStop (s : State) (n : Nat) : s.Settles s.supvStop n := by
  unfold State.supvStop State.stopFor
  split
  · exact (s.settles_stopWafer n).trans (State.settles_misdeal _ n _)
  · exact State.Settles.refl s n

theorem State.settles_stallNow (s : State) (n cause : Nat) : s.Settles (s.stallNow cause) n := by
  unfold State.stallNow
  split
  · exact State.Settles.refl s n
  · refine State.Settles.trans ?_ (State.settles_emit _ n _ _)
    refine State.Settles.trans ?_ (State.settles_wr _ n _ _)
    exact State.settles_of_tiles n rfl rfl

theorem State.settles_faultFlag (s : State) (n : Nat) : s.Settles s.faultFlag n := by
  unfold State.faultFlag
  refine State.Settles.trans (s.settles_wr n R.FB_TRUMP_FLAGS_FAULT 1) ?_
  dsimp only
  split
  · exact State.Settles.refl _ n
  · refine State.Settles.trans ?_ (State.settles_stallNow _ n _)
    exact State.settles_of_tiles n rfl rfl

theorem State.settles_tileStop (s : State) (n : Nat) : s.Settles (s.tileStop n) n := by
  unfold State.tileStop
  split
  · exact State.Settles.refl s n
  · refine State.Settles.trans ?_ (State.settles_supvStop _ n)
    refine State.Settles.trans ?_ (State.settles_faultFlag _ n)
    exact State.settles_onTile _ n _ (fun _ => rfl) (fun _ => rfl)

theorem State.settles_tileFault (s : State) (n cause : Nat) : s.Settles (s.tileFault n cause) n :=
  (s.settles_emit n _ _).trans (State.settles_tileStop _ n)

/-- A fault of the sequencer of the primary (R164). -/
theorem State.settles_seqFault (s : State) (n fault : Nat) (pc : BitVec 14) : s.Settles (s.seqFault n false fault pc) n :=
  State.Settles.trans ((s.settles_haltCtx n false).trans (State.settles_emit _ n _ _)) (State.settles_tileStop _ n)

/-! ### Running one vector operation -/

theorem State.ctx_siteOf (s : State) (a : Site) : s.ctx (siteOf a.tile a.side) = s.ctx a := rfl

theorem State.field_of_canIssue (s : State) (a : Site) (w : W64) (dt : BitVec 8) (reads : List (BitVec 5)) (h : s.canIssue a w dt reads) :
    tileField a.tile < 48 := s.field_of_ready a h.1.1

theorem State.calm_issued (s : State) (a : Site) (w : W64) (dt : BitVec 8) (reads : List (BitVec 5)) (h : s.canIssue a w dt reads) :
    (s.issued a w dt).calm a.tile := by
  have hf := s.field_of_canIssue a w dt reads h
  obtain ⟨hd, ⟨hp, hs, hz⟩, _⟩ := h
  obtain ⟨st, sl, sb, ht⟩ := s.issued_tile a w dt hf
  have hfree : (s.issued a w dt).fab.freezing = false := (s.onward_timedTo a w dt hf).freezing.trans hz
  refine ⟨?_, ?_, hfree⟩ <;> rw [ht] <;> unfold State.ctx <;> cases a.side
  · exact hp
  · exact hp
  · exact hs
  · exact hs

/-- With nothing in its way a vector instruction does what its operation does at issue, where that starts nothing more. -/
theorem State.vector_run (s t : State) (a : Site) (op : Nat) (f : VFmt) (up : Option Upset)
    (h : s.canIssue a (wordOf 2 op (vLow f)) f.dt [])
    (hi : (s.issued a (wordOf 2 op (vLow f)) f.dt).issue (siteOf a.tile a.side)
      ⟨.vec op f up, (s.ctx a).pc, ((s.ctx a).target f.dt).toNat, (s.ctx a).gr 0, (s.ctx a).gr 0⟩ = some t)
    (ht : (s.issued a (wordOf 2 op (vLow f)) f.dt).Settles t a.tile) : s.vector a op f up = t :=
  s.timed_run t a _ _ _ _ _ _ h (by simp [TOp.unit]) hi (State.rests_of_calm _ _ (ht.calm (s.calm_issued a _ _ _ h)))

end Sys2Proof.Machine

/-! PROOF. Draws and pops of the tile queue (O8). -/

namespace Sys2Proof.Machine

/-! ### What meets a vector result (R117, R128) -/

theorem State.vhit_none (s : State) (a : Site) (h : ((s.tile a.tile).inject 2).1 = none) : s.vhit a none = (none, s) := by
  unfold State.vhit
  dsimp only
  generalize (s.tile a.tile).inject 2 = r at h
  obtain ⟨o, y⟩ := r
  subst h
  rfl

theorem State.vhit_upset (s : State) (a : Site) (u : Upset) (h : ((s.tile a.tile).inject 2).1 = none) (ht : u.target = 2) :
    s.vhit a (some u) = (some (u.lane.toNat, u.bit.toNat, u.persist), s) := by
  unfold State.vhit
  dsimp only
  generalize (s.tile a.tile).inject 2 = r at h
  obtain ⟨o, y⟩ := r
  subst h
  simp [ht]

section
variable (s : State) (a : Site) (on : Nat → Bool) (new : Nat → W32) (commit : (Nat → W32) → State → State)
  (h : ((s.tile a.tile).inject 2).1 = none)
include h

theorem State.unchecked_clean : s.unchecked a none on new commit = commit new s := by
  rw [State.unchecked, s.vhit_none a h]

theorem State.checked_clean (op lat sb : Nat) : s.checked a op lat sb none on new commit = commit new s := by
  rw [State.checked, s.vhit_none a h]

end

/-! ### One context after another change of it -/

theorem State.onlyCtx_trans {s t u : State} {a : Site} (h : s.onlyCtx t a) (g : t.onlyCtx u a) : s.onlyCtx u a :=
  ⟨State.elsewhere_trans h.1 g.1, by rw [g.2, h.2, Tile.setCtx_setCtx]⟩

theorem State.inject_onCtx (s : State) (a : Site) (g : Ctx → Ctx) :
    (((s.onCtx a g).tile a.tile).inject 2).1 = ((s.tile a.tile).inject 2).1 := by
  refine Tile.inject_congr _ _ 2 ?_
  rw [State.onCtx, State.tile_onTile_same]
  cases a.side <;> rfl

theorem State.settles_vput (s : State) (a : Site) (r : Nat) (on : Nat → Bool) (z : Bool) (new : Nat → W32) :
    s.Settles (s.vput a r on z new) a.tile := by
  refine s.settles_onCtx a _ (fun h => ?_) (fun h => ?_) <;> rw [Ctx.setVec_eq (s.ctx a) (s.ctx a) rfl]
  · exact h
  · exact h

theorem State.vput_siteOf (s : State) (a : Site) (r : Nat) (on : Nat → Bool) (z : Bool) (new : Nat → W32) :
    s.vput (siteOf a.tile a.side) r on z new = s.vput a r on z new := rfl

/-! ### DRAW (R57, R58) -/

theorem State.vdraw_clean (s : State) (a : Site) (f : VFmt) (h : ((s.tile a.tile).inject 2).1 = none) :
    s.vdraw a f none =
      (s.onCtx a (fun c => { c with gen := (draws 16 (s.ctx a).gen).1 })).vput a f.vd.toNat ((s.ctx a).active f) (f.z == 1)
        (fun i => BitVec.ofNat 32 ((draws 16 (s.ctx a).gen).2.getD i 0)) := by
  unfold State.vdraw State.draw
  exact State.unchecked_clean _ a _ _ _ ((s.inject_onCtx a _).trans h)

/-- DRAW with nothing in its way (R57, R58, R110). -/
theorem draw_issues (s : State) (a : Site) (f : VFmt) (up : Option Upset) (h : s.canIssue a (wordOf 2 0x22 (vLow f)) f.dt [])
    (hc : s.clean a up) :
    let u := s.issued a (wordOf 2 0x22 (vLow f)) f.dt
    exec (.draw a f up) s = .next
      ((u.onCtx a (fun c => { c with gen := (draws 16 (u.ctx a).gen).1 })).vput a f.vd.toNat ((u.ctx a).active f) (f.z == 1)
        (fun i => BitVec.ofNat 32 ((draws 16 (u.ctx a).gen).2.getD i 0))) := by
  obtain ⟨rfl, hinj⟩ := hc
  have hf := s.field_of_canIssue a _ _ _ h
  refine congrArg Host.Outcome.next (s.vector_run _ a 0x22 f none h ?_ ?_)
  · exact congrArg some (State.vdraw_clean _ (siteOf a.tile a.side) f ((s.issued_inject a _ _ hf).trans hinj))
  · exact (State.settles_onCtx _ a _ (fun hi => hi) (fun hr => hr)).trans (State.settles_vput _ a _ _ _ _)

/-! ### QPOP (R87, R92, R93, R111) -/

theorem Ctx.popInto_eq (c : Ctx) (q : QEnt) (d m : Nat) (low : Nat → W32) :
    c.popInto q d m low = { c with v := (c.popInto q d m low).v, m := (c.popInto q d m low).m } := by
  unfold Ctx.popInto
  dsimp only
  rw [Ctx.setVec_eq c c rfl, Ctx.setVec_eq { c with v := _ } { c with v := _ } rfl]
  rfl

/-- The elements after a pop: lanes 0 to 63 in `d`, lanes 64 to 127 in `d + 1`. -/
theorem Ctx.el_popInto (c : Ctx) (e : QEnt) (d m q i : Nat) (low : Nat → W32) (hi : i < 64) :
    (c.popInto e d m low).el q i =
      if q = d ∧ (e.mask.getLsbD i || e.zfill) then low i
      else if q = d + 1 ∧ (e.mask.getLsbD (64 + i) || e.zfill) then
        (if e.mask.getLsbD (64 + i) then e.vals.get (64 + i) 0 else 0)
      else c.el q i := by
  have hmk : ∀ (x : Ctx) r w, (x.setMk r w).el q i = x.el q i := fun _ _ _ => rfl
  unfold Ctx.popInto
  dsimp only
  rw [hmk, hmk, Ctx.el_setVec _ _ _ _ _ _ hi, Ctx.el_setVec _ _ _ _ _ _ hi]
  by_cases hq : q = d
  · subst hq
    rw [if_neg (fun h => absurd h.1 (Nat.succ_ne_self q).symm), if_neg (c := q = q + 1 ∧ _) (fun h => absurd h.1 (Nat.succ_ne_self q).symm)]
  · rw [if_neg (c := q = d ∧ _) (fun h => hq h.1), if_neg (c := q = d ∧ _) (fun h => hq h.1)]

theorem Ctx.mask_popInto (c : Ctx) (e : QEnt) (d m q : Nat) (low : Nat → W32) :
    (c.popInto e d m low).mask q =
      if q = m + 1 then e.mask.extractLsb' 64 64 else if q = m then e.mask.extractLsb' 0 64 else c.mask q := by
  unfold Ctx.popInto
  dsimp only
  rw [Ctx.mask_setMk, Ctx.mask_setMk, Ctx.setVec_eq c c rfl, Ctx.setVec_eq { c with v := _ } { c with v := _ } rfl]
  rfl

/-- What lane `l` of a popped entry writes. -/
def QEnt.lane (e : QEnt) (l : Nat) : W32 := if e.mask.getLsbD l then e.vals.get l 0 else 0

/-- The tile after the beats for which a pop waited, without the entry that is popped. -/
def Tile.takes (x : Tile) (d : Bool) (bc : Nat) (e : QEnt) : Tile :=
  { x with
    slip := if d then x.slip else satAdd x.slip (e.ready - x.now d bc)
    queue := x.queue.erase e
    popped := ((d, max e.ready (x.now d bc)) :: x.popped).take 16 }

section
variable (s : State) (a : Site) (f : VFmt) (e : QEnt) (hf : tileField a.tile < 48) (h : ((s.tile a.tile).inject 2).1 = none)
include hf h

theorem State.vpop_clean :
    s.vpop a f none e =
      ((s.slipOf a (e.ready - (s.tile a.tile).now a.side (s.ctx a).bc.toNat)).onTile a.tile (fun x => { x with
        queue := x.queue.erase e
        popped := ((a.side, max e.ready ((s.tile a.tile).now a.side (s.ctx a).bc.toNat)) :: x.popped).take 16 })).onCtx a
      (fun c => c.popInto e f.vd.toNat (f.vc.toNat % 8) e.lane) := by
  unfold State.vpop
  refine State.unchecked_clean _ a _ _ _ ((Tile.inject_congr _ _ 2 ?_).trans h)
  rw [State.tile_onTile_same, State.slipOf_tile _ _ _ hf]

/-- What a pop leaves in its tile. -/
theorem State.vpop_tile :
    (s.vpop a f none e).tile a.tile =
      ((s.tile a.tile).takes a.side (s.ctx a).bc.toNat e).setCtx a.side
        ((s.ctx a).popInto e f.vd.toNat (f.vc.toNat % 8) e.lane) := by
  rw [s.vpop_clean a f e hf h, State.onCtx, State.tile_onTile_same, State.tile_onTile_same, State.slipOf_tile _ _ _ hf, State.ctx]
  cases a.side <;> rfl

theorem State.vpop_other (n : Nat) (hn : n ≠ a.tile) : (s.vpop a f none e).tile n = s.tile n := by
  rw [s.vpop_clean a f e hf h, State.onCtx, State.tile_onTile_other _ _ _ _ hn, State.tile_onTile_other _ _ _ _ hn,
    State.slipOf_other _ _ _ _ hf hn]

theorem State.vpop_pos : (s.vpop a f none e).pos = s.pos := by
  rw [s.vpop_clean a f e hf h]
  exact State.pos_slipOf _ _ _

theorem State.settles_vpop : s.Settles (s.vpop a f none e) a.tile := by
  rw [s.vpop_clean a f e hf h]
  refine State.Settles.trans ?_ (State.settles_onCtx _ a _ (fun hi => ?_) (fun hr => ?_))
  · refine (s.settles_slipOf a _ hf).trans (State.settles_onTile _ a.tile _ (fun _ => rfl) (fun _ => rfl))
  · rw [Ctx.popInto_eq]; exact hi
  · rw [Ctx.popInto_eq]; exact hr

end

/-- QPOP with the oldest entry of its context in the queue (R87, R92, R93, R111). -/
theorem qpop_issues (s : State) (a : Site) (f : VFmt) (up : Option Upset) (e : QEnt)
    (h : s.canIssue a (wordOf 2 0x23 (vLow f)) f.dt []) (hc : s.clean a up) (ho : (s.tile a.tile).oldest a.side = some e) :
    exec (.qpop a f up) s = .next ((s.issued a (wordOf 2 0x23 (vLow f)) f.dt).vpop a f none e) := by
  obtain ⟨rfl, hinj⟩ := hc
  have hf := s.field_of_canIssue a _ _ _ h
  have hu := (s.issued_inject a (wordOf 2 0x23 (vLow f)) f.dt hf).trans hinj
  have hold : ((s.issued a (wordOf 2 0x23 (vLow f)) f.dt).tile a.tile).oldest a.side = some e := by
    obtain ⟨st, sl, sb, ht⟩ := s.issued_tile a (wordOf 2 0x23 (vLow f)) f.dt hf
    rw [← ho, Tile.oldest, Tile.oldest, ht, Tile.setCtx_queue, Tile.marked_queue]
  refine congrArg Host.Outcome.next (s.vector_run _ a 0x23 f none h ?_ (State.settles_vpop _ a f e hf hu))
  exact congrArg (Option.map fun e => State.vpop _ (siteOf a.tile a.side) f none e) hold

/-! ### A pop that finds no entry (R93, R149) -/

theorem State.onCtx_congr (s : State) (a : Site) (f g : Ctx → Ctx) (h : f (s.ctx a) = g (s.ctx a)) : s.onCtx a f = s.onCtx a g := by
  unfold State.onCtx State.onTile
  exact congrArg (fun c => s.setTile a.tile ((s.tile a.tile).setCtx a.side c)) h

theorem State.queue_onCtx (s : State) (a : Site) (g : Ctx → Ctx) : ((s.onCtx a g).tile a.tile).queue = (s.tile a.tile).queue := by
  rw [State.onCtx, State.tile_onTile_same, Tile.setCtx_queue]

/-- Nothing can happen in a context whose one queued instruction is held. -/
theorem State.nextTurn_held (s : State) (a : Site) (q : QIns) (hi : ({ s.ctx a with uq := [] } : Ctx).idle) (hq : (s.ctx a).uq = [q])
    (hh : s.turn a (2 * q.beat, .head q) = none) : s.nextTurn a = none := by
  have hfill : (s.ctx a).fill = none := hi.2.2.1
  unfold State.nextTurn State.fillOn
  rw [hfill, Ctx.due_one _ q hi hq]
  split
  · rfl
  · refine List.findSome?_eq_none_iff.mpr (fun e he => ?_)
    rw [List.mem_singleton.mp (List.mem_of_mem_filter he), hh]

/-- A timed word joins the empty queue of its unit. -/
theorem State.timed_waits (s : State) (a : Site) (w : W64) (dt : BitVec 8) (op : TOp) (ga gs : BitVec 5) (reads : List (BitVec 5))
    (h : s.canDecode a w reads) (hi : (s.ctx a).idle) : s.timed a w dt op ga gs reads = s.waits a w dt op ga gs := by
  have huq : (s.ctx a).uq = [] := hi.1
  rw [s.timed_queues a w dt op ga gs reads h (by simp [Ctx.full, huq])]
  refine State.onCtx_congr _ a _ _ ?_
  rw [(s.onward_timedTo a w dt (s.field_of_ready a h.1)).ctx]
  simp [Ctx.enqueue, Ctx.fold, huq, Ctx.gr]

/-- A timed word that its unit holds for the tile's queue waits alone in the unit's queue. -/
theorem State.timed_held (s : State) (a : Site) (w : W64) (dt : BitVec 8) (op : TOp) (ga gs : BitVec 5) (reads : List (BitVec 5))
    (h : s.canIssue a w dt reads)
    (hh : ∀ (u : State) (q : QIns), (u.tile a.tile).queue = (s.tile a.tile).queue → q.op = op → u.issue (siteOf a.tile a.side) q = none) :
    (s.timed a w dt op ga gs reads).advance a.tile = s.waits a w dt op ga gs := by
  have hf := s.field_of_canIssue a w dt reads h
  obtain ⟨hd, ⟨hp, hs, hz⟩, _⟩ := h
  have hidle : ∀ d, ((s.tile a.tile).ctx d).idle := fun d => match d with | false => hp | true => hs
  rw [s.timed_waits a w dt op ga gs reads hd (hidle a.side)]
  have hV : s.Onward (s.waits a w dt op ga gs) a _ := State.onward_onCtx (s.onward_timedTo a w dt hf) _
  have hVq : ((s.waits a w dt op ga gs).tile a.tile).queue = (s.tile a.tile).queue := by
    obtain ⟨st, sl, ht⟩ := s.timedTo_tile a w dt hf
    rw [State.waits, State.onCtx, State.tile_onTile_same, Tile.setCtx_queue, ht, Tile.setCtx_queue, Tile.marked_queue]
  generalize s.waits a w dt op ga gs = V at hV hVq ⊢
  have hqueued : ∀ d, d ≠ a.side → ((V.tile a.tile).ctx d).idle := by
    intro d hd
    rw [Bool.eq_not.mpr hd, hV.other]
    exact hidle _
  have hown : ({ V.ctx a with uq := [] } : Ctx).idle := by rw [hV.ctx]; exact ⟨rfl, (hidle a.side).2⟩
  have hnext : ∀ d, V.nextTurn (siteOf a.tile d) = none := by
    intro d
    by_cases hd : d = a.side
    · rw [hd]
      refine V.nextTurn_held (siteOf a.tile a.side)
        ⟨op, (s.ctx a).pc, ((s.ctx a).target dt).toNat, (s.ctx a).gr ga, (s.ctx a).gr gs⟩ hown (congrArg Ctx.uq hV.ctx) (hh _ _ ?_ rfl)
      rw [← hVq]
      exact (congrArg Tile.queue (State.tile_onTile_same _ a.tile _)).trans
        ((State.queue_onCtx _ (siteOf a.tile a.side) _).trans (State.queue_onCtx V (siteOf a.tile a.side) _))
    · exact V.nextTurn_idle _ (hqueued d hd)
  have hout : ∀ d, ((V.tile a.tile).ctx d).out = [] := by
    intro d
    by_cases hd : d = a.side
    · have hempty := Ctx.out_of_idle _ hown
      rw [hd]; exact hempty
    · exact Ctx.out_of_idle _ (hqueued d hd)
  exact V.advance_rests a.tile ⟨hnext false, hnext true, hout false, hout true, hV.freezing.trans hz⟩

/-- A pop without an entry of its context waits. -/
theorem qpop_waits (s : State) (a : Site) (f : VFmt) (up : Option Upset) (h : s.canIssue a (wordOf 2 0x23 (vLow f)) f.dt [])
    (ho : (s.tile a.tile).oldest a.side = none) :
    exec (.qpop a f up) s = .next (s.waits a (wordOf 2 0x23 (vLow f)) f.dt (.vec 0x23 f up) 0 0) := by
  refine congrArg Host.Outcome.next (s.timed_held a _ _ _ 0 0 [] h (fun u q hq hop => ?_))
  have hnone : (u.tile a.tile).oldest a.side = none := by rw [Tile.oldest, hq]; exact ho
  unfold State.issue
  rw [hop]
  exact congrArg (Option.map fun e => State.vpop u (siteOf a.tile a.side) f up e) hnone

/-! ### O8 -/

/-- What DRAW leaves (R57, R58, R110). -/
theorem draw_leaves (s : State) (a : Site) (f : VFmt) (up : Option Upset) (h : s.canIssue a (wordOf 2 0x22 (vLow f)) f.dt [])
    (hc : s.clean a up) :
    let u := s.issued a (wordOf 2 0x22 (vLow f)) f.dt
    let on := fun i => ((s.ctx a).mask f.msk.toNat).getLsbD i
    ∃ t, exec (.draw a f up) s = .next t ∧ u.onlyCtx t a ∧ t.ctx a = { u.ctx a with v := (t.ctx a).v, gen := (draws 16 (s.ctx a).gen).1 } ∧
      ∀ q i, i < 64 → (t.ctx a).el q i =
        if q = f.vd.toNat then
          (if on i then BitVec.ofNat 32 ((draws 16 (s.ctx a).gen).2.getD i 0) else if f.z = 1 then 0 else (s.ctx a).el q i)
        else (s.ctx a).el q i := by
  intro u on
  have hf := s.field_of_canIssue a _ _ _ h
  have hrun := draw_issues s a f up h hc
  dsimp only at hrun
  rw [s.issued_active a _ _ hf, s.issued_gen a _ _ hf] at hrun
  refine ⟨_, hrun, ?_⟩
  obtain ⟨honly, hctx, hel⟩ := State.wroteV_vput (u.onCtx a (fun c => { c with gen := (draws 16 (s.ctx a).gen).1 })) a f.vd.toNat on
    (f.z == 1) (fun i => BitVec.ofNat 32 ((draws 16 (s.ctx a).gen).2.getD i 0))
  rw [State.ctx_onCtx_same] at hctx
  refine ⟨State.onlyCtx_trans (u.onlyCtx_onCtx a _) honly, hctx, fun q i hi => ?_⟩
  have hold : ∀ q, ((u.onCtx a (fun c => { c with gen := (draws 16 (s.ctx a).gen).1 })).ctx a).el q i = (s.ctx a).el q i := fun q => by
    rw [State.ctx_onCtx_same]
    exact s.issued_el a _ _ hf q i
  rw [hel q i hi, hold, hold]
  by_cases hq : q = f.vd.toNat <;> simp [hq]

/-- What QPOP leaves of an entry that its queue holds (R87, R92, R93, R111). -/
theorem qpop_leaves (s : State) (a : Site) (f : VFmt) (up : Option Upset) (e : QEnt)
    (h : s.canIssue a (wordOf 2 0x23 (vLow f)) f.dt []) (hc : s.clean a up) (ho : (s.tile a.tile).oldest a.side = some e) :
    let x := (s.issued a (wordOf 2 0x23 (vLow f)) f.dt).tile a.tile
    ∃ (t : State) (c : Ctx), exec (.qpop a f up) s = .next t ∧
      t.tile a.tile = (x.takes a.side ((s.ctx a).target f.dt).toNat e).setCtx a.side (c.popInto e f.vd.toNat (f.vc.toNat % 8) e.lane) ∧
      c.v = (s.ctx a).v ∧ c.m = (s.ctx a).m ∧ c.g = (s.ctx a).g ∧ t.pos = s.pos ∧ ∀ n, n ≠ a.tile → t.tile n = s.tile n := by
  intro x
  have hf := s.field_of_canIssue a _ _ _ h
  have hinj := (s.issued_inject a (wordOf 2 0x23 (vLow f)) f.dt hf).trans hc.2
  have hbc : ((s.issued a (wordOf 2 0x23 (vLow f)) f.dt).ctx a).bc = (s.ctx a).target f.dt := by rw [s.issued_ctx a _ _ hf]
  have ht := State.vpop_tile (s.issued a (wordOf 2 0x23 (vLow f)) f.dt) a f e hf hinj
  rw [hbc] at ht
  refine ⟨_, _, qpop_issues s a f up e h hc ho, ht, s.issued_v a _ _ hf, s.issued_m a _ _ hf, s.issued_g a _ _ hf, ?_, fun n hn => ?_⟩
  · rw [State.vpop_pos _ a f e hf hinj, s.issued_pos]
  · rw [State.vpop_other _ a f e hf hinj n hn, s.issued_other a _ _ hf n hn]

/-- Settles O8: DRAW and QPOP are run to their issue, and the writes under masks read back element by element. -/
theorem vectorDrawAndPop : Obligations.VectorDrawAndPop := by
  unfold Obligations.VectorDrawAndPop
  refine ⟨fun s a f up h hc => ?_, fun s a f up h => ⟨fun e hc ho => ?_, fun ho => qpop_waits s a f up h ho⟩⟩
  · obtain ⟨t, hrun, honly, hctx, hel⟩ := draw_leaves s a f up h hc
    have hgen : (t.ctx a).gen = (draws 16 (s.ctx a).gen).1 := by rw [hctx]
    exact ⟨t, hrun, honly, hgen, hgen.symm ▸ hctx, hel⟩
  · obtain ⟨t, c, hrun, ht, hv, hm, hg, hpos, hoth⟩ := qpop_leaves s a f up e h hc ho
    obtain ⟨st, sl, sb, hx⟩ := s.issued_tile a (wordOf 2 0x23 (vLow f)) f.dt (s.field_of_canIssue a _ _ _ h)
    have htc : t.ctx a = c.popInto e f.vd.toNat (f.vc.toNat % 8) e.lane := by rw [State.ctx, ht, Tile.ctx_setCtx_same]
    refine ⟨t, hrun, ?_, ?_, ?_, fun q i hi => ?_, ?_, ?_, fun q hq hq1 => ?_, ?_, ?_, ?_, hpos, hoth⟩
    · rw [ht]; simp [Tile.takes, hx]
    · rw [ht]; simp [Tile.takes, hx]
    · rw [ht]; simp [Tile.takes]
    · rw [htc, Ctx.el_popInto _ _ _ _ _ _ _ hi, Ctx.el, hv]; rfl
    · rw [htc, Ctx.mask_popInto]; simp
    · rw [htc, Ctx.mask_popInto]; simp
    · rw [htc, Ctx.mask_popInto, if_neg hq1, if_neg hq, Ctx.mask, hm, Ctx.mask]
    · rw [htc, Ctx.popInto_eq]; exact hg
    · rw [ht]; simp [Tile.takes, hx]
    · rw [ht]; simp [Tile.takes, hx]

end Sys2Proof.Machine

/-! PROOF. Conversions, and upsets that hit a vector result (O9). -/

namespace Sys2Proof.Machine

/-! ### What a conversion leaves beside its context -/

/-- `t` is `s` with the context `c` at a site, but for the flags of its tile and what lies outside the tiles and the fabric (R116, R207). -/
structure State.Counted (s t : State) (a : Site) (c : Ctx) : Prop where
  tile : ∃ fl, t.tile a.tile = ({ s.tile a.tile with flags := fl } : Tile).setCtx a.side c
  other : ∀ n, n ≠ a.tile → t.tile n = s.tile n
  fab : t.fab = s.fab

namespace State.Counted
variable {s t : State} {a : Site} {c : Ctx}

theorem refl (s : State) (a : Site) : s.Counted s a (s.ctx a) :=
  ⟨⟨(s.tile a.tile).flags, (Tile.setCtx_self _ _).symm⟩, fun _ _ => rfl, rfl⟩

theorem ctx (h : s.Counted t a c) : t.ctx a = c := by
  obtain ⟨fl, ht⟩ := h.tile
  rw [State.ctx, ht, Tile.ctx_setCtx_same]

theorem onCtx (h : s.Counted t a c) (g : Ctx → Ctx) : s.Counted (t.onCtx a g) a (g c) := by
  obtain ⟨fl, ht⟩ := h.tile
  refine ⟨⟨fl, ?_⟩, fun n hn => ?_, h.fab⟩
  · rw [State.onCtx, State.tile_onTile_same, ht, Tile.ctx_setCtx_same, Tile.setCtx_setCtx]
  · rw [State.onCtx, State.tile_onTile_other _ _ _ _ hn, h.other n hn]

theorem of_tiles {u : State} (h : s.Counted t a c) (ht : u.tiles = t.tiles) (hf : u.fab = t.fab) : s.Counted u a c := by
  have htile : u.tile = t.tile := by funext n; rw [State.tile, ht, State.tile]
  exact ⟨htile ▸ h.tile, htile ▸ h.other, hf.trans h.fab⟩

theorem nonfin (h : s.Counted t a c) : s.Counted (t.tileNonfin a.tile) a c := by
  obtain ⟨fl, ht⟩ := h.tile
  refine State.Counted.of_tiles (t := t.onTile a.tile (fun x => { x with flags := x.flags ||| 1 })) ⟨⟨fl ||| 1, ?_⟩, fun n hn => ?_, h.fab⟩ rfl rfl
  · rw [State.tile_onTile_same, ht]
    cases a.side <;> rfl
  · rw [State.tile_onTile_other _ _ _ _ hn, h.other n hn]

theorem inject (h : s.Counted t a c) : ((t.tile a.tile).inject 2).1 = ((s.tile a.tile).inject 2).1 := by
  obtain ⟨fl, ht⟩ := h.tile
  exact Tile.inject_congr _ _ 2 (by rw [ht, Tile.setCtx_inj])

theorem settles (h : s.Counted t a c) (hi : (s.ctx a).idle → c.idle) (hr : (s.ctx a).running = false → c.running = false) :
    s.Settles t a.tile := by
  obtain ⟨fl, ht⟩ := h.tile
  have hown := s.settles_onCtx a (fun _ => c) hi hr
  refine hown.trans (State.settles_of_ctx a.tile (fun d => ?_) (congrArg Fabric.freezing h.fab))
  rw [ht, State.onCtx, State.tile_onTile_same]
  cases a.side <;> cases d <;> rfl

end State.Counted

theorem State.tiles_amaxWord (s : State) (m : Nat × Int) : (s.amaxWord m).2.tiles = s.tiles ∧ (s.amaxWord m).2.fab = s.fab := by
  unfold State.amaxWord
  split <;> exact ⟨rfl, rfl⟩

/-- A conversion is counted into its slot alone (R116). -/
theorem State.Counted.census {s t : State} {a : Site} {c : Ctx} (h : s.Counted t a c) (slot : Nat) (ks : List Cls) (amax : Nat × Int) :
    ∃ w, s.Counted (t.census a slot ks amax) a
      { c with census := c.census.put slot ((c.census.get slot CSlot.reset).count ks w) CSlot.reset } := by
  obtain ⟨hm, hfab⟩ := t.tiles_amaxWord amax
  have h1 := h.of_tiles hm hfab
  refine ⟨(t.amaxWord amax).1, ?_⟩
  unfold State.census
  dsimp only
  rw [h1.ctx]
  have h2 := h1.onCtx (fun x => { x with
    census := x.census.put slot ((c.census.get slot CSlot.reset).count ks (t.amaxWord amax).1) CSlot.reset })
  split
  · exact h2
  · split
    · exact h2
    · split
      · exact h2.nonfin
      · exact h2

/-- The draws of a conversion under SR (R58). -/
def cvtDraws (ctl : Nat) (gen : W64) : W64 × List Nat := if ctlSr ctl then draws 16 gen else (gen, [])

theorem State.counted_draw (s : State) (a : Site) (ctl : Nat) :
    (if ctlSr ctl then s.draw a 16 else ([], s)).1 = (cvtDraws ctl (s.ctx a).gen).2 ∧
    s.Counted (if ctlSr ctl then s.draw a 16 else ([], s)).2 a { s.ctx a with gen := (cvtDraws ctl (s.ctx a).gen).1 } := by
  unfold cvtDraws
  split
  · exact ⟨rfl, (State.Counted.refl s a).onCtx (fun c => { c with gen := (draws 16 (s.ctx a).gen).1 })⟩
  · exact ⟨rfl, State.Counted.refl s a⟩

/-- The supplied code of a conversion under HISTORY (R52, R259): that of the binding; a side context has none (log 3). -/
theorem State.Counted.slotCode {s t : State} {a : Site} {c : Ctx} (h : s.Counted t a c) (slot : Nat) (on : Bool) :
    s.Counted (if on then t.slotCode a slot else (0, t)).2 a c ∧
    (a.side = false → on = true → (if on then t.slotCode a slot else (0, t)).1 = (c.census.get slot CSlot.reset).code.toNat) := by
  unfold State.slotCode
  rw [h.ctx]
  cases on
  · exact ⟨h, fun _ ho => by cases ho⟩
  · cases a.side
    · exact ⟨h, fun _ _ => rfl⟩
    · exact ⟨h.of_tiles rfl rfl, fun hs => by cases hs⟩

/-- The result of a conversion of a context (R52, R161). -/
def Ctx.converted (c : Ctx) (f : VFmt) (src dst : Elem) (code : Nat) : Converted :=
  convert f.vc f.vx f.vy.toNat code dst (cvtDraws f.vy.toNat c.gen).2 (c.active f) (c.codes f.va.toNat f.part.toNat src)
    (c.srcVals f src (c.codes f.va.toNat f.part.toNat src))

/-- What CVT leaves in a slot that may be used, when no upset meets it (R116, R161, R259). -/
theorem State.cvt_clean (s : State) (a : Site) (f : VFmt) (src dst : Elem) (pc : BitVec 14) (h : ((s.tile a.tile).inject 2).1 = none)
    (hb : a.side = true ∨ ((s.ctx a).census.get f.slot.toNat CSlot.reset).bound ≠ none) :
    ∃ code ks w, (a.side = false → ctlHistory f.vy.toNat = true → isMx f.vx = true →
        code = ((s.ctx a).census.get f.slot.toNat CSlot.reset).code.toNat) ∧
      ks.length = ((List.range 64).filter ((s.ctx a).active f)).length ∧
      let r := (s.ctx a).converted f src dst code
      s.Counted (s.cvt a f none src dst pc) a { s.ctx a with
        v := ((s.ctx a).cvtPut f dst ((s.ctx a).active f) (r.put r.word)).v
        gen := (cvtDraws f.vy.toNat (s.ctx a).gen).1
        census := (s.ctx a).census.put f.slot.toNat (((s.ctx a).census.get f.slot.toNat CSlot.reset).count ks w) CSlot.reset } := by
  have hbound : ¬ (!a.side && ((s.ctx a).census.get f.slot.toNat CSlot.reset).bound.isNone) = true := by
    rcases hb with hb | hb
    · simp [hb]
    · simp [Option.isNone_iff_eq_none, hb]
  obtain ⟨hdraws, h1⟩ := s.counted_draw a f.vy.toNat
  obtain ⟨h2, hcode⟩ := h1.slotCode f.slot.toNat (ctlHistory f.vy.toNat && isMx f.vx)
  unfold State.cvt
  rw [if_neg hbound]
  dsimp only
  rw [hdraws]
  generalize (if ctlSr f.vy.toNat then s.draw a 16 else ([], s)).2 = s1 at h1 h2 hcode ⊢
  generalize (if (ctlHistory f.vy.toNat && isMx f.vx) = true then s1.slotCode a f.slot.toNat else (0, s1)) = sc at h2 hcode ⊢
  obtain ⟨code, s2⟩ := sc
  generalize hks : List.map (fun i => _) _ = ks
  obtain ⟨w, h3⟩ := h2.census f.slot.toNat ks (amaxOf (((List.range 64).filter ((s.ctx a).active f)).map
    (fun i => ((s.ctx a).srcVals f src ((s.ctx a).codes f.va.toNat f.part.toNat src)).getD i .nan)))
  refine ⟨code, ks, w, fun hs hh hm => hcode hs (by rw [hh, hm]; rfl), by rw [← hks, List.length_map], ?_⟩
  rw [State.checked_clean _ a _ _ _ (h3.inject.trans h)]
  have h4 := h3.onCtx (fun c => c.cvtPut f dst ((s.ctx a).active f)
    (((s.ctx a).converted f src dst code).put ((s.ctx a).converted f src dst code).word))
  rw [Ctx.cvtPut_eq (s.ctx a)] at h4
  · exact h4
  · rfl

/-! ### CVT at its issue -/

theorem Ctx.active_congr (c d : Ctx) (h : d.m = c.m) (f : VFmt) : d.active f = c.active f := by
  funext i
  rw [Ctx.active, Ctx.mask, h, Ctx.active, Ctx.mask]

/-- A conversion's result depends on the vector registers, the masks and the generator alone. -/
theorem Ctx.converted_congr (c d : Ctx) (hv : d.v = c.v) (hm : d.m = c.m) (hg : d.gen = c.gen) (f : VFmt) (src dst : Elem) (code : Nat) :
    d.converted f src dst code = c.converted f src dst code := by
  have hsrc : ∀ l, d.srcVals f src l = c.srcVals f src l := fun l => by
    rw [Ctx.srcVals, Ctx.vecBytes, Ctx.vec_congr c d hv, Ctx.srcVals, Ctx.vecBytes]
  rw [Ctx.converted, hg, Ctx.active_congr c d hm, Ctx.codes_eq c d hv, hsrc, Ctx.converted]

section
variable (s : State) (a : Site) (f : VFmt) (up : Option Upset) (src dst : Elem) (h : s.canIssue a (wordOf 2 0x1D (vLow f)) f.dt [])
  (hsrc : elemOf f.vc = some src) (hdst : elemOf f.vx = some dst)
include h hsrc hdst

/-- CVT with nothing in its way does what it does at issue, where that starts nothing more. -/
theorem cvt_issues
    (ht : (s.issued a (wordOf 2 0x1D (vLow f)) f.dt).Settles
      ((s.issued a (wordOf 2 0x1D (vLow f)) f.dt).cvt (siteOf a.tile a.side) f up src dst (s.ctx a).pc) a.tile) :
    exec (.cvt a f up) s = .next ((s.issued a (wordOf 2 0x1D (vLow f)) f.dt).cvt (siteOf a.tile a.side) f up src dst (s.ctx a).pc) := by
  refine congrArg Host.Outcome.next (s.vector_run _ a 0x1D f up h ?_ ht)
  unfold State.issue
  simp only [hsrc, hdst]
  rfl

/-- A slot of the primary that has no binding is the census-binding fault (R164). -/
theorem cvt_unbound (hside : a.side = false) (hb : ((s.ctx a).census.get f.slot.toNat CSlot.reset).bound = none) :
    exec (.cvt a f up) s = .next ((s.issued a (wordOf 2 0x1D (vLow f)) f.dt).seqFault a.tile false 9 (s.ctx a).pc) := by
  have hcensus := s.issued_census a (wordOf 2 0x1D (vLow f)) f.dt (s.field_of_canIssue a _ _ _ h)
  have hfault : (s.issued a (wordOf 2 0x1D (vLow f)) f.dt).cvt (siteOf a.tile a.side) f up src dst (s.ctx a).pc =
      (s.issued a (wordOf 2 0x1D (vLow f)) f.dt).seqFault a.tile false 9 (s.ctx a).pc := by
    unfold State.cvt
    rw [if_pos (by rw [State.ctx_siteOf, hcensus, hb]; simp [siteOf, hside])]
    simp only [siteOf, hside]
  rw [cvt_issues s a f up src dst h hsrc hdst (hfault ▸ State.settles_seqFault _ _ _ _), hfault]

/-- What a conversion leaves in a slot that may be used (R116, R161, R259). -/
theorem cvt_leaves (hc : s.clean a up) (hb : a.side = true ∨ ((s.ctx a).census.get f.slot.toNat CSlot.reset).bound ≠ none) :
    ∃ t code ks w, exec (.cvt a f up) s = .next t ∧
      (a.side = false → ctlHistory f.vy.toNat = true → isMx f.vx = true →
        code = ((s.ctx a).census.get f.slot.toNat CSlot.reset).code.toNat) ∧
      ks.length = ((List.range 64).filter ((s.ctx a).active f)).length ∧
      let u := s.issued a (wordOf 2 0x1D (vLow f)) f.dt
      let r := (s.ctx a).converted f src dst code
      u.Counted t a { u.ctx a with
        v := ((s.ctx a).cvtPut f dst ((s.ctx a).active f) (r.put r.word)).v
        gen := (cvtDraws f.vy.toNat (s.ctx a).gen).1
        census := (s.ctx a).census.put f.slot.toNat (((s.ctx a).census.get f.slot.toNat CSlot.reset).count ks w) CSlot.reset } := by
  obtain ⟨rfl, hinj⟩ := hc
  have hf := s.field_of_canIssue a _ _ _ h
  have hv := s.issued_v a (wordOf 2 0x1D (vLow f)) f.dt hf
  have hm := s.issued_m a (wordOf 2 0x1D (vLow f)) f.dt hf
  have hgen := s.issued_gen a (wordOf 2 0x1D (vLow f)) f.dt hf
  have hcensus := s.issued_census a (wordOf 2 0x1D (vLow f)) f.dt hf
  obtain ⟨code, ks, w, hcode, hks, hcvt⟩ := (s.issued a (wordOf 2 0x1D (vLow f)) f.dt).cvt_clean (siteOf a.tile a.side) f src dst (s.ctx a).pc
    ((s.issued_inject a _ _ hf).trans hinj) (by rw [← hcensus] at hb; exact hb)
  simp only [State.ctx_siteOf] at hcode hks hcvt
  rw [hcensus] at hcode
  rw [Ctx.active_congr (s.ctx a) _ hm] at hks
  rw [Ctx.active_congr (s.ctx a) _ hm, Ctx.converted_congr (s.ctx a) _ hv hm hgen, hgen, hcensus, Ctx.cvtPut_eq (s.ctx a) _ hv] at hcvt
  have hrun := cvt_issues s a f none src dst h hsrc hdst (hcvt.settles (fun hi => hi) (fun hr => hr))
  exact ⟨_, code, ks, w, hrun, hcode, hks, hcvt.tile, hcvt.other, hcvt.fab⟩

end

/-! ### A hit on a result (R117, R128) -/

/-- A result with bit `u.bit` of element `u.lane` inverted. -/
def flipped (u : Upset) (new : Nat → W32) (i : Nat) : W32 :=
  if i = u.lane.toNat then new i ^^^ (1#32 <<< u.bit.toNat) else new i

section
variable (s : State) (a : Site) (u : Upset) (on : Nat → Bool) (new : Nat → W32) (commit : (Nat → W32) → State → State)
  (h : ((s.tile a.tile).inject 2).1 = none) (ht : u.target = 2) (hl : u.lane.toNat < 64) (hon : on u.lane.toNat = true)
include h ht hl hon

theorem State.unchecked_upset : s.unchecked a (some u) on new commit = commit (flipped u new) s := by
  rw [State.unchecked, s.vhit_upset a u h ht]
  refine congrArg (commit · s) (funext fun i => ?_)
  by_cases hi : i = u.lane.toNat <;> simp [flipped, hi, hl, hon]

/-- What a hit does to a residue-checked operation: outside the significand its bit is inverted, else the operation is repeated. -/
theorem State.checked_upset (op lat sb : Nat) :
    s.checked a op lat sb (some u) on new commit =
      if sb ≤ u.bit.toNat then commit (flipped u new) s
      else if u.persist then (((s.slip a.tile (lat + 1)).haltCtx a.tile a.side).suspect a.tile 4).tileFault a.tile 4
      else commit new ((s.slip a.tile (lat + 1)).residueTransient a.tile (128 + op)) := by
  rw [State.checked, s.vhit_upset a u h ht]
  dsimp only
  rw [if_neg (by simp [hl, hon])]
  rfl

end

/-! ### What a repeat leaves (R117, R126, R127) -/

theorem State.suspect_tile (s : State) (n cause : Nat) :
    ∃ st, (s.suspect n cause).tile n = { s.tile n with stat := st } ∧ (st = (s.tile n).stat ∨ st = (s.tile n).stat ||| 1) := by
  unfold State.suspect
  split
  · exact ⟨_, rfl, .inl rfl⟩
  · exact ⟨_, by rw [State.tile_emit, State.tile_onTile_same], .inr rfl⟩

/-- A transient counts in its hour, and may mark the tile suspect (R472). -/
theorem State.transient_tile (s : State) (n : Nat) :
    ∃ st hr cnt, (s.transient n).tile n = { s.tile n with stat := st, hour := hr, hourCnt := cnt } ∧
      (st = (s.tile n).stat ∨ st = (s.tile n).stat ||| 1) := by
  unfold State.transient
  dsimp only
  generalize (if (s.tile n).hour = s.ticks / hourTicks then (s.tile n).hourCnt + 1 else 1) = cnt
  split
  · obtain ⟨st, ht, hst⟩ := State.suspect_tile ((s.setTile n { s.tile n with hour := s.ticks / hourTicks, hourCnt := cnt }).emit 0x0A0B
      [.w4 n, .w4 cnt]) n 11
    rw [State.tile_emit, State.tile_setTile_same] at ht hst
    exact ⟨st, _, _, ht, hst⟩
  · exact ⟨_, _, _, State.tile_setTile_same _ _ _, .inl rfl⟩

theorem State.settles_transient (s : State) (n : Nat) : s.Settles (s.transient n) n := by
  unfold State.transient
  dsimp only
  generalize (if (s.tile n).hour = s.ticks / hourTicks then (s.tile n).hourCnt + 1 else 1) = cnt
  have hset : s.Settles (s.setTile n { s.tile n with hour := s.ticks / hourTicks, hourCnt := cnt }) n :=
    State.settles_of_ctx n (fun d => by rw [State.tile_setTile_same]; cases d <;> rfl) rfl
  split
  · exact (hset.trans (State.settles_emit _ n _ _)).trans (State.settles_suspect _ n _)
  · exact hset

theorem bitOf_toNat (w : W32) (i : Nat) : bitOf w.toNat i = w.getLsbD i := by
  rw [bitOf, BitVec.getLsbD, Nat.testBit_eq_decide_div_mod_eq]
  exact beq_eq_decide _ _

/-- A tile in which a residue fault was transient: STAT names it and CHKCNT counts it (R126, R127). -/
def Tile.residue (x : Tile) : Tile :=
  { x with
    stat := x.stat ||| 0x800
    chkcnt := BitVec.ofNat 32 (setBits x.chkcnt.toNat 16 16 (min (bitsOf x.chkcnt.toNat 16 16 + 1) 65535)) }

theorem Tile.residue_count (x : Tile) : bitsOf x.residue.chkcnt.toNat 16 16 = min (bitsOf x.chkcnt.toNat 16 16 + 1) 65535 := by
  have hlt := setBits_lt x.chkcnt.toNat 16 16 (min (bitsOf x.chkcnt.toNat 16 16 + 1) 65535) x.chkcnt.isLt (by omega)
  rw [Tile.residue, BitVec.toNat_ofNat, Nat.mod_eq_of_lt hlt, bitsOf_setBits_same, Nat.mod_eq_of_lt (by omega)]

theorem State.residueTransient_tile (s : State) (n op : Nat) :
    ∃ st hr cnt, (s.residueTransient n op).tile n = { (s.tile n).residue with stat := st, hour := hr, hourCnt := cnt } ∧
      bitOf st.toNat 11 = true := by
  obtain ⟨st, hr, cnt, ht, hst⟩ := State.transient_tile ((s.onTile n Tile.residue).emit 0x0A06 [.w4 n, .w4 op]) n
  rw [State.tile_emit, State.tile_onTile_same] at ht hst
  refine ⟨st, hr, cnt, ht, ?_⟩
  rw [bitOf_toNat]
  rcases hst with rfl | rfl <;> simp [Tile.residue]

theorem State.settles_residueTransient (s : State) (n op : Nat) : s.Settles (s.residueTransient n op) n := by
  refine State.Settles.trans ?_ (State.settles_transient _ n)
  refine State.Settles.trans ?_ (State.settles_emit _ n _ _)
  exact State.settles_onTile s n Tile.residue (fun _ => rfl) (fun _ => rfl)

/-- A repeat that gives the right result: it is written, the beats are slips, and the fault is counted. -/
theorem State.repeat_leaves (s : State) (a : Site) (k op r : Nat) (on : Nat → Bool) (z : Bool) (new : Nat → W32)
    (hf : tileField a.tile < 48) :
    let t := ((s.slip a.tile k).residueTransient a.tile op).vput a r on z new
    s.Settles t a.tile ∧
      (∀ i, i < 64 → (t.ctx a).el r i = if on i then new i else if z then 0 else (s.ctx a).el r i) ∧
      bitOf (t.tile a.tile).stat.toNat 11 = true ∧
      bitsOf (t.tile a.tile).chkcnt.toNat 16 16 = min (bitsOf (s.tile a.tile).chkcnt.toNat 16 16 + 1) 65535 := by
  intro t
  have hset := (s.settles_slip a.tile k hf).trans (State.settles_residueTransient _ a.tile op)
  have hslip := s.slip_tile a.tile k hf
  obtain ⟨st, hr, cnt, hx, hst⟩ := (s.slip a.tile k).residueTransient_tile a.tile op
  obtain ⟨⟨_, htile⟩, _, hel⟩ := ((s.slip a.tile k).residueTransient a.tile op).wroteV_vput a r on z new
  have hctx : ((s.slip a.tile k).residueTransient a.tile op).ctx a = s.ctx a := by
    rw [State.ctx, hx, hslip, State.ctx]
    cases a.side <;> rfl
  refine ⟨hset.trans (State.settles_vput _ a r on z new), fun i hi => ?_, ?_, ?_⟩
  · rw [hel r i hi, if_pos rfl, hctx]
  · rw [htile, Tile.setCtx_stat, hx]
    exact hst
  · rw [htile, Tile.setCtx_chkcnt, hx]
    refine (Tile.residue_count _).trans ?_
    rw [hslip]

/-! ### Hits on ADD and AND (R117, R128) -/

/-- An instruction that at its issue writes a vector register under its mask and Z writes that register alone. -/
theorem State.vector_writes (s : State) (a : Site) (op : Nat) (f : VFmt) (up : Option Upset) (new : Nat → W32)
    (h : s.canIssue a (wordOf 2 op (vLow f)) f.dt [])
    (hi : (s.issued a (wordOf 2 op (vLow f)) f.dt).issue (siteOf a.tile a.side)
      ⟨.vec op f up, (s.ctx a).pc, ((s.ctx a).target f.dt).toNat, (s.ctx a).gr 0, (s.ctx a).gr 0⟩ =
        some ((s.issued a (wordOf 2 op (vLow f)) f.dt).vput (siteOf a.tile a.side) f.vd.toNat
          (fun i => ((s.ctx a).mask f.msk.toNat).getLsbD i) (f.z == 1) new)) :
    ∃ t, Host.Outcome.next (φ := Fault) (ρ := Refusal) (s.vector a op f up) = .next t ∧
      (s.issued a (wordOf 2 op (vLow f)) f.dt).wroteV t a f.vd.toNat (fun i => ((s.ctx a).mask f.msk.toNat).getLsbD i) (f.z == 1) new :=
  ⟨_, congrArg _ (s.vector_run _ a op f up h hi (State.settles_vput _ (siteOf a.tile a.side) _ _ _ _)), State.wroteV_vput _ a _ _ _ _⟩

/-- What ADD does at issue. -/
theorem State.issue_add (s : State) (a : Site) (f : VFmt) (up : Option Upset) (pc : BitVec 14) (n : Nat) (x y : W32) :
    s.issue a ⟨.vec 0x00 f up, pc, n, x, y⟩ =
      some (s.checked a 0x00 4 23 up ((s.ctx a).active f) (fun i => fAdd ((s.ctx a).el f.va.toNat i) ((s.ctx a).el f.vb.toNat i))
        (fun new t => t.vput a f.vd.toNat ((s.ctx a).active f) (f.z == 1) new)) := rfl

/-- What AND does at issue. -/
theorem State.issue_and (s : State) (a : Site) (f : VFmt) (up : Option Upset) (pc : BitVec 14) (n : Nat) (x y : W32) :
    s.issue a ⟨.vec 0x12 f up, pc, n, x, y⟩ =
      some (s.unchecked a up ((s.ctx a).active f) (fun i => (s.ctx a).el f.va.toNat i &&& (s.ctx a).el f.vb.toNat i)
        (fun new t => t.vput a f.vd.toNat ((s.ctx a).active f) (f.z == 1) new)) := rfl

/-- The operands of an operation on VA and VB are those before its decode. -/
theorem State.issued_operands (s : State) (a : Site) (w : W64) (dt : BitVec 8) (hf : tileField a.tile < 48) (f : VFmt)
    (g : W32 → W32 → W32) :
    (fun i => g (((s.issued a w dt).ctx a).el f.va.toNat i) (((s.issued a w dt).ctx a).el f.vb.toNat i)) =
      fun i => g ((s.ctx a).el f.va.toNat i) ((s.ctx a).el f.vb.toNat i) := by
  funext i
  rw [s.issued_el a w dt hf, s.issued_el a w dt hf]

section
variable (s : State) (a : Site) (f : VFmt) (u : Upset) (hinj : ((s.tile a.tile).inject 2).1 = none) (ht : u.target = 2)
  (hl : u.lane.toNat < 64) (hon : ((s.ctx a).mask f.msk.toNat).getLsbD u.lane.toNat = true)
include hinj ht hl hon

/-- AND, which is not checked, keeps the inverted bit. -/
theorem iand_flips (h : s.canIssue a (wordOf 2 0x12 (vLow f)) f.dt []) :
    ∃ t, exec (.iand a f (some u)) s = .next t ∧ (s.issued a (wordOf 2 0x12 (vLow f)) f.dt).wroteV t a f.vd.toNat
      (fun i => ((s.ctx a).mask f.msk.toNat).getLsbD i) (f.z == 1)
      (flipped u (fun i => (s.ctx a).el f.va.toNat i &&& (s.ctx a).el f.vb.toNat i)) := by
  have hf := s.field_of_canIssue a _ _ _ h
  have hnew := s.issued_operands a (wordOf 2 0x12 (vLow f)) f.dt hf f (fun x y => x &&& y)
  refine s.vector_writes a 0x12 f (some u) _ h ?_
  rw [State.issue_and, State.ctx_siteOf, s.issued_active a _ _ hf, hnew]
  exact congrArg some (State.unchecked_upset _ (siteOf a.tile a.side) u _ _ _ ((s.issued_inject a _ _ hf).trans hinj) ht hl hon)

/-- What a hit does to ADD at its issue. -/
theorem add_issue_upset (h : s.canIssue a (wordOf 2 0 (vLow f)) f.dt []) :
    let v := s.issued a (wordOf 2 0 (vLow f)) f.dt
    let put := fun (new : Nat → W32) (s' : State) =>
      s'.vput (siteOf a.tile a.side) f.vd.toNat (fun i => ((s.ctx a).mask f.msk.toNat).getLsbD i) (f.z == 1) new
    let new := fun i => fAdd ((s.ctx a).el f.va.toNat i) ((s.ctx a).el f.vb.toNat i)
    v.issue (siteOf a.tile a.side)
      ⟨.vec 0 f (some u), (s.ctx a).pc, ((s.ctx a).target f.dt).toNat, (s.ctx a).gr 0, (s.ctx a).gr 0⟩ =
      some (if 23 ≤ u.bit.toNat then put (flipped u new) v
        else if u.persist then (((v.slip a.tile 5).haltCtx a.tile a.side).suspect a.tile 4).tileFault a.tile 4
        else put new ((v.slip a.tile 5).residueTransient a.tile 128)) := by
  have hf := s.field_of_canIssue a _ _ _ h
  have hnew := s.issued_operands a (wordOf 2 0 (vLow f)) f.dt hf f fAdd
  dsimp only
  rw [State.issue_add, State.ctx_siteOf, s.issued_active a _ _ hf, hnew]
  exact congrArg some (State.checked_upset _ (siteOf a.tile a.side) u _ _ _ ((s.issued_inject a _ _ hf).trans hinj) ht hl hon 0 4 23)

/-- A hit on the sign or the exponent of a sum, which the residue does not cover, inverts its bit. -/
theorem add_flips (h : s.canIssue a (wordOf 2 0 (vLow f)) f.dt []) (hb : 23 ≤ u.bit.toNat) :
    ∃ t, exec (.vAdd a f (some u)) s = .next t ∧ (s.issued a (wordOf 2 0 (vLow f)) f.dt).wroteV t a f.vd.toNat
      (fun i => ((s.ctx a).mask f.msk.toNat).getLsbD i) (f.z == 1)
      (flipped u (fun i => fAdd ((s.ctx a).el f.va.toNat i) ((s.ctx a).el f.vb.toNat i))) := by
  refine s.vector_writes a 0 f (some u) _ h ?_
  rw [add_issue_upset s a f u hinj ht hl hon h, if_pos hb]

/-- A repeat that fails too halts the context (R117). -/
theorem add_halts (h : s.canIssue a (wordOf 2 0 (vLow f)) f.dt []) (hb : u.bit.toNat < 23) (hp : u.persist = true) :
    ∃ t, exec (.vAdd a f (some u)) s = .next t ∧ (t.ctx a).running = false := by
  have hf := s.field_of_canIssue a _ _ _ h
  have hi := add_issue_upset s a f u hinj ht hl hon h
  dsimp only at hi
  rw [if_neg (by omega), if_pos hp] at hi
  generalize hv : s.issued a (wordOf 2 0 (vLow f)) f.dt = v at hi
  have hfault : ((v.slip a.tile 5).haltCtx a.tile a.side).Settles
      ((((v.slip a.tile 5).haltCtx a.tile a.side).suspect a.tile 4).tileFault a.tile 4) a.tile :=
    (State.settles_suspect _ a.tile 4).trans (State.settles_tileFault _ a.tile 4)
  have hall := ((v.settles_slip a.tile 5 hf).trans (State.settles_haltCtx _ a.tile a.side)).trans hfault
  subst hv
  exact ⟨_, congrArg Host.Outcome.next (s.vector_run _ a 0 f (some u) h hi hall), hfault.halted a.side (State.running_haltCtx _ a.tile a.side)⟩

/-- A hit on the significand of a sum that does not meet the repeat: the right sum is written, and the fault is counted (R117, R126, R127). -/
theorem add_repeats (h : s.canIssue a (wordOf 2 0 (vLow f)) f.dt []) (hb : u.bit.toNat < 23) (hp : u.persist = false) :
    ∃ t, exec (.vAdd a f (some u)) s = .next t ∧
      (∀ i, i < 64 → (t.ctx a).el f.vd.toNat i =
        if ((s.ctx a).mask f.msk.toNat).getLsbD i then fAdd ((s.ctx a).el f.va.toNat i) ((s.ctx a).el f.vb.toNat i)
        else if f.z = 1 then 0 else (s.ctx a).el f.vd.toNat i) ∧
      bitOf (t.tile a.tile).stat.toNat 11 = true ∧
      bitsOf (t.tile a.tile).chkcnt.toNat 16 16 = min (bitsOf (s.tile a.tile).chkcnt.toNat 16 16 + 1) 65535 := by
  have hf := s.field_of_canIssue a _ _ _ h
  have hi := add_issue_upset s a f u hinj ht hl hon h
  dsimp only at hi
  rw [if_neg (by omega), if_neg (by simp [hp]), State.vput_siteOf] at hi
  obtain ⟨hset, hel, hstat, hcnt⟩ := State.repeat_leaves (s.issued a (wordOf 2 0 (vLow f)) f.dt) a 5 128 f.vd.toNat
    (fun i => ((s.ctx a).mask f.msk.toNat).getLsbD i) (f.z == 1) (fun i => fAdd ((s.ctx a).el f.va.toNat i) ((s.ctx a).el f.vb.toNat i)) hf
  obtain ⟨st, sl, sb, hx⟩ := s.issued_tile a (wordOf 2 0 (vLow f)) f.dt hf
  rw [hx, Tile.setCtx_chkcnt, Tile.marked_chkcnt] at hcnt
  refine ⟨_, congrArg Host.Outcome.next (s.vector_run _ a 0 f (some u) h hi hset), fun i hlt => ?_, hstat, hcnt⟩
  rw [hel i hlt, s.issued_el a _ _ hf]
  simp

end

/-- Settles O9: the run of CVT to its issue with its census, and the three outcomes of a hit on a checked result. -/
theorem vectorConvertAndUpsets : Obligations.VectorConvertAndUpsets := by
  unfold Obligations.VectorConvertAndUpsets
  refine ⟨fun s a f up h => ⟨fun src dst hsrc hdst hc hb => ?_, fun src dst hsrc hdst hside hb => ?_⟩,
    fun s a f u hinj ht hl hon => ⟨fun h hb hp => ?_, fun h hb hp => ?_, fun h hb => ?_, fun h => ?_⟩⟩
  · obtain ⟨t, code, ks, w, hrun, hcode, hks, ht⟩ := cvt_leaves s a f up src dst h hsrc hdst hc hb
    have hf := s.field_of_canIssue a _ _ _ h
    obtain ⟨st, sl, sb, hx⟩ := s.issued_tile a (wordOf 2 0x1D (vLow f)) f.dt hf
    obtain ⟨fl, htile⟩ := ht.tile
    refine ⟨t, code, hrun, hcode, ?_⟩
    dsimp only at ht
    rw [ht.ctx]
    refine ⟨rfl, rfl, ?_, fun k hk => Map.get_put_other _ _ _ _ _ _ hk, s.issued_g a _ _ hf, s.issued_m a _ _ hf, ?_, fun n hn => ?_⟩
    · dsimp only
      rw [Map.get_put_same, CSlot.count, hks]
      rfl
    · rw [htile]; simp [hx]
    · rw [ht.other n hn, s.issued_other a _ _ hf n hn]
  · exact cvt_unbound s a f up src dst h hsrc hdst hside hb
  · exact add_repeats s a f u hinj ht hl hon h hb hp
  · exact add_halts s a f u hinj ht hl hon h hb hp
  · exact add_flips s a f u hinj ht hl hon h hb
  · exact iand_flips s a f u hinj ht hl hon h

end Sys2Proof.Machine

/-! PROOF. Elementwise operations, integer shifts, compares and reductions of the vector engine (O6, O7). -/

namespace Sys2Proof.Machine

/-! ### Operations that no upset meets, at their issue (R110, R113, R114) -/

section
variable (s : State) (a : Site) (f : VFmt) (op : Nat) (lat : Option Nat) (h : ((s.tile a.tile).inject 2).1 = none)
include h

/-- Residue-checked or not, an elementwise operation that nothing hits writes VD under its mask and Z. -/
theorem State.vmap_clean (g : Ctx → Nat → W32) :
    s.vmap a op f none lat g = s.vput a f.vd.toNat ((s.ctx a).active f) (f.z == 1) (g (s.ctx a)) := by
  unfold State.vmap
  cases lat with
  | none => exact s.unchecked_clean a _ _ _ h
  | some l => exact s.checked_clean a _ _ _ h op l _

/-- The source elements of a reduction, an inactive one entering as `e` (R114). -/
def Ctx.reduced (c : Ctx) (f : VFmt) (e : W32) (pre : W32 → W32) : List W32 :=
  (List.range 64).map (fun i => if c.active f i then pre (c.el f.va.toNat i) else e)

/-- A reduction that nothing hits writes element 0 of VD. -/
theorem State.reduce_clean (e : W32) (pre : W32 → W32) (g : W32 → W32 → W32) :
    s.reduce a op f none lat e pre g =
      s.vput a f.vd.toNat (fun i => decide (i = 0)) false (fun _ => (tree g 6 ((s.ctx a).reduced f e pre)).headD 0) := by
  unfold State.reduce
  cases lat with
  | none => exact s.unchecked_clean a _ _ _ h
  | some l => exact s.checked_clean a _ _ _ h op l _

/-- What a vector shift writes: a count of 32 or more gives a free value (log 32). -/
def Ctx.shifted (c : Ctx) (f : VFmt) (g : W32 → Nat → W32) (n i : Nat) : W32 :=
  if (c.el f.vb.toNat i).toNat < 32 then g (c.el f.va.toNat i) (c.el f.vb.toNat i).toNat else Config.freeWord (n + i)

/-- A vector shift that nothing hits writes VD under its mask and Z. -/
theorem State.vshift_clean (g : W32 → Nat → W32) :
    s.vshift a f none g =
      { s.vput a f.vd.toNat ((s.ctx a).active f) (f.z == 1) ((s.ctx a).shifted f g s.free) with free := s.free + 64 } := by
  unfold State.vshift
  exact State.unchecked_clean { s with free := s.free + 64 } a _ _ _ h

end

/-! ### From decode to write-back -/

theorem State.settles_free (s : State) (n k : Nat) : s.Settles { s with free := k } n := State.settles_of_tiles n rfl rfl

/-- The count of free values that were drawn is no part of the frame of a write. -/
theorem State.wroteV_free {s t : State} {a : Site} {r : Nat} {on : Nat → Bool} {z : Bool} {new : Nat → W32} (h : s.wroteV t a r on z new)
    (k : Nat) : s.wroteV { t with free := k } a r on z new := by
  obtain ⟨honly, hctx, hel⟩ := h
  exact ⟨State.onlyCtx_free s t a k honly, hctx, hel⟩

/-- An instruction that at its issue writes one vector register, and draws free values perhaps, writes that register alone. -/
theorem State.vector_puts (s : State) (a : Site) (op : Nat) (f : VFmt) (up : Option Upset) (on : Nat → Bool) (z : Bool) (new : Nat → W32)
    (k : Nat) (h : s.canIssue a (wordOf 2 op (vLow f)) f.dt [])
    (hi : (s.issued a (wordOf 2 op (vLow f)) f.dt).issue (siteOf a.tile a.side)
      ⟨.vec op f up, (s.ctx a).pc, ((s.ctx a).target f.dt).toNat, (s.ctx a).gr 0, (s.ctx a).gr 0⟩ =
        some { (s.issued a (wordOf 2 op (vLow f)) f.dt).vput a f.vd.toNat on z new with free := k }) :
    ∃ t, Host.Outcome.next (φ := Fault) (ρ := Refusal) (s.vector a op f up) = .next t ∧
      (s.issued a (wordOf 2 op (vLow f)) f.dt).wroteV t a f.vd.toNat on z new := by
  have hrun := s.vector_run _ a op f up h hi
  generalize s.issued a (wordOf 2 op (vLow f)) f.dt = u at hrun ⊢
  exact ⟨_, congrArg _ (hrun ((u.settles_vput a f.vd.toNat on z new).trans (State.settles_free _ _ k))),
    State.wroteV_free (u.wroteV_vput a f.vd.toNat on z new) k⟩

section
variable (s : State) (a : Site) (f : VFmt) (up : Option Upset) (op : Nat) (lat : Option Nat) (hc : s.clean a up)
  (h : s.canIssue a (wordOf 2 op (vLow f)) f.dt [])
include hc h

/-- An elementwise operation writes what its element function makes of the vector registers and masks before its decode. -/
theorem vmap_writes (g : Ctx → Nat → W32) (hg : ∀ c d : Ctx, d.v = c.v → d.m = c.m → g d = g c)
    (hop : ∀ (u : State) (b : Site) pc n x y, u.issue b ⟨.vec op f none, pc, n, x, y⟩ = some (u.vmap b op f none lat g)) :
    ∃ t, Host.Outcome.next (φ := Fault) (ρ := Refusal) (s.vector a op f up) = .next t ∧
      (s.issued a (wordOf 2 op (vLow f)) f.dt).wroteV t a f.vd.toNat (fun i => ((s.ctx a).mask f.msk.toNat).getLsbD i) (f.z == 1)
        (g (s.ctx a)) := by
  obtain ⟨rfl, hinj⟩ := hc
  have hf := s.field_of_canIssue a _ _ _ h
  refine s.vector_writes a op f none _ h ((hop _ _ _ _ _ _).trans (congrArg some ?_))
  rw [State.vmap_clean _ (siteOf a.tile a.side) f op lat ((s.issued_inject a _ _ hf).trans hinj), State.ctx_siteOf,
    s.issued_active a _ _ hf, hg _ _ (s.issued_v a _ _ hf) (s.issued_m a _ _ hf)]

/-- VD = VA op VB. -/
theorem v2_writes (g : W32 → W32 → W32)
    (hop : ∀ (u : State) (b : Site) pc n x y, u.issue b ⟨.vec op f none, pc, n, x, y⟩ = some (u.v2 b op f none lat g)) :
    ∃ t, Host.Outcome.next (φ := Fault) (ρ := Refusal) (s.vector a op f up) = .next t ∧
      (s.issued a (wordOf 2 op (vLow f)) f.dt).wroteV t a f.vd.toNat (fun i => ((s.ctx a).mask f.msk.toNat).getLsbD i) (f.z == 1)
        (fun i => g ((s.ctx a).el f.va.toNat i) ((s.ctx a).el f.vb.toNat i)) :=
  vmap_writes s a f up op lat hc h _ (fun c d hv _ => by simp only [Ctx.el, hv]) hop

/-- VD = op VA. -/
theorem v1_writes (g : W32 → W32)
    (hop : ∀ (u : State) (b : Site) pc n x y, u.issue b ⟨.vec op f none, pc, n, x, y⟩ = some (u.v1 b op f none lat g)) :
    ∃ t, Host.Outcome.next (φ := Fault) (ρ := Refusal) (s.vector a op f up) = .next t ∧
      (s.issued a (wordOf 2 op (vLow f)) f.dt).wroteV t a f.vd.toNat (fun i => ((s.ctx a).mask f.msk.toNat).getLsbD i) (f.z == 1)
        (fun i => g ((s.ctx a).el f.va.toNat i)) :=
  vmap_writes s a f up op lat hc h _ (fun c d hv _ => by simp only [Ctx.el, hv]) hop

/-- A shift writes the shifted element where its count is below 32 (R113). -/
theorem vshift_writes (g : W32 → Nat → W32)
    (hop : ∀ (u : State) (b : Site) pc n x y, u.issue b ⟨.vec op f none, pc, n, x, y⟩ = some (u.vshift b f none g)) :
    ∃ t v, Host.Outcome.next (φ := Fault) (ρ := Refusal) (s.vector a op f up) = .next t ∧
      (s.issued a (wordOf 2 op (vLow f)) f.dt).wroteV t a f.vd.toNat (fun i => ((s.ctx a).mask f.msk.toNat).getLsbD i) (f.z == 1) v ∧
      ∀ i, ((s.ctx a).el f.vb.toNat i).toNat < 32 → v i = g ((s.ctx a).el f.va.toNat i) ((s.ctx a).el f.vb.toNat i).toNat := by
  obtain ⟨rfl, hinj⟩ := hc
  have hf := s.field_of_canIssue a _ _ _ h
  have hsh : ∀ n, ((s.issued a (wordOf 2 op (vLow f)) f.dt).ctx a).shifted f g n = (s.ctx a).shifted f g n := fun n => by
    funext i
    simp only [Ctx.shifted, s.issued_el a _ _ hf]
  generalize hn : (s.issued a (wordOf 2 op (vLow f)) f.dt).free = n
  obtain ⟨t, hrun, hw⟩ := s.vector_puts a op f none (fun i => ((s.ctx a).mask f.msk.toNat).getLsbD i) (f.z == 1)
    ((s.ctx a).shifted f g n) (n + 64) h (by
      refine (hop _ _ _ _ _ _).trans (congrArg some ?_)
      rw [State.vshift_clean _ (siteOf a.tile a.side) f ((s.issued_inject a _ _ hf).trans hinj), State.ctx_siteOf, s.issued_active a _ _ hf,
        hn, hsh]
      rfl)
  exact ⟨t, _, hrun, hw, fun i hi => if_pos hi⟩

/-- A reduction writes its tree's result into element 0 of VD (R114). -/
theorem reduce_writes (e : W32) (pre : W32 → W32) (g : W32 → W32 → W32)
    (hop : ∀ (u : State) (b : Site) pc n x y, u.issue b ⟨.vec op f none, pc, n, x, y⟩ = some (u.reduce b op f none lat e pre g)) :
    ∃ t, Host.Outcome.next (φ := Fault) (ρ := Refusal) (s.vector a op f up) = .next t ∧
      (s.issued a (wordOf 2 op (vLow f)) f.dt).wroteV t a f.vd.toNat (fun i => decide (i = 0)) false
        (fun _ => (tree g 6 ((s.ctx a).reduced f e pre)).headD 0) := by
  obtain ⟨rfl, hinj⟩ := hc
  have hf := s.field_of_canIssue a _ _ _ h
  have hred : ((s.issued a (wordOf 2 op (vLow f)) f.dt).ctx a).reduced f e pre = (s.ctx a).reduced f e pre := by
    simp only [Ctx.reduced, s.issued_active a _ _ hf, s.issued_el a _ _ hf]
    rfl
  refine s.vector_puts a op f none _ _ _ (s.issued a (wordOf 2 op (vLow f)) f.dt).free h ((hop _ _ _ _ _ _).trans (congrArg some ?_))
  rw [State.reduce_clean _ (siteOf a.tile a.side) f op lat ((s.issued_inject a _ _ hf).trans hinj), State.ctx_siteOf, hred]
  rfl

end

/-! ### Compares (R113, R160) -/

/-- The number whose bit `i` is `p i` for the first `n` bits. -/
def bitSum (p : Nat → Bool) (n : Nat) : Nat := (List.range n).foldl (fun k i => k + b2n (p i) * 2 ^ i) 0

theorem bitSum_succ (p : Nat → Bool) (n : Nat) : bitSum p (n + 1) = bitSum p n + b2n (p n) * 2 ^ n := by
  simp [bitSum, List.range_succ]

theorem bitSum_lt (p : Nat → Bool) (n : Nat) : bitSum p n < 2 ^ n := by
  induction n with
  | zero => simp [bitSum]
  | succ n ih =>
    rw [bitSum_succ, pow_succ]
    cases p n <;> simp [b2n] <;> omega

theorem bitSum_testBit (p : Nat → Bool) (n i : Nat) (hi : i < n) : (bitSum p n).testBit i = p i := by
  induction n with
  | zero => omega
  | succ n ih =>
    rw [bitSum_succ, Nat.add_comm, Nat.mul_comm, Nat.testBit_two_pow_mul_add _ (bitSum_lt p n)]
    split
    · next hlt => exact ih hlt
    · next hge =>
      have hin : i = n := by omega
      subst hin
      cases p i <;> simp [b2n]

/-- A compare sets the mask VD[2:0] of its context: its active bits to what the compare gives, the others under Z (R110, R160). -/
theorem State.vcmp_sets (s : State) (a : Site) (f : VFmt) (p : W32 → W32 → Bool) :
    ∃ w, s.vcmp a f p = s.onCtx a (fun c => c.setMk (f.vd.toNat % 8) w) ∧
      ∀ i, i < 64 → w.getLsbD i =
        if ((s.ctx a).mask f.msk.toNat).getLsbD i then p ((s.ctx a).el f.va.toNat i) ((s.ctx a).el f.vb.toNat i)
        else if f.z = 1 then false else ((s.ctx a).mask (f.vd.toNat % 8)).getLsbD i := by
  refine ⟨_, State.onCtx_congr s a _ _ rfl, fun i hi => ?_⟩
  have hbit := bitSum_testBit (fun i => p ((s.ctx a).el f.va.toNat i) ((s.ctx a).el f.vb.toNat i)) 64 i hi
  unfold bitSum at hbit
  rw [BitVec.getLsbD_or, BitVec.getLsbD_and, BitVec.getLsbD_ofNat, decide_eq_true hi, Bool.true_and, hbit]
  by_cases hz : f.z = 1
  · rw [if_pos hz, if_pos hz]
    cases ((s.ctx a).mask f.msk.toNat).getLsbD i <;> simp
  · rw [if_neg hz, if_neg hz, BitVec.getLsbD_and, BitVec.getLsbD_not, decide_eq_true hi]
    cases ((s.ctx a).mask f.msk.toNat).getLsbD i <;> simp

theorem State.onCtx_siteOf (s : State) (a : Site) (g : Ctx → Ctx) : s.onCtx (siteOf a.tile a.side) g = s.onCtx a g := rfl

/-- A compare of opcode `op` writes the mask VD[2:0] by `p` and changes nothing else but what issue changes (R110, R160). -/
def State.writesMask (s : State) (a : Site) (f : VFmt) (op : Nat) (p : W32 → W32 → Bool) : Prop :=
  ∃ t, Host.Outcome.next (φ := Fault) (ρ := Refusal) (s.vector a op f none) = .next t ∧
    let u := s.issued a (wordOf 2 op (vLow f)) f.dt
    u.onlyCtx t a ∧ t.ctx a = { u.ctx a with m := (t.ctx a).m } ∧
    ∀ q i, i < 64 → ((t.ctx a).mask q).getLsbD i =
      if q = f.vd.toNat % 8 then
        (if ((s.ctx a).mask f.msk.toNat).getLsbD i then p ((s.ctx a).el f.va.toNat i) ((s.ctx a).el f.vb.toNat i)
          else if f.z = 1 then false else ((s.ctx a).mask q).getLsbD i)
      else ((s.ctx a).mask q).getLsbD i

theorem vcmp_writes (s : State) (a : Site) (f : VFmt) (op : Nat) (p : W32 → W32 → Bool) (h : s.canIssue a (wordOf 2 op (vLow f)) f.dt [])
    (hop : ∀ (u : State) (b : Site) pc n x y, u.issue b ⟨.vec op f none, pc, n, x, y⟩ = some (u.vcmp b f p)) : s.writesMask a f op p := by
  have hf := s.field_of_canIssue a _ _ _ h
  obtain ⟨w, hv, hw⟩ := (s.issued a (wordOf 2 op (vLow f)) f.dt).vcmp_sets (siteOf a.tile a.side) f p
  have hrun := s.vector_run _ a op f none h (hop _ _ _ _ _ _)
  rw [hv, State.onCtx_siteOf] at hrun
  simp only [State.ctx_siteOf, s.issued_mask a _ _ hf, s.issued_el a _ _ hf] at hw
  refine ⟨_, congrArg _ (hrun (State.settles_onCtx _ a _ (fun hi => hi) (fun hr => hr))), State.onlyCtx_onCtx _ a _, ?_, fun q i hi => ?_⟩
  · rw [State.ctx_onCtx_same]; rfl
  · rw [State.ctx_onCtx_same, Ctx.mask_setMk, s.issued_mask a _ _ hf]
    split
    · next hq => rw [hw i hi, hq]
    · rfl

/-- A compare is false where either operand is a NaN (R113). -/
theorem fCmp_eq (p : Int → Bool) : fCmp p = fun x y => !(isNan32 x || isNan32 y) && p ((f32 x).cmp (f32 y)) := by
  funext x y
  rw [fCmp, Bool.not_or]

theorem fCmp_writes (s : State) (a : Site) (f : VFmt) (op : Nat) (p : Int → Bool) (h : s.canIssue a (wordOf 2 op (vLow f)) f.dt [])
    (hop : ∀ (u : State) (b : Site) pc n x y, u.issue b ⟨.vec op f none, pc, n, x, y⟩ = some (u.vcmp b f (fCmp p))) :
    s.writesMask a f op (fun x y => !(isNan32 x || isNan32 y) && p ((f32 x).cmp (f32 y))) :=
  fCmp_eq p ▸ vcmp_writes s a f op (fCmp p) h hop

/-! ### O6 and O7 -/

/-- Settles O6: each operation is one elementwise map at its issue, written under its mask and Z. -/
theorem vectorElementwise : Obligations.VectorElementwise := by
  unfold Obligations.VectorElementwise
  intro s a f up hc x y z on gives
  have hmap := vmap_writes s a f up
  have h2 := v2_writes s a f up
  have h1 := v1_writes s a f up
  refine ⟨fun h => h2 0x00 (some 4) hc h fAdd (fun _ _ _ _ _ _ => rfl), fun h => h2 0x01 (some 4) hc h fSub (fun _ _ _ _ _ _ => rfl),
    fun h => h2 0x02 (some 4) hc h fMul (fun _ _ _ _ _ _ => rfl),
    fun h => hmap 0x03 (some 4) hc h (fun c i => fFma (c.el f.va.toNat i) (c.el f.vb.toNat i) (c.el f.vc.toNat i)) (fun c d hv _ => ?_)
      (fun _ _ _ _ _ _ => rfl),
    fun h => h2 0x04 none hc h fMin (fun _ _ _ _ _ _ => rfl), fun h => h2 0x05 none hc h fMax (fun _ _ _ _ _ _ => rfl),
    fun h => h1 0x06 none hc h fAbs (fun _ _ _ _ _ _ => rfl), fun h => h1 0x07 none hc h fNeg (fun _ _ _ _ _ _ => rfl),
    fun h => h2 0x08 (some 12) hc h fDiv (fun _ _ _ _ _ _ => rfl), fun h => h1 0x09 (some 12) hc h fSqrt (fun _ _ _ _ _ _ => rfl),
    fun h => h1 0x0A (some 12) hc h fRcp (fun _ _ _ _ _ _ => rfl), fun h => h1 0x0B (some 12) hc h fRsq (fun _ _ _ _ _ _ => rfl),
    fun h => h1 0x1E none hc h id (fun _ _ _ _ _ _ => rfl),
    fun h => hmap 0x1F none hc h (fun c i => if (c.mask (f.vc.toNat % 8)).getLsbD i then c.el f.va.toNat i else c.el f.vb.toNat i)
      (fun c d hv hm => ?_) (fun _ _ _ _ _ _ => rfl),
    fun h => hmap 0x20 none hc h (fun c i => c.el f.va.toNat ((c.el f.vb.toNat i).toNat % 64)) (fun c d hv _ => ?_)
      (fun _ _ _ _ _ _ => rfl),
    fun h => hmap 0x21 none hc h (fun c _ => c.el f.va.toNat ((c.el f.vb.toNat 0).toNat % 64)) (fun c d hv _ => ?_)
      (fun _ _ _ _ _ _ => rfl)⟩
  · simp only [Ctx.el, hv]
  · simp only [Ctx.el, Ctx.mask, hv, hm]; rfl
  · simp only [Ctx.el, hv]
  · simp only [Ctx.el, hv]

/-- IMIN and IMAX compare the signed values (R113). -/
theorem iMin_eq : iMin = fun x y => if y.toInt < x.toInt then y else x := by
  funext x y
  simp [iMin, BitVec.slt]

theorem iMax_eq : iMax = fun x y => if x.toInt < y.toInt then y else x := by
  funext x y
  simp [iMax, BitVec.slt]

/-- Settles O7: integers and shifts as elementwise maps, compares bit by bit into their mask, reductions into element 0. -/
theorem vectorIntegersAndReductions : Obligations.VectorIntegersAndReductions := by
  unfold Obligations.VectorIntegersAndReductions
  refine ⟨fun s a f up hc => ?_, fun s a f => ?_, fun s a f up hc => ?_⟩
  · intro x y on gives shifts
    have h2 := v2_writes s a f up
    have hs := vshift_writes s a f up
    refine ⟨fun h => h2 0x10 (some 2) hc h (· + ·) (fun _ _ _ _ _ _ => rfl), fun h => h2 0x11 (some 2) hc h (· - ·) (fun _ _ _ _ _ _ => rfl),
      fun h => h2 0x12 none hc h (· &&& ·) (fun _ _ _ _ _ _ => rfl), fun h => h2 0x13 none hc h (· ||| ·) (fun _ _ _ _ _ _ => rfl),
      fun h => h2 0x14 none hc h (· ^^^ ·) (fun _ _ _ _ _ _ => rfl), fun h => ?_, fun h => ?_,
      fun h => hs 0x15 hc h (fun v n => v <<< n) (fun _ _ _ _ _ _ => rfl), fun h => hs 0x16 hc h (fun v n => v >>> n) (fun _ _ _ _ _ _ => rfl),
      fun h => hs 0x17 hc h (fun v n => v.sshiftRight n) (fun _ _ _ _ _ _ => rfl)⟩
    · have hmin := h2 0x18 none hc h iMin (fun _ _ _ _ _ _ => rfl)
      rw [iMin_eq] at hmin
      exact hmin
    · have hmax := h2 0x19 none hc h iMax (fun _ _ _ _ _ _ => rfl)
      rw [iMax_eq] at hmax
      exact hmax
  · intro x y nan on gives
    have hcmp := fCmp_writes s a f
    exact ⟨fun h => hcmp 0x0C (fun c => c == 0) h (fun _ _ _ _ _ _ => rfl), fun h => hcmp 0x0D (fun c => decide (c < 0)) h (fun _ _ _ _ _ _ => rfl),
      fun h => hcmp 0x0E (fun c => decide (c ≤ 0)) h (fun _ _ _ _ _ _ => rfl),
      fun h => vcmp_writes s a f 0x0F (fun x y => isNan32 x || isNan32 y) h (fun _ _ _ _ _ _ => rfl)⟩
  · intro on src gives
    have hr := reduce_writes s a f up
    exact ⟨fun h => hr 0x1A (some 8) hc h 0 id fAdd (fun _ _ _ _ _ _ => rfl),
      fun h => hr 0x1B none hc h 0xFF800000 id fMax (fun _ _ _ _ _ _ => rfl),
      fun h => hr 0x1C none hc h 0 fAbs fMax (fun _ _ _ _ _ _ => rfl)⟩

end Sys2Proof.Machine

/-! PROOF. Patrol scrub, external accesses and injection of a tile (O15). -/

namespace Sys2Proof.Machine

/-! ### Addresses in a tile's window (R17, R122) -/

/-- An offset of a tile that may be reached lies in its SRAM, or in its registers. -/
theorem State.loc_tileAddr (s : State) (n off : Nat) (hn : n < 1152) (ho : off < 0x4000000) (hr : s.tileReach n = true) :
    s.loc (tileAddr n off) =
      if off < 0x2800000 then some (.sram n off)
      else if 0x3000000 ≤ off ∧ off < 0x3000100 then some (.treg n (off - 0x3000000)) else none := by
  have ht : (tileAddr n off - 0x200000000000) / 0x4000000 = n := by unfold tileAddr; omega
  have hm : (tileAddr n off - 0x200000000000) % 0x4000000 = off := by unfold tileAddr; omega
  have hlt : tileAddr n off < 0x201200000000 := by unfold tileAddr; omega
  have hge : 0x200000000000 ≤ tileAddr n off := by unfold tileAddr; omega
  generalize tileAddr n off = a at *
  unfold State.loc
  rw [if_neg (by omega), if_neg (by omega), if_neg (by omega), if_neg (by omega), if_pos hlt]
  dsimp only
  rw [ht, hm, hr]
  simp

theorem State.loc_sram (s : State) (n off : Nat) (hn : n < 1152) (ho : off < 0x2800000) (hr : s.tileReach n = true) :
    s.loc (tileAddr n off) = some (.sram n off) := by
  have hlt : off < 0x4000000 := by omega
  exact (s.loc_tileAddr n off hn hlt hr).trans (if_pos ho)

theorem State.loc_treg (s : State) (n o : Nat) (hn : n < 1152) (ho : o < 0x100) (hr : s.tileReach n = true) :
    s.loc (tileAddr n (0x3000000 + o)) = some (.treg n o) := by
  have hlt : 0x3000000 + o < 0x4000000 := by omega
  rw [s.loc_tileAddr n _ hn hlt hr, if_neg (by omega), if_pos (by omega), Nat.add_sub_cancel_left]

/-- A bus write that begins in a tile's SRAM stores its bytes there. -/
theorem State.busWr_sram (s : State) (a n off : Nat) (b : Bytes) (h : s.loc a = some (.sram n off)) :
    s.busWr a b = s.onTile n (fun x => x.sramWr off b) := by
  unfold State.busWr State.devWr
  rw [h]

theorem leNat_leBytes (n v : Nat) : leNat (leBytes n v) = v % 256 ^ n := by
  induction n generalizing v with
  | zero => simp [leBytes, leNat, Nat.mod_one]
  | succ n ih =>
    rw [leBytes, leNat, ih, BitVec.toNat_ofNat, pow_succ' 256 n]
    exact Nat.mod_mul.symm

theorem length_leBytes (n v : Nat) : (leBytes n v).length = n := by
  induction n generalizing v with
  | zero => rfl
  | succ n ih => simp [leBytes, ih]

/-- A whole string is its own slice. -/
theorem slice_whole (b : Bytes) : slice b 0 b.length = b := by simp [slice]

/-- The word that the four bytes of a word spell. -/
theorem field_leBytes (v : W32) : BitVec.ofNat 32 (field (leBytes 4 v.toNat) 0 4) = v := by
  have hs : slice (leBytes 4 v.toNat) 0 4 = leBytes 4 v.toNat := by
    conv_lhs => rw [← length_leBytes 4 v.toNat]
    rw [length_leBytes 4 v.toNat]
    exact slice_whole _
  rw [field, hs, leNat_leBytes, Nat.mod_eq_of_lt (show v.toNat < 256 ^ 4 from v.isLt), BitVec.ofNat_toNat, BitVec.setWidth_eq]

/-- A bus write of one word of a tile's registers writes that register. -/
theorem State.busWr_treg (s : State) (a n o : Nat) (v : W32) (h : s.loc a = some (.treg n o)) :
    s.busWr a (leBytes 4 v.toNat) = s.tregWr n o v := by
  unfold State.busWr
  rw [h]
  dsimp only
  rw [length_leBytes]
  show s.tregWr n (o + 4 * 0) (BitVec.ofNat 32 (field (leBytes 4 v.toNat) (4 * 0) 4)) = _
  rw [Nat.mul_zero, Nat.add_zero, field_leBytes]

/-! ### A refused access sets CABORT (R387, R439) -/

/-- The register bit by which the host learns of an abort is as it was. -/
def State.SameAbort (s t : State) : Prop := t.on R.HI_ERR_CABORT = s.on R.HI_ERR_CABORT

namespace State.SameAbort

theorem trans {s t u : State} (h : s.SameAbort t) (g : t.SameAbort u) : s.SameAbort u := Eq.trans g h

theorem of_regs {s t : State} (h : t.regs = s.regs) : s.SameAbort t := by
  unfold State.SameAbort State.on State.rd State.getI State.reg
  rw [h]

theorem setReg (s : State) (o : Nat) (w : W32) (h : o ≠ 0xC) : s.SameAbort (s.setReg o w) := by
  unfold State.SameAbort State.on State.rd State.getI
  rw [State.reg_setReg_other s o (R.HI_ERR_CABORT.addr 0) w h.symm]

theorem msix (s : State) (v : Nat) : s.SameAbort (s.msix v) := by
  unfold State.msix
  split
  · unfold State.SameAbort State.on State.rd State.getI State.reg State.msixWr
    rw [Map.get_put_other]
    exact Nat.ne_of_lt (Nat.lt_add_right _ (by decide))
  · exact of_regs rfl

theorem ringSignal (s : State) (n : Nat) : s.SameAbort (s.ringSignal .evt n) := by
  unfold State.ringSignal
  dsimp only
  split
  · exact trans (t := s.setOutq .evt _) (of_regs rfl) (msix _ _)
  · exact of_regs rfl

theorem ringFill (s : State) (w n : Nat) (b : Bytes) : s.SameAbort (s.ringFill .evt w n b) := by
  induction n generalizing s b with
  | zero => exact of_regs rfl
  | succ n ih =>
    refine trans ?_ (ih _ _)
    refine trans (t := s.setReg (Ring.evt.off + 0x1C) _) (setReg s _ _ (by decide)) (of_regs rfl)

theorem manage (s : State) (e : EvRec) : s.SameAbort (s.manage e) := by
  have hbump : s.SameAbort (s.bump R.SP_EVTQ_LOST_COUNT 1) := setReg s _ _ (by decide)
  unfold State.manage
  split
  · exact of_regs rfl
  · split <;> split
    · exact of_regs rfl
    · exact hbump.trans (of_regs rfl)
    · exact of_regs rfl
    · exact hbump.trans (of_regs rfl)

theorem trace (s : State) (q : W32) (l : List EvRec) : s.SameAbort { s with seq := q, sup := { s.sup with trace := l } } := of_regs rfl

theorem emitRaw (s : State) (c : Nat) (l : List Arg) : s.SameAbort (s.emitRaw c l) := by
  unfold State.emitRaw
  dsimp only
  generalize hu : State.manage _ _ = u
  have h : s.SameAbort u := by
    rw [← hu]
    exact (trace s _ _).trans (manage _ _)
  refine h.trans ?_
  split
  · exact setReg u _ _ (by decide)
  · split
    · exact ((ringFill u _ _ _).trans (of_regs rfl)).trans (ringSignal _ _)
    · have hwr : (u.bump R.HI_EVT_LOST_COUNT 1).SameAbort ((u.bump R.HI_EVT_LOST_COUNT 1).wr R.HI_ERR_EVT_LOST 1) :=
        State.on_wr_other _ _ _ _ (by decide) (by decide)
      have hbump : u.SameAbort (u.bump R.HI_EVT_LOST_COUNT 1) := setReg u _ _ (by decide)
      exact (hbump.trans hwr).trans (of_regs rfl)

end State.SameAbort

/-- A completer abort sets CABORT, and tiles and memories stay. -/
theorem State.hostAbort_leaves (s : State) (off cause : Nat) :
    (s.hostAbort off cause).on R.HI_ERR_CABORT = true ∧ (s.hostAbort off cause).host.rdata = s.host.rdata ∧
      (s.hostAbort off cause).tiles = s.tiles ∧ (s.hostAbort off cause).pos = s.pos := by
  unfold State.hostAbort
  dsimp only
  generalize hu : ({ s.wr R.HI_ERR_CABORT 1 with
    host := { (s.wr R.HI_ERR_CABORT 1).host with aborts := (s.wr R.HI_ERR_CABORT 1).host.aborts + 1 } } : State) = u
  have hquiet := u.quiet_emit 0x0904 [.w4 off, .w4 cause]
  have hset : u.on R.HI_ERR_CABORT = true := hu ▸ State.on_wr_same s R.HI_ERR_CABORT 1 (by decide)
  refine ⟨Eq.trans (State.SameAbort.emitRaw u _ _) hset, ?_, hquiet.tiles.trans (hu ▸ rfl), hquiet.pos.trans (hu ▸ rfl)⟩
  exact (congrArg (fun u : State => u.host.rdata) hquiet.still).trans (hu ▸ rfl)

/-! ### O15 -/

section
variable (s : State) (who : Agent) (n off len : Nat) (ecc : Ecc) (hw : s.mayReach who = true) (hf : s.fieldOn (tileField n) = true)
include hw hf

/-- A write that its agent may make, into a tile that may be reached. -/
theorem externalAccess_write (b : Bytes) (hh : s.tileHits n off b.length = true) :
    exec (.externalAccess who n off (some b) len ecc) s = .next (s.busWr (tileAddr n off) b) := by
  show execExternalAccess who n off (some b) len ecc s = _
  simp only [execExternalAccess, hw, hf, hh, Bool.not_true, Bool.false_eq_true, if_false]

theorem externalAccess_get (hh : s.tileHits n off len = true) :
    exec (.externalAccess who n off none len ecc) s = .next (s.tileGet n off len ecc) := by
  show execExternalAccess who n off none len ecc s = _
  simp only [execExternalAccess, hw, hf, hh, Bool.not_true, Bool.false_eq_true, if_false]

variable (hr : s.tileReach n = true)
include hr

/-- An external write of a tile's SRAM changes its bytes there and nothing else (R120, R122). -/
theorem externalAccess_sram (b : Bytes) (hn : n < 1152) (hb : b ≠ []) (ho : off + b.length ≤ 0x2800000) :
    exec (.externalAccess who n off (some b) len ecc) s = .next (s.onTile n (fun x => x.sramWr off b)) := by
  have hlt : off < 0x2800000 := by have := List.length_pos_of_ne_nil hb; omega
  have hh : s.tileHits n off b.length = true := by simp only [State.tileHits, hr, decide_eq_true ho, Bool.true_or, Bool.and_true]
  rw [externalAccess_write s who n off len ecc hw hf b hh, s.busWr_sram _ n off b (s.loc_sram n off hn hlt hr)]

/-- An external write of STAT clears its written bits 14 to 10 (R126). -/
theorem externalAccess_stat (v : W32) (hn : n < 1152) :
    exec (.externalAccess who n 0x3000004 (some (leBytes 4 v.toNat)) len ecc) s =
      .next (s.onTile n (fun x => { x with stat := x.stat &&& ~~~ (v &&& 0x7C00) })) := by
  have hh : s.tileHits n 0x3000004 (leBytes 4 v.toNat).length = true := by
    rw [length_leBytes, State.tileHits, hr]
    decide
  rw [externalAccess_write s who n 0x3000004 len ecc hw hf _ hh, s.busWr_treg _ n 4 v (s.loc_treg n 4 hn (by decide) hr)]
  rfl

/-- A read of a tile's SRAM answers up to 8 bytes and marks what it corrects (R120, R122). -/
theorem externalAccess_read (hlen : 0 < len) (ho : off + len ≤ 0x2800000) (hue : (s.tile n).ueIn off len = none) (he : ecc ≠ .double) :
    exec (.externalAccess who n off none len ecc) s =
      .next ((s.eccCe n ecc).answer (some (BitVec.ofNat 64 (leNat ((s.tile n).sram.bytes off (min len 8)))))) := by
  have hh : s.tileHits n off len = true := by simp only [State.tileHits, hr, decide_eq_true ho, Bool.true_or, Bool.and_true]
  have hbad : (s.tile n).sramBad.find? (fun w => decide (8 * w < off + len) && decide (off < 8 * w + 8)) = none :=
    Option.map_eq_none_iff.mp hue
  rw [externalAccess_get s who n off len ecc hw hf hh, State.tileGet, if_neg (by omega)]
  dsimp only
  rw [hbad]
  cases ecc with
  | ok => rfl
  | corrected => rfl
  | double => exact absurd rfl he

end

/-- A read that reaches a gated block is a completer abort to the host (R122, R439). -/
theorem externalAccess_gated (s : State) (n off len : Nat) (ecc : Ecc) (hf : s.fieldOn (tileField n) = false) :
    exec (.externalAccess .host n off none len ecc) s = .next ((s.answer none).hostAbort (0xF00000 + off % 2 ^ 20) 3) := by
  show execExternalAccess .host n off none len ecc s = _
  unfold execExternalAccess
  dsimp only
  rw [hf]
  rfl

/-- Settles O15: each access is a change of one tile, an answer, or a refusal. -/
theorem tileUpkeep : Obligations.TileUpkeep := by
  unfold Obligations.TileUpkeep
  refine ⟨fun s n c => ⟨fun hf hc => ?_, fun h => ?_⟩, fun s who n off hn hw => ⟨fun b ecc hb hf hr ho => ?_, fun v ecc hf hr => ?_,
    fun len ecc hlen hf hr ho hue he => ?_, fun len ecc hf hwho => ?_, fun w len ecc agent ha => ?_⟩, fun s who n v hw hf hr => ⟨fun hi => ?_,
    fun hi => ?_⟩⟩
  · refine ⟨s.onTile n (fun x => { x with stat := x.stat ||| 0x1000 }), ?_, s.elsewhere_onTile n _, s.tile_onTile_same n _⟩
    show execPatrolScrub n c s = _
    simp [execPatrolScrub, hf, hc]
  · show execPatrolScrub n c s = _
    unfold execPatrolScrub
    rcases h with h | h <;> simp [h]
  · refine ⟨_, externalAccess_sram s who n off 0 ecc hw hf hr b hn hb ho, s.elsewhere_onTile n _, fun i hi => ?_, fun i hi => ?_, ?_⟩
    · rw [State.tile_onTile_same, Tile.sramWr, Map.get_store, if_pos (by omega), Nat.add_sub_cancel_left]
    · rw [State.tile_onTile_same, Tile.sramWr, Map.get_store_out _ _ _ _ hi]
    · rw [State.tile_onTile_same]; exact ⟨rfl, rfl, rfl⟩
  · exact ⟨_, externalAccess_stat s who n 0 ecc hw hf hr v hn, s.elsewhere_onTile n _, s.tile_onTile_same n _⟩
  · refine ⟨_, externalAccess_read s who n off len ecc hw hf hr hlen ho hue he, ?_⟩
    have hans : ∀ (u : State) v m, (u.answer v).tile m = u.tile m := fun _ _ _ => rfl
    simp only [hans]
    unfold State.eccCe State.sramCe State.stat
    split
    · exact ⟨rfl, rfl, s.tile_onTile_same n _, fun m hm => s.tile_onTile_other n m _ hm⟩
    · exact ⟨rfl, rfl, rfl, fun _ _ => rfl⟩
  · subst hwho
    obtain ⟨hab, hdata, htiles, hpos⟩ := (s.answer none).hostAbort_leaves (0xF00000 + off % 2 ^ 20) 3
    exact ⟨_, externalAccess_gated s n off len ecc hf, hdata, hab, htiles, hpos⟩
  · show execExternalAccess agent n off w len ecc s = _
    simp [execExternalAccess, ha]
  · refine ⟨s.onTile n (fun x => { x with inj := v &&& 0xFFFF }), ?_, s.elsewhere_onTile n _, s.tile_onTile_same n _⟩
    show execFbTileInj who n v s = _
    simp [execFbTileInj, State.tregWr, hw, hf, hr, hi]
  · show execFbTileInj who n v s = _
    simp [execFbTileInj, State.tregWr, hw, hf, hr, hi]

end Sys2Proof.Machine

/-! SUPPORT. The turns that a timed instruction takes after its issue: the steps of a run and the flits of a SEND or a RECV, one after another,
until what is left waits for a later beat. -/

namespace Sys2Proof.Machine

/-! ### A tile that stands as it was written -/

theorem Map.del_del {α : Type} (m : Map α) (k : Nat) : (m.del k).del k = m.del k := by
  induction m with
  | nil => rfl
  | cons e t ih =>
    obtain ⟨j, x⟩ := e
    by_cases h : j = k <;> simp [Map.del, h, ih]

/-- Writing a tile as it stands changes nothing: so it is once it has been written. -/
def State.atRest (s : State) (n : Nat) : Prop := s.setTile n (s.tile n) = s

theorem State.atRest_setTile (s : State) (n : Nat) (x : Tile) : (s.setTile n x).atRest n := by
  unfold State.atRest
  rw [State.tile_setTile_same]
  unfold State.setTile Map.put
  split
  · simp only [Map.del_del]
  · simp only [Map.ins_ins]

theorem State.atRest_onTile (s : State) (n : Nat) (f : Tile → Tile) : (s.onTile n f).atRest n := s.atRest_setTile n _
theorem State.atRest_onCtx (s : State) (a : Site) (f : Ctx → Ctx) : (s.onCtx a f).atRest a.tile := s.atRest_setTile _ _

theorem State.onTile_eq_self {s : State} {n : Nat} (h : s.atRest n) (f : Tile → Tile) (hf : f (s.tile n) = s.tile n) : s.onTile n f = s := by
  rw [State.onTile, hf]
  exact h

/-- The beat counter stands at the beat already. -/
theorem State.atBeat_eq_self {s : State} {a : Site} (h : s.atRest a.tile) (b : Nat) (hb : (s.ctx a).bc = BitVec.ofNat 64 b) :
    s.atBeat (siteOf a.tile a.side) b = s := by
  rw [State.atBeat, State.onCtx_siteOf]
  refine State.onTile_eq_self h _ ?_
  show (s.tile a.tile).setCtx a.side { s.ctx a with bc := BitVec.ofNat 64 b } = s.tile a.tile
  rw [← hb]
  exact Tile.setCtx_self _ _

/-! ### The one turn of a context -/

/-- A turn that stands alone is due. -/
theorem Ctx.due_single (c : Ctx) (e : Nat × Turn) (h : c.turns = [e]) : c.due = [e] := by simp [Ctx.due, h, leastKey]

theorem Ctx.turns_run (c : Ctx) (r : RunHeld) (h : ({ c with run := none } : Ctx).idle) (hr : c.run = some r) :
    c.turns = [(2 * r.beat, .run r)] := by
  obtain ⟨h1, _, _, h4, h5, h6, _⟩ := h
  dsimp only at h1 h4 h5 h6
  simp [Ctx.turns, hr, h1, h4, h5, h6]

theorem Ctx.turns_send (c : Ctx) (r : MeshHeld) (h : ({ c with send := none } : Ctx).idle) (hr : c.send = some r) :
    c.turns = [(2 * r.beat, .send r)] := by
  obtain ⟨h1, h2, _, _, h5, h6, _⟩ := h
  dsimp only at h1 h2 h5 h6
  simp [Ctx.turns, hr, h1, h2, h5, h6]

theorem Ctx.turns_recv (c : Ctx) (r : MeshHeld) (h : ({ c with recv := none } : Ctx).idle) (hr : c.recv = some r) :
    c.turns = [(2 * r.beat, .recv r)] := by
  obtain ⟨h1, h2, _, h4, _, h6, _⟩ := h
  dsimp only at h1 h2 h4 h6
  simp [Ctx.turns, hr, h1, h2, h4, h6]

theorem Ctx.turns_head (c : Ctx) (q : QIns) (h : ({ c with uq := [] } : Ctx).idle) (hq : c.uq = [q]) : c.turns = [(2 * q.beat, .head q)] := by
  obtain ⟨_, h2, h3, h4, h5, h6, h7⟩ := h
  dsimp only at h2 h3 h4 h5 h6 h7
  have hb : c.busy q.op = false := by cases q.op <;> simp [Ctx.busy, h2, h3, h4, h5, h7]
  simp [Ctx.turns, h2, h4, h5, h6, hq, hb]

section
variable (s : State) (a : Site) (e : Nat × Turn) (hf : (s.ctx a).fill = none) (ht : (s.ctx a).turns = [e])
include hf ht

/-- A context with one turn takes it where it may issue and decode has passed its beat. -/
theorem State.nextTurn_single (hi : s.issues a = true) (hr : s.reached a e.1 = true) : s.nextTurn a = s.turn a e := by
  unfold State.nextTurn State.fillOn
  rw [hi, hf, Ctx.due_single _ e ht]
  simp [hr]

theorem State.nextTurn_unreached (hr : s.reached a e.1 = false) : s.nextTurn a = none := by
  unfold State.nextTurn State.fillOn
  rw [hf, Ctx.due_single _ e ht]
  simp [hr]

end

theorem State.reached_even (s : State) (a : Site) (b : Nat) (hb : s.before (s.fromStart a b) = true) :
    s.reached a (2 * b) = decide (b ≤ (s.ctx a).tc.toNat) := by
  have h0 : 2 * b % 2 = 0 := by omega
  have h1 : 2 * b / 2 = b := by omega
  unfold State.reached
  simp only [h0, h1, hb, if_true, Bool.and_true]

theorem State.reached_late (s : State) (a : Site) (b : Nat) (hb : (s.ctx a).tc.toNat < b) : s.reached a (2 * b) = false := by
  have h0 : 2 * b % 2 = 0 := by omega
  have h1 : 2 * b / 2 = b := by omega
  unfold State.reached
  simp only [h0, h1, if_true, Bool.and_eq_false_iff, decide_eq_false_iff_not]
  exact .inl (by omega)

/-! ### Where a context may issue -/

/-- Nothing but its own state keeps a context from issuing. -/
structure State.Open (s : State) (a : Site) : Prop where
  started : s.fab.started = true
  field : s.fieldOn (tileField a.tile) = true
  stalled : s.on R.FB_STATUS_STALLED = false
  corr : (s.tile a.tile).corr.length ≤ 1

theorem State.canIssue_open {s : State} {a : Site} {w : W64} {dt : BitVec 8} {reads : List (BitVec 5)} (h : s.canIssue a w dt reads) :
    s.Open a := by
  obtain ⟨⟨hr, _⟩, _, hs, hc, _⟩ := h
  unfold State.ready at hr
  simp only [Bool.and_eq_true, Bool.not_eq_true'] at hr
  exact ⟨hs, hr.1.1.2, hr.1.2, hc⟩

theorem State.canGo_open {s : State} {a : Site} (h : s.canGo a) : s.Open a := by
  obtain ⟨hs, _, hf, hm, _, hc, _⟩ := h
  unfold State.moving at hm
  simp only [Bool.and_eq_true, Bool.not_eq_true'] at hm
  exact ⟨hs, hf, hm.2, hc⟩

theorem State.Open.issues {s : State} {a : Site} (h : s.Open a) (hr : (s.ctx a).running = true) (hf : (s.ctx a).fill = none) :
    s.issues (siteOf a.tile a.side) = true := by
  unfold State.issues
  rw [State.ctx_siteOf, h.started, hr, hf]
  simp [siteOf, h.field, h.stalled, h.corr]

theorem State.Onward.open {s t : State} {a : Site} {c : Ctx} (h : s.Onward t a c) (ho : s.Open a) : t.Open a := by
  refine ⟨h.started.trans ho.started, (h.fieldOn _).trans ho.field, ?_, h.corr.symm ▸ ho.corr⟩
  unfold State.on
  rw [h.rd _ (by decide) (by decide)]
  exact ho.stalled

theorem State.Onward.fromStart {s t : State} {a : Site} {c : Ctx} (h : s.Onward t a c) (b : Nat) : t.fromStart a b = s.fromStart a b := by
  unfold State.fromStart
  rw [← h.side0]

/-- A change of the tile that leaves its contexts, its correction path and its START. -/
theorem State.onward_onTile {s t : State} {a : Site} {c : Ctx} (h : s.Onward t a c) (f : Tile → Tile) (hp : ∀ x, (f x).prim = x.prim)
    (hs : ∀ x, (f x).side = x.side) (hc : ∀ x, (f x).corr = x.corr) (h0 : ∀ x, (f x).side0 = x.side0) : s.Onward (t.onTile a.tile f) a c := by
  have hctx : ∀ x d, (f x).ctx d = x.ctx d := fun x d => by cases d; exact hp x; exact hs x
  refine ⟨?_, ?_, ?_, ?_, h.started, h.freezing, h.reg⟩
  · rw [← h.ctx, State.ctx, State.tile_onTile_same, hctx, State.ctx]
  · rw [← h.other, State.tile_onTile_same, hctx]
  · rw [← h.corr, State.tile_onTile_same, hc]
  · rw [← h.side0, State.tile_onTile_same, h0]

theorem State.onward_eccCe {s t : State} {a : Site} {c : Ctx} (h : s.Onward t a c) (e : Ecc) : s.Onward (t.eccCe a.tile e) a c := by
  unfold State.eccCe State.sramCe State.stat
  split
  · exact State.onward_onTile h _ (fun _ => rfl) (fun _ => rfl) (fun _ => rfl) (fun _ => rfl)
  · exact h

theorem State.onward_issued (s : State) (a : Site) (w : W64) (dt : BitVec 8) (hf : tileField a.tile < 48) :
    s.Onward (s.issued a w dt) a { (s.ctx a).fold w with tc := (s.ctx a).target dt, bc := (s.ctx a).target dt } :=
  State.onward_onTile (State.onward_onCtx (s.onward_timedTo a w dt hf) _) _ (fun _ => rfl) (fun _ => rfl) (fun _ => rfl) (fun _ => rfl)

/-! ### From the queue to the issue -/

section
variable (s : State) (a : Site) (w : W64) (dt : BitVec 8) (op : TOp) (ga gs : BitVec 5) (reads : List (BitVec 5)) (h : s.canIssue a w dt reads)
include h

theorem State.canIssue_idle (d : Bool) : ((s.tile a.tile).ctx d).idle := match d with | false => h.2.1.1 | true => h.2.1.2.1

theorem State.canIssue_running : (s.ctx a).running = true := by
  have hr := h.1.1
  unfold State.ready at hr
  simp only [Bool.and_eq_true] at hr
  exact hr.1.1.1.1.2

/-- What leaves the queue at its target beat is issued in the state `issued`. -/
theorem State.waits_issued (hu : op.unit ≠ 0) :
    (((s.waits a w dt op ga gs).atBeat a ((s.ctx a).target dt).toNat).onCtx a (fun c => { c with uq := c.uq.drop 1 })).onTile a.tile
      (fun x => { x with sideBeats := x.sideBeats + b2n (a.side && op.unit != 0) }) = s.issued a w dt := by
  have hX := s.onward_timedTo a w dt (s.field_of_canIssue a _ _ _ h)
  have hXr : ((s.timedTo a w dt).ctx a).running = true := by rw [hX.ctx]; exact s.canIssue_running a w dt reads h
  have hXu : ((s.timedTo a w dt).ctx a).uq = [] := by rw [hX.ctx]; exact (s.canIssue_idle a w dt reads h a.side).1
  have hne : op.unit != 0 := by simpa using hu
  unfold State.issued State.waits State.atBeat State.onCtx
  rw [hne, Bool.and_true]
  generalize s.timedTo a w dt = X at hXr hXu
  unfold State.ctx at hXr hXu
  rw [State.onTile_onTile, State.onTile_onTile, State.onTile_onTile, State.onTile_onTile]
  · unfold State.onTile
    generalize X.tile a.tile = x at hXr hXu ⊢
    dsimp only
    simp only [Tile.ctx_setCtx_same, Tile.setCtx_setCtx, BitVec.ofNat_toNat, BitVec.setWidth_eq]
    cases hside : a.side <;> rw [hside] at hXu <;> simp [Tile.setCtx, Tile.ctx] at hXu ⊢ <;> simp [hXu]
  all_goals
    refine Tile.ne_reset _ a.side ?_
    rw [← hXr]
    simp only [State.tile_onTile_same, Tile.ctx_setCtx_same]

/-- A timed word that waits for nothing does at its turn what its operation does at issue. -/
theorem State.nextTurn_waits (hu : op.unit ≠ 0) :
    (s.waits a w dt op ga gs).nextTurn (siteOf a.tile a.side) =
      (s.issued a w dt).issue (siteOf a.tile a.side)
        ⟨op, (s.ctx a).pc, ((s.ctx a).target dt).toNat, (s.ctx a).gr ga, (s.ctx a).gr gs⟩ := by
  have hf := s.field_of_canIssue a _ _ _ h
  have hV : s.Onward (s.waits a w dt op ga gs) a _ := State.onward_onCtx (s.onward_timedTo a w dt hf) _
  have hfrom := hV.fromStart ((s.ctx a).target dt).toNat
  have hidle := s.canIssue_idle a w dt reads h a.side
  have hiss := (hV.open (State.canIssue_open h)).issues (hV.ctx ▸ s.canIssue_running a w dt reads h) (hV.ctx ▸ hidle.2.2.1)
  have hturns : ((s.waits a w dt op ga gs).ctx a).turns = _ := Ctx.turns_head _
    ⟨op, (s.ctx a).pc, ((s.ctx a).target dt).toNat, (s.ctx a).gr ga, (s.ctx a).gr gs⟩ (by rw [hV.ctx]; exact ⟨rfl, hidle.2⟩) (by rw [hV.ctx])
  have hreach : (s.waits a w dt op ga gs).reached (siteOf a.tile a.side) (2 * ((s.ctx a).target dt).toNat) = true := by
    rw [State.reached_even _ _ _ (by exact (hV.before _).trans (hfrom ▸ h.2.2.2.2)), State.ctx_siteOf, hV.ctx]
    exact decide_eq_true (le_refl _)
  rw [State.nextTurn_single _ (siteOf a.tile a.side) _ (by rw [State.ctx_siteOf, hV.ctx]; exact hidle.2.2.1) hturns hiss hreach]
  unfold State.turn
  dsimp only
  rw [Nat.mul_div_cancel_left _ (by decide)]
  exact congrArg (fun u : State => u.issue (siteOf a.tile a.side) _) (s.waits_issued a w dt op ga gs reads h hu)

/-- What waits in the queue leaves the other context idle, and nothing waits to enter the local port. -/
theorem State.waits_other : (((s.waits a w dt op ga gs).tile a.tile).ctx (!a.side)).idle ∧
    ∀ d, (((s.waits a w dt op ga gs).tile a.tile).ctx d).out = [] := by
  have hV : s.Onward (s.waits a w dt op ga gs) a _ :=
    State.onward_onCtx (s.onward_timedTo a w dt (s.field_of_canIssue a _ _ _ h)) _
  have hother : (((s.waits a w dt op ga gs).tile a.tile).ctx (!a.side)).idle := hV.other ▸ s.canIssue_idle a w dt reads h _
  refine ⟨hother, fun d => ?_⟩
  by_cases hd : d = a.side
  · have hout := congrArg Ctx.out hV.ctx
    rw [hd]
    exact hout.trans (Ctx.out_of_idle (s.ctx a) (s.canIssue_idle a w dt reads h a.side))
  · rw [Bool.eq_not.mpr hd]
    exact Ctx.out_of_idle _ hother

end

/-! ### Turn after turn -/

theorem State.turnsOf_next {s t : State} {a : Site} (h : s.nextTurn a = some t) (n : Nat) : s.turnsOf a (n + 1) = t.turnsOf a n := by
  rw [State.turnsOf, h]

/-- The turns of one context, where the other has none: then what waits enters the local port. -/
theorem State.advance_turns {s t : State} {n : Nat} {side : Bool} (h : s.turnsOf (siteOf n side) turnLimit = t)
    (hs : s.nextTurn (siteOf n (!side)) = none) (hout : ∀ d, ((s.tile n).ctx d).out = []) (ht : t.nextTurn (siteOf n (!side)) = none) :
    s.advance n = ((t.pumpOut (siteOf n false)).pumpOut (siteOf n true)).freezeCheck := by
  have p1 : s.pumpOut (siteOf n false) = s := s.pumpOut_empty _ (hout false)
  have p2 : s.pumpOut (siteOf n true) = s := s.pumpOut_empty _ (hout true)
  unfold State.advance
  simp only [p1, p2]
  cases side
  · rw [h, t.turnsOf_none (siteOf n true) _ ht]
  · rw [s.turnsOf_none (siteOf n false) _ hs, h]

end Sys2Proof.Machine


/-! SUPPORT. What a fault of the sequencer leaves (R164), what an issue leaves of the hand, and the runs of turns that O11, O13 and O58 speak of. -/

namespace Sys2Proof.Machine

/-! ### A fault of the sequencer in either context settles its tile (R164) -/

theorem State.settles_setOutq (s : State) (n : Nat) (r : Ring) (o : OutQ) : s.Settles (s.setOutq r o) n := by
  cases r <;> exact State.settles_of_tiles n rfl rfl

theorem State.settles_msix (s : State) (n v : Nat) : s.Settles (s.msix v) n := by
  unfold State.msix
  split <;> exact State.settles_of_tiles n rfl rfl

theorem State.settles_ringFill (s : State) (n : Nat) (r : Ring) (w k : Nat) (b : Bytes) : s.Settles (s.ringFill r w k b) n := by
  induction k generalizing s b with
  | zero => exact State.Settles.refl s n
  | succ k ih =>
    refine State.Settles.trans ?_ (ih _ _)
    refine State.Settles.trans ?_ (State.settles_setOutq _ n _ _)
    exact State.settles_of_tiles n rfl rfl

theorem State.settles_ringSignal (s : State) (n : Nat) (r : Ring) (k : Nat) : s.Settles (s.ringSignal r k) n := by
  unfold State.ringSignal
  dsimp only
  split
  · exact (s.settles_setOutq n _ _).trans (State.settles_msix _ n _)
  · exact s.settles_setOutq n _ _

theorem State.settles_ite {s t u : State} {n : Nat} (p : Prop) [Decidable p] (ht : s.Settles t n) (hu : s.Settles u n) :
    s.Settles (if p then t else u) n := by
  split
  · exact ht
  · exact hu

theorem State.settles_complete (s : State) (n q : Nat) (cid : BitVec 16) (status detail result : Nat) :
    s.Settles (s.complete q cid status detail result) n := by
  have hset : ∀ (u : State) (x : SubQ), s.Settles u n → s.Settles (u.setSq q x) n := fun _ _ h => h.trans (State.settles_of_tiles n rfl rfl)
  have hring : ∀ (u : State) (o : OutQ) (b : Bytes), s.Settles u n →
      s.Settles (if u.ringOn (.cq q) then ((u.setOutq (.cq q) o).ringFill (.cq q) 16 1 b).ringSignal (.cq q) 1 else u) n := fun u o b h =>
    State.settles_ite _ (((h.trans (u.settles_setOutq n _ o)).trans (State.settles_ringFill _ n _ 16 1 b)).trans
      (State.settles_ringSignal _ n _ 1)) h
  have herr : ∀ u : State, s.Settles u n → s.Settles (if status = 0x43 then u.wr R.HI_ERR_HOST_MEM 1 else u) n := fun u h =>
    State.settles_ite _ (h.trans (State.settles_wr u n R.HI_ERR_HOST_MEM 1)) h
  have hend : ∀ (u : State), s.Settles u n → s.Settles (if (u.sq q).stopping && (u.sq q).started.isEmpty then
      (u.setSq q { u.sq q with stopping := false }).setReg (sqOff q + 0xC)
        ((u.setSq q { u.sq q with stopping := false }).reg (sqOff q + 0xC) &&& 0xFFFFFFFE) else u) n := fun u h =>
    State.settles_ite _ (h.trans (State.settles_of_tiles n rfl rfl)) h
  unfold State.complete
  exact State.settles_ite _ (State.Settles.refl s n) (hend _ (herr _ (hring _ _ _ (hset s _ (State.Settles.refl s n)))))

theorem State.settles_endSide (s : State) (n : Nat) : s.Settles s.endSide n := by
  let halted : Tile → Tile := fun x => { x with side := { x.side.halt with running := false } }
  have h : s.Settles { s with tiles := s.tiles.mapVals Tile.reset halted } n := by
    have ht : ({ s with tiles := s.tiles.mapVals Tile.reset halted } : State).tile n = halted (s.tile n) :=
      Map.get_mapVals s.tiles Tile.reset halted n rfl
    refine ⟨fun d hd => ?_, fun d hd => ?_, fun hf => hf⟩ <;> rw [ht] <;> cases d
    · exact hd
    · exact ⟨rfl, rfl, rfl, rfl, rfl, rfl, rfl⟩
    · exact hd
    · rfl
  unfold State.endSide
  refine h.trans ?_
  dsimp only
  split
  · exact State.Settles.refl _ n
  · exact (State.settles_hand _ n _).trans (State.settles_complete _ n _ _ _ _ _)

/-- After a fault of the sequencer in one context nothing waits in the tile, where the other context is idle. -/
theorem State.calm_seqFault (s : State) (n : Nat) (side : Bool) (fault : Nat) (pc : BitVec 14) (ho : ((s.tile n).ctx (!side)).idle)
    (hf : s.fab.freezing = false) : (s.seqFault n side fault pc).calm n := by
  have hhalt : (s.haltCtx n side).calm n := by
    have hctx : ∀ d, (((s.haltCtx n side).tile n).ctx d).idle := by
      intro d
      rw [State.haltCtx, State.tile_onTile_same]
      by_cases hd : d = side
      · rw [hd, Tile.ctx_setCtx_same]
        exact ⟨rfl, rfl, rfl, rfl, rfl, rfl, rfl⟩
      · rw [Tile.ctx_setCtx_other _ _ _ _ hd, Bool.eq_not.mpr hd]
        exact ho
    exact ⟨hctx false, hctx true, hf⟩
  have hemit := (State.settles_emit _ n 0x0A0A [.w4 n, .w4 (b2n side), .w4 fault, .w4 pc.toNat]).calm hhalt
  unfold State.seqFault
  cases side
  · exact (State.settles_tileStop _ n).calm hemit
  · exact (State.settles_endSide _ n).calm hemit

/-! ### What an issue leaves of the hand -/

/-- The hand but for the counts that an event may change. -/
def Hand.settled (h : Hand) : Hand := { h with ledgerErrs := 0, unwritten := 0 }

/-- The images and the plan are in the part of the hand that events leave. -/
structure State.SameHand (s t : State) : Prop where
  kept : t.hand.settled = s.hand.settled

theorem State.SameHand.refl (s : State) : s.SameHand s := ⟨rfl⟩
theorem State.SameHand.of_hand {s t : State} (h : t.hand = s.hand) : s.SameHand t := ⟨by rw [h]⟩
theorem State.SameHand.trans {s t u : State} (h : s.SameHand t) (g : t.SameHand u) : s.SameHand u := ⟨g.kept.trans h.kept⟩

section
variable {s t : State} (h : s.SameHand t)
include h

theorem State.SameHand.curImage : t.curImage = s.curImage := by
  have hi : t.hand.installed = s.hand.installed := by have := congrArg Hand.installed h.kept; exact this
  have hm : t.hand.images = s.hand.images := by have := congrArg Hand.images h.kept; exact this
  unfold State.curImage
  rw [hi, hm]

theorem State.SameHand.linesOk (side : Bool) (line n : Nat) : t.linesOk side line n = s.linesOk side line n := by
  unfold State.linesOk State.lineBounds
  rw [h.curImage]

theorem State.SameHand.queueMax (side : Bool) : t.queueMax side = s.queueMax side := by
  unfold State.queueMax
  rw [h.curImage]

theorem State.SameHand.drainEnt (n : Nat) : t.drainEnt n = s.drainEnt n := by
  have hp : t.hand.plan = s.hand.plan := by have := congrArg Hand.plan h.kept; exact this
  unfold State.drainEnt State.listEnt
  rw [hp]

end

theorem State.sameHand_emit (s : State) (c : Nat) (l : List Arg) : s.SameHand (s.emit c l) := by
  have h := congrArg (fun u : State => u.hand.settled) (s.quiet_emit c l).still
  exact ⟨h⟩

theorem State.sameHand_slip (s : State) (n k : Nat) : s.SameHand (s.slip n k) := by
  unfold State.slip State.fieldSlip
  dsimp only
  split
  · exact ⟨rfl⟩
  · split
    · refine State.SameHand.trans ?_ (State.sameHand_emit _ _ _)
      exact .of_hand rfl
    · exact .of_hand rfl

theorem State.sameHand_slipOf (s : State) (a : Site) (k : Nat) : s.SameHand (s.slipOf a k) := by
  unfold State.slipOf
  split
  · exact .refl s
  · exact s.sameHand_slip _ k

theorem State.sameHand_of_elsewhere {s t : State} {n : Nat} (h : s.elsewhere t n) : s.SameHand t := by rw [h.1]; exact ⟨rfl⟩

theorem State.sameHand_issued (s : State) (a : Site) (w : W64) (dt : BitVec 8) : s.SameHand (s.issued a w dt) := by
  have hdec := State.sameHand_of_elsewhere (s.elsewhere_decoded a w)
  have hto : s.SameHand (s.timedTo a w dt) := by
    unfold State.timedTo
    dsimp only
    split
    · refine State.SameHand.trans ?_ (State.sameHand_slipOf _ _ _)
      exact hdec.trans (.of_hand rfl)
    · exact hdec.trans (.of_hand rfl)
  exact hto.trans (.of_hand rfl)

end Sys2Proof.Machine


/-! PROOF. A step whose format differs from that of its buffer (O58); and how a run begins, for O11. -/

namespace Sys2Proof.Machine

/-! ### The turns after an issue -/

/-- A timed instruction issues, and the turns that its issue makes possible are taken. -/
theorem State.timed_turns {s u t : State} {a : Site} {w : W64} {dt : BitVec 8} {op : TOp} {ga gs : BitVec 5} {reads : List (BitVec 5)}
    (h : s.canIssue a w dt reads) (hu : op.unit ≠ 0)
    (hi : (s.issued a w dt).issue (siteOf a.tile a.side)
      ⟨op, (s.ctx a).pc, ((s.ctx a).target dt).toNat, (s.ctx a).gr ga, (s.ctx a).gr gs⟩ = some u)
    (ht : u.turnsOf (siteOf a.tile a.side) 99999 = t) (ho : t.nextTurn (siteOf a.tile (!a.side)) = none) :
    (s.timed a w dt op ga gs reads).advance a.tile =
      ((t.pumpOut (siteOf a.tile false)).pumpOut (siteOf a.tile true)).freezeCheck := by
  obtain ⟨hother, hout⟩ := s.waits_other a w dt op ga gs reads h
  rw [s.timed_waits a w dt op ga gs reads h.1 (s.canIssue_idle a w dt reads h a.side)]
  refine State.advance_turns (side := a.side) ?_ (State.nextTurn_idle _ _ hother) hout ho
  rw [← ht]
  exact State.turnsOf_next ((s.nextTurn_waits a w dt op ga gs reads h hu).trans hi) 99999

/-- Nothing waits before the local port, and no freeze is near. -/
theorem State.pumps_nothing (t : State) (n : Nat) (hout : ∀ d, ((t.tile n).ctx d).out = []) (hf : t.fab.freezing = false) :
    ((t.pumpOut (siteOf n false)).pumpOut (siteOf n true)).freezeCheck = t := by
  rw [t.pumpOut_empty (siteOf n false) (hout false), t.pumpOut_empty (siteOf n true) (hout true), t.freezeCheck_off hf]

/-- What the one turn of a context does, in a state that an issue has reached and that stands at the turn's beat. -/
theorem State.Onward.nextTurn {s t : State} {a : Site} {c : Ctx} (h : s.Onward t a c) (ho : s.Open a) (hr : c.running = true)
    (hf : c.fill = none) {b : Nat} {e : Turn} (ht : c.turns = [(2 * b, e)]) (hb : b ≤ c.tc.toNat)
    (hn : s.before (s.fromStart a b) = true) : t.nextTurn (siteOf a.tile a.side) = t.turn (siteOf a.tile a.side) (2 * b, e) := by
  have hreach : t.reached (siteOf a.tile a.side) (2 * b) = true := by
    rw [State.reached_even t (siteOf a.tile a.side) b ((h.before _).trans ((congrArg s.before (h.fromStart b)).trans hn)), State.ctx_siteOf, h.ctx]
    exact decide_eq_true hb
  have hc : t.ctx (siteOf a.tile a.side) = c := h.ctx
  exact t.nextTurn_single _ _ (by rw [hc, hf]) (by rw [hc, ht]) ((h.open ho).issues (h.ctx ▸ hr) (h.ctx ▸ hf)) hreach

/-! ### How a run begins (R152, R157) -/

/-- The state in which a run is under way that has been issued in `u`. -/
def State.runs (u : State) (a : Site) (f : MRunF) (ecc buf : Ecc) (h : RunHeld) : State :=
  (((u.onTile a.tile (fun x => if a.side then { x with sideBeats := x.sideBeats + f.nm1.toNat } else x)).eccCe a.tile ecc).eccCe a.tile buf).onCtx a
    (fun c => { c with run := some h })

/-- The first step of a run, as its issue sets it up. -/
def State.firstStep (s : State) (a : Site) (f : MRunF) (ups : List (Nat × Upset)) : RunHeld :=
  ⟨f, (s.ctx a).pc, 0, ((s.ctx a).target f.dt).toNat, ((s.ctx a).gr f.ga).toNat, ((s.ctx a).gr f.gs).toNat, ups, false⟩

section
variable (s : State) (a : Site) (f : MRunF) (ecc buf : Ecc) (ups : List (Nat × Upset))
  (h : s.canIssue a (wordOf 1 1 (mrunLow f)) f.dt [f.ga, f.gs])
include h

theorem State.onward_runs (r : RunHeld) : s.Onward ((s.issued a (wordOf 1 1 (mrunLow f)) f.dt).runs a f ecc buf r) a
    { (s.ctx a).fold (wordOf 1 1 (mrunLow f)) with tc := (s.ctx a).target f.dt, bc := (s.ctx a).target f.dt, run := some r } := by
  have hu := s.onward_issued a (wordOf 1 1 (mrunLow f)) f.dt (s.field_of_canIssue a _ _ _ h)
  refine State.onward_onCtx (State.onward_eccCe (State.onward_eccCe (State.onward_onTile hu _ ?_ ?_ ?_ ?_) _) _) _ <;>
    · intro x
      cases a.side <;> rfl

/-- The window of the primary, as MRUN reads it at its issue. -/
theorem State.issued_window (hw : a.side = true ∨ (s.tile a.tile).prim.window = false) :
    (!a.side && ((s.issued a (wordOf 1 1 (mrunLow f)) f.dt).ctx a).window) = false := by
  rw [s.issued_ctx a _ _ (s.field_of_canIssue a _ _ _ h)]
  show (!a.side && ((s.tile a.tile).ctx a.side).window) = false
  rcases hw with hw | hw
  · rw [hw]; rfl
  · cases a.side
    · exact hw
    · rfl

theorem State.mrun_runs (hw : a.side = true ∨ (s.tile a.tile).prim.window = false) (hb : f.bub = 0) (he : ecc ≠ .double) (hbuf : buf ≠ .double)
    (hl : ∀ i, i ≤ f.nm1.toNat → s.linesOk a.side (runLine ((s.ctx a).gr f.ga).toNat ((s.ctx a).gr f.gs).toNat i) (recordLines f.fmt) = true) :
    (s.issued a (wordOf 1 1 (mrunLow f)) f.dt).issue (siteOf a.tile a.side)
      ⟨.mrun f ecc buf ups, (s.ctx a).pc, ((s.ctx a).target f.dt).toNat, (s.ctx a).gr f.ga, (s.ctx a).gr f.gs⟩ =
        some ((s.issued a (wordOf 1 1 (mrunLow f)) f.dt).runs a f ecc buf (s.firstStep a f ups)) := by
  have hin := s.issued_window a f h hw
  have hsame := s.sameHand_issued a (wordOf 1 1 (mrunLow f)) f.dt
  have hbub : f.bub ≠ 1 := by rw [hb]; decide
  generalize s.issued a (wordOf 1 1 (mrunLow f)) f.dt = u at hin hsame ⊢
  have hlines : (List.range (f.nm1.toNat + 1)).all (fun i =>
      (u.onTile a.tile (fun x => if a.side then { x with sideBeats := x.sideBeats + f.nm1.toNat } else x)).linesOk a.side
        (runLine ((s.ctx a).gr f.ga).toNat ((s.ctx a).gr f.gs).toNat i) (recordLines f.fmt)) = true := by
    rw [List.all_eq_true]
    intro i hi
    refine (State.SameHand.linesOk (hsame.trans (.of_hand rfl)) _ _ _).trans ?_
    exact hl i (Nat.lt_succ_iff.mp (List.mem_range.mp hi))
  exact congrArg some ((if_neg (ne_true_of_eq_false hin)).trans ((if_neg hbub).trans ((if_neg (ne_true_of_eq_false (congrArg not hlines))).trans
    ((if_neg he).trans (if_neg hbuf)))))

end

/-- The step that is held or due in a run that its issue has set up. -/
theorem State.nextTurn_runs (s : State) (a : Site) (f : MRunF) (ecc buf : Ecc) (ups : List (Nat × Upset))
    (h : s.canIssue a (wordOf 1 1 (mrunLow f)) f.dt [f.ga, f.gs]) :
    ((s.issued a (wordOf 1 1 (mrunLow f)) f.dt).runs a f ecc buf (s.firstStep a f ups)).nextTurn (siteOf a.tile a.side) =
      ((s.issued a (wordOf 1 1 (mrunLow f)) f.dt).runs a f ecc buf (s.firstStep a f ups)).runStep (siteOf a.tile a.side)
        (s.firstStep a f ups) := by
  have hX := s.onward_runs a f ecc buf h (s.firstStep a f ups)
  have hidle := s.canIssue_idle a _ _ _ h a.side
  have hrest : ((s.issued a (wordOf 1 1 (mrunLow f)) f.dt).runs a f ecc buf (s.firstStep a f ups)).atRest a.tile := State.atRest_onCtx _ _ _
  rw [hX.nextTurn (State.canIssue_open h) (s.canIssue_running a _ _ _ h) hidle.2.2.1
    (Ctx.turns_run _ _ ⟨hidle.1, rfl, hidle.2.2⟩ rfl) (le_refl _) h.2.2.2.2]
  unfold State.turn
  dsimp only
  rw [Nat.mul_div_cancel_left _ (by decide), State.atBeat_eq_self hrest]
  rw [hX.ctx]
  exact BitVec.eq_of_toNat_eq (by simp [State.firstStep])

/-- Neither context of the tile fills a buffer. -/
theorem Tile.filling_none (x : Tile) (b : BitVec 1) (hp : x.prim.fill = none) (hs : x.side.fill = none) : x.filling b = false := by
  simp [Tile.filling, hp, hs]

theorem State.tile_eccCe (s : State) (n : Nat) (e : Ecc) : ∃ st, (s.eccCe n e).tile n = { s.tile n with stat := st } := by
  unfold State.eccCe State.sramCe State.stat
  split
  · exact ⟨_, s.tile_onTile_same n _⟩
  · exact ⟨_, rfl⟩

/-- What the set-up of a run leaves of its tile. -/
theorem State.tile_runs (u : State) (a : Site) (f : MRunF) (ecc buf : Ecc) (r : RunHeld) :
    ∃ st sb, (u.runs a f ecc buf r).tile a.tile =
      ((u.tile a.tile).marked st (u.tile a.tile).slip sb).setCtx a.side { u.ctx a with run := some r } := by
  obtain ⟨st1, h1⟩ := State.tile_eccCe (u.onTile a.tile
    (fun x => if a.side then { x with sideBeats := x.sideBeats + f.nm1.toNat } else x)) a.tile ecc
  obtain ⟨st2, h2⟩ := State.tile_eccCe ((u.onTile a.tile
    (fun x => if a.side then { x with sideBeats := x.sideBeats + f.nm1.toNat } else x)).eccCe a.tile ecc) a.tile buf
  refine ⟨st2, (u.tile a.tile).sideBeats + (if a.side then f.nm1.toNat else 0), ?_⟩
  rw [State.runs, State.onCtx, State.tile_onTile_same, h2, h1, State.tile_onTile_same, State.ctx]
  cases a.side <;> rfl

/-- The first step meets a buffer of another format. -/
theorem State.runStep_format (s : State) (a : Site) (r : RunHeld) (hside : ((s.tile a.tile).buf r.f.buf).side = a.side)
    (hfill : (s.tile a.tile).filling r.f.buf = false) (hfmt : ((s.tile a.tile).buf r.f.buf).fmt ≠ some r.f.fmt) :
    s.runStep a r = some (s.seqFault a.tile a.side 1 r.pc) := by
  unfold State.runStep
  dsimp only
  rw [if_neg (by rw [hside]; simp), if_neg (by rw [hfill]; decide), if_pos hfmt]

/-- Settles O58: the run is set up, and its first step finds the format before any upset could meet it. -/
theorem formatMismatch : Obligations.FormatMismatch := by
  intro s a f ups h hb hw line stride hl hside hfmt
  have hX := s.onward_runs a f .ok .ok h (s.firstStep a f ups)
  obtain ⟨st, sl, sb, hu⟩ := s.issued_tile a (wordOf 1 1 (mrunLow f)) f.dt (s.field_of_canIssue a _ _ _ h)
  obtain ⟨st', sb', hT⟩ := (s.issued a (wordOf 1 1 (mrunLow f)) f.dt).tile_runs a f .ok .ok (s.firstStep a f ups)
  have hnext := s.nextTurn_runs a f .ok .ok ups h
  have hother : (((s.issued a (wordOf 1 1 (mrunLow f)) f.dt).runs a f .ok .ok (s.firstStep a f ups)).tile a.tile |>.ctx (!a.side)).idle :=
    hX.other ▸ s.canIssue_idle a _ _ _ h _
  have hfree := hX.freezing.trans h.2.1.2.2
  have hfill : ∀ d, ((((s.issued a (wordOf 1 1 (mrunLow f)) f.dt).runs a f .ok .ok (s.firstStep a f ups)).tile a.tile).ctx d).fill = none := by
    intro d
    by_cases hd : d = a.side
    · rw [hd]
      exact (congrArg Ctx.fill hX.ctx).trans (s.canIssue_idle a _ _ _ h a.side).2.2.1
    · rw [Bool.eq_not.mpr hd]
      exact hother.2.2.1
  have hbuf : (((s.issued a (wordOf 1 1 (mrunLow f)) f.dt).runs a f .ok .ok (s.firstStep a f ups)).tile a.tile).buf f.buf =
      (s.tile a.tile).buf f.buf := by
    rw [hT, hu]
    cases a.side <;> rfl
  generalize hTe : (s.issued a (wordOf 1 1 (mrunLow f)) f.dt).runs a f .ok .ok (s.firstStep a f ups) = T at *
  have hstep := T.runStep_format (siteOf a.tile a.side) (s.firstStep a f ups) (hbuf ▸ hside)
    (Tile.filling_none _ _ (hfill false) (hfill true)) (hbuf ▸ hfmt)
  have hcalm := T.calm_seqFault a.tile a.side 1 (s.ctx a).pc hother hfree
  have hidle : ∀ d, (((T.seqFault a.tile a.side 1 (s.ctx a).pc).tile a.tile).ctx d).idle := fun d => by
    cases d
    · exact hcalm.1
    · exact hcalm.2.1
  have hturns : T.turnsOf (siteOf a.tile a.side) 99999 = T.seqFault a.tile a.side 1 (s.ctx a).pc := by
    rw [State.turnsOf_next (hnext.trans hstep) 99998]
    exact State.turnsOf_none _ _ _ (State.nextTurn_idle _ _ (hidle a.side))
  have hissue := hTe ▸ s.mrun_runs a f .ok .ok ups h hw hb (by decide) (by decide) hl
  show Host.Outcome.next _ = _
  rw [State.timed_turns h (by simp [TOp.unit]) hissue hturns (State.nextTurn_idle _ _ (hidle _)),
    State.pumps_nothing _ _ (fun d => Ctx.out_of_idle _ (hidle d)) hcalm.2.2, ← hTe]
  rfl

end Sys2Proof.Machine


/-! SUPPORT. What one step of a run leaves (R78 to R94), for O11. -/

namespace Sys2Proof.Machine

theorem Map.find?_ins_same {α : Type} (m : Map α) (k : Nat) (v : α) : (m.ins k v).find? k = some v := by
  induction m with
  | nil => simp [Map.ins, Map.find?]
  | cons e m ih =>
    obtain ⟨j, x⟩ := e
    by_cases h : k < j
    · simp [Map.ins, Map.find?, h]
    · by_cases g : j = k <;> simp [Map.ins, Map.find?, h, g, ih]

theorem Map.find?_ins_other {α : Type} (m : Map α) (k j : Nat) (v : α) (hj : j ≠ k) : (m.ins k v).find? j = m.find? j := by
  induction m with
  | nil => simp [Map.ins, Map.find?, Ne.symm hj]
  | cons e m ih =>
    obtain ⟨i, x⟩ := e
    by_cases h : k < i
    · simp [Map.ins, Map.find?, h, Ne.symm hj]
    · by_cases g : i = k
      · simp [Map.ins, Map.find?, g, Ne.symm hj]
      · rw [Map.ins, if_neg h, if_neg g, Map.find?, Map.find?, ih]

/-! ### Injections that are not armed (R128) -/

theorem Tile.inject_none (x : Tile) (k : Nat) (h : (x.inject k).1 = none) : x.inject k = (none, x) := by
  unfold Tile.inject at h ⊢
  dsimp only at h ⊢
  split
  · next hc => rw [if_pos hc] at h; cases h
  · rfl

/-- Nothing meets a broadcast. -/
theorem Tile.hits_clean (x : Tile) (replay : Bool) (h0 : (x.inject 0).1 = none) (h1 : (x.inject 1).1 = none) : x.hits [] replay = ([], x) := by
  unfold Tile.hits
  rw [x.inject_none 0 h0]
  dsimp only
  rw [x.inject_none 1 h1]
  rfl

/-! ### One step -/

/-- The parts of a tile that a step writes for itself: the marks of the buffers in use, what a replay would need, and counts. -/
structure StepMarks where
  useA : Nat
  useB : Nat
  opHist : List Bytes
  stepHist : List StepRec
  mtxBeats : Nat
  unchk : W32
  slip : W32

/-- A tile after a step whose entry `n` becomes `e`. -/
def Tile.stepped (x : Tile) (k : StepMarks) (n : Nat) (e : Acc) : Tile :=
  { x with useA := k.useA, useB := k.useB, opHist := k.opHist, stepHist := k.stepHist, mtxBeats := k.mtxBeats, unchk := k.unchk, slip := k.slip,
           acc := x.acc.ins n e }

theorem Tile.accOf_stepped_same (x : Tile) (k : StepMarks) (n : Nat) (e : Acc) : (x.stepped k n e).accOf n = e := by
  unfold Tile.accOf Tile.stepped
  rw [Map.find?_ins_same]

theorem Tile.accOf_stepped_other (x : Tile) (k : StepMarks) (n m : Nat) (e : Acc) (h : m ≠ n) : (x.stepped k n e).accOf m = x.accOf m := by
  unfold Tile.accOf Tile.stepped
  dsimp only
  rw [Map.find?_ins_other _ _ _ _ h]

/-- A step enters its entry and the record of the last four (R97, R100). -/
def Tile.noteStep (n : Nat) (before e : Acc) (o : StepOut) (y : Tile) : Tile :=
  let hist := y.stepHist ++ [⟨n, before, o.p, o.q, o.mu⟩]
  { y with acc := y.acc.ins n e, stepHist := hist.drop (hist.length - 4) }

/-- The compare of a step finds no mismatch: what was broadcast stands, and a step that is not checked is counted. -/
theorem State.settleStep_agrees (s : State) (t : Nat) (side : Bool) (f : MRunF) (before : Acc) (ops : List FV) (i beat k : Nat) (o : StepOut)
    (h : compareStep (s.tile t) ((s.tile t).buf f.buf)
      (before.step (f.first == 1) ((s.tile t).buf f.buf).mask (s.tile t).standin.isSome o) ≠ some true) :
    ∃ r c, s.settleStep t side f before ops i [] beat (k + 1) o false = (r, some (o, false)) ∧ s.elsewhere r t ∧
      r.tile t = { s.tile t with unchk := c } := by
  unfold State.settleStep
  dsimp only
  split
  · next hc => exact absurd hc h
  · exact ⟨_, (s.tile t).unchk, rfl, s.elsewhere_refl t, rfl⟩
  · exact ⟨s.onTile t (fun y => { y with unchk := satAdd y.unchk 1 }), satAdd (s.tile t).unchk 1, rfl, s.elsewhere_onTile t _,
      s.tile_onTile_same t _⟩

/-- A step with no mismatch that nothing meets: its entry is written, then drained where LAST says so. -/
theorem State.bstep_agrees (s : State) (t : Nat) (side : Bool) (f : MRunF) (n beat : Nat) (ops : List FV)
    (h0 : ((s.tile t).inject 0).1 = none) (h1 : ((s.tile t).inject 1).1 = none)
    (h : compareStep (s.tile t) ((s.tile t).buf f.buf) (((s.tile t).accOf n).step (f.first == 1) ((s.tile t).buf f.buf).mask
      (s.tile t).standin.isSome (stepOut ((s.tile t).buf f.buf) ops s.free (s.tile t).standin [])) ≠ some true) :
    ∃ p k, s.elsewhere p t ∧ p.tile t = (s.tile t).stepped k n (((s.tile t).accOf n).step (f.first == 1) ((s.tile t).buf f.buf).mask
        (s.tile t).standin.isSome (stepOut ((s.tile t).buf f.buf) ops s.free (s.tile t).standin [])) ∧
      s.bstep t side f n beat ops [] false =
        (if f.last == 1 then p.drain t side f ((s.tile t).buf f.buf) n (((s.tile t).accOf n).step (f.first == 1) ((s.tile t).buf f.buf).mask
          (s.tile t).standin.isSome (stepOut ((s.tile t).buf f.buf) ops s.free (s.tile t).standin [])) ((s.tile t).now side beat) else p,
          true, false) := by
  generalize hx : s.tile t = x at h0 h1 h ⊢
  generalize he : (x.accOf n).step (f.first == 1) (x.buf f.buf).mask x.standin.isSome (stepOut (x.buf f.buf) ops s.free x.standin []) = e at h ⊢
  have hhits : (({ s with free := s.free + 1024 } : State).tile t).hits [] false = ([], x) := by
    show (s.tile t).hits [] false = _
    rw [hx, x.hits_clean false h0 h1]
  have hq0 := s.elsewhere_setTile t x
  unfold State.bstep
  dsimp only
  rw [hhits]
  dsimp only
  rw [State.tile_setTile_same]
  generalize hy : ({ x with mtxBeats := x.mtxBeats + b2n (!side) } : Tile) = y
  generalize hq : ({ s with free := s.free + 1024 } : State).setTile t y = q
  have hqe : s.elsewhere q t := hq ▸ State.elsewhere_trans (s.elsewhere_free t _) (State.elsewhere_setTile _ t _)
  have hqt : q.tile t = y := hq ▸ State.tile_setTile_same _ t _
  have hbuf : y.buf f.buf = x.buf f.buf := hy ▸ rfl
  have hacc : y.accOf n = x.accOf n := hy ▸ rfl
  have hsin : y.standin = x.standin := hy ▸ rfl
  have hcmp : ∀ w a, compareStep y w a = compareStep x w a := fun _ _ => hy ▸ rfl
  have hnow : ∀ b, y.now side b = x.now side b := fun _ => hy ▸ rfl
  simp only [hbuf, hacc, hsin, he, hcmp, Bool.false_or, beq_eq_false_iff_ne.mpr h, Bool.and_false, Bool.false_eq_true, if_false]
  have hset := q.settleStep_agrees t side f (x.accOf n) ops s.free beat 5 (stepOut (x.buf f.buf) ops s.free x.standin [])
    (by rw [hqt, hbuf, hsin, hcmp, he]; exact h)
  obtain ⟨r, c, hr, hre, hrt⟩ := hset
  rw [hqt] at hrt
  have hrs : (r.tile t).standin = x.standin := by rw [hrt, ← hsin]
  simp only [hr, hrs, he]
  generalize hm : (if (f.last == 1 && f.dst == 1) = true then Option.map (fun e => (e, y.cursor e)) (q.drainEnt t) else none) = mesh
  generalize stepOut (x.buf f.buf) ops s.free x.standin [] = o
  have htile : (r.onTile t (Tile.noteStep n (x.accOf n) e o)).tile t =
      x.stepped ⟨x.useA, x.useB, x.opHist, (y.noteStep n (x.accOf n) e o).stepHist, y.mtxBeats, c, x.slip⟩ n e := by
    rw [State.tile_onTile_same, hrt, ← hy]
    rfl
  refine ⟨r.onTile t (Tile.noteStep n (x.accOf n) e o), _,
    State.elsewhere_trans (State.elsewhere_trans hqe hre) (State.elsewhere_onTile _ t _), htile, ?_⟩
  have hnow' : ((r.onTile t (Tile.noteStep n (x.accOf n) e o)).tile t).now side beat = x.now side beat := by rw [htile]; rfl
  rw [← hnow']
  cases mesh <;> rfl

/-- A tile whose buffer is in use by a step until beat `till`, with its operand kept for a replay (R84, R100). -/
def Tile.noteOperand (b : BitVec 1) (till : Nat) (data : Bytes) (y : Tile) : Tile :=
  let hist := y.opHist ++ [data]
  { y with
    useA := if b = 0 then till else y.useA
    useB := if b = 0 then y.useB else till
    opHist := hist.drop (hist.length - 9) }

/-- The entry that a step makes of the one before, with the draws from `i` on. -/
def Tile.stepEntry (x : Tile) (f : MRunF) (n base i : Nat) : Acc :=
  (x.accOf n).step (f.first == 1) (x.buf f.buf).mask x.standin.isSome
    (stepOut (x.buf f.buf) (chunkVals f.fmt (x.sram.bytes base (rowBytes f.fmt))) i x.standin [])

/-- What lets step `r` of a run go on in a tile: the buffer's owner and format, the entry's mask, the operand, and a compare with no mismatch. -/
structure Tile.StepOk (x : Tile) (side : Bool) (r : RunHeld) : Prop where
  owner : (x.buf r.f.buf).side = side
  filling : x.filling r.f.buf = false
  fmt : (x.buf r.f.buf).fmt = some r.f.fmt
  mask : r.f.first = 1 ∨ (x.accOf (64 * r.f.bank.toNat + r.f.entry.toNat + r.step)).mask.getD (x.buf r.f.buf).mask = (x.buf r.f.buf).mask
  operand : x.ueIn (64 * runLine r.line r.stride r.step) (rowBytes r.f.fmt) = none
  lanes : (x.inject 0).1 = none
  checker : (x.inject 1).1 = none

/-- The step issues: where it needs a queue entry it waits for `v`, and then its entry is written and drained. -/
theorem State.runStep_accumulates (s : State) (a : Site) (r : RunHeld) (h : (s.tile a.tile).StepOk a.side r) (hups : r.ups = [])
    (hagain : r.again = false) {u : State} {v : Nat}
    (hslot : r.f.last = 1 → r.f.dst = 0 → (s.tile a.tile).slotAt a.side (s.queueMax a.side) ((s.tile a.tile).now a.side r.beat) = some v)
    (hu : u = if r.f.last == 1 && r.f.dst == 0 then s.slipOf a (v - (s.tile a.tile).now a.side r.beat) else s)
    (hut : ∃ sl, u.tile a.tile = { s.tile a.tile with slip := sl }) {e : Acc}
    (he : e = (s.tile a.tile).stepEntry r.f (64 * r.f.bank.toNat + r.f.entry.toNat + r.step) (64 * runLine r.line r.stride r.step) u.free)
    (hc : compareStep (s.tile a.tile) ((s.tile a.tile).buf r.f.buf) e ≠ some true) :
    ∃ p k, u.elsewhere p a.tile ∧
      p.tile a.tile = (s.tile a.tile).stepped k (64 * r.f.bank.toNat + r.f.entry.toNat + r.step) e ∧
      s.runStep a r = some ((if r.f.last == 1 then p.drain a.tile a.side r.f ((s.tile a.tile).buf r.f.buf)
          (64 * r.f.bank.toNat + r.f.entry.toNat + r.step) e ((u.tile a.tile).now a.side r.beat) else p).onCtx a (fun c =>
        { c with run := if r.f.nm1.toNat ≤ r.step then none
            else some { r with step := r.step + 1, beat := r.beat + 1, again := false } })) := by
  obtain ⟨sl, hsl⟩ := hut
  unfold State.runStep
  dsimp only
  rw [if_neg (by simp [h.owner]), if_neg (by simp [h.filling]), if_neg (by simp [h.fmt])]
  rw [if_neg (by
    rintro ⟨h0, hm⟩
    rcases h.mask with h1 | h1
    · rw [h1] at h0; exact absurd h0 (by decide)
    · exact hm h1)]
  have hstate : (if (r.f.last == 1 && r.f.dst == 0) = true then s.slipOf a (((s.tile a.tile).slotAt a.side (s.queueMax a.side)
      ((s.tile a.tile).now a.side r.beat)).getD 0 - (s.tile a.tile).now a.side r.beat) else s) = u := by
    rw [hu]
    split
    · next hq =>
      simp only [Bool.and_eq_true, beq_iff_eq] at hq
      rw [hslot hq.1 hq.2]
      rfl
    · rfl
  rw [if_neg (by
    simp only [Bool.and_eq_true, beq_iff_eq]
    rintro ⟨⟨h1, h2⟩, h3⟩
    rw [hslot h1 h2] at h3
    cases h3), hstate, h.operand, hups, hagain]
  dsimp only
  generalize hq : u.onTile a.tile _ = q
  have hqe : u.elsewhere q a.tile := hq ▸ u.elsewhere_onTile a.tile _
  have hqf : q.free = u.free := hq ▸ rfl
  have hqt : q.tile a.tile = (({ s.tile a.tile with slip := sl } : Tile).noteOperand r.f.buf
      (({ s.tile a.tile with slip := sl } : Tile).now a.side r.beat + 3)
      ((s.tile a.tile).sram.bytes (64 * runLine r.line r.stride r.step) (rowBytes r.f.fmt))) := by
    rw [← hq, State.tile_onTile_same, hsl]
    rfl
  have hqb : (q.tile a.tile).buf r.f.buf = (s.tile a.tile).buf r.f.buf := by rw [hqt]; rfl
  have hqs : (q.tile a.tile).standin = (s.tile a.tile).standin := by rw [hqt]; rfl
  have hqa : ∀ n, (q.tile a.tile).accOf n = (s.tile a.tile).accOf n := fun _ => by rw [hqt]; rfl
  have hqc : ∀ w b, compareStep (q.tile a.tile) w b = compareStep (s.tile a.tile) w b := fun _ _ => by rw [hqt]; rfl
  have hqn : (q.tile a.tile).now a.side r.beat = (u.tile a.tile).now a.side r.beat := by rw [hqt, hsl]; rfl
  have hqi : ∀ k, ((q.tile a.tile).inject k).1 = ((s.tile a.tile).inject k).1 := fun k => Tile.inject_congr _ _ k (by rw [hqt]; rfl)
  have hb := q.bstep_agrees a.tile a.side r.f (64 * r.f.bank.toNat + r.f.entry.toNat + r.step) r.beat
    (chunkVals r.f.fmt ((s.tile a.tile).sram.bytes (64 * runLine r.line r.stride r.step) (rowBytes r.f.fmt)))
    (by rw [hqi, h.lanes]) (by rw [hqi, h.checker])
  simp only [hqb, hqs, hqa, hqc, hqn, hqf] at hb
  obtain ⟨p, k, hpe, hpt, hbs⟩ := hb (by rw [he] at hc; exact hc)
  refine ⟨p, k, State.elsewhere_trans hqe hpe, ?_, ?_⟩
  · rw [hpt, hqt, he]
    rfl
  · rw [List.filter_nil, List.map_nil, hbs, he]
    rfl

/-! ### The drain of a LAST step (R91, R94) -/

/-- A tile after a drain: what it added to the queue, the cursors, and what waits to enter the local port. -/
def Tile.drained (x : Tile) (q : List QEnt) (c : Map Cursor) (o : List Flit) : Tile :=
  { x with queue := x.queue ++ q, cursors := c, prim := { x.prim with out := o } }

/-- The header of a drain through a list entry (R290). -/
structure DrainHdr (h : CHdr) (x : Tile) (le : ListEnt) (f : MRunF) (w : WBuf) : Prop where
  typ : h.typ = 3
  count : h.count = 128
  pot : h.pot = BitVec.ofNat 32 le.pot
  start : h.start = BitVec.ofNat 64 (x.cursor le).cur
  mask : h.mask = drainMask w (f.zfill == 1)

theorem State.contribute_tile (s : State) (n : Nat) (le : ListEnt) (f : MRunF) (w : WBuf) (e : Acc) :
    ∃ h : CHdr, DrainHdr h (s.tile n) le f w ∧
      s.contribute n le 3 128 false (drainMask w (f.zfill == 1)) (drainBytes w e) =
        s.setTile n ((s.tile n).drained [] ((s.tile n).cursors.ins le.gl (((s.tile n).cursor le).step le 128))
          ((s.tile n).prim.out ++ pktFlits (mkPkt h (drainBytes w e)))) := by
  have hc : ∃ h : CHdr, s.contribute n le 3 128 false (drainMask w (f.zfill == 1)) (drainBytes w e) = s.setTile n { s.tile n with
      cursors := (s.tile n).cursors.ins le.gl (((s.tile n).cursor le).step le 128)
      prim := { (s.tile n).prim with out := (s.tile n).prim.out ++ pktFlits (mkPkt h (drainBytes w e)) } } ∧
      DrainHdr h (s.tile n) le f w := ⟨_, rfl, rfl, rfl, rfl, rfl, rfl⟩
  obtain ⟨h, he, hh⟩ := hc
  refine ⟨h, hh, ?_⟩
  rw [he, Tile.drained, List.append_nil]

/-- What the end of a step adds to its tile: a queue entry, a contribution, or nothing. -/
theorem State.drainLast (p : State) (t : Nat) (side : Bool) (f : MRunF) (w : WBuf) (n : Nat) (e : Acc) (now : Nat) {d : State}
    (hd : d = if f.last == 1 then p.drain t side f w n e now else p) :
    ∃ c o, p.elsewhere d t ∧
      d.tile t = (p.tile t).drained (if f.last = 1 ∧ f.dst = 0 then [⟨drainVals w e, w.mask, f.zfill == 1, side, n, now + 9⟩] else []) c o ∧
      (f.last = 0 ∨ f.dst = 0 ∨ p.drainEnt t = none → o = (p.tile t).prim.out) ∧
      (∀ le, f.last = 1 → f.dst = 1 → p.drainEnt t = some le → c.find? le.gl = some (((p.tile t).cursor le).step le 128) ∧
        ∃ h : CHdr, DrainHdr h (p.tile t) le f w ∧ o = (p.tile t).prim.out ++ pktFlits (mkPkt h (drainBytes w e))) := by
  by_cases hl : f.last = 1
  · rw [hl, show ((1 : BitVec 1) == 1) = true from rfl, if_pos rfl] at hd
    unfold State.drain at hd
    by_cases h0 : f.dst = 0
    · rw [if_pos h0] at hd
      refine ⟨(p.tile t).cursors, (p.tile t).prim.out, hd ▸ p.elsewhere_onTile t _, ?_, fun _ => rfl, fun _ _ h1 => ?_⟩
      · rw [hd, State.tile_onTile_same, if_pos ⟨hl, h0⟩]
        rfl
      · rw [h0] at h1
        exact absurd h1 (by decide)
    · rw [if_neg h0] at hd
      rw [if_neg (fun h => h0 h.2)]
      split at hd
      · next hnone =>
        refine ⟨(p.tile t).cursors, (p.tile t).prim.out, hd ▸ p.elsewhere_refl t, ?_, fun _ => rfl, fun _ _ _ h1 => ?_⟩
        · rw [hd, Tile.drained, List.append_nil]
        · rw [hnone] at h1
          cases h1
      · next le hle =>
        obtain ⟨h, hh, hc⟩ := p.contribute_tile t le f w e
        rw [hc] at hd
        refine ⟨(p.tile t).cursors.ins le.gl (((p.tile t).cursor le).step le 128),
          (p.tile t).prim.out ++ pktFlits (mkPkt h (drainBytes w e)), hd ▸ p.elsewhere_setTile t _, ?_, fun hno => ?_, fun le' _ _ hle' => ?_⟩
        · rw [hd, State.tile_setTile_same]
        · rcases hno with hno | hno | hno
          · rw [hno] at hl
            exact absurd hl (by decide)
          · exact absurd hno h0
          · rw [hle] at hno
            cases hno
        · obtain rfl : le = le' := Option.some.inj (hle.symm.trans hle')
          exact ⟨Map.find?_ins_same _ _ _, h, hh, rfl⟩
  · rw [if_neg (by simpa using hl)] at hd
    refine ⟨(p.tile t).cursors, (p.tile t).prim.out, hd ▸ p.elsewhere_refl t, ?_, fun _ => rfl, fun _ h1 => absurd h1 hl⟩
    rw [hd, if_neg (fun h => hl h.1), Tile.drained, List.append_nil]

/-! ### The local port takes what it has room for (R171) -/

theorem State.pumpOut_frame (s : State) (n : Nat) :
    s.elsewhere (s.pumpOut (siteOf n false)) n ∧ ∃ r o, (s.pumpOut (siteOf n false)).tile n =
        { s.tile n with router := r, prim := { (s.tile n).prim with out := o } } ∧
      r.lane (laneIn 4 false) ++ o = (s.tile n).router.lane (laneIn 4 false) ++ (s.tile n).prim.out := by
  unfold State.pumpOut
  dsimp only [siteOf]
  split
  · exact ⟨s.elsewhere_refl n, (s.tile n).router, (s.tile n).prim.out, rfl, rfl⟩
  · let k := locDepth - ((s.tile n).router.lane (laneIn 4 false)).length
    refine ⟨State.elsewhere_trans (s.elsewhere_onTile n _) (State.elsewhere_onTile _ n _),
      (s.tile n).router.push (laneIn 4 false) ((s.tile n).prim.out.take k), (s.tile n).prim.out.drop k, ?_, ?_⟩
    · rw [State.onCtx, State.tile_onTile_same, State.tile_onTile_same]
      rfl
    · unfold Router.push Router.setLane Router.lane
      rw [Map.get_put_same, List.append_assoc, List.take_append_drop]

/-- What waits enters the local port of the primary, where the side context sends nothing and no freeze is near. -/
theorem State.pumps_frame (s : State) (n : Nat) (hs : (s.tile n).side.out = []) (hf : s.fab.freezing = false) :
    s.elsewhere ((s.pumpOut (siteOf n false)).pumpOut (siteOf n true)).freezeCheck n ∧
    ∃ r o, (((s.pumpOut (siteOf n false)).pumpOut (siteOf n true)).freezeCheck).tile n =
        { s.tile n with router := r, prim := { (s.tile n).prim with out := o } } ∧
      r.lane (laneIn 4 false) ++ o = (s.tile n).router.lane (laneIn 4 false) ++ (s.tile n).prim.out := by
  obtain ⟨he, r, o, ht, hl⟩ := s.pumpOut_frame n
  have hside : (((s.pumpOut (siteOf n false)).tile n).ctx true).out = [] := by rw [ht]; exact hs
  rw [State.pumpOut_empty (s.pumpOut (siteOf n false)) (siteOf n true) hside,
    State.freezeCheck_off _ ((congrArg Fabric.freezing (State.elsewhere_fab he)).trans hf)]
  exact ⟨he, r, o, ht, hl⟩

/-- A context in which nothing waits but packets before the local port takes no turn. -/
theorem State.nextTurn_still (s : State) (a : Site) (h : ({ s.ctx a with out := [] } : Ctx).idle) : s.nextTurn a = none := by
  obtain ⟨h1, h2, h3, h4, h5, h6, _⟩ := h
  dsimp only at h1 h2 h3 h4 h5 h6
  unfold State.nextTurn State.fillOn Ctx.due
  rw [h3, show (s.ctx a).turns = [] by simp [Ctx.turns, h1, h2, h4, h5, h6]]
  split <;> rfl

end Sys2Proof.Machine


/-! PROOF. Broadcast steps, drains held for the queue, and the recovery budget (O11). -/

namespace Sys2Proof.Machine

/-! ### An MRUN that runs no step (R85, R152) -/

/-- The primary's window is seen in the state at issue. -/
theorem State.window_issued (s : State) (a : Site) (f : MRunF)
    (hw : a.side = true ∨ ((s.issued a (wordOf 1 1 (mrunLow f)) f.dt).tile a.tile).prim.window = false) :
    (!a.side && ((s.issued a (wordOf 1 1 (mrunLow f)) f.dt).ctx a).window) = false := by
  unfold State.ctx
  rcases hw with hw | hw
  · rw [hw]; rfl
  · cases a.side
    · exact hw
    · rfl

section
variable (s : State) (a : Site) (f : MRunF) (ecc buf : Ecc) (ups : List (Nat × Upset))
  (h : s.canIssue a (wordOf 1 1 (mrunLow f)) f.dt [f.ga, f.gs])
include h

theorem State.exec_bubble (hb : f.bub = 1)
    (hw : a.side = true ∨ ((s.issued a (wordOf 1 1 (mrunLow f)) f.dt).tile a.tile).prim.window = false) :
    exec (.mrun a f ecc buf ups) s = .next ((s.issued a (wordOf 1 1 (mrunLow f)) f.dt).onTile a.tile
      (fun x => if a.side then { x with sideBeats := x.sideBeats + f.nm1.toNat } else x)) := by
  have hwin := s.window_issued a f hw
  have hcalm := s.calm_issued a (wordOf 1 1 (mrunLow f)) f.dt _ h
  refine congrArg Host.Outcome.next (s.timed_run _ a _ _ _ _ _ _ h (by simp [TOp.unit]) ?_ (State.rests_of_calm _ _ ?_))
  · generalize s.issued a (wordOf 1 1 (mrunLow f)) f.dt = u at hwin ⊢
    exact congrArg some ((if_neg (ne_true_of_eq_false hwin)).trans (if_pos hb))
  · refine (State.settles_onTile _ a.tile _ ?_ ?_).calm hcalm <;>
    · intro x
      cases a.side <;> rfl

theorem State.exec_window (hs : a.side = false) (hw : ((s.issued a (wordOf 1 1 (mrunLow f)) f.dt).tile a.tile).prim.window = true) :
    exec (.mrun a f ecc buf ups) s = .next ((s.issued a (wordOf 1 1 (mrunLow f)) f.dt).seqFault a.tile false 3 (s.ctx a).pc) := by
  have hcalm := s.calm_issued a (wordOf 1 1 (mrunLow f)) f.dt _ h
  have hrest : (s.issued a (wordOf 1 1 (mrunLow f)) f.dt).atRest a.tile := State.atRest_onTile _ _ _
  have hctx : ((s.issued a (wordOf 1 1 (mrunLow f)) f.dt).ctx a).window = true := by rw [State.ctx, hs]; exact hw
  refine congrArg Host.Outcome.next (s.timed_run _ a _ _ _ _ _ _ h (by simp [TOp.unit]) ?_ (State.rests_of_calm _ _ ?_))
  · generalize s.issued a (wordOf 1 1 (mrunLow f)) f.dt = u at hctx hrest ⊢
    have hone : (!a.side && (u.ctx a).window) = true := by rw [hs, hctx]; rfl
    have hsame : u.onTile a.tile (fun x => if a.side then { x with sideBeats := x.sideBeats + f.nm1.toNat } else x) = u :=
      State.onTile_eq_self hrest _ (by rw [hs]; rfl)
    refine (congrArg some (if_pos hone)).trans ?_
    exact (congrArg (fun v : State => some (v.seqFault a.tile a.side 3 (s.ctx a).pc)) hsame).trans (by rw [hs])
  · exact State.calm_seqFault _ a.tile false 3 _ hcalm.2.1 hcalm.2.2

end

/-! ### A step that issues (R78 to R94) -/

theorem State.free_eccCe (s : State) (n : Nat) (e : Ecc) : (s.eccCe n e).free = s.free := by
  unfold State.eccCe
  split <;> rfl

theorem State.elsewhere_runs (u : State) (a : Site) (f : MRunF) (ecc buf : Ecc) (r : RunHeld) : u.elsewhere (u.runs a f ecc buf r) a.tile := by
  unfold State.runs
  exact State.elsewhere_trans (State.elsewhere_trans (State.elsewhere_trans (u.elsewhere_onTile _ _) (State.elsewhere_eccCe _ _ _))
    (State.elsewhere_eccCe _ _ _)) (State.elsewhere_onTile _ a.tile _)

theorem State.slipOf_zero {s : State} {a : Site} (h : s.atRest a.tile) : s.slipOf a 0 = s := by
  have hsat : ∀ w : W32, satAdd w 0 = w := fun w => by
    unfold satAdd
    rw [Nat.add_zero, Nat.min_eq_left (by have := w.isLt; omega)]
    exact (BitVec.ofNat_toNat 32 w).trans (BitVec.setWidth_eq w)
  unfold State.slipOf State.slip State.fieldSlip
  split
  · rfl
  · dsimp only
    rw [hsat, if_pos (Or.inl rfl)]
    exact h

/-- A context without its run and without what waits before the local port. -/
def Ctx.bare (c : Ctx) : Ctx := { c with run := none, out := [] }
/-- A context without what waits before the local port. -/
def Ctx.noOut (c : Ctx) : Ctx := { c with out := [] }

/-- With nothing queued the turns of a context do not depend on what waits before its local port. -/
theorem Ctx.turns_out (c : Ctx) (h : c.uq = []) : ({ c with out := [] } : Ctx).turns = c.turns := by simp [Ctx.turns, h]

/-- A run whose next step's beat decode has not reached waits, whatever its context still sends. -/
theorem State.nextTurn_run_late (s : State) (a : Site) (r : RunHeld) (hr : (s.ctx a).run = some r)
    (h : (s.ctx a).bare.idle) (hb : (s.ctx a).tc.toNat < r.beat) : s.nextTurn a = none := by
  have ht : (s.ctx a).turns = [(2 * r.beat, .run r)] :=
    (Ctx.turns_out (s.ctx a) h.1).symm.trans (Ctx.turns_run { s.ctx a with out := [] } r h hr)
  exact s.nextTurn_unreached a _ h.2.2.1 ht (s.reached_late a r.beat hb)

/-- A tile whose primary has sent what the local port had room for. -/
def Tile.sent (x : Tile) (r : Router) (o : List Flit) : Tile := { x with router := r, prim := { x.prim with out := o } }

/-- A tile whose run goes on with `r`. -/
def Tile.running (x : Tile) (d : Bool) (r : Option RunHeld) : Tile := x.setCtx d { x.ctx d with run := r }

/-- The step that follows the first one of a run. -/
def State.secondStep (s : State) (a : Site) (f : MRunF) : Option RunHeld :=
  if f.nm1 = 0 then none
  else some ⟨f, (s.ctx a).pc, 1, ((s.ctx a).target f.dt).toNat + 1, ((s.ctx a).gr f.ga).toNat, ((s.ctx a).gr f.gs).toNat, [], false⟩

theorem Tile.StepOk.of_running {x : Tile} {d : Bool} {r : RunHeld} (h : x.StepOk d r) (st sl : W32) (sb : Nat) (q : Option RunHeld) :
    ((x.marked st sl sb).running d q).StepOk d r := by
  obtain ⟨h1, h2, h3, h4, h5, h6, h7⟩ := h
  have hinj : ∀ k, (((x.marked st sl sb).running d q).inject k).1 = (x.inject k).1 := fun k => Tile.inject_congr _ _ k (by cases d <;> rfl)
  refine ⟨?_, ?_, ?_, ?_, ?_, (hinj 0).trans h6, (hinj 1).trans h7⟩ <;> cases d <;> assumption

theorem Tile.setCtx_accEpoch (x : Tile) (d : Bool) (c : Ctx) : (x.setCtx d c).accEpoch = x.accEpoch := by cases d <;> rfl
theorem Tile.setCtx_cursors (x : Tile) (d : Bool) (c : Ctx) : (x.setCtx d c).cursors = x.cursors := by cases d <;> rfl
theorem Tile.setCtx_bufA (x : Tile) (d : Bool) (c : Ctx) : (x.setCtx d c).bufA = x.bufA := by cases d <;> rfl
theorem Tile.setCtx_bufB (x : Tile) (d : Bool) (c : Ctx) : (x.setCtx d c).bufB = x.bufB := by cases d <;> rfl

theorem Tile.accOf_congr {x y : Tile} (h : y.acc = x.acc ∧ y.accEpoch = x.accEpoch) (m : Nat) : y.accOf m = x.accOf m := by
  unfold Tile.accOf
  rw [h.1, h.2]

theorem Tile.accOf_setCtx (x : Tile) (d : Bool) (c : Ctx) (m : Nat) : (x.setCtx d c).accOf m = x.accOf m :=
  Tile.accOf_congr ⟨x.setCtx_acc d c, x.setCtx_accEpoch d c⟩ m

/-- A tile after the first step of a run: marked, the run set up, the step written, its drain made, and the run's next step waiting. -/
def Tile.oneStep (x : Tile) (st : W32) (sb : Nat) (d : Bool) (r : RunHeld) (k : StepMarks) (n : Nat) (e : Acc) (q : List QEnt) (c : Map Cursor)
    (o : List Flit) (next : Option RunHeld) : Tile :=
  ((((x.marked st x.slip sb).running d (some r)).stepped k n e).drained q c o).running d next

section
variable (x : Tile) (st : W32) (sb : Nat) (d : Bool) (r : RunHeld) (k : StepMarks) (n : Nat) (e : Acc) (q : List QEnt) (c : Map Cursor)
  (o : List Flit) (next : Option RunHeld)

theorem Tile.ctx_marked (sl : W32) : (x.marked st sl sb).ctx d = x.ctx d := by cases d <;> rfl
theorem Tile.ctx_stepped : (x.stepped k n e).ctx d = x.ctx d := by cases d <;> rfl
theorem Tile.ctx_running_same : (x.running d next).ctx d = { x.ctx d with run := next } := Tile.ctx_setCtx_same _ _ _
theorem Tile.ctx_running_other : (x.running d next).ctx (!d) = x.ctx (!d) := Tile.ctx_setCtx_other _ _ _ _ (by cases d <;> decide)
theorem Tile.bare_drained : ((x.drained q c o).ctx d).bare = (x.ctx d).bare := by cases d <;> rfl
theorem Tile.noOut_drained : ((x.drained q c o).ctx d).noOut = (x.ctx d).noOut := by cases d <;> rfl
theorem Ctx.bare_run (y : Ctx) : ({ y with run := next } : Ctx).bare = y.bare := rfl

theorem Tile.oneStep_bare : ((x.oneStep st sb d r k n e q c o next).ctx d).bare = (x.ctx d).bare := by
  rw [Tile.oneStep, Tile.ctx_running_same, Ctx.bare_run, Tile.bare_drained, Tile.ctx_stepped, Tile.ctx_running_same, Ctx.bare_run, Tile.ctx_marked]

theorem Tile.oneStep_noOut : ((x.oneStep st sb d r k n e q c o next).ctx (!d)).noOut = (x.ctx (!d)).noOut := by
  rw [Tile.oneStep, Tile.ctx_running_other, Tile.noOut_drained, Tile.ctx_stepped, Tile.ctx_running_other, Tile.ctx_marked]

theorem Tile.oneStep_run : ((x.oneStep st sb d r k n e q c o next).ctx d).run = next := by rw [Tile.oneStep, Tile.ctx_running_same]
theorem Tile.running_ports (z : Tile) (d : Bool) (r : Option RunHeld) : (z.running d r).side.out = z.side.out ∧
    (z.running d r).router = z.router ∧ (z.running d r).prim.out = z.prim.out := by cases d <;> exact ⟨rfl, rfl, rfl⟩

theorem Tile.oneStep_sideOut : (x.oneStep st sb d r k n e q c o next).side.out = x.side.out :=
  (Tile.running_ports _ d next).1.trans ((x.marked st x.slip sb).running_ports d (some r)).1
theorem Tile.oneStep_router : (x.oneStep st sb d r k n e q c o next).router = x.router :=
  (Tile.running_ports _ d next).2.1.trans ((x.marked st x.slip sb).running_ports d (some r)).2.1
theorem Tile.oneStep_primOut : (x.oneStep st sb d r k n e q c o next).prim.out = o := (Tile.running_ports _ d next).2.2
theorem Tile.primOut_running (r : Option RunHeld) : (((x.marked st x.slip sb).running d r).stepped k n e).prim.out = x.prim.out :=
  ((x.marked st x.slip sb).running_ports d r).2.2
theorem Tile.cursor_running (r : Option RunHeld) (le : ListEnt) :
    (((x.marked st x.slip sb).running d r).stepped k n e).cursor le = x.cursor le :=
  congrArg (fun m : Map Cursor => (m.find? le.gl).getD ⟨le.start, 0⟩) (Tile.setCtx_cursors _ d _)

end

theorem Ctx.idle.bare {c : Ctx} (h : c.idle) : c.bare.idle := by
  obtain ⟨h1, _, h3, h4, h5, h6, _⟩ := h
  exact ⟨h1, rfl, h3, h4, h5, h6, rfl⟩

theorem Ctx.noOut_idle {c : Ctx} (hr : c.run = none) (h : c.bare.idle) : c.noOut.idle := by
  obtain ⟨h1, _, h3, h4, h5, h6, _⟩ := h
  exact ⟨h1, hr, h3, h4, h5, h6, rfl⟩

theorem Ctx.idle.noOut {c : Ctx} (h : c.idle) : c.noOut.idle := by
  obtain ⟨h1, h2, h3, h4, h5, h6, _⟩ := h
  exact ⟨h1, h2, h3, h4, h5, h6, rfl⟩

section
variable (s : State) (a : Site) (f : MRunF) (ecc buf : Ecc) (h : s.canIssue a (wordOf 1 1 (mrunLow f)) f.dt [f.ga, f.gs])
  (hecc : ecc ≠ .double) (hbuf : buf ≠ .double) (hb : f.bub = 0) (hw : a.side = true ∨ (s.tile a.tile).prim.window = false)
  (hl : ∀ i, i ≤ f.nm1.toNat → s.linesOk a.side (runLine ((s.ctx a).gr f.ga).toNat ((s.ctx a).gr f.gs).toNat i) (recordLines f.fmt) = true)
include h hecc hbuf hb hw hl

/-- What holds of the first step of a run, in the state `u` in which it is issued: its tile and its queue entry, where its record lies, and what it
makes of its entry. -/
structure State.StepDue (s : State) (a : Site) (f : MRunF) (u : State) (e : Acc) : Prop where
  ok : (u.tile a.tile).StepOk a.side (s.firstStep a f [])
  slot : f.last = 1 → f.dst = 0 →
    (u.tile a.tile).slotAt a.side (s.queueMax a.side) ((u.tile a.tile).now a.side ((s.ctx a).target f.dt).toNat) =
      some ((u.tile a.tile).now a.side ((s.ctx a).target f.dt).toNat)
  entry : e = (u.tile a.tile).stepEntry f (64 * f.bank.toNat + f.entry.toNat) (64 * (((s.ctx a).gr f.ga).toNat % 2 ^ 20)) u.free
  compare : compareStep (u.tile a.tile) ((u.tile a.tile).buf f.buf) e ≠ some true

omit h hecc hbuf hb hw hl in
theorem State.secondStep_eq : (if f.nm1.toNat ≤ (s.firstStep a f []).step then none
    else some { s.firstStep a f [] with step := (s.firstStep a f []).step + 1, beat := (s.firstStep a f []).beat + 1, again := false }) =
      s.secondStep a f := by
  have hz : f.nm1.toNat ≤ 0 ↔ f.nm1 = 0 := by
    rw [Nat.le_zero]
    exact ⟨fun h => BitVec.eq_of_toNat_eq h, fun h => by rw [h]; rfl⟩
  unfold State.secondStep State.firstStep
  dsimp only
  by_cases h0 : f.nm1 = 0
  · rw [if_pos (hz.mpr h0), if_pos h0]
  · rw [if_neg (fun h => h0 (hz.mp h)), if_neg h0]

omit h hb hw hl hecc hbuf in
/-- The first step of a run, where nothing keeps it from issuing: its entry is accumulated. -/
theorem State.firstStep_accumulates {u : State} (hu : u = s.issued a (wordOf 1 1 (mrunLow f)) f.dt) {e : Acc} (hd : s.StepDue a f u e)
    {t : State} (ht : t = u.runs a f ecc buf (s.firstStep a f [])) :
    ∃ p st sb k, u.elsewhere p a.tile ∧ p.tile a.tile = (((u.tile a.tile).marked st (u.tile a.tile).slip sb).running a.side
        (some (s.firstStep a f []))).stepped k (64 * f.bank.toNat + f.entry.toNat) e ∧
      t.runStep (siteOf a.tile a.side) (s.firstStep a f []) = some ((if f.last == 1 then p.drain a.tile a.side f ((u.tile a.tile).buf f.buf)
        (64 * f.bank.toNat + f.entry.toNat) e ((u.tile a.tile).now a.side ((s.ctx a).target f.dt).toNat) else p).onCtx a
          (fun c => { c with run := s.secondStep a f })) := by
  obtain ⟨hok, hslot, he, hc⟩ := hd
  have hsame := s.sameHand_issued a (wordOf 1 1 (mrunLow f)) f.dt
  rw [← hu] at hsame
  obtain ⟨st, sb, hT⟩ := u.tile_runs a f ecc buf (s.firstStep a f [])
  have hTe : u.elsewhere t a.tile := ht ▸ u.elsewhere_runs a f ecc buf _
  have hTf : t.free = u.free := by
    rw [ht]
    show (((u.onTile a.tile _).eccCe a.tile ecc).eccCe a.tile buf).free = _
    rw [State.free_eccCe, State.free_eccCe]
    rfl
  have hTr : t.atRest a.tile := ht ▸ State.atRest_onCtx _ _ _
  rw [← ht] at hT
  generalize hx : u.tile a.tile = x at *
  have hy : t.tile a.tile = (x.marked st x.slip sb).running a.side (some (s.firstStep a f [])) := by
    rw [hT, Tile.running, State.ctx, hx]
    cases a.side <;> rfl
  have hyok : (t.tile a.tile).StepOk a.side (s.firstStep a f []) := hy ▸ hok.of_running _ _ _ _
  have hynow : ∀ b, (t.tile a.tile).now a.side b = x.now a.side b := fun _ => by rw [hy]; cases a.side <;> rfl
  have hyslot : ∀ m b, (t.tile a.tile).slotAt a.side m b = x.slotAt a.side m b := fun _ _ => by rw [hy]; cases a.side <;> rfl
  have hybuf : (t.tile a.tile).buf f.buf = x.buf f.buf := by rw [hy]; cases a.side <;> rfl
  have hyent : ∀ m b i, (t.tile a.tile).stepEntry f m b i = x.stepEntry f m b i := fun _ _ _ => by rw [hy]; cases a.side <;> rfl
  have hycmp : ∀ w b, compareStep (t.tile a.tile) w b = compareStep x w b := fun _ _ => by rw [hy]; cases a.side <;> rfl
  have hTs := hsame.trans (State.sameHand_of_elsewhere hTe)
  have hslot' : f.last = 1 → f.dst = 0 → (t.tile a.tile).slotAt a.side (t.queueMax a.side)
      ((t.tile a.tile).now a.side ((s.ctx a).target f.dt).toNat) = some (x.now a.side ((s.ctx a).target f.dt).toNat) := fun h1 h2 => by
    rw [hyslot, hTs.queueMax, hynow, hslot h1 h2]
  have hstay : t = if f.last == 1 && f.dst == 0 then t.slipOf (siteOf a.tile a.side)
      (x.now a.side ((s.ctx a).target f.dt).toNat - (t.tile a.tile).now a.side ((s.ctx a).target f.dt).toNat) else t := by
    rw [hynow, Nat.sub_self, State.slipOf_zero (a := siteOf a.tile a.side) hTr, ite_self]
  have hentry : e = (t.tile a.tile).stepEntry f (64 * f.bank.toNat + f.entry.toNat + 0)
      (64 * runLine ((s.ctx a).gr f.ga).toNat ((s.ctx a).gr f.gs).toNat 0) t.free := by
    rw [hyent, hTf, runLine, Nat.zero_mul, Nat.add_zero, Nat.add_zero]
    exact he
  have hcmp : compareStep (t.tile a.tile) ((t.tile a.tile).buf f.buf) e ≠ some true := by
    rw [hycmp, hybuf]
    exact hc
  obtain ⟨p, k, hpe, hpt, hrun⟩ := t.runStep_accumulates (siteOf a.tile a.side) (s.firstStep a f []) hyok rfl rfl hslot' hstay
    ⟨(t.tile a.tile).slip, rfl⟩ hentry hcmp
  refine ⟨p, st, sb, k, State.elsewhere_trans hTe hpe, ?_, ?_⟩
  · exact hpt.trans (by rw [← hy]; rfl)
  · rw [hrun, ← s.secondStep_eq a f, ← hybuf, ← hynow]
    rfl

/-- What the first step's drain puts into the tile queue (R91, R92). -/
def State.firstDrain (s : State) (a : Site) (f : MRunF) (x : Tile) (n : Nat) (e : Acc) : List QEnt :=
  if f.last = 1 ∧ f.dst = 0 then [⟨drainVals (x.buf f.buf) e, (x.buf f.buf).mask, f.zfill == 1, a.side, n,
    x.now a.side ((s.ctx a).target f.dt).toNat + 9⟩] else []

/-- An MRUN whose first step issues with it: the entry, what the drain adds, and the rest of the run that waits. -/
theorem State.exec_step {u : State} (hu : u = s.issued a (wordOf 1 1 (mrunLow f)) f.dt) {e : Acc} (hd : s.StepDue a f u e) {x : Tile}
    (hx : x = u.tile a.tile) {n : Nat} (hn : n = 64 * f.bank.toNat + f.entry.toNat) :
    ∃ t st sb k c o r o', exec (.mrun a f ecc buf []) s = .next t ∧ u.elsewhere t a.tile ∧
      t.tile a.tile = (x.oneStep st sb a.side (s.firstStep a f []) k n e (s.firstDrain a f x n e) c o (s.secondStep a f)).sent r o' ∧
      r.lane (laneIn 4 false) ++ o' = x.router.lane (laneIn 4 false) ++ o ∧
      (f.last = 0 ∨ f.dst = 0 ∨ s.drainEnt a.tile = none → o = x.prim.out) ∧
      (∀ le, f.last = 1 → f.dst = 1 → s.drainEnt a.tile = some le → c.find? le.gl = some ((x.cursor le).step le 128) ∧
        ∃ p : CHdr, DrainHdr p x le f (x.buf f.buf) ∧ o = x.prim.out ++ pktFlits (mkPkt p (drainBytes (x.buf f.buf) e))) := by
  have hX := s.onward_runs a f ecc buf h (s.firstStep a f [])
  have hissue := s.mrun_runs a f ecc buf [] h hw hb hecc hbuf hl
  have hnext := s.nextTurn_runs a f ecc buf [] h
  have hsame := s.sameHand_issued a (wordOf 1 1 (mrunLow f)) f.dt
  have huo := s.onward_issued a (wordOf 1 1 (mrunLow f)) f.dt (s.field_of_canIssue a _ _ _ h)
  rw [← hu] at hX hissue hnext hsame huo
  obtain ⟨p, st, sb, k, hpe, hpt, hrun⟩ := s.firstStep_accumulates a f ecc buf hu hd rfl
  rw [← hx, ← hn] at hpt hrun
  obtain ⟨c, o, hde, hdt, hno, hyes⟩ := p.drainLast a.tile a.side f (x.buf f.buf) n e
    (x.now a.side ((s.ctx a).target f.dt).toNat) rfl
  generalize (if f.last == 1 then p.drain a.tile a.side f (x.buf f.buf) n e (x.now a.side ((s.ctx a).target f.dt).toNat) else p) = d
    at hrun hde hdt
  have hps := hsame.trans (State.sameHand_of_elsewhere hpe)
  rw [hpt] at hdt
  generalize hF : d.onCtx a (fun c => { c with run := s.secondStep a f }) = F at hrun
  have hFt : F.tile a.tile = x.oneStep st sb a.side (s.firstStep a f []) k n e (s.firstDrain a f x n e) c o (s.secondStep a f) := by
    rw [← hF, State.onCtx, State.tile_onTile_same, hdt]
    rfl
  have hFe : u.elsewhere F a.tile := hF ▸ State.elsewhere_trans (State.elsewhere_trans hpe hde) (State.elsewhere_onTile d a.tile _)
  have hFc : (F.ctx a).bare = (x.ctx a.side).bare := by
    rw [State.ctx, hFt, Tile.oneStep_bare]
  have hFr : (F.ctx a).run = s.secondStep a f := by rw [State.ctx, hFt, Tile.oneStep_run]
  have hcalm : u.calm a.tile := hu ▸ s.calm_issued a _ _ _ h
  have hidle : ∀ d, (x.ctx d).idle := fun d => by
    rw [hx]
    cases d
    · exact hcalm.1
    · exact hcalm.2.1
  have hbare : (F.ctx a).bare.idle := by
    rw [hFc]
    exact (hidle a.side).bare
  have htc : (F.ctx a).tc = (s.ctx a).target f.dt := by
    have hsame : (F.ctx a).tc = (x.ctx a.side).tc := by
      have hb := congrArg Ctx.tc hFc
      exact hb
    rw [hsame, hx]
    exact congrArg Ctx.tc huo.ctx
  have hnone : F.nextTurn (siteOf a.tile a.side) = none := by
    by_cases h0 : f.nm1 = 0
    · have hr : (F.ctx a).run = none := hFr.trans (if_pos h0)
      exact F.nextTurn_still (siteOf a.tile a.side) (Ctx.noOut_idle hr hbare)
    · exact F.nextTurn_run_late (siteOf a.tile a.side) _ (hFr.trans (if_neg h0)) hbare (by rw [State.ctx_siteOf, htc]; exact Nat.lt_succ_self _)
  have hother : F.nextTurn (siteOf a.tile (!a.side)) = none := by
    refine F.nextTurn_still _ ?_
    show ((F.tile a.tile).ctx (!a.side)).noOut.idle
    rw [hFt, Tile.oneStep_noOut]
    exact (hidle (!a.side)).noOut
  have hturns := (State.turnsOf_next (hnext.trans hrun) 99998).trans (State.turnsOf_none _ _ _ hnone)
  have hexec := State.timed_turns (op := .mrun f ecc buf []) (ga := f.ga) (gs := f.gs) h (by simp [TOp.unit]) (by rw [← hu]; exact hissue)
    hturns hother
  obtain ⟨hte, r, o', htt, hlane⟩ := F.pumps_frame a.tile (by rw [hFt, Tile.oneStep_sideOut]; exact Ctx.out_of_idle _ (hidle true))
    ((congrArg Fabric.freezing (State.elsewhere_fab hFe)).trans hcalm.2.2)
  refine ⟨_, st, sb, k, c, o, r, o', congrArg Host.Outcome.next hexec, State.elsewhere_trans hFe hte, ?_, ?_, ?_, ?_⟩
  · rw [htt, hFt]
    rfl
  · rw [hlane, hFt, Tile.oneStep_router, Tile.oneStep_primOut]
  · intro hn
    rw [hno (by rwa [hps.drainEnt]), hpt, Tile.primOut_running]
  · intro le h1 h2 hle
    obtain ⟨hc, q, hq, ho⟩ := hyes le h1 h2 (by rwa [hps.drainEnt])
    have hcur : (p.tile a.tile).cursor le = x.cursor le := by rw [hpt, Tile.cursor_running]
    refine ⟨by rw [hc, hcur], q, ⟨hq.typ, hq.count, hq.pot, by rw [hq.start, hcur], hq.mask⟩, ?_⟩
    rw [ho, hpt, Tile.primOut_running]

end

/-! ### A step that is held for a queue entry (R87, R91) -/

theorem State.runStep_held (s : State) (a : Site) (r : RunHeld) (hside : ((s.tile a.tile).buf r.f.buf).side = a.side)
    (hfill : (s.tile a.tile).filling r.f.buf = false) (hfmt : ((s.tile a.tile).buf r.f.buf).fmt = some r.f.fmt)
    (hmask : r.f.first = 1 ∨ ((s.tile a.tile).accOf (64 * r.f.bank.toNat + r.f.entry.toNat + r.step)).mask.getD
      ((s.tile a.tile).buf r.f.buf).mask = ((s.tile a.tile).buf r.f.buf).mask) (hl : r.f.last = 1) (hd : r.f.dst = 0)
    (hslot : (s.tile a.tile).slotAt a.side (s.queueMax a.side) ((s.tile a.tile).now a.side r.beat) = none) : s.runStep a r = none := by
  unfold State.runStep
  dsimp only
  rw [if_neg (by simp [hside]), if_neg (by simp [hfill]), if_neg (by simp [hfmt])]
  rw [if_neg (by
    rintro ⟨h0, hm⟩
    rcases hmask with h1 | h1
    · rw [h1] at h0; exact absurd h0 (by decide)
    · exact hm h1)]
  exact if_pos (by rw [hslot, hl, hd]; rfl)

section
variable (s : State) (a : Site) (f : MRunF) (ecc buf : Ecc) (h : s.canIssue a (wordOf 1 1 (mrunLow f)) f.dt [f.ga, f.gs])
  (hecc : ecc ≠ .double) (hbuf : buf ≠ .double) (hb : f.bub = 0) (hw : a.side = true ∨ (s.tile a.tile).prim.window = false)
  (hl : ∀ i, i ≤ f.nm1.toNat → s.linesOk a.side (runLine ((s.ctx a).gr f.ga).toNat ((s.ctx a).gr f.gs).toNat i) (recordLines f.fmt) = true)
include h hecc hbuf hb hw hl

/-- An MRUN whose first step is held: the run waits as its issue has set it up. -/
theorem State.exec_held {u : State} (hu : u = s.issued a (wordOf 1 1 (mrunLow f)) f.dt) {x : Tile} (hx : x = u.tile a.tile)
    (hside : (x.buf f.buf).side = a.side) (hfmt : (x.buf f.buf).fmt = some f.fmt)
    (hmask : f.first = 1 ∨ (x.accOf (64 * f.bank.toNat + f.entry.toNat)).mask.getD (x.buf f.buf).mask = (x.buf f.buf).mask)
    (hlast : f.last = 1) (hdst : f.dst = 0)
    (hslot : x.slotAt a.side (s.queueMax a.side) (x.now a.side ((s.ctx a).target f.dt).toNat) = none) :
    exec (.mrun a f ecc buf []) s = .next (u.runs a f ecc buf (s.firstStep a f [])) := by
  have hX := s.onward_runs a f ecc buf h (s.firstStep a f [])
  have hissue := s.mrun_runs a f ecc buf [] h hw hb hecc hbuf hl
  have hnext := s.nextTurn_runs a f ecc buf [] h
  have hsame := s.sameHand_issued a (wordOf 1 1 (mrunLow f)) f.dt
  obtain ⟨st, sb, hT⟩ := u.tile_runs a f ecc buf (s.firstStep a f [])
  have hTe := u.elsewhere_runs a f ecc buf (s.firstStep a f [])
  rw [← hu] at hX hnext hsame
  have hidle : ∀ d, ((u.runs a f ecc buf (s.firstStep a f [])).tile a.tile |>.ctx d).fill = none ∧
      ((u.runs a f ecc buf (s.firstStep a f [])).tile a.tile |>.ctx d).out = [] := fun d => by
    by_cases hd : d = a.side
    · have hs := s.canIssue_idle a _ _ _ h a.side
      have hf := congrArg Ctx.fill hX.ctx
      have ho := congrArg Ctx.out hX.ctx
      rw [hd]
      exact ⟨hf.trans hs.2.2.1, ho.trans (Ctx.out_of_idle (s.ctx a) hs)⟩
    · have hs := s.canIssue_idle a _ _ _ h (!a.side)
      rw [Bool.eq_not.mpr hd, hX.other]
      exact ⟨hs.2.2.1, Ctx.out_of_idle _ hs⟩
  have hTs := hsame.trans (State.sameHand_of_elsewhere hTe)
  have hother : ((u.runs a f ecc buf (s.firstStep a f [])).tile a.tile |>.ctx (!a.side)).idle := hX.other ▸ s.canIssue_idle a _ _ _ h _
  generalize hTg : u.runs a f ecc buf (s.firstStep a f []) = T at *
  have hy : T.tile a.tile = (x.marked st x.slip sb).running a.side (some (s.firstStep a f [])) := by
    rw [hT, ← hx, Tile.running, State.ctx, ← hx]
    cases a.side <;> rfl
  have hynow : ∀ b, (T.tile a.tile).now a.side b = x.now a.side b := fun _ => by rw [hy]; cases a.side <;> rfl
  have hyslot : ∀ m b, (T.tile a.tile).slotAt a.side m b = x.slotAt a.side m b := fun _ _ => by rw [hy]; cases a.side <;> rfl
  have hybuf : (T.tile a.tile).buf f.buf = x.buf f.buf := by rw [hy]; cases a.side <;> rfl
  have hyacc : ∀ n, (T.tile a.tile).accOf n = x.accOf n := fun _ => by rw [hy]; cases a.side <;> rfl
  have hheld : T.nextTurn (siteOf a.tile a.side) = none := hnext.trans (T.runStep_held (siteOf a.tile a.side) (s.firstStep a f [])
    (hybuf ▸ hside) (Tile.filling_none _ _ (hidle false).1 (hidle true).1) (hybuf ▸ hfmt)
    (by
      show f.first = 1 ∨ ((T.tile a.tile).accOf (64 * f.bank.toNat + f.entry.toNat)).mask.getD ((T.tile a.tile).buf f.buf).mask =
        ((T.tile a.tile).buf f.buf).mask
      rw [hyacc, hybuf]
      exact hmask) hlast hdst
    (by
      show (T.tile a.tile).slotAt a.side (T.queueMax a.side) ((T.tile a.tile).now a.side ((s.ctx a).target f.dt).toNat) = none
      rw [hyslot, hTs.queueMax, hynow, hslot]))
  have hexec := State.timed_turns (op := .mrun f ecc buf []) (ga := f.ga) (gs := f.gs) h (by simp [TOp.unit])
    (hissue.trans (by rw [← hu, hTg])) (State.turnsOf_none T _ _ hheld) (State.nextTurn_idle _ _ hother)
  exact congrArg Host.Outcome.next (hexec.trans (T.pumps_nothing _ (fun d => (hidle d).2) (hX.freezing.trans h.2.1.2.2)))

end

/-! ### A step that a freed queue entry lets go (R87, R130) -/

theorem State.field_of_fieldOn (s : State) (n : Nat) (hf : s.fieldOn (tileField n) = true) : tileField n < 48 := by
  by_contra hc
  have hlt : s.rd64 R.CK_EN_FIELD_LO_EN R.CK_EN_FIELD_HI_EN < 2 ^ 48 := by
    have h1 : s.rd R.CK_EN_FIELD_LO_EN < 2 ^ 32 := s.getI_lt R.CK_EN_FIELD_LO_EN 0
    have h2 : s.rd R.CK_EN_FIELD_HI_EN < 2 ^ 16 := s.getI_lt R.CK_EN_FIELD_HI_EN 0
    unfold State.rd64
    omega
  have hb : bitOf (s.rd64 R.CK_EN_FIELD_LO_EN R.CK_EN_FIELD_HI_EN) (tileField n) = false := by
    unfold bitOf
    rw [Nat.div_eq_of_lt (lt_of_lt_of_le hlt (Nat.pow_le_pow_right (by omega) (by omega)))]
    rfl
  unfold State.fieldOn at hf
  rw [hb] at hf
  cases hf

/-- Where neither a stall nor a freeze is near, every beat lies before F_eff (R211). -/
theorem State.canGo_before {s : State} {a : Site} (h : s.canGo a) (b : Nat) : s.before b = true := by
  obtain ⟨_, _, _, hm, hf, _⟩ := h
  unfold State.moving at hm
  simp only [Bool.and_eq_true, Bool.not_eq_true'] at hm
  unfold State.before
  rw [hm.1, hf]
  rfl

/-- A context that may go on takes its one turn, where decode has reached its beat. -/
theorem State.canGo_nextTurn {s : State} {a : Site} (h : s.canGo a) (hf : (s.ctx a).fill = none) {b : Nat} {e : Turn}
    (ht : (s.ctx a).turns = [(2 * b, e)]) (hb : b ≤ (s.ctx a).tc.toNat) :
    s.nextTurn (siteOf a.tile a.side) = s.turn (siteOf a.tile a.side) (2 * b, e) := by
  have hreach : s.reached (siteOf a.tile a.side) (2 * b) = true := by
    rw [State.reached_even s (siteOf a.tile a.side) b (State.canGo_before h _)]
    exact decide_eq_true hb
  exact s.nextTurn_single _ _ hf ht ((State.canGo_open h).issues h.2.1 hf) hreach

/-- The tile of a context that stands at a beat. -/
def Tile.atBeat (x : Tile) (d : Bool) (b : Nat) : Tile := x.setCtx d { x.ctx d with bc := BitVec.ofNat 64 b }

theorem State.elsewhere_atBeat (s : State) (a : Site) (b : Nat) : s.elsewhere (s.atBeat a b) a.tile := by
  unfold State.atBeat State.onCtx
  exact s.elsewhere_onTile a.tile _

theorem State.tile_atBeat (s : State) (a : Site) (b : Nat) : (s.atBeat a b).tile a.tile = (s.tile a.tile).atBeat a.side b :=
  s.tile_onTile_same a.tile _

theorem Tile.StepOk.of_atBeat {x : Tile} {d : Bool} {r : RunHeld} (h : x.StepOk d r) (b : Nat) : (x.atBeat d b).StepOk d r := by
  obtain ⟨h1, h2, h3, h4, h5, h6, h7⟩ := h
  have hinj : ∀ k, ((x.atBeat d b).inject k).1 = (x.inject k).1 := fun k => Tile.inject_congr _ _ k (by cases d <;> rfl)
  refine ⟨?_, ?_, ?_, ?_, ?_, (hinj 0).trans h6, (hinj 1).trans h7⟩ <;> cases d <;> assumption

/-- What a slip of a site changes of its tile. -/
theorem State.slipOf_frame (s : State) (a : Site) (k : Nat) (hf : tileField a.tile < 48) :
    (∃ sl, (s.slipOf a k).tile a.tile = { s.tile a.tile with slip := sl }) ∧ (∀ m, m ≠ a.tile → (s.slipOf a k).tile m = s.tile m) ∧
      (s.slipOf a k).fab.freezing = s.fab.freezing := by
  unfold State.slipOf
  split
  · exact ⟨⟨_, rfl⟩, fun _ _ => rfl, rfl⟩
  · obtain ⟨hm, ht, _, hz, _⟩ := s.slip_frame a.tile k hf
    exact ⟨⟨_, ht⟩, hm, hz⟩

/-- A tile after the last step of a run, which has sent nothing. -/
def Tile.lastStep (x : Tile) (d : Bool) (b : Nat) (k : StepMarks) (n : Nat) (e : Acc) (q : List QEnt) (c : Map Cursor) : Tile :=
  (((x.atBeat d b).stepped k n e).drained q c x.prim.out).running d none

theorem Tile.idle_lastStep (x : Tile) (side : Bool) (b : Nat) (k : StepMarks) (n : Nat) (e : Acc) (q : List QEnt) (c : Map Cursor)
    (hi : ({ x.ctx side with run := none } : Ctx).idle) (ho : (x.ctx (!side)).idle) (d : Bool) :
    ((x.lastStep side b k n e q c).ctx d).idle := by
  cases side <;> cases d
  · exact hi
  · exact ho
  · exact ho
  · exact hi

section
variable (x : Tile) (d : Bool) (b : Nat) (k : StepMarks) (n : Nat) (e : Acc) (q : List QEnt) (c : Map Cursor)

theorem Tile.accOf_lastStep : (x.lastStep d b k n e q c).accOf n = e :=
  (Tile.accOf_setCtx _ d _ n).trans ((x.atBeat d b).accOf_stepped_same k n e)

theorem Tile.queue_lastStep : (x.lastStep d b k n e q c).queue = x.queue ++ q :=
  (Tile.setCtx_queue _ d _).trans (congrArg (· ++ q) (x.setCtx_queue d _))

theorem Tile.sram_lastStep : (x.lastStep d b k n e q c).sram = x.sram := (Tile.setCtx_sram _ d _).trans (x.setCtx_sram d _)

end

/-- The last step of a run, once a queue entry is free: its entry is written, and its drain enters the queue. -/
theorem State.exec_slotFreed (s : State) (a : Site) (r : RunHeld) (hr : (s.ctx a).run = some r) (hi : ({ s.ctx a with run := none } : Ctx).idle)
    (hgo : s.canGo a) (hb : r.beat ≤ (s.ctx a).tc.toNat) (hlast : r.step = r.f.nm1.toNat) (hups : r.ups = []) (hagain : r.again = false)
    {x : Tile} (hx : x = s.tile a.tile) (hok : x.StepOk a.side r)
    (hslot : (x.slotAt a.side (s.queueMax a.side) (x.now a.side r.beat)).isSome = true) (hL : r.f.last = 1) (hD : r.f.dst = 0)
    (hc : ∀ i, compareStep x (x.buf r.f.buf) (x.stepEntry r.f (64 * r.f.bank.toNat + r.f.entry.toNat + r.step)
      (64 * runLine r.line r.stride r.step) i) ≠ some true) :
    ∃ t i, exec (.queueSlotFreed a.tile a.side) s = .next t ∧ (t.ctx a).run = none ∧
      (t.tile a.tile).accOf (64 * r.f.bank.toNat + r.f.entry.toNat + r.step) = x.stepEntry r.f (64 * r.f.bank.toNat + r.f.entry.toNat + r.step)
        (64 * runLine r.line r.stride r.step) i ∧
      (t.tile a.tile).queue.length = x.queue.length + 1 ∧ (t.tile a.tile).sram = x.sram ∧ ∀ m, m ≠ a.tile → t.tile m = s.tile m := by
  obtain ⟨v, hv⟩ := Option.isSome_iff_exists.mp hslot
  have hnext := State.canGo_nextTurn hgo hi.2.2.1 (Ctx.turns_run _ r hi hr) hb
  have hB : (s.atBeat (siteOf a.tile a.side) r.beat).tile a.tile = x.atBeat a.side r.beat := by
    rw [hx]
    exact s.tile_atBeat (siteOf a.tile a.side) r.beat
  have hBe := State.elsewhere_atBeat s (siteOf a.tile a.side) r.beat
  have hBq := (State.sameHand_of_elsewhere hBe).queueMax a.side
  have hturn : s.turn (siteOf a.tile a.side) (2 * r.beat, .run r) =
      (s.atBeat (siteOf a.tile a.side) r.beat).runStep (siteOf a.tile a.side) r := by
    unfold State.turn
    dsimp only
    rw [Nat.mul_div_cancel_left _ (by decide)]
  rw [hturn] at hnext
  generalize s.atBeat (siteOf a.tile a.side) r.beat = B at *
  have hnow : (B.tile a.tile).now a.side r.beat = x.now a.side r.beat := by rw [hB]; cases a.side <;> rfl
  have hslot' : (B.tile a.tile).slotAt a.side (B.queueMax a.side) ((B.tile a.tile).now a.side r.beat) = some v := by
    rw [hnow, hBq, ← hv, hB]
    cases a.side <;> rfl
  have hbuf : (B.tile a.tile).buf r.f.buf = x.buf r.f.buf := by rw [hB]; cases a.side <;> rfl
  have hcmp : ∀ w e, compareStep (B.tile a.tile) w e = compareStep x w e := fun _ _ => by rw [hB]; cases a.side <;> rfl
  have hent : ∀ n b i, (B.tile a.tile).stepEntry r.f n b i = x.stepEntry r.f n b i := fun _ _ _ => by rw [hB]; cases a.side <;> rfl
  obtain ⟨hsl, hso, hsz⟩ := B.slipOf_frame (siteOf a.tile a.side) (v - (B.tile a.tile).now a.side r.beat)
    (s.field_of_fieldOn a.tile hgo.2.2.1)
  generalize hu : B.slipOf (siteOf a.tile a.side) (v - (B.tile a.tile).now a.side r.beat) = u at hsl hso hsz
  obtain ⟨p, k, hpe, hpt, hrun⟩ := B.runStep_accumulates (siteOf a.tile a.side) r (by
      show (B.tile a.tile).StepOk a.side r
      rw [hB]
      exact hok.of_atBeat _) hups hagain (u := u) (v := v) (fun _ _ => hslot')
    (by rw [hL, hD]; exact hu.symm) hsl rfl (by
      show compareStep (B.tile a.tile) ((B.tile a.tile).buf r.f.buf) ((B.tile a.tile).stepEntry _ _ _ _) ≠ _
      rw [hcmp, hbuf, hent]
      exact hc _)
  rw [if_pos (le_of_eq hlast.symm)] at hrun
  obtain ⟨c, o, hde, hdt, hno, _⟩ := p.drainLast a.tile a.side r.f ((B.tile a.tile).buf r.f.buf) (64 * r.f.bank.toNat + r.f.entry.toNat + r.step)
    ((B.tile a.tile).stepEntry r.f (64 * r.f.bank.toNat + r.f.entry.toNat + r.step) (64 * runLine r.line r.stride r.step) u.free)
    ((u.tile a.tile).now a.side r.beat) rfl
  obtain ⟨F, hF, hFe, hFt⟩ : ∃ F, B.runStep (siteOf a.tile a.side) r = some F ∧ u.elsewhere F a.tile ∧
      F.tile a.tile = ((p.tile a.tile).drained _ c o).running a.side none :=
    ⟨_, hrun, State.elsewhere_trans (State.elsewhere_trans hpe hde) (State.elsewhere_onTile _ a.tile _),
      (State.tile_onTile_same _ _ _).trans (congrArg (fun y : Tile => y.running a.side none) hdt)⟩
  have hptile : p.tile a.tile = (x.atBeat a.side r.beat).stepped k (64 * r.f.bank.toNat + r.f.entry.toNat + r.step)
      (x.stepEntry r.f (64 * r.f.bank.toNat + r.f.entry.toNat + r.step) (64 * runLine r.line r.stride r.step) u.free) := by
    rw [← hent, ← hB]
    exact hpt
  have ho : o = x.prim.out := by
    rw [hno (.inr (.inl hD)), hptile]
    cases a.side <;> rfl
  rw [ho, hptile] at hFt
  change F.tile a.tile = x.lastStep a.side r.beat k _ _ _ c at hFt
  have hidle : ∀ d, ((F.tile a.tile).ctx d).idle := fun d => by
    rw [hFt]
    refine x.idle_lastStep a.side _ _ _ _ _ _ ?_ ?_ d
    · rw [hx]
      exact hi
    · rw [hx]
      exact hgo.2.2.2.2.2.2
  have hfree : F.fab.freezing = false := by
    rw [State.elsewhere_fab hFe, hsz, State.elsewhere_fab hBe]
    exact hgo.2.2.2.2.1
  have hturns : s.turnsOf (siteOf a.tile a.side) turnLimit = F :=
    (State.turnsOf_next (hnext.trans hF) 99999).trans (State.turnsOf_none _ _ _ (State.nextTurn_idle _ _ (hidle a.side)))
  have hexec : exec (.queueSlotFreed a.tile a.side) s = .next F := by
    show Host.Outcome.next ((s.turnsOf (siteOf a.tile a.side) turnLimit).advance a.tile) = _
    rw [hturns, State.advance_rests _ _ (State.rests_of_calm _ _ ⟨hidle false, hidle true, hfree⟩)]
  refine ⟨F, u.free, hexec, ?_, ?_, ?_, ?_, fun m hm => ?_⟩
  · rw [State.ctx, hFt]
    cases a.side <;> rfl
  · rw [hFt, Tile.accOf_lastStep]
  · rw [hFt, Tile.queue_lastStep, if_pos ⟨hL, hD⟩, List.length_append, List.length_singleton]
  · rw [hFt, Tile.sram_lastStep]
  · rw [hFe.2 m hm, hso m hm, hBe.2 m hm]

/-! ### The recovery budget, and a replay that agrees (R101, R102, R107, R108) -/

theorem State.fieldSlip_tiles (s : State) (f i n : Nat) : (s.fieldSlip f i n).tiles = s.tiles := by
  unfold State.fieldSlip
  dsimp only
  split
  · rfl
  · split
    · rw [State.emit_tiles]
      rfl
    · rfl

/-- The recoveries that a tile counts. -/
def State.recovOf (s : State) (n : Nat) : List Nat := (s.tile n).recov

theorem State.recovOf_emit (s : State) (n c : Nat) (l : List Arg) : (s.emit c l).recovOf n = s.recovOf n := by
  unfold State.recovOf State.tile
  rw [State.emit_tiles]

theorem State.recovOf_onTile (s : State) (n : Nat) (f : Tile → Tile) (h : ∀ x, (f x).recov = x.recov) :
    (s.onTile n f).recovOf n = s.recovOf n := by
  rw [State.recovOf, State.tile_onTile_same, h]
  rfl

theorem State.recovOf_setTile (s : State) (n : Nat) (x : Tile) : (s.setTile n x).recovOf n = x.recov := by
  rw [State.recovOf, State.tile_setTile_same]

theorem State.recovOf_fieldSlip (s : State) (f i k n : Nat) : (s.fieldSlip f i k).recovOf n = s.recovOf n := by
  unfold State.recovOf State.tile
  rw [State.fieldSlip_tiles]

theorem State.recovOf_slip (s : State) (n k : Nat) : (s.slip n k).recovOf n = s.recovOf n := by
  unfold State.slip
  rw [State.recovOf_fieldSlip, State.recovOf_setTile]
  rfl

theorem State.recovOf_recoverySlip (s : State) (n : Nat) (side : Bool) (beat k : Nat) : (s.recoverySlip n side beat k).recovOf n = s.recovOf n := by
  unfold State.recoverySlip
  rw [State.recovOf_onTile _ _ _ (fun x => by cases side <;> rfl), State.recovOf_slip]

theorem State.recovOf_suspect (s : State) (n c : Nat) : (s.suspect n c).recovOf n = s.recovOf n := by
  unfold State.suspect
  split
  · rfl
  · rw [State.recovOf_emit, State.recovOf_onTile]
    exact fun _ => rfl

theorem State.recovOf_transient (s : State) (n : Nat) : (s.transient n).recovOf n = s.recovOf n := by
  unfold State.transient
  dsimp only
  generalize (if (s.tile n).hour = s.ticks / hourTicks then (s.tile n).hourCnt + 1 else 1) = count
  split
  · rw [State.recovOf_suspect, State.recovOf_emit, State.recovOf_setTile]
    rfl
  · rw [State.recovOf_setTile]
    rfl

theorem State.recovOf_checkTransient (s : State) (n v : Nat) : (s.checkTransient n v).recovOf n = s.recovOf n := by
  unfold State.checkTransient
  rw [State.recovOf_transient, State.recovOf_emit, State.recovOf_onTile]
  exact fun _ => rfl

section
variable (s : State) (n : Nat) (side : Bool) (b : BitVec 1) (ops : List FV) (i beat : Nat) (o : StepOut)

theorem State.recover_spent (ups : List Upset)
    (h : 4 ≤ ((s.tile n).recov.filter (fun r => decide ((s.tile n).now side beat < r + 1024))).length) :
    s.recover n side b ops i ups beat o = ⟨none, (s.haltCtx n side).tileFault n 8⟩ := by
  unfold State.recover
  exact if_pos h

/-- A replay that nothing meets and that agrees with its checker gives the step's results. -/
theorem State.recover_agrees
    (h : ((s.tile n).recov.filter (fun r => decide ((s.tile n).now side beat < r + 1024))).length ≤ 3)
    (h0 : ((s.tile n).inject 0).1 = none) (h1 : ((s.tile n).inject 1).1 = none) {r : StepOut}
    (hr : r = stepOut ((s.tile n).buf b) ops i (s.tile n).standin [])
    (hd : disagree ((sumFV (r.p.map (fun e => f32 e.2))).sub (f32 r.q)) r.mu = false) :
    (s.recover n side b ops i [] beat o).out = some r ∧ ((s.recover n side b ops i [] beat o).s.recovOf n).length =
      ((s.tile n).recov.filter (fun r => decide ((s.tile n).now side beat < r + 1024))).length + 1 := by
  generalize hrec : (s.tile n).recov.filter (fun r => decide ((s.tile n).now side beat < r + 1024)) = recent at h ⊢
  generalize hx : ({ s.tile n with recov := recent ++ [(s.tile n).now side beat] } : Tile) = x
  have hxr : x.recov.length = recent.length + 1 := by
    rw [← hx]
    exact List.length_append
  have htile : ((s.setTile n x).emit 0x0A01 [.w4 n, .w8 (beat + 1)]).tile n = x := by
    unfold State.tile
    rw [State.emit_tiles]
    exact s.tile_setTile_same n x
  have hinj : ∀ k, (x.inject k).1 = ((s.tile n).inject k).1 := fun k => Tile.inject_congr _ _ k (by rw [← hx])
  have hits := x.hits_clean true ((hinj 0).trans h0) ((hinj 1).trans h1)
  unfold State.recover
  dsimp only
  rw [hrec, if_neg (by omega), if_neg (by simp), hx, htile, hits]
  dsimp only
  rw [← hr, hd]
  rw [if_pos (by rfl)]
  split
  · next hp =>
    refine ⟨by rw [← hp], ?_⟩
    rw [State.recovOf_checkTransient, State.recovOf_recoverySlip, State.recovOf_setTile, hxr]
  · refine ⟨rfl, ?_⟩
    rw [State.recovOf_checkTransient, State.recovOf_recoverySlip, State.recovOf_setTile, hxr]

end

/-! ### The obligation -/

theorem Ctx.eq_of_noOut {c e : Ctx} (h : c.noOut = e.noOut) : c = { e with out := c.out } := by
  have hc : c = { c.noOut with out := c.out } := rfl
  rw [h] at hc
  exact hc

theorem Ctx.noOut_run {c e : Ctx} (h : c.bare = e.bare) (r : Option RunHeld) :
    ({ c with run := r } : Ctx).noOut = ({ e with run := r } : Ctx).noOut :=
  congrArg (fun b : Ctx => { b with run := r }) h

theorem Tile.noOut_sent (x : Tile) (r : Router) (o : List Flit) (d : Bool) : ((x.sent r o).ctx d).noOut = (x.ctx d).noOut := by cases d <;> rfl

section
variable (x : Tile) (st : W32) (sb : Nat) (d : Bool) (r : RunHeld) (k : StepMarks) (n : Nat) (e : Acc) (q : List QEnt) (c : Map Cursor)
  (o : List Flit) (next : Option RunHeld) (ro : Router) (o' : List Flit)

theorem Tile.ctx_oneStep_sent : ((x.oneStep st sb d r k n e q c o next).sent ro o').ctx d =
    { x.ctx d with run := next, out := (((x.oneStep st sb d r k n e q c o next).sent ro o').ctx d).out } := by
  refine Ctx.eq_of_noOut (e := { x.ctx d with run := next }) ?_
  rw [Tile.noOut_sent, Tile.oneStep, Tile.ctx_running_same]
  refine Ctx.noOut_run ?_ next
  rw [Tile.bare_drained, Tile.ctx_stepped, Tile.ctx_running_same, Ctx.bare_run, Tile.ctx_marked]

theorem Tile.other_oneStep_sent : ((x.oneStep st sb d r k n e q c o next).sent ro o').ctx (!d) =
    { x.ctx (!d) with out := (((x.oneStep st sb d r k n e q c o next).sent ro o').ctx (!d)).out } := by
  refine Ctx.eq_of_noOut ?_
  rw [Tile.noOut_sent, Tile.oneStep_noOut]

theorem Tile.accOf_oneStep_sent (m : Nat) : ((x.oneStep st sb d r k n e q c o next).sent ro o').accOf m = (x.stepped k n e).accOf m := by
  have hacc : ((x.marked st x.slip sb).running d (some r)).acc = x.acc := Tile.setCtx_acc _ d _
  have hepoch : ((x.marked st x.slip sb).running d (some r)).accEpoch = x.accEpoch := Tile.setCtx_accEpoch _ d _
  exact (Tile.accOf_setCtx _ d _ m).trans
    (Tile.accOf_congr (x := x.stepped k n e) (y := (((x.marked st x.slip sb).running d (some r)).stepped k n e).drained q c o)
      ⟨congrArg (fun a : Map Acc => a.ins n e) hacc, hepoch⟩ m)

theorem Tile.queue_oneStep_sent : ((x.oneStep st sb d r k n e q c o next).sent ro o').queue = x.queue ++ q :=
  (Tile.setCtx_queue _ d _).trans (congrArg (· ++ q) (Tile.setCtx_queue _ d _))

theorem Tile.cursor_oneStep_sent (le : ListEnt) :
    ((x.oneStep st sb d r k n e q c o next).sent ro o').cursor le = (c.find? le.gl).getD ⟨le.start, 0⟩ :=
  congrArg (fun m : Map Cursor => (m.find? le.gl).getD ⟨le.start, 0⟩) (Tile.setCtx_cursors _ d _)

theorem Tile.memory_oneStep_sent : ((x.oneStep st sb d r k n e q c o next).sent ro o').sram = x.sram ∧
    ((x.oneStep st sb d r k n e q c o next).sent ro o').bufA = x.bufA ∧ ((x.oneStep st sb d r k n e q c o next).sent ro o').bufB = x.bufB :=
  ⟨(Tile.setCtx_sram _ d _).trans (Tile.setCtx_sram _ d _), (Tile.setCtx_bufA _ d _).trans (Tile.setCtx_bufA _ d _),
    (Tile.setCtx_bufB _ d _).trans (Tile.setCtx_bufB _ d _)⟩

end

theorem State.window_of_issued (s : State) (a : Site) (w : W64) (dt : BitVec 8) (hf : tileField a.tile < 48) :
    ((s.issued a w dt).tile a.tile).prim.window = (s.tile a.tile).prim.window := by
  obtain ⟨st, sl, sb, h⟩ := s.issued_tile a w dt hf
  rw [h, State.ctx]
  cases a.side <;> rfl

/-- Neither context of a tile that issues has a fill under way. -/
theorem State.filling_issued (s : State) (a : Site) (w : W64) (dt : BitVec 8) (reads : List (BitVec 5)) (h : s.canIssue a w dt reads)
    (b : BitVec 1) : ((s.issued a w dt).tile a.tile).filling b = false := by
  have hc := s.calm_issued a w dt reads h
  exact Tile.filling_none _ _ hc.1.2.2.1 hc.2.1.2.2.1

/-- Settles O11: an MRUN is run to its issue and through its first step, and what the step writes, drains and leaves is read off its tile; a held
step's state is that of its issue; and a recovery is followed to its verdict. -/
theorem matrixSteps : Obligations.MatrixSteps := by
  refine ⟨?_, ⟨?_, ?_, ?_⟩, ?_⟩
  · intro s a f ecc buf h hecc hbuf u x w n line stride base beat open_
    have hf := s.field_of_canIssue a _ _ _ h
    refine ⟨fun hb ho => ?_, fun ho => ?_, ?_⟩
    · refine ⟨_, s.exec_bubble a f ecc buf [] h hb ho, u.elsewhere_onTile a.tile _, ?_⟩
      rw [State.tile_onTile_same]
      cases a.side <;> rfl
    · obtain ⟨hs, hwin⟩ := not_or.mp ho
      exact ⟨_, s.exec_window a f ecc buf [] h (Bool.eq_false_iff.mpr hs) (by simpa using hwin), rfl⟩
    · intro lane hb ho hl hue howner hfmt hmask hslot h0 h1 e hc
      have hw : a.side = true ∨ (s.tile a.tile).prim.window = false := s.window_of_issued a _ _ hf ▸ ho
      have hline : runLine line stride 0 = line % 2 ^ 20 := by rw [runLine, Nat.zero_mul, Nat.add_zero]
      have hrecord : x.ueIn (64 * runLine line stride 0) (rowBytes f.fmt) = none := by rw [hline, hue]
      have hdue : s.StepDue a f u e := ⟨⟨howner, s.filling_issued a _ _ _ h _, hfmt, hmask, hrecord, h0, h1⟩,
        hslot, rfl, hc⟩
      obtain ⟨t, st, sb, k, c, o, r, o', hexec, hte, htt, hlane, hno, hyes⟩ := s.exec_step a f ecc buf h hecc hbuf hb hw hl rfl hdue rfl rfl
      obtain ⟨hsram, hA, hB⟩ := x.memory_oneStep_sent st sb a.side (s.firstStep a f []) k n e (s.firstDrain a f x n e) c o (s.secondStep a f) r o'
      refine ⟨t, hexec, ?_, fun m hm => ?_, ?_, ?_, ?_, fun hn => ?_, fun le h1 h2 hle => ?_, ?_, ?_, ?_, ?_, fun m hm => ?_⟩
      · rw [htt, Tile.accOf_oneStep_sent]
        exact x.accOf_stepped_same _ _ _
      · rw [htt, Tile.accOf_oneStep_sent]
        exact x.accOf_stepped_other _ _ _ _ hm
      · rw [htt]
        exact x.queue_oneStep_sent ..
      · rw [State.ctx, htt]
        exact x.ctx_oneStep_sent ..
      · rw [htt]
        exact x.other_oneStep_sent ..
      · show (t.tile a.tile).router.lane _ ++ (t.tile a.tile).prim.out = x.router.lane _ ++ x.prim.out
        rw [htt, ← hno hn]
        exact hlane
      · obtain ⟨hcur, p, hp, hout⟩ := hyes le h1 h2 hle
        refine ⟨?_, p, ?_, hp.typ, hp.count, hp.pot, hp.start, hp.mask⟩
        · rw [htt, Tile.cursor_oneStep_sent, hcur]
          rfl
        · show (t.tile a.tile).router.lane _ ++ (t.tile a.tile).prim.out = x.router.lane _ ++ x.prim.out ++ _
          rw [htt, List.append_assoc, ← hout]
          exact hlane
      · rw [htt]
        exact hsram
      · rw [htt]
        exact hA
      · rw [htt]
        exact hB
      · exact (congrArg State.pos hte.1).trans (s.issued_pos a _ _)
      · exact (hte.2 m hm).trans (s.issued_other a _ _ hf m hm)
  · intro s a f ecc buf h hecc hbuf u x n line stride beat hb ho hl howner hfmt hmask hlast hdst hslot
    have hf := s.field_of_canIssue a _ _ _ h
    have hw : a.side = true ∨ (s.tile a.tile).prim.window = false := s.window_of_issued a _ _ hf ▸ ho
    obtain ⟨st, sb, ht⟩ := u.tile_runs a f ecc buf (s.firstStep a f [])
    refine ⟨_, s.exec_held a f ecc buf h hecc hbuf hb hw hl rfl rfl howner hfmt hmask hlast hdst hslot, ?_, ?_, ?_⟩
    · rw [State.ctx, ht, Tile.ctx_setCtx_same]
      rfl
    · rw [ht, Tile.setCtx_acc, Tile.marked_acc]
    · rw [ht, Tile.setCtx_queue, Tile.marked_queue]
  · intro s a r hr hi hgo hb hstep hups hagain x w n base e howner hfmt hmask hslot hlast hdst hue h0 h1 hc
    have hfill : x.filling r.f.buf = false := by
      have hself : (x.ctx a.side).fill = none := hi.2.2.1
      have hother : (x.ctx (!a.side)).fill = none := hgo.2.2.2.2.2.2.2.2.1
      cases hs : a.side <;> rw [hs] at hself hother
      · exact x.filling_none _ hself hother
      · exact x.filling_none _ hother hself
    exact s.exec_slotFreed a r hr hi hgo hb hstep hups hagain rfl ⟨howner, hfill, hfmt, hmask, hue, h0, h1⟩ hslot hlast hdst hc
  · intro s n side hcalm
    have hidle : ∀ d, ((s.tile n).ctx d).idle := fun d => by
      cases d
      · exact hcalm.1
      · exact hcalm.2.1
    show Host.Outcome.next ((s.turnsOf (siteOf n side) turnLimit).advance n) = _
    rw [State.turnsOf_none s (siteOf n side) _ (State.nextTurn_idle s (siteOf n side) (hidle side)),
      State.advance_rests _ _ (State.rests_of_calm _ _ hcalm)]
  · intro s n side b ops i ups beat o x recent
    constructor
    · intro h
      rw [s.recover_spent n side b ops i beat o ups h]
      exact ⟨rfl, rfl⟩
    · intro h hups h0 h1 r hd
      rw [hups]
      exact s.recover_agrees n side b ops i beat o h h0 h1 rfl hd

end Sys2Proof.Machine


/-! PROOF. Sending and receiving mesh flits (O13). -/

namespace Sys2Proof.Machine

theorem Tile.setCtx_router (x : Tile) (d : Bool) (c : Ctx) : (x.setCtx d c).router = x.router := by cases d <;> rfl
theorem Tile.setCtx_sramBad (x : Tile) (d : Bool) (c : Ctx) : (x.setCtx d c).sramBad = x.sramBad := by cases d <;> rfl
theorem Tile.setCtx_corr (x : Tile) (d : Bool) (c : Ctx) : (x.setCtx d c).corr = x.corr := by cases d <;> rfl

/-! ### One flit (R162, R171) -/

/-- What is left of a SEND or a RECV after a flit. -/
def MeshHeld.next (h : MeshHeld) : Option MeshHeld :=
  if h.left ≤ 1 then none else some { h with beat := h.beat + 1, line := h.line + 1, left := h.left - 1 }

/-- The flit of a line of a tile. -/
def Tile.lineFlit (x : Tile) (line : Nat) : Flit := flitOf (x.sram.bytes (64 * line) 64)

/-- A tile after a flit of a SEND. -/
def Tile.sentFlit (x : Tile) (d : Bool) (h : MeshHeld) : Tile :=
  ({ x with router := x.router.push (laneIn 4 d) [x.lineFlit h.line] } : Tile).setCtx d { x.ctx d with send := h.next }

/-- A tile after a flit of a RECV. -/
def Tile.tookFlit (x : Tile) (d : Bool) (h : MeshHeld) (fl : Flit) (rest : List Flit) : Tile :=
  ((({ x with router := x.router.setLane (laneOut 0 d) rest } : Tile).setCtx d { x.ctx d with recv := h.next }).sramWr
    (64 * h.line) (flitBytes fl)).wrote d h.line ((flitBytes fl).length / 64)

theorem State.sendFlit_room (s : State) (a : Site) (h : MeshHeld) (ho : (s.ctx a).out = [])
    (hr : ((s.tile a.tile).router.lane (laneIn 4 a.side)).length < 8) (hu : (s.tile a.tile).ueIn (64 * h.line) 64 = none) :
    ∃ t, s.sendFlit a h = some t ∧ s.elsewhere t a.tile ∧ t.tile a.tile = (s.tile a.tile).sentFlit a.side h := by
  have hroom : decide (locDepth ≤ ((s.tile a.tile).router.lane (laneIn 4 a.side)).length) = false := decide_eq_false (Nat.not_le.mpr hr)
  unfold State.sendFlit
  dsimp only
  rw [hroom, ho, if_neg (by decide), hu]
  refine ⟨_, rfl, State.elsewhere_trans (s.elsewhere_onTile _ _) (State.elsewhere_onTile _ a.tile _), ?_⟩
  rw [State.onCtx, State.tile_onTile_same, State.tile_onTile_same]
  cases a.side <;> rfl

theorem State.sendFlit_full (s : State) (a : Site) (h : MeshHeld)
    (hr : 8 ≤ ((s.tile a.tile).router.lane (laneIn 4 a.side)).length) : s.sendFlit a h = none := by
  unfold State.sendFlit
  exact if_pos (by simp [locDepth, hr])

theorem State.recvFlit_takes (s : State) (a : Site) (h : MeshHeld) {fl : Flit} {rest : List Flit}
    (hl : (s.tile a.tile).router.lane (laneOut 0 a.side) = fl :: rest) (hp : fl.poison = false) :
    ∃ t, s.recvFlit a h = some t ∧ s.elsewhere t a.tile ∧ t.tile a.tile = (s.tile a.tile).tookFlit a.side h fl rest := by
  unfold State.recvFlit
  rw [hl]
  dsimp only
  rw [hp, if_neg (by decide)]
  refine ⟨_, rfl, State.elsewhere_trans (State.elsewhere_trans (s.elsewhere_onTile _ _) (State.elsewhere_onTile _ a.tile _))
    (State.elsewhere_onTile _ a.tile _), ?_⟩
  rw [State.sramPut, State.tile_onTile_same, State.onCtx, State.tile_onTile_same, State.tile_onTile_same]
  cases a.side <;> rfl

theorem State.recvFlit_none (s : State) (a : Site) (h : MeshHeld) (hl : (s.tile a.tile).router.lane (laneOut 0 a.side) = []) :
    s.recvFlit a h = none := by
  unfold State.recvFlit
  rw [hl]

/-! What a flit changes of its tile. -/

section
variable (x : Tile) (d : Bool) (h : MeshHeld) (fl : Flit) (rest : List Flit)

theorem Tile.sentFlit_ctx : (x.sentFlit d h).ctx d = { x.ctx d with send := h.next } := Tile.ctx_setCtx_same _ _ _
theorem Tile.sentFlit_other : (x.sentFlit d h).ctx (!d) = x.ctx (!d) := by cases d <;> rfl
theorem Tile.sentFlit_router : (x.sentFlit d h).router = x.router.push (laneIn 4 d) [x.lineFlit h.line] := Tile.setCtx_router _ _ _
theorem Tile.sentFlit_sram : (x.sentFlit d h).sram = x.sram := Tile.setCtx_sram _ _ _
theorem Tile.sentFlit_sramBad : (x.sentFlit d h).sramBad = x.sramBad := Tile.setCtx_sramBad _ _ _
theorem Tile.sentFlit_corr : (x.sentFlit d h).corr = x.corr := Tile.setCtx_corr _ _ _

theorem Tile.wrote_eq (line n : Nat) : ∃ m, x.wrote d line n = { x with maxLine := m } := by
  unfold Tile.wrote
  split
  · exact ⟨_, rfl⟩
  · exact ⟨_, rfl⟩

theorem Tile.tookFlit_eq : ∃ m bad, x.tookFlit d h fl rest = ({ x with
    router := x.router.setLane (laneOut 0 d) rest, maxLine := m, sramBad := bad
    sram := x.sram.store (64 * h.line) (flitBytes fl) } : Tile).setCtx d { x.ctx d with recv := h.next } := by
  unfold Tile.tookFlit
  generalize hy : (({ x with router := x.router.setLane (laneOut 0 d) rest } : Tile).setCtx d { x.ctx d with recv := h.next }).sramWr
    (64 * h.line) (flitBytes fl) = y
  obtain ⟨m, hm⟩ := y.wrote_eq d h.line ((flitBytes fl).length / 64)
  refine ⟨m, y.sramBad, ?_⟩
  rw [hm, ← hy]
  cases d <;> rfl

theorem Tile.tookFlit_ctx : (x.tookFlit d h fl rest).ctx d = { x.ctx d with recv := h.next } := by
  obtain ⟨m, bad, he⟩ := x.tookFlit_eq d h fl rest
  rw [he, Tile.ctx_setCtx_same]

theorem Tile.tookFlit_other : (x.tookFlit d h fl rest).ctx (!d) = x.ctx (!d) := by
  obtain ⟨m, bad, he⟩ := x.tookFlit_eq d h fl rest
  rw [he]
  cases d <;> rfl

theorem Tile.tookFlit_lane : (x.tookFlit d h fl rest).router.lane (laneOut 0 d) = rest := by
  obtain ⟨m, bad, he⟩ := x.tookFlit_eq d h fl rest
  rw [he, Tile.setCtx_router]
  exact Map.get_put_same _ _ _ _

theorem Tile.tookFlit_sram : (x.tookFlit d h fl rest).sram = x.sram.store (64 * h.line) (flitBytes fl) := by
  obtain ⟨m, bad, he⟩ := x.tookFlit_eq d h fl rest
  rw [he, Tile.setCtx_sram]

theorem Tile.tookFlit_corr : (x.tookFlit d h fl rest).corr = x.corr := by
  obtain ⟨m, bad, he⟩ := x.tookFlit_eq d h fl rest
  rw [he, Tile.setCtx_corr]

end

theorem length_flitBytes (fl : Flit) : (flitBytes fl).length = 64 := length_leBytes 64 _

/-! ### The issue of a SEND or a RECV (R86, R162) -/

/-- The flits of a mesh instruction that have yet to move, as its issue sets them up. -/
def State.firstFlit (s : State) (a : Site) (f : XFmt) (ecc : Ecc) : MeshHeld :=
  ⟨(s.ctx a).pc, ((s.ctx a).target f.dt).toNat, (((s.ctx a).gr f.ga).toNat + f.off.toNat) % 2 ^ 20, f.nfm1.toNat + 1, ecc⟩

theorem State.atBeat_issued {s t : State} {a : Site} {dt : BitVec 8} (hr : t.atRest a.tile) {c : Ctx} (hX : s.Onward t a c)
    (hb : c.bc = (s.ctx a).target dt) : t.atBeat (siteOf a.tile a.side) ((s.ctx a).target dt).toNat = t := by
  refine State.atBeat_eq_self hr _ ?_
  rw [hX.ctx, hb]
  exact BitVec.eq_of_toNat_eq (by simp)

/-- The state in which a mesh instruction has issued, with what it has yet to move set by `g`. -/
theorem State.mesh_onward (s : State) (a : Site) (w : W64) (dt : BitVec 8) (hf : tileField a.tile < 48) (ecc : Ecc) (g : Ctx → Ctx) :
    s.Onward (((s.issued a w dt).eccCe a.tile ecc).onCtx a g) a
      (g { (s.ctx a).fold w with tc := (s.ctx a).target dt, bc := (s.ctx a).target dt }) :=
  State.onward_onCtx (State.onward_eccCe (s.onward_issued a w dt hf) ecc) g

/-- A mesh instruction whose lines lie outside the partition is the partition fault at its issue (R163). -/
theorem State.mesh_outside {s : State} {a : Site} {w : W64} {dt : BitVec 8} {op : TOp} {ga : BitVec 5} (h : s.canIssue a w dt [ga])
    (hu : op.unit ≠ 0) {line n : Nat} (hl : s.linesOk a.side line n = false)
    (hi : ∀ u : State, u.linesOk a.side line n = false →
      u.issue (siteOf a.tile a.side) ⟨op, (s.ctx a).pc, ((s.ctx a).target dt).toNat, (s.ctx a).gr ga, (s.ctx a).gr 0⟩ =
        some (u.seqFault a.tile a.side 4 (s.ctx a).pc)) :
    (s.timed a w dt op ga 0 [ga]).advance a.tile = (s.issued a w dt).seqFault a.tile a.side 4 (s.ctx a).pc := by
  have hcalm := s.calm_issued a w dt _ h
  have hother : (((s.issued a w dt).tile a.tile).ctx (!a.side)).idle := by
    cases a.side
    · exact hcalm.2.1
    · exact hcalm.1
  exact s.timed_run _ a w dt op ga 0 [ga] h hu (hi _ ((State.SameHand.linesOk (s.sameHand_issued a w dt) _ _ _).trans hl))
    (State.rests_of_calm _ _ (State.calm_seqFault _ a.tile a.side 4 _ hother hcalm.2.2))

/-- The flit of a mesh instruction that issues with it, and no other. -/
theorem State.mesh_first {s t T : State} {a : Site} {w : W64} {dt : BitVec 8} {op : TOp} {ga : BitVec 5} (h : s.canIssue a w dt [ga])
    (hu : op.unit ≠ 0)
    (hi : (s.issued a w dt).issue (siteOf a.tile a.side)
      ⟨op, (s.ctx a).pc, ((s.ctx a).target dt).toNat, (s.ctx a).gr ga, (s.ctx a).gr 0⟩ = some T)
    (hT : T.nextTurn (siteOf a.tile a.side) = some t) (ht : t.nextTurn (siteOf a.tile a.side) = none)
    (ho : t.nextTurn (siteOf a.tile (!a.side)) = none) (hout : ∀ d, ((t.tile a.tile).ctx d).out = []) (hf : t.fab.freezing = false) :
    (s.timed a w dt op ga 0 [ga]).advance a.tile = t :=
  (State.timed_turns h hu hi ((State.turnsOf_next hT 99998).trans (State.turnsOf_none _ _ _ ht)) ho).trans (t.pumps_nothing _ hout hf)

theorem State.mesh_waits {s T : State} {a : Site} {w : W64} {dt : BitVec 8} {op : TOp} {ga : BitVec 5} (h : s.canIssue a w dt [ga])
    (hu : op.unit ≠ 0)
    (hi : (s.issued a w dt).issue (siteOf a.tile a.side)
      ⟨op, (s.ctx a).pc, ((s.ctx a).target dt).toNat, (s.ctx a).gr ga, (s.ctx a).gr 0⟩ = some T)
    (hT : T.nextTurn (siteOf a.tile a.side) = none)
    (ho : T.nextTurn (siteOf a.tile (!a.side)) = none) (hout : ∀ d, ((T.tile a.tile).ctx d).out = []) (hf : T.fab.freezing = false) :
    (s.timed a w dt op ga 0 [ga]).advance a.tile = T :=
  (State.timed_turns h hu hi (State.turnsOf_none _ _ _ hT) ho).trans (T.pumps_nothing _ hout hf)

theorem State.firstFlit_next (s : State) (a : Site) (f : XFmt) (ecc : Ecc) : (s.firstFlit a f ecc).next =
    if f.nfm1.toNat + 1 = 1 then none else some ⟨(s.ctx a).pc, ((s.ctx a).target f.dt).toNat + 1,
      (((s.ctx a).gr f.ga).toNat + f.off.toNat) % 2 ^ 20 + 1, f.nfm1.toNat + 1 - 1, ecc⟩ := by
  unfold MeshHeld.next State.firstFlit
  dsimp only
  by_cases h0 : f.nfm1.toNat + 1 = 1
  · rw [if_pos h0, if_pos (le_of_eq h0)]
  · rw [if_neg h0, if_neg (by omega)]

/-- A context whose SEND has its next flit at a later beat, or none, takes no turn. -/
theorem State.nextTurn_sent (t : State) (a : Site) {c : Ctx} {h : MeshHeld} (hc : t.ctx a = { c with send := h.next })
    (hi : c.idle) (hb : c.tc.toNat ≤ h.beat) : t.nextTurn a = none := by
  obtain ⟨h1, h2, h3, h4, h5, h6, h7⟩ := hi
  by_cases hl : h.left ≤ 1
  · refine t.nextTurn_idle a ?_
    rw [hc, MeshHeld.next, if_pos hl]
    exact ⟨h1, h2, h3, rfl, h5, h6, h7⟩
  · have hn : h.next = some { h with beat := h.beat + 1, line := h.line + 1, left := h.left - 1 } := if_neg hl
    rw [hn] at hc
    have ht := Ctx.turns_send (t.ctx a) _ (by rw [hc]; exact ⟨h1, h2, h3, rfl, h5, h6, h7⟩) (by rw [hc])
    exact t.nextTurn_unreached a _ (by rw [hc]; exact h3) ht (t.reached_late a _ (by rw [hc]; exact Nat.lt_succ_of_le hb))

theorem State.nextTurn_took (t : State) (a : Site) {c : Ctx} {h : MeshHeld} (hc : t.ctx a = { c with recv := h.next })
    (hi : c.idle) (hb : c.tc.toNat ≤ h.beat) : t.nextTurn a = none := by
  obtain ⟨h1, h2, h3, h4, h5, h6, h7⟩ := hi
  by_cases hl : h.left ≤ 1
  · refine t.nextTurn_idle a ?_
    rw [hc, MeshHeld.next, if_pos hl]
    exact ⟨h1, h2, h3, h4, rfl, h6, h7⟩
  · have hn : h.next = some { h with beat := h.beat + 1, line := h.line + 1, left := h.left - 1 } := if_neg hl
    rw [hn] at hc
    have ht := Ctx.turns_recv (t.ctx a) _ (by rw [hc]; exact ⟨h1, h2, h3, h4, rfl, h6, h7⟩) (by rw [hc])
    exact t.nextTurn_unreached a _ (by rw [hc]; exact h3) ht (t.reached_late a _ (by rw [hc]; exact Nat.lt_succ_of_le hb))

section
variable (s : State) (a : Site) (f : XFmt) (ecc : Ecc)

/-- The state in which a SEND has issued. -/
def State.sends (u : State) : State := (u.eccCe a.tile ecc).onCtx a (fun c => { c with send := some (s.firstFlit a f ecc) })

theorem State.tile_sends (u : State) : ∃ st, (s.sends a f ecc u).tile a.tile =
    ({ u.tile a.tile with stat := st } : Tile).setCtx a.side { u.ctx a with send := some (s.firstFlit a f ecc) } := by
  obtain ⟨st, h⟩ := u.tile_eccCe a.tile ecc
  refine ⟨st, ?_⟩
  rw [State.sends, State.onCtx, State.tile_onTile_same, h, State.ctx]
  cases a.side <;> rfl

theorem State.elsewhere_sends (u : State) : (u.eccCe a.tile ecc).elsewhere (s.sends a f ecc u) a.tile := by
  unfold State.sends State.onCtx
  exact State.elsewhere_onTile _ a.tile _

variable (h : s.canIssue a (wordOf 4 0 (xLow f)) f.dt [f.ga]) (hecc : ecc ≠ .double)
  (hl : s.linesOk a.side ((((s.ctx a).gr f.ga).toNat + f.off.toNat) % 2 ^ 20) (f.nfm1.toNat + 1) = true)
include h

theorem State.onward_sends : s.Onward (s.sends a f ecc (s.issued a (wordOf 4 0 (xLow f)) f.dt)) a
    { (s.ctx a).fold (wordOf 4 0 (xLow f)) with
      tc := (s.ctx a).target f.dt, bc := (s.ctx a).target f.dt, send := some (s.firstFlit a f ecc) } :=
  s.mesh_onward a (wordOf 4 0 (xLow f)) f.dt (s.field_of_canIssue a _ _ _ h) ecc (fun c => { c with send := some (s.firstFlit a f ecc) })

theorem State.nextTurn_sends : (s.sends a f ecc (s.issued a (wordOf 4 0 (xLow f)) f.dt)).nextTurn (siteOf a.tile a.side) =
    (s.sends a f ecc (s.issued a (wordOf 4 0 (xLow f)) f.dt)).sendFlit (siteOf a.tile a.side) (s.firstFlit a f ecc) := by
  have hX := s.onward_sends a f ecc h
  have hidle := s.canIssue_idle a _ _ _ h a.side
  obtain ⟨h1, h2, h3, h4, h5, h6, h7⟩ := hidle
  refine (hX.nextTurn (State.canIssue_open h) (s.canIssue_running a _ _ _ h) h3
    (Ctx.turns_send _ _ ⟨h1, h2, h3, rfl, h5, h6, h7⟩ rfl) (le_refl _) h.2.2.2.2).trans ?_
  unfold State.turn
  dsimp only
  rw [Nat.mul_div_cancel_left _ (by decide)]
  exact congrArg (fun u : State => u.sendFlit (siteOf a.tile a.side) (s.firstFlit a f ecc)) (State.atBeat_issued (State.atRest_onCtx _ _ _) hX rfl)

omit h in
include hecc hl in
theorem State.issue_send : (s.issued a (wordOf 4 0 (xLow f)) f.dt).issue (siteOf a.tile a.side)
    ⟨.send f ecc, (s.ctx a).pc, ((s.ctx a).target f.dt).toNat, (s.ctx a).gr f.ga, (s.ctx a).gr 0⟩ =
      some (s.sends a f ecc (s.issued a (wordOf 4 0 (xLow f)) f.dt)) := by
  have hok := (State.SameHand.linesOk (s.sameHand_issued a (wordOf 4 0 (xLow f)) f.dt) _ _ _).trans hl
  generalize s.issued a (wordOf 4 0 (xLow f)) f.dt = u at hok ⊢
  exact congrArg some ((if_neg (ne_true_of_eq_false (congrArg not hok))).trans (if_neg hecc))

end

/-- Nothing waits before the local port after an issue that puts nothing there, and the other context is idle. -/
theorem State.Onward.still {s t : State} {a : Site} {c : Ctx} (hX : s.Onward t a c) (hi : ∀ d, ((s.tile a.tile).ctx d).idle) (hc : c.out = []) :
    ((t.tile a.tile).ctx (!a.side)).idle ∧ ∀ d, ((t.tile a.tile).ctx d).out = [] := by
  have hother : ((t.tile a.tile).ctx (!a.side)).idle := hX.other ▸ hi _
  refine ⟨hother, fun d => ?_⟩
  by_cases hd : d = a.side
  · rw [hd]
    exact (congrArg Ctx.out hX.ctx).trans hc
  · rw [Bool.eq_not.mpr hd]
    exact Ctx.out_of_idle _ hother

section
variable (s : State) (a : Site) (f : XFmt) (ecc : Ecc) (h : s.canIssue a (wordOf 4 0 (xLow f)) f.dt [f.ga]) (hecc : ecc ≠ .double)
  (hl : s.linesOk a.side ((((s.ctx a).gr f.ga).toNat + f.off.toNat) % 2 ^ 20) (f.nfm1.toNat + 1) = true)
  {u : State} (hu : u = s.issued a (wordOf 4 0 (xLow f)) f.dt)
include h hecc hl hu

/-- A SEND whose lane has room: its first flit enters, and the rest waits for its beats. -/
theorem State.exec_send (hroom : ((u.tile a.tile).router.lane (laneIn 4 a.side)).length < 8)
    (hue : (u.tile a.tile).ueIn (64 * ((((s.ctx a).gr f.ga).toNat + f.off.toNat) % 2 ^ 20)) 64 = none) :
    ∃ t st, exec (.send a f ecc) s = .next t ∧ (u.eccCe a.tile ecc).elsewhere t a.tile ∧
      t.tile a.tile = (({ u.tile a.tile with stat := st } : Tile).setCtx a.side
        { u.ctx a with send := some (s.firstFlit a f ecc) }).sentFlit a.side (s.firstFlit a f ecc) := by
  have hidle := s.canIssue_idle a _ _ _ h
  have hX := s.onward_sends a f ecc h
  obtain ⟨hother, hout⟩ := hX.still hidle (Ctx.out_of_idle (s.ctx a) (hidle a.side))
  have hissue := s.issue_send a f ecc hecc hl
  have hnext := s.nextTurn_sends a f ecc h
  obtain ⟨st, ht⟩ := s.tile_sends a f ecc u
  have hte := s.elsewhere_sends a f ecc u
  rw [← hu] at hX hissue hnext hother hout
  generalize s.sends a f ecc u = T at *
  have hr : (T.tile a.tile).router = (u.tile a.tile).router := by rw [ht, Tile.setCtx_router]
  have hbad : (T.tile a.tile).sramBad = (u.tile a.tile).sramBad := by rw [ht, Tile.setCtx_sramBad]
  obtain ⟨F, hF, hFe, hFt⟩ := T.sendFlit_room (siteOf a.tile a.side) (s.firstFlit a f ecc) (hout a.side)
    (by show ((T.tile a.tile).router.lane (laneIn 4 a.side)).length < 8; rw [hr]; exact hroom)
    (by show (T.tile a.tile).ueIn _ 64 = none; unfold Tile.ueIn; rw [hbad]; exact hue)
  change T.elsewhere F a.tile at hFe
  change F.tile a.tile = (T.tile a.tile).sentFlit a.side (s.firstFlit a f ecc) at hFt
  have hFc : F.ctx a = { T.ctx a with send := (s.firstFlit a f ecc).next } := by
    rw [State.ctx, hFt, Tile.sentFlit_ctx]
    rfl
  have hFo : (F.tile a.tile).ctx (!a.side) = (T.tile a.tile).ctx (!a.side) := by rw [hFt, Tile.sentFlit_other]
  have hnone : F.nextTurn (siteOf a.tile a.side) = none :=
    F.nextTurn_sent (siteOf a.tile a.side) (h := s.firstFlit a f ecc)
      (c := { (s.ctx a).fold (wordOf 4 0 (xLow f)) with tc := (s.ctx a).target f.dt, bc := (s.ctx a).target f.dt })
      (hFc.trans (congrArg (fun y : Ctx => { y with send := (s.firstFlit a f ecc).next }) hX.ctx)) (hidle a.side) (le_refl _)
  have hFout : ∀ d, ((F.tile a.tile).ctx d).out = [] := by
    intro d
    by_cases hd : d = a.side
    · rw [hd]
      exact (congrArg Ctx.out hFc).trans (hout a.side)
    · rw [Bool.eq_not.mpr hd, hFo]
      exact hout _
  refine ⟨F, st, congrArg Host.Outcome.next ?_, State.elsewhere_trans hte hFe, by rw [hFt, ht]⟩
  exact State.mesh_first h (by simp [TOp.unit]) (hu ▸ hissue) (hnext.trans hF) hnone
    (F.nextTurn_idle _ (by show ((F.tile a.tile).ctx (!a.side)).idle; rw [hFo]; exact hother)) hFout
    ((State.elsewhere_fab hFe ▸ rfl : F.fab.freezing = T.fab.freezing).trans (hX.freezing.trans h.2.1.2.2))

/-- A SEND whose lane is full waits. -/
theorem State.exec_send_full (hfull : 8 ≤ ((u.tile a.tile).router.lane (laneIn 4 a.side)).length) :
    exec (.send a f ecc) s = .next (s.sends a f ecc u) := by
  have hidle := s.canIssue_idle a _ _ _ h
  have hX := s.onward_sends a f ecc h
  obtain ⟨hother, hout⟩ := hX.still hidle (Ctx.out_of_idle (s.ctx a) (hidle a.side))
  obtain ⟨st, ht⟩ := s.tile_sends a f ecc u
  have hr : ((s.sends a f ecc u).tile a.tile).router = (u.tile a.tile).router := by rw [ht, Tile.setCtx_router]
  have hheld := State.sendFlit_full (s.sends a f ecc u) (siteOf a.tile a.side) (s.firstFlit a f ecc) (hr ▸ hfull)
  rw [hu] at hheld ⊢
  exact congrArg Host.Outcome.next (State.mesh_waits h (by simp [TOp.unit]) (s.issue_send a f ecc hecc hl)
    ((s.nextTurn_sends a f ecc h).trans hheld) (State.nextTurn_idle _ _ hother) hout (hX.freezing.trans h.2.1.2.2))

end


/-! ### A RECV at its issue -/

section
variable (s : State) (a : Site) (f : XFmt) (h : s.canIssue a (wordOf 4 1 (xLow f)) f.dt [f.ga])

/-- The state in which a RECV has issued. -/
def State.recvs (u : State) : State := u.onCtx a (fun c => { c with recv := some (s.firstFlit a f .ok) })

theorem State.tile_recvs (u : State) : (s.recvs a f u).tile a.tile =
    (u.tile a.tile).setCtx a.side { u.ctx a with recv := some (s.firstFlit a f .ok) } := by
  rw [State.recvs, State.onCtx, State.tile_onTile_same, State.ctx]

theorem State.elsewhere_recvs (u : State) : u.elsewhere (s.recvs a f u) a.tile := by
  unfold State.recvs State.onCtx
  exact State.elsewhere_onTile _ a.tile _

theorem State.issue_recv (hl : s.linesOk a.side ((((s.ctx a).gr f.ga).toNat + f.off.toNat) % 2 ^ 20) (f.nfm1.toNat + 1) = true) :
    (s.issued a (wordOf 4 1 (xLow f)) f.dt).issue (siteOf a.tile a.side)
      ⟨.recv f, (s.ctx a).pc, ((s.ctx a).target f.dt).toNat, (s.ctx a).gr f.ga, (s.ctx a).gr 0⟩ =
        some (s.recvs a f (s.issued a (wordOf 4 1 (xLow f)) f.dt)) := by
  have hok := (State.SameHand.linesOk (s.sameHand_issued a (wordOf 4 1 (xLow f)) f.dt) _ _ _).trans hl
  generalize s.issued a (wordOf 4 1 (xLow f)) f.dt = u at hok ⊢
  exact congrArg some (if_neg (ne_true_of_eq_false (congrArg not hok)))

include h

theorem State.onward_recvs : s.Onward (s.recvs a f (s.issued a (wordOf 4 1 (xLow f)) f.dt)) a
    { (s.ctx a).fold (wordOf 4 1 (xLow f)) with
      tc := (s.ctx a).target f.dt, bc := (s.ctx a).target f.dt, recv := some (s.firstFlit a f .ok) } :=
  State.onward_onCtx (s.onward_issued a (wordOf 4 1 (xLow f)) f.dt (s.field_of_canIssue a _ _ _ h))
    (fun c => { c with recv := some (s.firstFlit a f .ok) })

theorem State.nextTurn_recvs : (s.recvs a f (s.issued a (wordOf 4 1 (xLow f)) f.dt)).nextTurn (siteOf a.tile a.side) =
    (s.recvs a f (s.issued a (wordOf 4 1 (xLow f)) f.dt)).recvFlit (siteOf a.tile a.side) (s.firstFlit a f .ok) := by
  have hX := s.onward_recvs a f h
  obtain ⟨h1, h2, h3, h4, h5, h6, h7⟩ := s.canIssue_idle a _ _ _ h a.side
  refine (hX.nextTurn (State.canIssue_open h) (s.canIssue_running a _ _ _ h) h3
    (Ctx.turns_recv _ _ ⟨h1, h2, h3, h4, rfl, h6, h7⟩ rfl) (le_refl _) h.2.2.2.2).trans ?_
  unfold State.turn
  dsimp only
  rw [Nat.mul_div_cancel_left _ (by decide)]
  exact congrArg (fun u : State => u.recvFlit (siteOf a.tile a.side) (s.firstFlit a f .ok))
    (State.atBeat_issued (State.atRest_onCtx _ _ _) hX rfl)

variable (hl : s.linesOk a.side ((((s.ctx a).gr f.ga).toNat + f.off.toNat) % 2 ^ 20) (f.nfm1.toNat + 1) = true)
  {u : State} (hu : u = s.issued a (wordOf 4 1 (xLow f)) f.dt)
include hl hu

/-- A RECV for which no flit stands waits. -/
theorem State.exec_recv_waits (hnone : (u.tile a.tile).router.lane (laneOut 0 a.side) = []) :
    exec (.recv a f) s = .next (s.recvs a f u) := by
  have hidle := s.canIssue_idle a _ _ _ h
  have hX := s.onward_recvs a f h
  obtain ⟨hother, hout⟩ := hX.still hidle (Ctx.out_of_idle (s.ctx a) (hidle a.side))
  have hheld := State.recvFlit_none (s.recvs a f u) (siteOf a.tile a.side) (s.firstFlit a f .ok)
    (by show ((s.recvs a f u).tile a.tile).router.lane (laneOut 0 a.side) = []; rw [s.tile_recvs a f u, Tile.setCtx_router]; exact hnone)
  rw [hu] at hheld ⊢
  exact congrArg Host.Outcome.next (State.mesh_waits h (by simp [TOp.unit]) (s.issue_recv a f hl)
    ((s.nextTurn_recvs a f h).trans hheld) (State.nextTurn_idle _ _ hother) hout (hX.freezing.trans h.2.1.2.2))

/-- A RECV for which a flit stands: it takes it, and the rest waits for its beats. -/
theorem State.exec_recv {fl : Flit} {r : List Flit} (hfl : (u.tile a.tile).router.lane (laneOut 0 a.side) = fl :: r)
    (hp : fl.poison = false) :
    ∃ t, exec (.recv a f) s = .next t ∧ u.elsewhere t a.tile ∧
      t.tile a.tile = ((u.tile a.tile).setCtx a.side { u.ctx a with recv := some (s.firstFlit a f .ok) }).tookFlit a.side
        (s.firstFlit a f .ok) fl r := by
  have hidle := s.canIssue_idle a _ _ _ h
  have hX := s.onward_recvs a f h
  obtain ⟨hother, hout⟩ := hX.still hidle (Ctx.out_of_idle (s.ctx a) (hidle a.side))
  have hissue := s.issue_recv a f hl
  have hnext := s.nextTurn_recvs a f h
  have ht := s.tile_recvs a f u
  have hte := s.elsewhere_recvs a f u
  rw [← hu] at hX hissue hnext hother hout
  generalize s.recvs a f u = T at *
  obtain ⟨F, hF, hFe, hFt⟩ := T.recvFlit_takes (siteOf a.tile a.side) (s.firstFlit a f .ok) (fl := fl) (rest := r)
    (by show (T.tile a.tile).router.lane (laneOut 0 a.side) = _; rw [ht, Tile.setCtx_router]; exact hfl) hp
  change T.elsewhere F a.tile at hFe
  change F.tile a.tile = (T.tile a.tile).tookFlit a.side (s.firstFlit a f .ok) fl r at hFt
  have hFc : F.ctx a = { T.ctx a with recv := (s.firstFlit a f .ok).next } := by
    rw [State.ctx, hFt, Tile.tookFlit_ctx]
    rfl
  have hFo : (F.tile a.tile).ctx (!a.side) = (T.tile a.tile).ctx (!a.side) := by rw [hFt, Tile.tookFlit_other]
  have hnone : F.nextTurn (siteOf a.tile a.side) = none :=
    F.nextTurn_took (siteOf a.tile a.side) (h := s.firstFlit a f .ok)
      (c := { (s.ctx a).fold (wordOf 4 1 (xLow f)) with tc := (s.ctx a).target f.dt, bc := (s.ctx a).target f.dt })
      (hFc.trans (congrArg (fun y : Ctx => { y with recv := (s.firstFlit a f .ok).next }) hX.ctx)) (hidle a.side) (le_refl _)
  have hFout : ∀ d, ((F.tile a.tile).ctx d).out = [] := by
    intro d
    by_cases hd : d = a.side
    · rw [hd]
      exact (congrArg Ctx.out hFc).trans (hout a.side)
    · rw [Bool.eq_not.mpr hd, hFo]
      exact hout _
  refine ⟨F, congrArg Host.Outcome.next ?_, State.elsewhere_trans hte hFe, by rw [hFt, ht]⟩
  exact State.mesh_first h (by simp [TOp.unit]) (hu ▸ hissue) (hnext.trans hF) hnone
    (F.nextTurn_idle _ (by show ((F.tile a.tile).ctx (!a.side)).idle; rw [hFo]; exact hother)) hFout
    ((State.elsewhere_fab hFe ▸ rfl : F.fab.freezing = T.fab.freezing).trans (hX.freezing.trans h.2.1.2.2))

end


/-! ### Flits that move as decode passes their beats (R162, R171) -/

theorem State.canGo_of_elsewhere {s t : State} {a : Site} (h : s.canGo a) (he : s.elsewhere t a.tile)
    (hr : (t.ctx a).running = (s.ctx a).running) (hc : (t.tile a.tile).corr = (s.tile a.tile).corr)
    (ho : (t.tile a.tile).ctx (!a.side) = (s.tile a.tile).ctx (!a.side)) : t.canGo a := by
  obtain ⟨h1, h2, h3, h4, h5, h6, h7⟩ := h
  refine ⟨?_, hr ▸ h2, ?_, ?_, ?_, hc ▸ h6, ho ▸ h7⟩
  · rw [State.elsewhere_fab he]
    exact h1
  · rw [he.1]
    exact h3
  · rw [he.1]
    exact h4
  · rw [State.elsewhere_fab he]
    exact h5

/-- No word with two errors lies in a part of a range that holds none. -/
theorem Tile.ueIn_part (x : Tile) {a n b m : Nat} (h : x.ueIn a n = none) (h1 : a ≤ b) (h2 : b + m ≤ a + n) : x.ueIn b m = none := by
  unfold Tile.ueIn at h ⊢
  rw [Option.map_eq_none_iff, List.find?_eq_none] at h ⊢
  intro w hw hp
  refine h w hw ?_
  simp only [Bool.and_eq_true, decide_eq_true_eq] at hp ⊢
  omega

theorem Tile.ueIn_congr {x y : Tile} (h : y.sramBad = x.sramBad) (b m : Nat) : y.ueIn b m = x.ueIn b m := by
  unfold Tile.ueIn
  rw [h]

/-- What a turn that moves a flit leaves of a context's state: it stands at the beat of the flit, `g` has been done to it, and neither the other
context nor what lets it go on differs. -/
structure State.Moved (s t : State) (a : Site) (b : Nat) (g : Ctx → Ctx) : Prop where
  turn : s.nextTurn (siteOf a.tile a.side) = some t
  rest : s.elsewhere t a.tile
  ctx : t.ctx a = g { s.ctx a with bc := BitVec.ofNat 64 b }
  other : (t.tile a.tile).ctx (!a.side) = (s.tile a.tile).ctx (!a.side)
  corr : (t.tile a.tile).corr = (s.tile a.tile).corr

section
variable {s : State} {a : Site} {h : MeshHeld} (hgo : s.canGo a)
include hgo

theorem State.turn_send (hs : (s.ctx a).send = some h) (hi : ({ s.ctx a with send := none } : Ctx).idle) (hb : h.beat ≤ (s.ctx a).tc.toNat) :
    s.nextTurn (siteOf a.tile a.side) = (s.atBeat (siteOf a.tile a.side) h.beat).sendFlit (siteOf a.tile a.side) h := by
  rw [State.canGo_nextTurn hgo hi.2.2.1 (Ctx.turns_send _ h hi hs) hb]
  unfold State.turn
  dsimp only
  rw [Nat.mul_div_cancel_left _ (by decide)]

theorem State.turn_recv (hs : (s.ctx a).recv = some h) (hi : ({ s.ctx a with recv := none } : Ctx).idle) (hb : h.beat ≤ (s.ctx a).tc.toNat) :
    s.nextTurn (siteOf a.tile a.side) = (s.atBeat (siteOf a.tile a.side) h.beat).recvFlit (siteOf a.tile a.side) h := by
  rw [State.canGo_nextTurn hgo hi.2.2.1 (Ctx.turns_recv _ h hi hs) hb]
  unfold State.turn
  dsimp only
  rw [Nat.mul_div_cancel_left _ (by decide)]

/-- A flit of a SEND whose beat decode has passed. -/
theorem State.moves_sent (hs : (s.ctx a).send = some h) (hi : ({ s.ctx a with send := none } : Ctx).idle) (hb : h.beat ≤ (s.ctx a).tc.toNat)
    (hr : ((s.tile a.tile).router.lane (laneIn 4 a.side)).length < 8) (hu : (s.tile a.tile).ueIn (64 * h.line) 64 = none) :
    ∃ t, s.Moved t a h.beat (fun c => { c with send := h.next }) ∧
      (t.tile a.tile).router = (s.tile a.tile).router.push (laneIn 4 a.side) [(s.tile a.tile).lineFlit h.line] ∧
      (t.tile a.tile).sram = (s.tile a.tile).sram ∧ (t.tile a.tile).sramBad = (s.tile a.tile).sramBad := by
  have hnext := State.turn_send hgo hs hi hb
  have hB : (s.atBeat (siteOf a.tile a.side) h.beat).tile a.tile = (s.tile a.tile).atBeat a.side h.beat :=
    s.tile_atBeat (siteOf a.tile a.side) h.beat
  have hBe := State.elsewhere_atBeat s (siteOf a.tile a.side) h.beat
  generalize s.atBeat (siteOf a.tile a.side) h.beat = B at *
  have hBc : (B.tile a.tile).ctx a.side = { s.ctx a with bc := BitVec.ofNat 64 h.beat } := by rw [hB, Tile.atBeat, Tile.ctx_setCtx_same, State.ctx]
  have hBr : (B.tile a.tile).router = (s.tile a.tile).router := by rw [hB, Tile.atBeat, Tile.setCtx_router]
  have hBb : (B.tile a.tile).sramBad = (s.tile a.tile).sramBad := by rw [hB, Tile.atBeat, Tile.setCtx_sramBad]
  have hBs : (B.tile a.tile).sram = (s.tile a.tile).sram := by rw [hB, Tile.atBeat, Tile.setCtx_sram]
  obtain ⟨t, ht, hte, htt⟩ := B.sendFlit_room (siteOf a.tile a.side) h ((congrArg Ctx.out hBc).trans hi.2.2.2.2.2.2)
    (by show ((B.tile a.tile).router.lane (laneIn 4 a.side)).length < 8; rw [hBr]; exact hr)
    ((Tile.ueIn_congr hBb _ _).trans hu)
  change t.tile a.tile = (B.tile a.tile).sentFlit a.side h at htt
  refine ⟨t, ⟨hnext.trans ht, State.elsewhere_trans hBe hte, ?_, ?_, ?_⟩, ?_, ?_, ?_⟩
  · rw [State.ctx, htt, Tile.sentFlit_ctx, hBc]
  · rw [htt, Tile.sentFlit_other, hB, Tile.atBeat, Tile.ctx_setCtx_other _ _ _ _ (by cases a.side <;> decide)]
  · rw [htt, Tile.sentFlit_corr, hB, Tile.atBeat, Tile.setCtx_corr]
  · rw [htt, Tile.sentFlit_router, hBr, Tile.lineFlit, hBs, Tile.lineFlit]
  · rw [htt, Tile.sentFlit_sram, hBs]
  · rw [htt, Tile.sentFlit_sramBad, hBb]

/-- A flit of a RECV whose beat decode has passed. -/
theorem State.moves_taken (hs : (s.ctx a).recv = some h) (hi : ({ s.ctx a with recv := none } : Ctx).idle) (hb : h.beat ≤ (s.ctx a).tc.toNat)
    {fl : Flit} {r : List Flit} (hl : (s.tile a.tile).router.lane (laneOut 0 a.side) = fl :: r) (hp : fl.poison = false) :
    ∃ t, s.Moved t a h.beat (fun c => { c with recv := h.next }) ∧ (t.tile a.tile).router.lane (laneOut 0 a.side) = r ∧
      (t.tile a.tile).sram = (s.tile a.tile).sram.store (64 * h.line) (flitBytes fl) := by
  have hnext := State.turn_recv hgo hs hi hb
  have hB : (s.atBeat (siteOf a.tile a.side) h.beat).tile a.tile = (s.tile a.tile).atBeat a.side h.beat :=
    s.tile_atBeat (siteOf a.tile a.side) h.beat
  have hBe := State.elsewhere_atBeat s (siteOf a.tile a.side) h.beat
  generalize s.atBeat (siteOf a.tile a.side) h.beat = B at *
  have hBc : (B.tile a.tile).ctx a.side = { s.ctx a with bc := BitVec.ofNat 64 h.beat } := by rw [hB, Tile.atBeat, Tile.ctx_setCtx_same, State.ctx]
  have hBr : (B.tile a.tile).router = (s.tile a.tile).router := by rw [hB, Tile.atBeat, Tile.setCtx_router]
  have hBs : (B.tile a.tile).sram = (s.tile a.tile).sram := by rw [hB, Tile.atBeat, Tile.setCtx_sram]
  obtain ⟨t, ht, hte, htt⟩ := B.recvFlit_takes (siteOf a.tile a.side) h (fl := fl) (rest := r)
    (by show (B.tile a.tile).router.lane (laneOut 0 a.side) = _; rw [hBr]; exact hl) hp
  change t.tile a.tile = (B.tile a.tile).tookFlit a.side h fl r at htt
  refine ⟨t, ⟨hnext.trans ht, State.elsewhere_trans hBe hte, ?_, ?_, ?_⟩, ?_, ?_⟩
  · rw [State.ctx, htt, Tile.tookFlit_ctx, hBc]
  · rw [htt, Tile.tookFlit_other, hB, Tile.atBeat, Tile.ctx_setCtx_other _ _ _ _ (by cases a.side <;> decide)]
  · rw [htt, Tile.tookFlit_corr, hB, Tile.atBeat, Tile.setCtx_corr]
  · rw [htt, Tile.tookFlit_lane]
  · rw [htt, Tile.tookFlit_sram, hBs]

end

/-- What a run of turns that moves flits leaves of a context's state: its operation is done, TC stands, and nothing of another tile differs. -/
structure State.Finished (s t : State) (a : Site) (k : Nat) : Prop where
  turns : ∀ m, s.turnsOf (siteOf a.tile a.side) (k + m) = t.turnsOf (siteOf a.tile a.side) m
  rest : s.elsewhere t a.tile
  idle : (t.ctx a).idle
  tc : (t.ctx a).tc = (s.ctx a).tc
  other : (t.tile a.tile).ctx (!a.side) = (s.tile a.tile).ctx (!a.side)

theorem State.Moved.finished {s t : State} {a : Site} {b : Nat} {g : Ctx → Ctx} (h : s.Moved t a b g)
    (hi : (g { s.ctx a with bc := BitVec.ofNat 64 b }).idle) (ht : (g { s.ctx a with bc := BitVec.ofNat 64 b }).tc = (s.ctx a).tc) :
    s.Finished t a 1 := by
  refine ⟨fun m => ?_, h.rest, h.ctx ▸ hi, h.ctx ▸ ht, h.other⟩
  rw [Nat.add_comm]
  exact State.turnsOf_next h.turn m

theorem State.Moved.trans_finished {s u t : State} {a : Site} {b k : Nat} {g : Ctx → Ctx} (h : s.Moved u a b g) (ht : u.Finished t a k)
    (hc : (g { s.ctx a with bc := BitVec.ofNat 64 b }).tc = (s.ctx a).tc) : s.Finished t a (k + 1) := by
  refine ⟨fun m => ?_, State.elsewhere_trans h.rest ht.rest, ht.idle, ht.tc.trans (h.ctx ▸ hc), ht.other.trans h.other⟩
  rw [Nat.add_right_comm]
  exact (State.turnsOf_next h.turn (k + m)).trans (ht.turns m)

theorem MeshHeld.next_last (h : MeshHeld) (hl : h.left = 1) : h.next = none := if_pos (le_of_eq hl)

theorem MeshHeld.next_more (h : MeshHeld) {k : Nat} (hl : h.left = k + 2) :
    h.next = some { h with beat := h.beat + 1, line := h.line + 1, left := k + 1 } := by
  unfold MeshHeld.next
  rw [if_neg (by omega), hl]
  rfl

/-- The flits of `k` lines of a tile. -/
def Tile.lineFlits (x : Tile) (line k : Nat) : List Flit := (List.range k).map (fun i => x.lineFlit (line + i))

theorem Tile.lineFlits_succ (x : Tile) (line k : Nat) : x.lineFlits line (k + 1) = x.lineFlit line :: x.lineFlits (line + 1) k := by
  unfold Tile.lineFlits
  rw [List.range_succ_eq_map, List.map_cons, List.map_map]
  exact congrArg (x.lineFlit line :: ·) (List.map_congr_left fun i _ => congrArg x.lineFlit (by simp only [Nat.succ_eq_add_one]; omega))

theorem Tile.lineFlits_congr {x y : Tile} (h : y.sram = x.sram) (line k : Nat) : y.lineFlits line k = x.lineFlits line k := by
  unfold Tile.lineFlits Tile.lineFlit
  rw [h]

/-- The flits of a SEND, all of whose beats decode has passed, enter a lane that has room for them. -/
theorem State.sends_all (a : Site) (k : Nat) : ∀ (s : State) (h : MeshHeld), h.left = k + 1 → s.canGo a → (s.ctx a).send = some h →
    ({ s.ctx a with send := none } : Ctx).idle → h.beat + k ≤ (s.ctx a).tc.toNat →
    ((s.tile a.tile).router.lane (laneIn 4 a.side)).length + (k + 1) ≤ 8 → (s.tile a.tile).ueIn (64 * h.line) (64 * (k + 1)) = none →
    ∃ t, s.Finished t a (k + 1) ∧ (t.tile a.tile).sram = (s.tile a.tile).sram ∧ (t.tile a.tile).router.lane (laneIn 4 a.side) =
      (s.tile a.tile).router.lane (laneIn 4 a.side) ++ (s.tile a.tile).lineFlits h.line (k + 1) := by
  induction k with
  | zero =>
    intro s h hl hgo hs hi hb hr hu
    obtain ⟨t, hm, htr, htm, _⟩ := State.moves_sent hgo hs hi (by omega) (by omega) (Tile.ueIn_part _ hu (le_refl _) (by omega))
    refine ⟨t, hm.finished (by rw [h.next_last hl]; exact hi) rfl, htm, ?_⟩
    rw [htr]
    exact Map.get_put_same _ _ _ _
  | succ k ih =>
    intro s h hl hgo hs hi hb hr hu
    obtain ⟨u, hm, hur, hus, hub⟩ := State.moves_sent hgo hs hi (by omega) (by omega) (Tile.ueIn_part _ hu (le_refl _) (by omega))
    have hlane : (u.tile a.tile).router.lane (laneIn 4 a.side) =
        (s.tile a.tile).router.lane (laneIn 4 a.side) ++ [(s.tile a.tile).lineFlit h.line] := by
      rw [hur]
      exact Map.get_put_same _ _ _ _
    have hmc := hm.ctx
    obtain ⟨t, hf, hts, htl⟩ := ih u { h with beat := h.beat + 1, line := h.line + 1, left := k + 1 } rfl
      (State.canGo_of_elsewhere hgo hm.rest (by rw [hmc]) hm.corr hm.other) (by rw [hmc]; exact h.next_more hl) (by rw [hmc]; exact hi)
      (by rw [hmc]; show h.beat + 1 + k ≤ (s.ctx a).tc.toNat; omega) (by rw [hlane, List.length_append, List.length_singleton]; omega)
      ((Tile.ueIn_congr hub _ _).trans (Tile.ueIn_part _ hu (by show _ ≤ 64 * (h.line + 1); omega) (by show 64 * (h.line + 1) + _ ≤ _; omega)))
    refine ⟨t, hm.trans_finished hf rfl, hts.trans hus, ?_⟩
    rw [htl, hlane, Tile.lineFlits_congr hus, Tile.lineFlits_succ _ h.line (k + 1), List.append_assoc, List.singleton_append]

/-- Two strings stored one after the other are their concatenation stored. -/
theorem Map.get_store_append (m : Map Byte) (i j : Nat) (b c : Bytes) (x : Nat) (hj : j = i + b.length) :
    ((m.store i b).store j c).get x 0 = (m.store i (b ++ c)).get x 0 := by
  subst hj
  rw [Map.get_store, Map.get_store, Map.get_store, List.length_append]
  by_cases h1 : i + b.length ≤ x ∧ x < i + b.length + c.length
  · rw [if_pos h1, if_pos (by omega), List.getD_append_right _ _ _ _ (by omega)]
    congr 1
    omega
  · rw [if_neg h1]
    by_cases h2 : i ≤ x ∧ x < i + b.length
    · rw [if_pos h2, if_pos (by omega), List.getD_append _ _ _ _ (by omega)]
    · rw [if_neg h2, if_neg (by omega)]

/-- The flits of a RECV that has them all, and all of whose beats decode has passed, are written to SRAM. -/
theorem State.takes_all (a : Site) (k : Nat) : ∀ (s : State) (h : MeshHeld) (fs r : List Flit), fs.length = k + 1 → h.left = k + 1 →
    s.canGo a → (s.ctx a).recv = some h → ({ s.ctx a with recv := none } : Ctx).idle → h.beat + k ≤ (s.ctx a).tc.toNat →
    (s.tile a.tile).router.lane (laneOut 0 a.side) = fs ++ r → (∀ fl ∈ fs, fl.poison = false) →
    ∃ t, s.Finished t a (k + 1) ∧ (t.tile a.tile).router.lane (laneOut 0 a.side) = r ∧ ∀ b, (t.tile a.tile).sram.get b 0 =
      ((s.tile a.tile).sram.store (64 * h.line) (fs.flatMap flitBytes)).get b 0 := by
  induction k with
  | zero =>
    intro s h fs r hn hl hgo hs hi hb hlane hp
    obtain ⟨fl, rfl⟩ := List.length_eq_one_iff.mp hn
    obtain ⟨t, hm, htl, hts⟩ := State.moves_taken hgo hs hi (by omega) hlane (hp fl (List.mem_singleton_self fl))
    refine ⟨t, hm.finished (by rw [h.next_last hl]; exact hi) rfl, htl, fun b => ?_⟩
    rw [hts, List.flatMap_singleton]
  | succ k ih =>
    intro s h fs r hn hl hgo hs hi hb hlane hp
    obtain ⟨fl, fs, rfl⟩ := List.exists_cons_of_length_eq_add_one hn
    obtain ⟨u, hm, hul, hus⟩ := State.moves_taken hgo hs hi (by omega) (hlane.trans (List.cons_append ..)) (hp fl List.mem_cons_self)
    have hmc := hm.ctx
    obtain ⟨t, hf, htl, hts⟩ := ih u { h with beat := h.beat + 1, line := h.line + 1, left := k + 1 } fs r
      (by rw [List.length_cons] at hn; omega) rfl
      (State.canGo_of_elsewhere hgo hm.rest (by rw [hmc]) hm.corr hm.other) (by rw [hmc]; exact h.next_more hl) (by rw [hmc]; exact hi)
      (by rw [hmc]; show h.beat + 1 + k ≤ (s.ctx a).tc.toNat; omega) hul (fun f hf => hp f (List.mem_cons_of_mem _ hf))
    refine ⟨t, hm.trans_finished hf rfl, htl, fun b => ?_⟩
    rw [hts, hus, List.flatMap_cons]
    have hj : 64 * (h.line + 1) = 64 * h.line + (flitBytes fl).length := by
      rw [length_flitBytes]
      omega
    exact Map.get_store_append _ _ _ _ _ _ hj

/-! ### WAITB while a SEND or a RECV is under way -/

/-- The state in which decode stands after a WAITB. -/
def State.waited (s : State) (a : Site) (f : SFmt) : State :=
  (s.decoded a (wordOf 7 6 (sLow f))).onCtx a (fun c => { c with tc := c.tc + f.imm.setWidth 64 })

section
variable (s : State) (a : Site) (f : SFmt)

theorem State.elsewhere_waited : s.elsewhere (s.waited a f) a.tile := by
  unfold State.waited State.onCtx
  exact State.elsewhere_trans (s.elsewhere_decoded a _) (State.elsewhere_onTile _ a.tile _)

theorem State.ctx_waited : (s.waited a f).ctx a = { (s.ctx a).fold (wordOf 7 6 (sLow f)) with tc := (s.ctx a).tc + f.imm.setWidth 64 } := by
  rw [State.waited, State.ctx_onCtx_same, State.ctx_decoded]
  rfl

theorem State.tile_waited : ∃ st, (s.waited a f).tile a.tile =
    ((s.tile a.tile).marked st (s.tile a.tile).slip (s.tile a.tile).sideBeats).setCtx a.side ((s.waited a f).ctx a) := by
  obtain ⟨st, h⟩ := s.decoded_tile a (wordOf 7 6 (sLow f))
  refine ⟨st, ?_⟩
  rw [s.ctx_waited a f, State.waited, State.onCtx, State.tile_onTile_same, h, Tile.setCtx_setCtx, Tile.ctx_setCtx_same]
  rfl

theorem State.router_waited : ((s.waited a f).tile a.tile).router = (s.tile a.tile).router := by
  obtain ⟨st, h⟩ := s.tile_waited a f
  rw [h, Tile.setCtx_router]
  rfl

theorem State.sram_waited : ((s.waited a f).tile a.tile).sram = (s.tile a.tile).sram := by
  obtain ⟨st, h⟩ := s.tile_waited a f
  rw [h, Tile.setCtx_sram]
  rfl

theorem State.sramBad_waited : ((s.waited a f).tile a.tile).sramBad = (s.tile a.tile).sramBad := by
  obtain ⟨st, h⟩ := s.tile_waited a f
  rw [h, Tile.setCtx_sramBad]
  rfl

theorem State.canGo_waited (h : s.canGo a) : (s.waited a f).canGo a := by
  obtain ⟨st, ht⟩ := s.tile_waited a f
  refine State.canGo_of_elsewhere h (s.elsewhere_waited a f) (by rw [s.ctx_waited]; rfl) ?_ ?_
  · rw [ht, Tile.setCtx_corr]
    rfl
  · rw [ht, Tile.ctx_setCtx_other _ _ _ _ (by cases a.side <;> decide)]
    cases a.side <;> rfl

/-- After a WAITB whose turns finish what the context holds, the tile rests. -/
theorem State.exec_waitb {t : State} {k : Nat} (hd : s.canDecode a (wordOf 7 6 (sLow f)) []) (hg : s.canGo a)
    (ho : (s.ctx a).out = []) (h : (s.waited a f).Finished t a k) (hk : k ≤ turnLimit) : exec (.waitb a f) s = .next t := by
  have hgo := s.canGo_waited a f hg
  have hturns : (s.waited a f).turnsOf (siteOf a.tile a.side) turnLimit = t := by
    rw [← Nat.add_sub_cancel' hk, h.turns]
    exact State.turnsOf_none _ _ _ (t.nextTurn_idle _ h.idle)
  have hother : ((t.tile a.tile).ctx (!a.side)).idle := by
    rw [h.other]
    exact hgo.2.2.2.2.2.2
  have hout : ∀ u : State, (u.ctx a).out = [] → ((u.tile a.tile).ctx (!a.side)).idle → ∀ d, ((u.tile a.tile).ctx d).out = [] := by
    intro u h1 h2 d
    by_cases hds : d = a.side
    · rw [hds]
      exact h1
    · rw [Bool.eq_not.mpr hds]
      exact Ctx.out_of_idle _ h2
  have hfree : t.fab.freezing = false := by
    rw [State.elsewhere_fab h.rest]
    exact hgo.2.2.2.2.1
  refine congrArg Host.Outcome.next ?_
  rw [s.branch_run a 6 f [] _ hd]
  exact (State.advance_turns hturns (State.nextTurn_idle _ _ hgo.2.2.2.2.2.2)
    (hout _ ((congrArg Ctx.out (s.ctx_waited a f)).trans ho) hgo.2.2.2.2.2.2) (t.nextTurn_idle _ hother)).trans
    (t.pumps_nothing _ (hout t (Ctx.out_of_idle _ h.idle) hother) hfree)

end

/-! ### What stands after the issue, and the statement -/

section
variable (s : State) (a : Site) (w : W64) (dt : BitVec 8) (hf : tileField a.tile < 48)
include hf

theorem State.router_issued : ((s.issued a w dt).tile a.tile).router = (s.tile a.tile).router := by
  obtain ⟨st, sl, sb, h⟩ := s.issued_tile a w dt hf
  rw [h, Tile.setCtx_router]
  rfl

theorem State.sram_issued : ((s.issued a w dt).tile a.tile).sram = (s.tile a.tile).sram := by
  obtain ⟨st, sl, sb, h⟩ := s.issued_tile a w dt hf
  rw [h, Tile.setCtx_sram]
  rfl

theorem State.sramBad_issued : ((s.issued a w dt).tile a.tile).sramBad = (s.tile a.tile).sramBad := by
  obtain ⟨st, sl, sb, h⟩ := s.issued_tile a w dt hf
  rw [h, Tile.setCtx_sramBad]
  rfl

end

/-- Settles O13: at the issue one turn moves one flit and the next has a later beat; after a WAITB the turns that are due, by induction on the flits
left. -/
theorem sendReceive : Obligations.SendReceive := by
  unfold Obligations.SendReceive
  refine ⟨?_, ?_⟩
  · intro s a f ecc line n beat u x l out rest
    refine ⟨fun h hecc hl => ⟨fun hroom hue => ?_, fun hfull => ?_⟩,
      fun h hok hl => ⟨fun fl r hfl hp => ?_, fun hnone => ?_⟩, fun op hop h hl => ?_⟩
    · have hf := s.field_of_canIssue a _ _ _ h
      have hs := s.sram_issued a (wordOf 4 0 (xLow f)) f.dt hf
      have hr := s.router_issued a (wordOf 4 0 (xLow f)) f.dt hf
      obtain ⟨t, st, hex, hel, ht⟩ := s.exec_send a f ecc h hecc hl rfl (by rw [hr]; exact hroom)
        ((Tile.ueIn_congr (s.sramBad_issued a _ f.dt hf) _ _).trans hue)
      refine ⟨t, hex, hel, ?_, ?_, ?_⟩
      · rw [ht, Tile.sentFlit_router, Tile.setCtx_router, Tile.lineFlit, Tile.setCtx_sram]
        show Router.push _ _ [flitOf (((s.issued a _ f.dt).tile a.tile).sram.bytes _ 64)] = _
        rw [hs]
        exact congrArg (fun q : Router => Router.setLane ((u 0).tile a.tile).router (laneIn 4 a.side) (q.lane (laneIn 4 a.side) ++ [_])) hr
      · rw [State.ctx, ht, Tile.sentFlit_ctx, Tile.ctx_setCtx_same, s.firstFlit_next]
      · rw [ht, Tile.sentFlit_sram, Tile.setCtx_sram]
        exact hs
    · have hf := s.field_of_canIssue a _ _ _ h
      obtain ⟨st, ht⟩ := s.tile_sends a f ecc (u 0)
      refine ⟨_, s.exec_send_full a f ecc h hecc hl rfl (by rw [s.router_issued a _ f.dt hf]; exact hfull), ?_, ?_⟩
      · rw [ht, Tile.setCtx_router]
      · rw [State.ctx, ht, Tile.ctx_setCtx_same]
        rfl
    · have hf := s.field_of_canIssue a _ _ _ h
      obtain ⟨t, hex, hel, ht⟩ := s.exec_recv a f h hl rfl (fl := fl) (r := r) (by rw [s.router_issued a _ f.dt hf]; exact hfl) hp
      have hsram : (t.tile a.tile).sram = (s.tile a.tile).sram.store (64 * line) (flitBytes fl) := by
        rw [ht, Tile.tookFlit_sram, Tile.setCtx_sram, s.sram_issued a _ f.dt hf]
        rfl
      have hlen := length_flitBytes fl
      refine ⟨t, hex, hel, ?_, fun i hi => ?_, fun b hb => ?_, ?_, ?_⟩
      · rw [ht, Tile.tookFlit_lane]
      · rw [hsram, Map.get_store, if_pos (by omega), Nat.add_sub_cancel_left]
      · rw [hsram, Map.get_store_out _ _ _ _ (by omega)]
      · rw [State.ctx, ht, Tile.tookFlit_ctx, Tile.ctx_setCtx_same, s.firstFlit_next, ← hok]
      · rw [ht, Tile.tookFlit_other, Tile.ctx_setCtx_other _ _ _ _ (by cases a.side <;> decide)]
    · have hf := s.field_of_canIssue a _ _ _ h
      exact s.exec_recv_waits a f h hl rfl (by rw [s.router_issued a _ f.dt hf]; exact hnone)
    · obtain rfl | rfl : op = 0 ∨ op = 1 := by omega
      · exact congrArg Host.Outcome.next (State.mesh_outside h (op := .send f ecc) (by simp [TOp.unit]) hl
          fun _ hu => congrArg some (if_pos (congrArg not hu)))
      · exact congrArg Host.Outcome.next (State.mesh_outside h (op := .recv f) (by simp [TOp.unit]) hl
          fun _ hu => congrArg some (if_pos (congrArg not hu)))
  · intro s a f h hd hg now k out l hk hk2 hbeat
    have hctx := s.ctx_waited a f
    have htc : ((s.waited a f).ctx a).tc = now := by rw [hctx]
    have hrouter := s.router_waited a f
    have hsram := s.sram_waited a f
    have hgo := s.canGo_waited a f hg
    have hel := s.elsewhere_waited a f
    obtain ⟨j, hj⟩ : ∃ j, h.left = j + 1 := ⟨h.left - 1, by omega⟩
    have hkj : k = j + 1 := hj
    refine ⟨fun hs hi hroom hue => ?_, fun hs hi hlen hp => ?_⟩
    · obtain ⟨t, hfin, hts, htl⟩ := State.sends_all a j (s.waited a f) h hj hgo (by rw [hctx]; exact hs) (by rw [hctx]; exact hi)
        (by rw [htc]; omega) (by rw [hrouter, ← hkj]; exact hroom)
        ((Tile.ueIn_congr (s.sramBad_waited a f) _ _).trans (by rw [← hkj]; exact hue))
      refine ⟨t, s.exec_waitb a f hd hg hi.2.2.2.2.2.2 hfin (by unfold turnLimit; omega), hfin.idle.2.2.2.1, hfin.tc.trans htc, ?_,
        hts.trans hsram, fun m hm => (hfin.rest.2 m hm).trans (hel.2 m hm)⟩
      rw [htl, hrouter, Tile.lineFlits_congr hsram, hkj]
      rfl
    · obtain ⟨t, hfin, htl, hts⟩ := State.takes_all a j (s.waited a f) h (l.take k) (l.drop k)
        (by rw [List.length_take, Nat.min_eq_left hlen, hkj]) hj hgo (by rw [hctx]; exact hs) (by rw [hctx]; exact hi)
        (by rw [htc]; omega) (by rw [hrouter, List.take_append_drop]) hp
      have hbytes : ((l.take k).flatMap flitBytes).length = 64 * k := by
        rw [List.length_flatMap, List.map_congr_left (fun fl _ => length_flitBytes fl), List.map_const', List.sum_replicate, List.length_take,
          Nat.min_eq_left hlen, smul_eq_mul, Nat.mul_comm]
      refine ⟨t, s.exec_waitb a f hd hg hi.2.2.2.2.2.2 hfin (by unfold turnLimit; omega), hfin.idle.2.2.2.2.1, hfin.tc.trans htc, htl,
        fun i hi => ?_, fun b hb => ?_, fun m hm => (hfin.rest.2 m hm).trans (hel.2 m hm)⟩
      · rw [hts, Map.get_store, if_pos (by omega), Nat.add_sub_cancel_left]
      · rw [hts, Map.get_store_out _ _ _ _ (by omega), hsram]

end Sys2Proof.Machine


/-! SUPPORT. A dealer that reads a descriptor, and the units that follow it (R233 to R239). -/

namespace Sys2Proof.Machine

/-! ### A dealer and its position -/

section
variable (s : State) (k : Nat) (f : Dealer → Dealer)

theorem State.posn_onDealer_same : (s.onDealer k f).posn k = { s.posn k with dealer := f (s.dealer k) } := s.posn_onPos_same k _

theorem State.posn_onDealer_other (j : Nat) (h : j ≠ k) : (s.onDealer k f).posn j = s.posn j := s.posn_onPos_other k j _ h

theorem State.dealer_onDealer : (s.onDealer k f).dealer k = f (s.dealer k) := by rw [State.dealer, s.posn_onDealer_same k f]

end

theorem State.posn_putOpen_other (s : State) (k id : Nat) (x : Option OpenDesc) (j : Nat) (h : j ≠ k) : (s.putOpen k id x).posn j = s.posn j :=
  s.posn_onDealer_other k _ j h

theorem State.posn_putOpen (s : State) (k id : Nat) (x : Option OpenDesc) : (s.putOpen k id x).posn k = { s.posn k with dealer :=
    { s.dealer k with opened := (s.dealer k).opened.filterMap (fun e => if e.id = id then x else some e) } } :=
  s.posn_onDealer_same k _

theorem State.opened_putOpen {s : State} {k : Nat} {e : OpenDesc} (h : (s.dealer k).opened = [e]) (x : Option OpenDesc) :
    ((s.putOpen k e.id x).dealer k).opened = x.toList := by
  rw [State.dealer, s.posn_putOpen, h]
  cases x <;> simp

/-! ### What the steps of a descriptor leave as it was -/

/-- What a step of a descriptor at a position leaves: its tiles, the links, the hand but for the numbers of its delta segments, every register but
NONFIN, the other positions, and of the dealer its gathers and the descriptors that it has read. -/
structure State.Deals (s t : State) (k : Nat) : Prop where
  tiles : t.tiles = s.tiles
  link : t.link = s.link
  hand : ∃ q, t.hand = { s.hand with deltaSeq := q }
  started : t.fab.started = s.fab.started
  reg : ∀ o, o ≠ R.FB_TRUMP_FLAGS_NONFIN.addr 0 → t.reg o = s.reg o
  gathers : (t.dealer k).gathers = (s.dealer k).gathers
  opened : (t.dealer k).opened = (s.dealer k).opened
  others : ∀ j, j ≠ k → t.posn j = s.posn j

theorem State.Deals.refl (s : State) (k : Nat) : s.Deals s k := ⟨rfl, rfl, ⟨_, rfl⟩, rfl, fun _ _ => rfl, rfl, rfl, fun _ _ => rfl⟩

theorem State.Deals.trans {s t u : State} {k : Nat} (h : s.Deals t k) (g : t.Deals u k) : s.Deals u k := by
  obtain ⟨q, hq⟩ := h.hand
  obtain ⟨r, hr⟩ := g.hand
  exact ⟨g.tiles.trans h.tiles, g.link.trans h.link, ⟨r, by rw [hr, hq]⟩, g.started.trans h.started,
    fun o ho => (g.reg o ho).trans (h.reg o ho), g.gathers.trans h.gathers, g.opened.trans h.opened,
    fun j hj => (g.others j hj).trans (h.others j hj)⟩

/-- A change of a position that leaves the dealer's gathers and descriptors. -/
theorem State.deals_onPos (s : State) (k : Nat) (f : Pos → Pos) (hg : (f (s.posn k)).dealer.gathers = (s.dealer k).gathers)
    (ho : (f (s.posn k)).dealer.opened = (s.dealer k).opened) : s.Deals (s.onPos k f) k := by
  refine ⟨rfl, rfl, ⟨_, rfl⟩, rfl, fun _ _ => rfl, ?_, ?_, fun j hj => s.posn_onPos_other k j f hj⟩
  · rw [State.dealer, s.posn_onPos_same]
    exact hg
  · rw [State.dealer, s.posn_onPos_same]
    exact ho

theorem State.deals_toEdge (s : State) (k j p : Nat) (l : List Flit) : s.Deals (s.toEdge j p l) k :=
  ⟨rfl, rfl, ⟨_, rfl⟩, rfl, fun _ _ => rfl, rfl, rfl, fun _ _ => rfl⟩

/-! ### The state after the read of a descriptor -/

/-- A dealer has read a descriptor of its list, and has perhaps recorded its version: it has gone on in the list, and the descriptor stands alone
among those that it has read. -/
structure State.HasRead (s t : State) (k : Nat) (d : SDesc) : Prop where
  tiles : t.tiles = s.tiles
  link : t.link = s.link
  hand : t.hand = s.hand
  fab : t.fab = s.fab
  num : t.num = s.num
  free : t.free = s.free
  reg : ∀ o, o ≠ R.DL_PDESC_INDEX.addr k → t.reg o = s.reg o
  index : t.descIndex k = s.nextIndex k % 2 ^ R.DL_PDESC_INDEX.width
  posn : ∃ p v i, t.posn k = { s.posn k with dealer := { s.dealer k with pass := p, vrec := v, nextId := i, opened := [s.opens k d] } }
  others : ∀ j, j ≠ k → t.posn j = s.posn j

/-- The state in which a dealer has read a descriptor. -/
def State.reads (s : State) (k : Nat) (d : SDesc) : State :=
  (s.nextDesc k).onDealer k (fun x => { x with opened := x.opened ++ [s.opens k d], nextId := (s.opens k d).id + 1 })

theorem State.hasRead_reads (s : State) (k : Nat) (d : SDesc) (ho : (s.dealer k).opened = []) : s.HasRead (s.reads k d) k d := by
  have hset : ∀ v : Nat, (s.setI R.DL_PDESC_INDEX k v).descIndex k = v % 2 ^ R.DL_PDESC_INDEX.width := fun v =>
    s.getI_setI_same R.DL_PDESC_INDEX k v (by decide)
  have hreg : ∀ (v o : Nat), o ≠ R.DL_PDESC_INDEX.addr k → (s.setI R.DL_PDESC_INDEX k v).reg o = s.reg o := fun v o hne =>
    s.reg_setReg_other _ o _ hne
  have hone : (s.dealer k).opened ++ [s.opens k d] = [s.opens k d] := by
    rw [ho]
    rfl
  unfold State.reads
  by_cases hc : s.hand.sweep = false ∧ s.descIndex k + 1 = (s.dealer k).loopEnd ∧ (s.dealer k).loopFirst < (s.dealer k).loopEnd ∧
      (s.dealer k).pass + 1 < s.rounds
  · have hi : s.nextIndex k = (s.dealer k).loopFirst := if_pos hc
    have hd : s.nextDesc k = (s.setI R.DL_PDESC_INDEX k (s.nextIndex k)).onDealer k (fun d => { d with pass := d.pass + 1 }) := by
      rw [hi]
      exact if_pos (by simpa [and_assoc] using hc)
    rw [hd]
    refine ⟨rfl, rfl, rfl, rfl, rfl, rfl, hreg _, hset _, ⟨(s.dealer k).pass + 1, (s.dealer k).vrec, (s.dealer k).nextId + 1, ?_⟩,
      fun j hj => ?_⟩
    · rw [State.posn_onDealer_same, State.dealer_onDealer, State.posn_onDealer_same]
      exact congrArg (fun l => ({ s.posn k with dealer := { s.dealer k with
        pass := (s.dealer k).pass + 1, nextId := (s.dealer k).nextId + 1, opened := l } } : Pos)) hone
    · rw [State.posn_onDealer_other _ _ _ j hj, State.posn_onDealer_other _ _ _ j hj]
      rfl
  · have hi : s.nextIndex k = s.descIndex k + 1 := if_neg hc
    have hd : s.nextDesc k = s.setI R.DL_PDESC_INDEX k (s.nextIndex k) := by
      rw [hi]
      exact if_neg (by simpa [and_assoc] using hc)
    rw [hd]
    refine ⟨rfl, rfl, rfl, rfl, rfl, rfl, hreg _, hset _, ⟨(s.dealer k).pass, (s.dealer k).vrec, (s.dealer k).nextId + 1, ?_⟩, fun j hj => ?_⟩
    · rw [State.posn_onDealer_same]
      exact congrArg (fun l => ({ s.posn k with dealer := { s.dealer k with nextId := (s.dealer k).nextId + 1, opened := l } } : Pos)) hone
    · rw [State.posn_onDealer_other _ _ _ j hj]
      rfl

theorem State.vrec_reads (s : State) (k : Nat) (d : SDesc) : ((s.reads k d).dealer k).vrec = (s.dealer k).vrec := by
  unfold State.reads State.nextDesc
  dsimp only
  split
  · rw [State.dealer_onDealer, State.dealer_onDealer]
    rfl
  · rw [State.dealer_onDealer]
    rfl

/-- The state after the read, once the descriptor's version has been recorded. -/
theorem State.HasRead.vrec {s t : State} {k : Nat} {d : SDesc} (h : s.HasRead t k d) (v : Map W64) :
    s.HasRead (t.onDealer k (fun x => { x with vrec := v })) k d := by
  obtain ⟨p, w, i, hp⟩ := h.posn
  refine ⟨h.tiles, h.link, h.hand, h.fab, h.num, h.free, h.reg, h.index, ⟨p, v, i, ?_⟩, fun j hj => ?_⟩
  · rw [State.posn_onDealer_same, State.dealer, hp]
  · rw [State.posn_onDealer_other _ _ _ j hj, h.others j hj]

/-- What a dealer that follows a descriptor has changed since it read it. -/
structure State.Dealt (s t : State) (k : Nat) : Prop where
  tiles : t.tiles = s.tiles
  link : t.link = s.link
  hand : ∃ q, t.hand = { s.hand with deltaSeq := q }
  started : t.fab.started = s.fab.started
  reg : ∀ o, o ≠ R.DL_PDESC_INDEX.addr k → o ≠ R.FB_TRUMP_FLAGS_NONFIN.addr 0 → t.reg o = s.reg o
  index : t.descIndex k = s.nextIndex k % 2 ^ R.DL_PDESC_INDEX.width
  gathers : (t.dealer k).gathers = (s.dealer k).gathers
  others : ∀ j, j ≠ k → t.posn j = s.posn j

theorem State.HasRead.dealt {s t : State} {k : Nat} {d : SDesc} (h : s.HasRead t k d) : s.Dealt t k := by
  obtain ⟨p, v, i, hp⟩ := h.posn
  exact ⟨h.tiles, h.link, ⟨_, h.hand⟩, by rw [h.fab], fun o ho _ => h.reg o ho, h.index, by rw [State.dealer, hp], h.others⟩

theorem State.HasRead.opened {s t : State} {k : Nat} {d : SDesc} (h : s.HasRead t k d) : (t.dealer k).opened = [s.opens k d] := by
  obtain ⟨p, v, i, hp⟩ := h.posn
  rw [State.dealer, hp]

theorem State.Dealt.deals {s t u : State} {k : Nat} (h : s.Dealt t k) (g : t.Deals u k) : s.Dealt u k := by
  obtain ⟨q, hq⟩ := h.hand
  obtain ⟨r, hr⟩ := g.hand
  refine ⟨g.tiles.trans h.tiles, g.link.trans h.link, ⟨r, by rw [hr, hq]⟩, g.started.trans h.started,
    fun o ho hn => (g.reg o hn).trans (h.reg o ho hn), ?_, g.gathers.trans h.gathers, fun j hj => (g.others j hj).trans (h.others j hj)⟩
  have hne : R.DL_PDESC_INDEX.addr k ≠ R.FB_TRUMP_FLAGS_NONFIN.addr 0 := by
    simp only [Fld.addr, R.DL_PDESC_INDEX, R.FB_TRUMP_FLAGS_NONFIN]
    omega
  rw [← h.index]
  unfold State.descIndex State.getI
  rw [g.reg _ hne]

theorem State.Dealt.putOpen {s t : State} {k : Nat} (h : s.Dealt t k) (id : Nat) (x : Option OpenDesc) : s.Dealt (t.putOpen k id x) k := by
  refine ⟨h.tiles, h.link, h.hand, h.started, h.reg, h.index, ?_, fun j hj => (t.posn_putOpen_other k id x j hj).trans (h.others j hj)⟩
  rw [State.dealer, t.posn_putOpen]
  exact h.gathers

/-- A register that neither the list nor a conversion writes. -/
theorem State.Dealt.rd {s t : State} {k : Nat} (h : s.Dealt t k) (f : Fld) (h1 : f.addr 0 ≠ R.FB_TRUMP_FLAGS_NONFIN.addr 0)
    (h2 : f.addr 0 < 0x40101C ∨ f.addr 0 % 64 ≠ 28) : t.rd f = s.rd f := by
  have hne : f.addr 0 ≠ R.DL_PDESC_INDEX.addr k := by
    intro he
    rw [he] at h2
    simp only [Fld.addr, R.DL_PDESC_INDEX] at h2
    omega
  unfold State.rd State.getI
  rw [h.reg _ hne h1]

/-! ### A dealer that goes on -/

/-- Nothing holds a dealer that follows one descriptor: it works, one of its tracking entries is free, no request waits, and neither the seal check
nor the sweep's end comes with the descriptor's end. -/
structure State.Going (s : State) (k : Nat) : Prop where
  works : s.working k = true
  entry : s.hasEntry k = true
  parked : s.link.parked = []
  seals : (s.hand.sweep && s.on R.PT_CTRL_SEAL_CHK) = false ∨ s.pots_ = []
  lasts : s.hand.sweep = false ∨ s.allEnded = false

theorem State.dealsNow_going {s : State} {k kind : Nat} {d : SDesc} (h : s.dealsNow k d kind) : s.Going k := by
  obtain ⟨hd, _, _, _, _, he, hp, _, _, hs, hl⟩ := h
  exact ⟨(Bool.and_eq_true_iff.mp hd).1, he, hp, hs, hl⟩

theorem State.Dealt.going {s t : State} {k : Nat} (h : s.Dealt t k) (g : s.Going k) : t.Going k := by
  obtain ⟨hw, he, hp, hs, hl⟩ := g
  obtain ⟨q, hq⟩ := h.hand
  have hwork : t.working k = s.working k := by
    unfold State.working State.inSvc State.rd64
    rw [hq, h.started, h.rd R.DL_INSVC_LO_POS (by decide) (by decide), h.rd R.DL_INSVC_HI_POS (by decide) (by decide),
      h.rd R.CK_EN_NEAR_LO_EN (by decide) (by decide), h.rd R.CK_EN_NEAR_HI_EN (by decide) (by decide)]
  refine ⟨hwork.trans hw, ?_, by rw [h.link, hp], ?_, ?_⟩
  · unfold State.hasEntry
    rw [h.gathers, h.link]
    exact he
  · unfold State.on State.pots_
    rw [hq, h.rd R.PT_CTRL_SEAL_CHK (by decide) (by decide)]
    exact hs
  · unfold State.allEnded
    rw [hq, h.started, h.tiles]
    exact hl

/-- The lines that the next step of a descriptor reaches. -/
def State.reaches (s : State) (k : Nat) (o : OpenDesc) : Access :=
  o.d.access (s.pieceOff k o.d) o.at_
    (if o.d.kind = 4 then min 64 (o.d.count.toNat - o.at_) else if o.d.kind = 6 then o.d.count.toNat else 1)

section
variable {s : State} {k : Nat} (g : s.Going k)
include g

theorem State.Going.sealRead (d : SDesc) : s.sealRead k d = s := by
  unfold State.sealRead
  rcases g.seals with h | h
  · exact if_pos (by rw [h]; rfl)
  · rw [h]
    split
    · rfl
    · rfl

theorem State.Going.unpark : s.unpark k = s := by
  have hl : ({ s.link with parked := [] } : Links) = s.link := by rw [← g.parked]
  unfold State.unpark
  dsimp only
  rw [g.parked]
  show ({ s with link := { s.link with parked := [] } } : State) = s
  rw [hl]

theorem State.Going.settle : s.settle = s := by
  unfold State.settle
  refine if_pos ?_
  rcases g.lasts with h | h
  · rw [h]
    rfl
  · rw [h, Bool.and_false]
    rfl

theorem State.Going.units_done (ho : (s.dealer k).opened = []) (n : Nat) : s.units k n = s := by
  cases n with
  | zero => rfl
  | succ n =>
    rw [State.units, g.works, ho]
    rfl

theorem State.Going.units_held {o : OpenDesc} (ho : (s.dealer k).opened = [o]) (hu : s.unit k [] o = none) (n : Nat) : s.units k n = s := by
  cases n with
  | zero => rfl
  | succ n =>
    rw [State.units, g.works, ho, if_neg (by decide), State.nextUnit, hu]
    rfl

theorem State.Going.units_next {o : OpenDesc} {t : State} (ho : (s.dealer k).opened = [o]) (hu : s.unit k [] o = some t) (ht : t.Going k)
    (n : Nat) : s.units k (n + 1) = t.units k n := by
  have hnext : s.nextUnit k [] [o] = some t := by
    rw [State.nextUnit, hu]
    dsimp only
    rw [ht.sealRead, ite_self]
  rw [State.units, g.works, ho, if_neg (by decide), hnext]

/-- A step of a descriptor that has begun is the step of its kind. -/
theorem State.Going.unit_begun {o : OpenDesc} (hk : o.d.kind ≠ 4) (hb : o.begun = true) : s.unit k [] o = s.kindUnit k o (s.reaches k o) := by
  unfold State.unit
  rw [if_neg (fun h => hk h.1)]
  dsimp only
  rw [if_neg (by simp [hb, g.entry, State.behind])]
  exact if_pos (.inl hb)

/-- The first step of a descriptor, once its version has been compared or recorded. -/
theorem State.Going.unit_first {o : OpenDesc} (hk : o.d.kind ≠ 4) (hm : s.mayBegin k o = true) :
    s.unit k [] o = s.versionUnit k o (fun t => t.kindUnit k o (s.reaches k o)) := by
  unfold State.unit
  rw [if_neg (fun h => hk h.1)]
  dsimp only
  rw [if_neg (by simp [hm, g.entry, State.behind])]
  rfl

end

/-- Where the version rule lets a descriptor start, at most its record changes (R245). -/
theorem State.versionUnit_fits (s : State) (k : Nat) (o : OpenDesc) (run : State → Option State) (h : s.versionFits k o.d) :
    ∃ t, s.versionUnit k o run = run t ∧ (t = s ∨ ∃ v, t = s.onDealer k (fun x => { x with vrec := v })) := by
  unfold State.versionUnit
  by_cases hc : o.begun = true ∨ o.d.kind = 4 ∨ bitsOf o.d.flags.toNat 0 2 = 0
  · exact ⟨s, if_pos hc, .inl rfl⟩
  · rw [if_neg hc]
    obtain ⟨p, hp, hv⟩ := (h.resolve_left (fun h4 => hc (.inr (.inl h4)))).resolve_left (fun h0 => hc (.inr (.inr h0)))
    rw [hp]
    dsimp only
    by_cases h1 : bitOf o.d.flags.toNat 1 = true
    · have hs : s.versions k o.d.flags o.d.shard p.version = some s := (if_pos h1).trans (if_pos (hv h1))
      rw [hs]
      exact ⟨s, rfl, .inl rfl⟩
    · by_cases h0 : bitOf o.d.flags.toNat 0 = true
      · have hs : s.versions k o.d.flags o.d.shard p.version =
            some (s.onDealer k (fun d => { d with vrec := d.vrec.ins o.d.shard.toNat p.version })) := (if_neg h1).trans (if_pos h0)
        have hd : s.onDealer k (fun d => { d with vrec := d.vrec.ins o.d.shard.toNat p.version }) =
            s.onDealer k (fun d => { d with vrec := (s.dealer k).vrec.ins o.d.shard.toNat p.version }) := rfl
        rw [hs]
        exact ⟨_, rfl, .inr ⟨_, hd⟩⟩
      · have hs : s.versions k o.d.flags o.d.shard p.version = some s := (if_neg h1).trans (if_neg h0)
        rw [hs]
        exact ⟨s, rfl, .inl rfl⟩

/-! ### A descriptor from its read to its end -/

/-- The states of a descriptor from its read to its end, `M` steps later, each step going `w` fills or lines on. -/
structure OpenDesc.Steps (D : Nat → OpenDesc) (M w : Nat) : Prop where
  pos : 0 < M
  few : M ≤ unitLimit
  id : ∀ m, (D m).id = (D 0).id
  desc : ∀ m, (D m).d = (D 0).d
  begun : ∀ m, 0 < m → (D m).begun = true
  next : ∀ m, m < M → (D m).on w = if m + 1 = M then none else some (D (m + 1))

/-- What a step of a kind does to the state: something, then the descriptor is put in its place, then something more; nothing holds the dealer. -/
def State.KindStep (s : State) (k w : Nat) (o : OpenDesc) (u : State) : Prop :=
  ∃ v, s.Deals v k ∧ (v.putOpen k o.id (o.on w)).Deals u k ∧ ∀ a, s.kindUnit k o a = some u

theorem State.KindStep.opened {s u : State} {k w : Nat} {o : OpenDesc} (h : s.KindStep k w o u) (ho : (s.dealer k).opened = [o]) :
    (u.dealer k).opened = (o.on w).toList := by
  obtain ⟨v, hv, hu, _⟩ := h
  rw [hu.opened]
  exact State.opened_putOpen (hv.opened.trans ho) _

theorem State.KindStep.dealt {s t u : State} {k w : Nat} {o : OpenDesc} (h : t.KindStep k w o u) (g : s.Dealt t k) : s.Dealt u k := by
  obtain ⟨v, hv, hu, _⟩ := h
  exact ((g.deals hv).putOpen _ _).deals hu

section
variable {s : State} {k kind w M : Nat} {d : SDesc} (h : s.dealsNow k d kind) (h4 : d.kind ≠ 4)
  {D : Nat → OpenDesc} (hD : OpenDesc.Steps D M w) (h0 : D 0 = s.opens k d) {Inv : Nat → State → Prop}
  (hstep : ∀ m t, m < M → s.Dealt t k → Inv m t → ∃ u, t.KindStep k w (D m) u ∧ Inv (m + 1) u)
include h h4 hD h0 hstep

/-- The steps after the first. -/
theorem State.units_steps (j : Nat) : ∀ (m n : Nat) (t : State), m + (j + 1) = M → 0 < m → s.Dealt t k → Inv m t →
    (t.dealer k).opened = [D m] → j + 1 ≤ n → ∃ u, t.units k n = u ∧ s.Dealt u k ∧ Inv M u ∧ (u.dealer k).opened = [] := by
  have g := State.dealsNow_going h
  induction j with
  | zero =>
    intro m n t hm hp ht hi ho hn
    obtain ⟨u, hs, hu⟩ := hstep m t (by omega) ht hi
    have hd := hs.dealt ht
    have hou := hs.opened ho
    rw [hD.next m (by omega), if_pos (by omega)] at hou
    obtain ⟨_, _, _, hk⟩ := hs
    obtain ⟨n, rfl⟩ : ∃ i, n = i + 1 := ⟨n - 1, by omega⟩
    have hunit := ((ht.going g).unit_begun (o := D m) (by rw [hD.desc, h0]; exact h4) (hD.begun m hp)).trans (hk _)
    refine ⟨u, ?_, hd, hm ▸ hu, hou⟩
    rw [(ht.going g).units_next ho hunit (hd.going g)]
    exact (hd.going g).units_done hou n
  | succ j ih =>
    intro m n t hm hp ht hi ho hn
    obtain ⟨u, hs, hu⟩ := hstep m t (by omega) ht hi
    have hd := hs.dealt ht
    have hou := hs.opened ho
    rw [hD.next m (by omega), if_neg (by omega)] at hou
    obtain ⟨_, _, _, hk⟩ := hs
    obtain ⟨n, rfl⟩ : ∃ i, n = i + 1 := ⟨n - 1, by omega⟩
    have hunit := ((ht.going g).unit_begun (o := D m) (by rw [hD.desc, h0]; exact h4) (hD.begun m hp)).trans (hk _)
    rw [(ht.going g).units_next ho hunit (hd.going g)]
    exact ih (m + 1) n u (by omega) (by omega) hd hu hou (by omega)

omit hstep hD h4 h0 in
theorem State.mayBegin_reads : (s.reads k d).mayBegin k (s.opens k d) = true := by
  obtain ⟨_, _, _, _, ho, _, _, hm, _⟩ := h
  have hr := s.hasRead_reads k d ho
  obtain ⟨p, v, i, hp⟩ := hr.posn
  unfold State.mayBegin State.gateWritten State.restOf State.pieceOff State.tile State.dealer at hm ⊢
  rw [hr.tiles, hr.hand, hp]
  exact hm

omit hstep hD h4 h0 in
theorem State.readDesc_now : s.readDesc k d kind ⟨[], [], []⟩ = (s.reads k d).pump k := by
  obtain ⟨hd, hr, hk, hc, _⟩ := h
  unfold State.readDesc
  rw [hd, hr, if_neg (by decide), if_neg (by decide), if_neg (not_not.mpr hk), if_neg hc]
  rfl

omit hstep hD h4 h0 in
theorem State.versionFits_reads : (s.reads k d).versionFits k d := by
  obtain ⟨_, _, _, _, ho, _, _, _, hv, _⟩ := h
  obtain ⟨p, v, i, hp⟩ := (s.hasRead_reads k d ho).posn
  have hvrec := s.vrec_reads k d
  have hpieces : ∀ x, ((s.reads k d).dealer k).piece x = (s.dealer k).piece x := fun x => by
    unfold State.dealer Dealer.piece
    rw [hp]
    rfl
  unfold State.versionFits
  rw [hvrec]
  simp only [hpieces]
  exact hv

omit hstep hD h0 in
/-- The first step of a descriptor is that of its kind, in a state in which it has been read. -/
theorem State.unit_reads : ∃ t a, s.HasRead t k d ∧ (s.reads k d).unit k [] (s.opens k d) = t.kindUnit k (s.opens k d) a := by
  have g := State.dealsNow_going h
  have hm := State.mayBegin_reads h
  have hf := State.versionFits_reads h
  obtain ⟨_, _, _, _, ho, _⟩ := h
  have hr := s.hasRead_reads k d ho
  obtain ⟨t, hvt, htc⟩ := (s.reads k d).versionUnit_fits k (s.opens k d)
    (fun x => x.kindUnit k (s.opens k d) ((s.reads k d).reaches k (s.opens k d))) hf
  refine ⟨t, _, ?_, ((hr.dealt.going g).unit_first h4 hm).trans hvt⟩
  rcases htc with rfl | ⟨v, rfl⟩
  · exact hr
  · exact hr.vrec v

omit hstep hD h0 h4 in
theorem State.readDesc_rests {u : State} (hu : (s.reads k d).units k unitLimit = u) (hd : s.Dealt u k) :
    s.readDesc k d kind ⟨[], [], []⟩ = u := by
  have g := hd.going (State.dealsNow_going h)
  rw [State.readDesc_now h]
  unfold State.pump
  rw [hu, g.unpark, g.settle]

/-- A descriptor that nothing holds, read and followed to its end. -/
theorem State.deals_all (hinv : ∀ t, s.HasRead t k d → Inv 0 t) :
    ∃ u, s.readDesc k d kind ⟨[], [], []⟩ = u ∧ s.Dealt u k ∧ Inv M u ∧ (u.dealer k).opened = [] := by
  have g := State.dealsNow_going h
  obtain ⟨t, a, ht, hunit⟩ := State.unit_reads h h4
  have hr := s.hasRead_reads k d h.2.2.2.2.1
  obtain ⟨u, hs, hu⟩ := hstep 0 t hD.pos ht.dealt (hinv t ht)
  have hd := hs.dealt ht.dealt
  have hou := hs.opened (ht.opened.trans (by rw [h0]))
  obtain ⟨_, _, _, hk⟩ := hs
  rw [h0] at hk
  obtain ⟨n, hn⟩ : ∃ n, unitLimit = n + 1 := ⟨2 ^ 50 - 1, rfl⟩
  have hnext := (hr.dealt.going g).units_next hr.opened (hunit.trans (hk a)) (hd.going g) n
  rw [← hn] at hnext
  rw [hD.next 0 hD.pos] at hou
  have hpos := hD.pos
  by_cases hM : M = 1
  · rw [if_pos hM.symm] at hou
    exact ⟨u, State.readDesc_rests h (hnext.trans ((hd.going g).units_done hou n)) hd, hd, hM ▸ hu, hou⟩
  · rw [if_neg (fun e => hM e.symm)] at hou
    have hfew := hD.few
    obtain ⟨x, hx, hxd, hxi, hxo⟩ := State.units_steps h h4 hD h0 hstep (M - 2) 1 n u (by omega) (by omega) hd hu hou (by omega)
    exact ⟨x, State.readDesc_rests h (hnext.trans hx) hxd, hxd, hxi, hxo⟩

omit hstep hD h0 in
/-- A descriptor that nothing holds but what its kind waits for: it stands, read. -/
theorem State.deals_held (hnone : ∀ t a, s.HasRead t k d → t.kindUnit k (s.opens k d) a = none) :
    ∃ u, s.readDesc k d kind ⟨[], [], []⟩ = u ∧ s.HasRead u k d := by
  have g := State.dealsNow_going h
  obtain ⟨t, a, ht, hunit⟩ := State.unit_reads h h4
  have hr := s.hasRead_reads k d h.2.2.2.2.1
  exact ⟨s.reads k d, State.readDesc_rests h ((hr.dealt.going g).units_held hr.opened (hunit.trans (hnone t a ht)) _) hr.dealt, hr⟩

end

/-! ### The sequences of steps -/

/-- A descriptor after `m` fills or lines of runs of `n`. -/
def OpenDesc.after (o : OpenDesc) (n m : Nat) : OpenDesc := { o with at_ := m % n, runs := o.runs - m / n, begun := decide (0 < m) }

/-- A descriptor after `m` runs. -/
def OpenDesc.afterRuns (o : OpenDesc) (m : Nat) : OpenDesc := { o with at_ := 0, runs := o.runs - m, begun := decide (0 < m) }

theorem OpenDesc.on_after (o : OpenDesc) {n m : Nat} (hn : o.d.count.toNat = n) (hpos : 0 < n) (hm : m < n * o.runs) :
    (o.after n m).on 1 = if m + 1 = n * o.runs then none else some (o.after n (m + 1)) := by
  obtain ⟨q, b, rfl, hb⟩ : ∃ q b, m = n * q + b ∧ b < n := ⟨m / n, m % n, (Nat.div_add_mod m n).symm, Nat.mod_lt m hpos⟩
  have hq : q < o.runs := Nat.lt_of_mul_lt_mul_left (a := n) (by omega)
  have hmod : (n * q + b) % n = b := by rw [Nat.mul_add_mod, Nat.mod_eq_of_lt hb]
  have hdiv : (n * q + b) / n = q := by rw [Nat.mul_add_div hpos, Nat.div_eq_of_lt hb, Nat.add_zero]
  have hmul : n * (q + 1) ≤ n * o.runs := Nat.mul_le_mul_left n hq
  rw [Nat.mul_succ] at hmul
  unfold OpenDesc.on OpenDesc.after
  dsimp only
  rw [hn, hmod, hdiv]
  by_cases h1 : b + 1 < n
  · have hmod' : (n * q + b + 1) % n = b + 1 := by rw [Nat.add_assoc, Nat.mul_add_mod, Nat.mod_eq_of_lt h1]
    have hdiv' : (n * q + b + 1) / n = q := by rw [Nat.add_assoc, Nat.mul_add_div hpos, Nat.div_eq_of_lt h1, Nat.add_zero]
    rw [if_pos h1, if_neg (by omega), hmod', hdiv']
    simp
  · have hend : n * q + b + 1 = n * (q + 1) := by rw [Nat.mul_succ]; omega
    rw [if_neg h1, hend, Nat.mul_mod_right, Nat.mul_div_cancel_left _ hpos]
    by_cases h2 : 1 < o.runs - q
    · rw [if_pos h2, if_neg (fun e => by have := Nat.eq_of_mul_eq_mul_left hpos e; omega)]
      simp [Nat.sub_sub]
      omega
    · rw [if_neg h2, if_pos (by congr 1; omega)]

theorem OpenDesc.on_afterRuns (o : OpenDesc) {n m : Nat} (hn : o.d.count.toNat = n) (hm : m < o.runs) :
    (o.afterRuns m).on n = if m + 1 = o.runs then none else some (o.afterRuns (m + 1)) := by
  unfold OpenDesc.on OpenDesc.afterRuns
  dsimp only
  rw [hn, if_neg (by omega)]
  by_cases h1 : m + 1 = o.runs
  · rw [if_neg (by omega), if_pos h1]
  · rw [if_pos (by omega), if_neg h1]
    simp [Nat.sub_sub]

/-- The steps of a descriptor that goes on by one fill or line. -/
theorem State.steps_after (s : State) (k : Nat) (d : SDesc) (hc : d.count ≠ 0) :
    OpenDesc.Steps ((s.opens k d).after d.count.toNat) (d.count.toNat * (d.rept.toNat + 1)) 1 ∧
      (s.opens k d).after d.count.toNat 0 = s.opens k d := by
  have hn : 0 < d.count.toNat := Nat.pos_of_ne_zero (fun h => hc (BitVec.eq_of_toNat_eq (by simpa using h)))
  have h1 := d.count.isLt
  have h2 := d.rept.isLt
  refine ⟨⟨Nat.mul_pos hn (Nat.succ_pos _), ?_, fun _ => rfl, fun _ => rfl, fun m hm => decide_eq_true hm,
    fun m hm => (s.opens k d).on_after rfl hn hm⟩, ?_⟩
  · calc d.count.toNat * (d.rept.toNat + 1) ≤ 2 ^ 32 * 2 ^ 16 := Nat.mul_le_mul (by omega) (by omega)
      _ ≤ unitLimit := by decide
  · unfold OpenDesc.after
    rw [Nat.zero_mod, Nat.zero_div]
    rfl

/-- The steps of a descriptor that goes on by a whole run. -/
theorem State.steps_afterRuns (s : State) (k : Nat) (d : SDesc) :
    OpenDesc.Steps (s.opens k d).afterRuns (d.rept.toNat + 1) d.count.toNat ∧ (s.opens k d).afterRuns 0 = s.opens k d := by
  have h2 := d.rept.isLt
  refine ⟨⟨Nat.succ_pos _, ?_, fun _ => rfl, fun _ => rfl, fun m hm => decide_eq_true hm, fun m hm => (s.opens k d).on_afterRuns rfl hm⟩, rfl⟩
  calc d.rept.toNat + 1 ≤ 2 ^ 16 := by omega
    _ ≤ unitLimit := by decide

/-- Where no code reports anything, a step of a descriptor does not either (R228, R229). -/
theorem State.dealEcc_clean (s : State) (k : Nat) (o : OpenDesc) (a : Access) (h : o.ecc = ⟨[], [], []⟩) : s.dealEcc k o a = (s, o) := by
  obtain ⟨id, d, idx, wait, ecc, runs, at_, begun, ver⟩ := o
  dsimp only at h
  subst h
  rfl

end Sys2Proof.Machine


/-! PROOF. What dealers send and move (O26). -/

namespace Sys2Proof.Machine

/-! ### A fill (R241 to R243) -/

/-- What the conversion of a fill leaves: all but the free values, NONFIN, and the generator and the counts of the dealer. -/
structure State.Recodes (s t : State) (k : Nat) : Prop where
  tiles : t.tiles = s.tiles
  link : t.link = s.link
  hand : t.hand = s.hand
  fab : t.fab = s.fab
  num : t.num = s.num
  reg : ∀ o, o ≠ R.FB_TRUMP_FLAGS_NONFIN.addr 0 → t.reg o = s.reg o
  posn : ∃ g c, t.posn k = { s.posn k with dealer := { s.dealer k with gen := g, cens := c } }
  others : ∀ j, j ≠ k → t.posn j = s.posn j

theorem State.Recodes.refl (s : State) (k : Nat) : s.Recodes s k := ⟨rfl, rfl, rfl, rfl, rfl, fun _ _ => rfl, ⟨_, _, rfl⟩, fun _ _ => rfl⟩

theorem State.Recodes.trans {s t u : State} {k : Nat} (h : s.Recodes t k) (g : t.Recodes u k) : s.Recodes u k := by
  obtain ⟨g1, c1, h1⟩ := h.posn
  obtain ⟨g2, c2, h2⟩ := g.posn
  exact ⟨g.tiles.trans h.tiles, g.link.trans h.link, g.hand.trans h.hand, g.fab.trans h.fab, g.num.trans h.num,
    fun o ho => (g.reg o ho).trans (h.reg o ho), ⟨g2, c2, by rw [h2, State.dealer, h1]⟩, fun j hj => (g.others j hj).trans (h.others j hj)⟩

theorem State.Recodes.deals {s t : State} {k : Nat} (h : s.Recodes t k) : s.Deals t k := by
  obtain ⟨g, c, hp⟩ := h.posn
  exact ⟨h.tiles, h.link, ⟨_, h.hand⟩, by rw [h.fab], h.reg, by rw [State.dealer, hp], by rw [State.dealer, hp], h.others⟩

theorem State.recodes_free (s : State) (k n : Nat) : s.Recodes { s with free := n } k :=
  ⟨rfl, rfl, rfl, rfl, rfl, fun _ _ => rfl, ⟨_, _, rfl⟩, fun _ _ => rfl⟩

theorem State.recodes_gen (s : State) (k : Nat) (g : W64) : s.Recodes (s.onDealer k (fun x => { x with gen := g })) k :=
  ⟨rfl, rfl, rfl, rfl, rfl, fun _ _ => rfl, ⟨_, _, s.posn_onDealer_same k _⟩, s.posn_onDealer_other k _⟩

theorem State.recodes_cens (s : State) (k : Nat) (f : Dealer → Map CSlot) : s.Recodes (s.onDealer k (fun x => { x with cens := f x })) k :=
  ⟨rfl, rfl, rfl, rfl, rfl, fun _ _ => rfl, ⟨_, _, s.posn_onDealer_same k _⟩, s.posn_onDealer_other k _⟩

theorem State.recodes_tensorCode (s : State) (k i : Nat) : s.Recodes (s.tensorCode i).2 k := by
  unfold State.tensorCode
  split
  · exact State.Recodes.refl s k
  · exact s.recodes_free k _

theorem State.recodes_dealCensus (s : State) (k tensor : Nat) (ks : List Cls) (amax : Nat × Int) :
    s.Recodes (s.dealCensus k tensor ks amax) k := by
  have hw : s.Recodes (s.amaxWord amax).2 k := by
    unfold State.amaxWord
    split
    · exact State.Recodes.refl s k
    · exact s.recodes_free k _
  have hc : s.Recodes ((s.amaxWord amax).2.onDealer k (fun d => { d with
      cens := d.cens.put tensor ((d.cens.get tensor CSlot.reset).count ks (s.amaxWord amax).1) CSlot.reset })) k :=
    hw.trans (State.recodes_cens _ k _)
  unfold State.dealCensus
  dsimp only
  split
  · exact hc
  · split
    · exact hc.trans ⟨rfl, rfl, rfl, rfl, rfl, fun o ho => State.reg_setReg_other _ _ o _ ho, ⟨_, _, rfl⟩, fun _ _ => rfl⟩
    · exact hc

theorem State.recodes_fillRows (s : State) (k : Nat) (d : SDesc) (j : Nat) : s.Recodes (s.fillRows k d j).1 k := by
  unfold State.fillRows
  dsimp only
  split
  · split
    · exact State.Recodes.refl s k
    · refine State.Recodes.trans ?_ (State.recodes_dealCensus _ k _ _ _)
      split
      · exact State.Recodes.trans (s.recodes_gen k _) (State.recodes_tensorCode _ k _)
      · exact s.recodes_gen k _
  · exact State.Recodes.refl s k

theorem State.recodes_amax (s : State) (m : Nat × Int) : (s.amaxWord m).2.num = s.num := by
  unfold State.amaxWord
  split
  · rfl
  · rfl

/-- Two states in which a fill is the same: they agree in the stack, the tables, the fabric, the free values, and the dealer's
generator and counts. -/
structure State.Alike (s t : State) (k : Nat) : Prop where
  near : (t.posn k).near = (s.posn k).near
  nearBad : (t.posn k).nearBad = (s.posn k).nearBad
  gen : (t.dealer k).gen = (s.dealer k).gen
  cens : (t.dealer k).cens = (s.dealer k).cens
  num : t.num = s.num
  fab : t.fab = s.fab
  free : t.free = s.free

section
variable {s t : State} {k : Nat} (h : s.Alike t k)
include h

theorem State.Alike.chunkSrc (d : SDesc) (e b l j : Nat) : t.chunkSrc k d e b l j = s.chunkSrc k d e b l j := by
  unfold State.chunkSrc State.nearRd
  rw [h.near, h.nearBad]

theorem State.Alike.padded (d : SDesc) : t.padded d = s.padded d := by
  funext x
  unfold State.padded State.tensor
  rw [h.num]

theorem State.Alike.onGen (g : W64) : (s.onDealer k (fun x => { x with gen := g })).Alike (t.onDealer k (fun x => { x with gen := g })) k := by
  refine ⟨?_, ?_, ?_, ?_, h.num, h.fab, h.free⟩
  · rw [State.posn_onDealer_same, State.posn_onDealer_same]
    exact h.near
  · rw [State.posn_onDealer_same, State.posn_onDealer_same]
    exact h.nearBad
  · rw [State.dealer_onDealer, State.dealer_onDealer]
  · rw [State.dealer_onDealer, State.dealer_onDealer]
    exact h.cens

theorem State.Alike.tensorCode (i : Nat) : (t.tensorCode i).1 = (s.tensorCode i).1 ∧ (s.tensorCode i).2.Alike (t.tensorCode i).2 k := by
  unfold State.tensorCode State.freeB
  rw [h.num, h.free]
  split
  · exact ⟨rfl, h⟩
  · exact ⟨rfl, h.near, h.nearBad, h.gen, h.cens, rfl, h.fab, rfl⟩

theorem State.Alike.amaxWord (m : Nat × Int) : (t.amaxWord m).1 = (s.amaxWord m).1 ∧ (s.amaxWord m).2.Alike (t.amaxWord m).2 k := by
  unfold State.amaxWord State.freeW
  rw [h.free]
  split
  · exact ⟨rfl, h⟩
  · exact ⟨rfl, h.near, h.nearBad, h.gen, h.cens, h.num, h.fab, rfl⟩

theorem State.Alike.onCens (f : Map CSlot → Map CSlot) :
    (s.onDealer k (fun x => { x with cens := f x.cens })).Alike (t.onDealer k (fun x => { x with cens := f x.cens })) k := by
  refine ⟨?_, ?_, ?_, ?_, h.num, h.fab, h.free⟩
  · rw [State.posn_onDealer_same, State.posn_onDealer_same]
    exact h.near
  · rw [State.posn_onDealer_same, State.posn_onDealer_same]
    exact h.nearBad
  · rw [State.dealer_onDealer, State.dealer_onDealer]
    exact h.gen
  · rw [State.dealer_onDealer, State.dealer_onDealer]
    exact congrArg f h.cens

theorem State.Alike.dealCensus (tensor : Nat) (ks : List Cls) (amax : Nat × Int) :
    (s.dealCensus k tensor ks amax).Alike (t.dealCensus k tensor ks amax) k := by
  obtain ⟨hw, ha⟩ := h.amaxWord amax
  have hc := ha.onCens (fun c => c.put tensor ((c.get tensor CSlot.reset).count ks (s.amaxWord amax).1) CSlot.reset)
  have hs : ∀ u : State, ∀ w, u.num = s.num → (u.onDealer k (fun x => { x with
      cens := x.cens.put tensor ((x.cens.get tensor CSlot.reset).count ks w) CSlot.reset })).tensor tensor = s.tensor tensor := fun u w hu => by
    show u.num.tensors[tensor]? = _
    rw [hu]
    rfl
  unfold State.dealCensus
  dsimp only
  rw [hw, hs _ _ (ha.num.trans (State.recodes_amax s amax)), hs _ _ (State.recodes_amax s amax)]
  split
  · exact hc
  · split
    · exact ⟨hc.near, hc.nearBad, hc.gen, hc.cens, hc.num, hc.fab, hc.free⟩
    · exact hc

theorem State.Alike.fillRows (d : SDesc) (j : Nat) :
    (t.fillRows k d j).2 = (s.fillRows k d j).2 ∧ (s.fillRows k d j).1.Alike (t.fillRows k d j).1 k := by
  have hpad : ∀ (u : State) g, (u.onDealer k (fun x => { x with gen := g })).padded d = u.padded d := fun _ _ => rfl
  unfold State.fillRows
  simp only [h.chunkSrc, h.padded, hpad, h.gen]
  split
  · split
    · exact ⟨rfl, h⟩
    · have hg := h.onGen (if ctlSr d.ctl.toNat = true then
        draws (chunkOf (BitVec.setWidth 5 d.dstf) * (lanesOf d.mask).length / 4) (s.dealer k).gen else ((s.dealer k).gen, [])).1
      split
      · obtain ⟨hc, ha⟩ := hg.tensorCode d.tensor.toNat
        rw [hc]
        exact ⟨rfl, ha.dealCensus _ _ _⟩
      · exact ⟨rfl, hg.dealCensus _ _ _⟩
  · exact ⟨rfl, h⟩

theorem State.Alike.toEdge (p : Nat) (l : List Flit) : (s.toEdge k p l).Alike (t.toEdge k p l) k :=
  ⟨h.near, h.nearBad, h.gen, h.cens, h.num, by unfold State.toEdge; rw [h.fab], h.free⟩

theorem State.Alike.sendFill (d : SDesc) (j : Nat) : (s.sendFill k d j).Alike (t.sendFill k d j) k := by
  obtain ⟨hr, ha⟩ := h.fillRows d j
  unfold State.sendFill
  dsimp only
  rw [hr]
  split
  · exact ha.toEdge _ _
  · exact (ha.toEdge _ _).toEdge _ _
  · exact ha

end

/-! ### The runs of a descriptor -/

theorem range_runs (n r : Nat) : (List.range r).flatMap (fun _ => List.range n) = (List.range (n * r)).map (· % n) := by
  induction r with
  | zero => rfl
  | succ r ih =>
    rw [List.range_succ, List.flatMap_append, ih, Nat.mul_succ, List.range_add, List.map_append, List.map_map, List.flatMap_singleton]
    refine congrArg _ (List.ext_getElem (by simp) fun i h1 h2 => ?_)
    have hi : i < n := by simpa using h1
    simp [Nat.mod_eq_of_lt hi]

/-! ### What the read-ahead buffers hold (R239) -/

/-- No read-ahead buffer holds fewer flits. -/
def State.EdgesGrow (s t : State) : Prop := ∀ j, (s.fab.edgeIn.get j []).length ≤ (t.fab.edgeIn.get j []).length

theorem State.EdgesGrow.fits {s t : State} (h : s.EdgesGrow t) {k : Nat} (ht : t.aheadFits k = true) : s.aheadFits k = true := by
  unfold State.aheadFits at ht ⊢
  rw [List.all_eq_true] at ht ⊢
  exact fun p hp => decide_eq_true ((h _).trans (of_decide_eq_true (ht p hp)))

theorem State.get_toEdge (s : State) (k p : Nat) (l : List Flit) (j : Nat) : (s.toEdge k p l).fab.edgeIn.get j [] =
    if j = edgeKey k p then s.fab.edgeIn.get j [] ++ l else s.fab.edgeIn.get j [] := by
  unfold State.toEdge
  dsimp only
  rw [Map.get_put]
  split
  · next h => rw [h]
  · rfl

theorem State.grows_toEdge (s : State) (k p : Nat) (l : List Flit) : s.EdgesGrow (s.toEdge k p l) := by
  intro j
  rw [State.get_toEdge]
  split
  · simp
  · exact le_refl _

theorem State.grows_sendFill (s : State) (k : Nat) (d : SDesc) (j : Nat) : s.EdgesGrow (s.sendFill k d j) := by
  have hf : s.EdgesGrow (s.fillRows k d j).1 := fun i => by rw [(s.recodes_fillRows k d j).fab]
  unfold State.sendFill
  dsimp only
  split
  · exact fun i => (hf i).trans (State.grows_toEdge _ _ _ _ i)
  · exact fun i => ((hf i).trans (State.grows_toEdge _ _ _ _ i)).trans (State.grows_toEdge _ _ _ _ i)
  · exact hf

theorem State.grows_fills (k : Nat) (d : SDesc) (l : List Nat) : ∀ s : State, s.EdgesGrow (l.foldl (fun s j => s.sendFill k d j) s) := by
  induction l with
  | nil => exact fun _ _ => le_refl _
  | cons j l ih => exact fun s i => (s.grows_sendFill k d j i).trans (ih _ i)

/-! ### WEIGHT -/

theorem State.sendFill_keeps (s : State) (k : Nat) (d : SDesc) (j : Nat) : s.Deals (s.sendFill k d j) k ∧ (s.sendFill k d j).hand = s.hand ∧
    ((s.sendFill k d j).posn k).near = (s.posn k).near ∧ ((s.sendFill k d j).posn k).stock = (s.posn k).stock := by
  have hf := s.recodes_fillRows k d j
  obtain ⟨g, c, hp⟩ := hf.posn
  have hpos : (s.sendFill k d j).pos = (s.fillRows k d j).1.pos ∧ (s.sendFill k d j).hand = (s.fillRows k d j).1.hand := by
    unfold State.sendFill
    dsimp only
    split
    · exact ⟨rfl, rfl⟩
    · exact ⟨rfl, rfl⟩
    · exact ⟨rfl, rfl⟩
  have hposn : (s.sendFill k d j).posn k = (s.fillRows k d j).1.posn k := congrArg (fun m : Map Pos => m.get k Pos.reset) hpos.1
  refine ⟨?_, hpos.2.trans hf.hand, by rw [hposn, hp], by rw [hposn, hp]⟩
  unfold State.sendFill
  dsimp only
  split
  · exact hf.deals.trans (State.deals_toEdge _ _ _ _ _)
  · exact (hf.deals.trans (State.deals_toEdge _ _ _ _ _)).trans (State.deals_toEdge _ _ _ _ _)
  · exact hf.deals

theorem State.Alike.putOpen {s t : State} {k : Nat} (h : s.Alike t k) (id : Nat) (x : Option OpenDesc) : s.Alike (t.putOpen k id x) k := by
  have hp := t.posn_putOpen k id x
  exact ⟨by rw [hp]; exact h.near, by rw [hp]; exact h.nearBad, by rw [State.dealer, hp]; exact h.gen, by rw [State.dealer, hp]; exact h.cens,
    h.num, h.fab, h.free⟩

/-- The state after the first `m` fills of a descriptor, from where it was read. -/
def State.fills (s : State) (k : Nat) (d : SDesc) (m : Nat) : State :=
  ((List.range m).map (· % d.count.toNat)).foldl (fun s j => s.sendFill k d j) s

theorem State.fills_succ (s : State) (k : Nat) (d : SDesc) (m : Nat) :
    s.fills k d (m + 1) = (s.fills k d m).sendFill k d (m % d.count.toNat) := by
  unfold State.fills
  rw [List.range_succ, List.map_append, List.foldl_append]
  rfl

theorem State.grows_fills_le (s : State) (k : Nat) (d : SDesc) {m n : Nat} (h : m ≤ n) : (s.fills k d m).EdgesGrow (s.fills k d n) := by
  obtain ⟨j, rfl⟩ := Nat.exists_eq_add_of_le h
  unfold State.fills
  rw [List.range_add, List.map_append, List.foldl_append]
  exact State.grows_fills k d _ _

/-- What stands after `m` fills. -/
structure State.Filled (s : State) (k : Nat) (d : SDesc) (m : Nat) (t : State) : Prop where
  hand : t.hand = s.hand
  near : (t.posn k).near = (s.posn k).near
  stock : (t.posn k).stock = (s.posn k).stock
  alike : (s.fills k d m).Alike t k

theorem State.Filled.step {s t : State} {k : Nat} {d : SDesc} {m : Nat} (h : s.Filled k d m t) (hk : d.kind.toNat = 1)
    (hm : m < d.count.toNat * (d.rept.toNat + 1)) (hfit : (s.fills k d (d.count.toNat * (d.rept.toNat + 1))).aheadFits k = true) :
    ∃ u, t.KindStep k 1 ((s.opens k d).after d.count.toNat m) u ∧ s.Filled k d (m + 1) u := by
  obtain ⟨hd, hh, hn, hs⟩ := t.sendFill_keeps k d (m % d.count.toNat)
  have ha := h.alike.sendFill d (m % d.count.toNat)
  rw [← s.fills_succ] at ha
  have hfits : (t.sendFill k d (m % d.count.toNat)).aheadFits k = true := by
    unfold State.aheadFits
    rw [ha.fab]
    exact (s.grows_fills_le k d hm).fits hfit
  refine ⟨_, ⟨_, hd, State.Deals.refl _ k, fun a => ?_⟩, ⟨hh.trans h.hand, ?_, ?_, ha.putOpen _ _⟩⟩
  · unfold State.kindUnit
    rw [show ((s.opens k d).after d.count.toNat m).d.kind.toNat = 1 from hk]
    unfold State.weightUnit
    rw [t.dealEcc_clean k _ a rfl]
    exact if_pos hfits
  · rw [State.posn_putOpen]
    exact hn.trans h.near
  · rw [State.posn_putOpen]
    exact hs.trans h.stock

theorem State.exec_weight (s : State) (k : Nat) (d : SDesc) (h : s.dealsNow k d 1)
    (hfit : (s.fills k d (d.count.toNat * (d.rept.toNat + 1))).aheadFits k = true) :
    ∃ t, exec (.weight k d ⟨[], [], []⟩) s = .next t ∧ s.Dealt t k ∧ s.Filled k d (d.count.toNat * (d.rept.toNat + 1)) t ∧
      (t.dealer k).opened = [] := by
  obtain ⟨_, _, hk, hc, _⟩ := id h
  obtain ⟨hD, h0⟩ := s.steps_after k d hc
  obtain ⟨t, ht, hd, hi, ho⟩ := State.deals_all h (fun e => by rw [e] at hk; cases hk) hD h0 (Inv := s.Filled k d)
    (fun m t hm _ hi => hi.step hk hm hfit) (fun t ht => by
      obtain ⟨p, v, i, hp⟩ := ht.posn
      exact ⟨ht.hand, by rw [hp], by rw [hp], by rw [hp]; rfl, by rw [hp]; rfl, by rw [State.dealer, hp]; rfl, by rw [State.dealer, hp]; rfl,
        ht.num, ht.fab, ht.free⟩)
  exact ⟨t, congrArg Host.Outcome.next ht, hd, hi, ho⟩

/-! ### LINES -/

/-- The flit of a line that a descriptor sends. -/
def State.linesFlit (s : State) (k : Nat) (d : SDesc) (i : Nat) : Flit :=
  { flitOf (s.nearRd k (d.addr.toNat + 64 * i) 64) with poison := s.badNear k ((d.addr.toNat + 64 * i) / 64) }

/-- The first `m` flits of a descriptor of lines. -/
def State.linesSent (s : State) (k : Nat) (d : SDesc) (m : Nat) : List Flit :=
  ((List.range m).map (· % d.count.toNat)).map (s.linesFlit k d)

theorem State.linesSent_succ (s : State) (k : Nat) (d : SDesc) (m : Nat) :
    s.linesSent k d (m + 1) = s.linesSent k d m ++ [s.linesFlit k d (m % d.count.toNat)] := by
  unfold State.linesSent
  rw [List.range_succ, List.map_append, List.map_append]
  rfl

/-- What stands after `m` lines. -/
structure State.Lined (s : State) (k p : Nat) (d : SDesc) (m : Nat) (t : State) : Prop where
  hand : t.hand = s.hand
  near : (t.posn k).near = (s.posn k).near
  nearBad : (t.posn k).nearBad = (s.posn k).nearBad
  stock : (t.posn k).stock = (s.posn k).stock
  edges : ∀ j, t.fab.edgeIn.get j [] = (s.toEdge k p (s.linesSent k d m)).fab.edgeIn.get j []

theorem State.Lined.step {s t : State} {k p : Nat} {d : SDesc} {m : Nat} (h : s.Lined k p d m t) (hk : d.kind.toNat = 2)
    (hp : onesOf d.ports.toNat 3 = [p]) (hm : m < d.count.toNat * (d.rept.toNat + 1))
    (hfit : (s.toEdge k p (s.linesSent k d (d.count.toNat * (d.rept.toNat + 1)))).aheadFits k = true) :
    ∃ u, t.KindStep k 1 ((s.opens k d).after d.count.toNat m) u ∧ s.Lined k p d (m + 1) u := by
  have hline : t.linesFlit k d (m % d.count.toNat) = s.linesFlit k d (m % d.count.toNat) := by
    unfold State.linesFlit State.nearRd State.badNear
    rw [h.near, h.nearBad]
  have hedge : ∀ j, (t.toEdge k p [t.linesFlit k d (m % d.count.toNat)]).fab.edgeIn.get j [] =
      (s.toEdge k p (s.linesSent k d (m + 1))).fab.edgeIn.get j [] := fun j => by
    rw [State.get_toEdge, h.edges, State.get_toEdge, State.get_toEdge, hline, State.linesSent_succ]
    split
    · rw [List.append_assoc]
    · rfl
  have hfits : (t.toEdge k p [t.linesFlit k d (m % d.count.toNat)]).aheadFits k = true := by
    refine State.EdgesGrow.fits (fun j => ?_) hfit
    rw [hedge, State.get_toEdge, State.get_toEdge]
    split
    · simp only [List.length_append, State.linesSent, List.length_map, List.length_range]
      omega
    · exact le_refl _
  refine ⟨_, ⟨_, t.deals_toEdge k k p [t.linesFlit k d (m % d.count.toNat)], State.Deals.refl _ k, fun a => ?_⟩,
    ⟨h.hand, ?_, ?_, ?_, hedge⟩⟩
  · unfold State.kindUnit
    rw [show ((s.opens k d).after d.count.toNat m).d.kind.toNat = 2 from hk]
    unfold State.linesUnit
    rw [t.dealEcc_clean k _ a rfl, show onesOf ((s.opens k d).after d.count.toNat m).d.ports.toNat 3 = [p] from hp]
    exact if_pos hfits
  · rw [State.posn_putOpen]
    exact h.near
  · rw [State.posn_putOpen]
    exact h.nearBad
  · rw [State.posn_putOpen]
    exact h.stock

theorem State.exec_lines (s : State) (k p : Nat) (d : SDesc) (h : s.dealsNow k d 2) (hp : onesOf d.ports.toNat 3 = [p])
    (hfit : (s.toEdge k p (s.linesSent k d (d.count.toNat * (d.rept.toNat + 1)))).aheadFits k = true) :
    ∃ t, exec (.lines k d ⟨[], [], []⟩) s = .next t ∧ s.Dealt t k ∧ s.Lined k p d (d.count.toNat * (d.rept.toNat + 1)) t ∧
      (t.dealer k).opened = [] := by
  obtain ⟨_, _, hk, hc, _⟩ := id h
  obtain ⟨hD, h0⟩ := s.steps_after k d hc
  obtain ⟨t, ht, hd, hi, ho⟩ := State.deals_all h (fun e => by rw [e] at hk; cases hk) hD h0 (Inv := s.Lined k p d)
    (fun m t hm _ hi => hi.step hk hp hm hfit) (fun t ht => by
      obtain ⟨q, v, i, hq⟩ := ht.posn
      refine ⟨ht.hand, by rw [hq], by rw [hq], by rw [hq], fun j => ?_⟩
      rw [ht.fab, State.get_toEdge]
      split
      · exact (List.append_nil _).symm
      · rfl)
  exact ⟨t, congrArg Host.Outcome.next ht, hd, hi, ho⟩

end Sys2Proof.Machine


/-! SUPPORT. Lines that a dealer writes, one after the other (R243, R248, R335). -/

namespace Sys2Proof.Machine

theorem Map.length_bytes (m : Map Byte) (a n : Nat) : (m.bytes a n).length = n := by rw [Map.bytes_eq, List.length_map, List.length_range]

theorem Map.getD_bytes (m : Map Byte) (a n : Nat) {j : Nat} (hj : j < n) : (m.bytes a n).getD j 0 = m.get (a + j) 0 := by
  rw [Map.bytes_eq, List.getD_eq_getElem _ _ (by simpa using hj), List.getElem_map, List.getElem_range]

/-- A line written, and what `f` makes of it and of the old line to the shadow of a tracked one. -/
def Map.putTracked (m : Map Byte) (off : Nat) (b : Bytes) (f : Bytes → Bytes → Bytes) : Map Byte :=
  if tracked off then (m.store off b).store (shadowOf off) (f b (m.bytes off 64)) else m.store off b

/-- The memory after `m` lines of runs of `n`, from an address upward. -/
def Map.putLines (x : Map Byte) (base n : Nat) (f : Bytes → Bytes → Bytes) (line : Nat → Bytes) : Nat → Map Byte
  | 0 => x
  | m + 1 => (Map.putLines x base n f line m).putTracked (base + 64 * (m % n)) (line m) f

section
variable (x : Map Byte) (base n : Nat) (f : Bytes → Bytes → Bytes) (line : Nat → Bytes) (hl : ∀ m, (line m).length = 64)
include hl

theorem Map.putLines_outside (hn : 0 < n) (ht : ∀ i, i < n → tracked (base + 64 * i) = false) {o : Nat}
    (ho : o < base ∨ base + 64 * n ≤ o) (m : Nat) : (x.putLines base n f line m).get o 0 = x.get o 0 := by
  induction m with
  | zero => rfl
  | succ m ih =>
    have hm := Nat.mod_lt m hn
    have h64 := hl m
    rw [Map.putLines, Map.putTracked, if_neg (by rw [ht _ hm]; decide), Map.get_store_out _ _ _ _ (by omega), ih]

/-- A line holds what was last written to it. -/
theorem Map.putLines_last (hn : 0 < n) (ht : ∀ i, i < n → tracked (base + 64 * i) = false) {q j : Nat} (hj : j < 64) :
    ∀ m, q < m → (∀ i, q < i → i < m → i % n ≠ q % n) →
      (x.putLines base n f line m).get (base + 64 * (q % n) + j) 0 = (line q).getD j 0 := by
  intro m
  induction m with
  | zero => exact fun h => absurd h (Nat.not_lt_zero q)
  | succ m ih =>
    intro hq hlast
    have hm := Nat.mod_lt m hn
    have h64 := hl m
    rw [Map.putLines, Map.putTracked, if_neg (by rw [ht _ hm]; decide)]
    by_cases he : q = m
    · rw [Map.get_store, ← he, if_pos (by rw [hl]; omega), Nat.add_sub_cancel_left]
    · have hne := hlast m (by omega) (Nat.lt_succ_self m)
      rw [Map.get_store_out _ _ _ _ (by omega)]
      exact ih (by omega) (fun i h1 h2 => hlast i h1 (by omega))

/-- The one tracked line of a run, and its shadow, hold what was last written to them. -/
theorem Map.putLines_tracked (ht : tracked base = true) (hf : ∀ b c, b.length = 64 → c.length = 64 → (f b c).length = 64) (m : Nat) {j : Nat}
    (hj : j < 64) : (x.putLines base 1 f line (m + 1)).get (base + j) 0 = (line m).getD j 0 ∧
      (x.putLines base 1 f line (m + 1)).get (shadowOf base + j) 0 = (f (line m) ((x.putLines base 1 f line m).bytes base 64)).getD j 0 := by
  have h64 := hl m
  have hfl := hf (line m) ((x.putLines base 1 f line m).bytes base 64) h64 (Map.length_bytes _ _ _)
  obtain ⟨g, hg, hfar⟩ : ∃ g, 64 ≤ g ∧ shadowOf base = base + g :=
    ⟨512 * 2 ^ 20, by decide, congrArg (base + ·) (Nat.add_sub_cancel_left sweepOff _)⟩
  rw [Map.putLines, Nat.mod_one, Nat.mul_zero, Nat.add_zero, Map.putTracked, if_pos ht]
  refine ⟨?_, ?_⟩
  · rw [Map.get_store_out _ _ _ _ (by omega), Map.get_store, if_pos (by omega), Nat.add_sub_cancel_left]
  · rw [Map.get_store, if_pos (by omega), Nat.add_sub_cancel_left]

end

/-! ### Lines of the stack and of the slice -/

theorem State.posn_putLine (s : State) (k off : Nat) (b : Bytes) (bad : Bool) :
    ∃ l, (s.putLine k off b bad).posn k = { s.posn k with near := (s.posn k).near.store off b, nearBad := l } := by
  unfold State.putLine
  dsimp only
  split
  · rw [State.posn_onPos_same, State.nearWr, State.posn_onPos_same]
    exact ⟨_, rfl⟩
  · rw [State.nearWr, State.posn_onPos_same]
    exact ⟨_, rfl⟩

/-- A write of the stack or of the slice of one position changes nothing else. -/
structure State.Writes (s t : State) (k : Nat) : Prop where
  rest : t = { s with pos := t.pos }
  dealer : t.dealer k = s.dealer k
  others : ∀ j, j ≠ k → t.posn j = s.posn j

theorem State.Writes.refl (s : State) (k : Nat) : s.Writes s k := ⟨rfl, rfl, fun _ _ => rfl⟩

theorem State.Writes.trans {s t u : State} {k : Nat} (h : s.Writes t k) (g : t.Writes u k) : s.Writes u k :=
  ⟨by rw [g.rest, h.rest], g.dealer.trans h.dealer, fun j hj => (g.others j hj).trans (h.others j hj)⟩

theorem State.writes_onPos (s : State) (k : Nat) (f : Pos → Pos) (h : (f (s.posn k)).dealer = (s.posn k).dealer) : s.Writes (s.onPos k f) k := by
  refine ⟨rfl, ?_, fun j hj => s.posn_onPos_other k j f hj⟩
  rw [State.dealer, State.posn_onPos_same]
  exact h

theorem State.writes_putLine (s : State) (k off : Nat) (b : Bytes) (bad : Bool) : s.Writes (s.putLine k off b bad) k := by
  unfold State.putLine
  dsimp only
  split
  · exact (s.writes_onPos k _ rfl).trans (State.writes_onPos _ k _ rfl)
  · exact s.writes_onPos k _ rfl

theorem State.writes_putStock (s : State) (k off : Nat) (b : Bytes) (bad : Bool) : s.Writes (s.putStock k off b bad) k := by
  unfold State.putStock
  dsimp only
  split
  · exact (s.writes_onPos k _ rfl).trans (State.writes_onPos _ k _ rfl)
  · exact s.writes_onPos k _ rfl

theorem State.Writes.deals {s t : State} {k : Nat} (h : s.Writes t k) : s.Deals t k := by
  obtain ⟨hr, hd, ho⟩ := h
  exact ⟨by rw [hr], by rw [hr], ⟨s.hand.deltaSeq, by rw [hr]⟩, by rw [hr], fun o _ => by rw [hr]; rfl, by rw [hd], by rw [hd], ho⟩

/-- A line and its shadow written: the position's stack. -/
theorem State.putTracked_keeps (s : State) (k off : Nat) (b : Bytes) (bad : Bool) (f : Bytes → Bytes → Bytes) {c : Bytes}
    (hc : c = f b ((s.posn k).near.bytes off 64)) :
    let t := if tracked off then (s.putLine k off b bad).nearWr k (shadowOf off) c else s.putLine k off b bad
    s.Writes t k ∧ (t.posn k).near = (s.posn k).near.putTracked off b f ∧ (t.posn k).stock = (s.posn k).stock := by
  have hw := s.writes_putLine k off b bad
  obtain ⟨l, hp⟩ := s.posn_putLine k off b bad
  dsimp only
  unfold Map.putTracked
  by_cases ht : tracked off = true
  · rw [if_pos ht, if_pos ht, State.nearWr]
    refine ⟨hw.trans (State.writes_onPos _ k _ rfl), ?_, ?_⟩
    · rw [State.posn_onPos_same, hp, hc]
    · rw [State.posn_onPos_same, hp]
  · rw [if_neg ht, if_neg ht]
    exact ⟨hw, by rw [hp], by rw [hp]⟩

end Sys2Proof.Machine


/-! PROOF. Stores and the moves of the sweep, and the statement of the dealers (O26). -/

namespace Sys2Proof.Machine

theorem State.exporting_of_hand {s t : State} (h : t.hand = s.hand) (k space off n : Nat) :
    t.exporting k space off n = s.exporting k space off n := by
  unfold State.exporting State.exportLeft
  rw [h]

/-! ### STORE (R243, R244, R335) -/

/-- The bytes of a line that a STORE writes, from the flits that arrive. -/
def storeBytes (l : List Flit) (m : Nat) : Bytes := flitBytes (l.getD m ⟨0, false, 0⟩)

theorem length_storeBytes (l : List Flit) (m : Nat) : (storeBytes l m).length = 64 := length_flitBytes _

/-- The XOR of new and old contents, for a shadow. -/
def xorBytes (b c : Bytes) : Bytes := List.zipWith (· ^^^ ·) b c

/-- What stands after `m` lines of a STORE. -/
structure State.Stored (s : State) (k p : Nat) (d : SDesc) (l : List Flit) (m : Nat) (t : State) : Prop where
  hand : t.hand = s.hand
  near : (t.posn k).near = (s.posn k).near.putLines d.addr.toNat d.count.toNat xorBytes (storeBytes l) m
  stock : (t.posn k).stock = (s.posn k).stock
  edgeIn : t.fab.edgeIn = s.fab.edgeIn
  lane : t.fab.edgeOut.get (edgeKey k p) [] = l.drop m
  pieces : (t.dealer k).pieces = if m = d.count.toNat * (d.rept.toNat + 1) ∧ bitOf d.flags.toNat 2 = true
    then ((s.dealer k).setVersion d.shard s.hand.hand).pieces else (s.dealer k).pieces

/-- A flit of an edge port's lane taken off it. -/
def State.tookEdge (s : State) (k p : Nat) (l : List Flit) : State :=
  { s with fab := { s.fab with edgeOut := s.fab.edgeOut.put (edgeKey k p) l [] } }

theorem State.deals_tookEdge (s : State) (k p : Nat) (l : List Flit) : s.Deals (s.tookEdge k p l) k :=
  ⟨rfl, rfl, ⟨_, rfl⟩, rfl, fun _ _ => rfl, rfl, rfl, fun _ _ => rfl⟩

theorem State.storeLine_keeps (s : State) (k off : Nat) (f : Flit) : s.Writes (s.storeLine k off f) k ∧
    ((s.storeLine k off f).posn k).near = (s.posn k).near.putTracked off (flitBytes f) xorBytes ∧
    ((s.storeLine k off f).posn k).stock = (s.posn k).stock :=
  s.putTracked_keeps k off (flitBytes f) f.poison xorBytes rfl

/-- The version of the piece, where the last line of a STORE with VSET has been written (R244). -/
def State.versioned (s : State) (k : Nat) (d : SDesc) (last : Bool) : State :=
  if bitOf d.flags.toNat 2 && last then s.onDealer k (fun x => x.setVersion d.shard s.hand.hand) else s

theorem State.deals_versioned (s : State) (k : Nat) (d : SDesc) (last : Bool) : s.Deals (s.versioned k d last) k := by
  unfold State.versioned
  split
  · exact s.deals_onPos k _ rfl rfl
  · exact State.Deals.refl s k

theorem State.versioned_keeps (s : State) (k : Nat) (d : SDesc) (last : Bool) : (s.versioned k d last).hand = s.hand ∧
    (s.versioned k d last).fab = s.fab ∧ ((s.versioned k d last).posn k).near = (s.posn k).near ∧
    ((s.versioned k d last).posn k).stock = (s.posn k).stock ∧ ((s.versioned k d last).dealer k).pieces =
      if bitOf d.flags.toNat 2 = true ∧ last = true then ((s.dealer k).setVersion d.shard s.hand.hand).pieces else (s.dealer k).pieces := by
  unfold State.versioned
  simp only [Bool.and_eq_true]
  split
  · exact ⟨rfl, rfl, by rw [State.posn_onDealer_same], by rw [State.posn_onDealer_same], by rw [State.dealer_onDealer]⟩
  · exact ⟨rfl, rfl, rfl, rfl, rfl⟩

theorem Dealer.setVersion_congr {x y : Dealer} (h : x.pieces = y.pieces) (a : W32) (v : W64) :
    (x.setVersion a v).pieces = (y.setVersion a v).pieces := by
  unfold Dealer.setVersion
  dsimp only
  rw [h]

section
variable {s : State} {k p : Nat} {d : SDesc} {l : List Flit} (hp : onesOf d.ports.toNat 3 = [p])
include hp

theorem State.kindUnit_store {t : State} {o : OpenDesc} (hd : o.d = d) (hk : d.kind.toNat = 3) {f : Flit} {r : List Flit}
    (hl : t.fab.edgeOut.get (edgeKey k p) [] = f :: r) (he : t.exporting k 1 (d.addr.toNat + 64 * o.at_) 1 = false) (a : Access) :
    t.kindUnit k o a = some ((((t.tookEdge k p r).storeLine k (d.addr.toNat + 64 * o.at_) f).putOpen k o.id (o.on 1)).versioned k d
      (o.on 1).isNone) := by
  subst hd
  unfold State.kindUnit
  rw [hk]
  show t.storeUnit k o = _
  unfold State.storeUnit
  rw [hp]
  dsimp only [List.headD]
  rw [hl]
  dsimp only
  rw [if_neg (by rw [he]; decide)]
  rfl

theorem State.Stored.step {t : State} {m : Nat} (h : s.Stored k p d l m t) (hk : d.kind.toNat = 3) (hc : d.count ≠ 0)
    (hm : m < d.count.toNat * (d.rept.toNat + 1)) (hlen : d.count.toNat * (d.rept.toNat + 1) ≤ l.length)
    (he : ∀ i, i < d.count.toNat → s.exporting k 1 (d.addr.toNat + 64 * i) 1 = false) :
    ∃ u, t.KindStep k 1 ((s.opens k d).after d.count.toNat m) u ∧ s.Stored k p d l (m + 1) u := by
  have hn : 0 < d.count.toNat := Nat.pos_of_ne_zero (fun h => hc (BitVec.eq_of_toNat_eq (by simpa using h)))
  have hat := Nat.mod_lt m hn
  have hlt : m < l.length := by omega
  have hlane : t.fab.edgeOut.get (edgeKey k p) [] = l.getD m ⟨0, false, 0⟩ :: l.drop (m + 1) := by
    rw [h.lane, List.drop_eq_getElem_cons hlt, List.getD_eq_getElem _ _ hlt]
  have hkind := State.kindUnit_store hp (o := (s.opens k d).after d.count.toNat m) rfl hk hlane
    ((State.exporting_of_hand h.hand _ _ _ _).trans (he _ hat))
  have hnext := (s.steps_after k d hc).1.next m hm
  obtain ⟨hw, hnear, hstock⟩ := (t.tookEdge k p (l.drop (m + 1))).storeLine_keeps k (d.addr.toNat + 64 * (m % d.count.toNat))
    (l.getD m ⟨0, false, 0⟩)
  refine ⟨_, ⟨_, (t.deals_tookEdge k p _).trans hw.deals, State.deals_versioned _ k d _, hkind⟩, ?_⟩
  obtain ⟨hvh, hvf, hvn, hvs, hvp⟩ := State.versioned_keeps ((State.storeLine (t.tookEdge k p (l.drop (m + 1))) k
    (d.addr.toNat + 64 * (m % d.count.toNat)) (l.getD m ⟨0, false, 0⟩)).putOpen k ((s.opens k d).after d.count.toNat m).id
    (((s.opens k d).after d.count.toNat m).on 1)) k d (((s.opens k d).after d.count.toNat m).on 1).isNone
  have hfab : ((t.tookEdge k p (l.drop (m + 1))).storeLine k (d.addr.toNat + 64 * (m % d.count.toNat)) (l.getD m ⟨0, false, 0⟩)).fab =
      (t.tookEdge k p (l.drop (m + 1))).fab := by rw [hw.rest]
  have hhand : ((t.tookEdge k p (l.drop (m + 1))).storeLine k (d.addr.toNat + 64 * (m % d.count.toNat)) (l.getD m ⟨0, false, 0⟩)).hand =
      s.hand := by rw [hw.rest]; exact h.hand
  refine ⟨hvh.trans hhand, ?_, ?_, ?_, ?_, ?_⟩
  · rw [Map.putLines, ← h.near]
    exact hvn.trans ((congrArg Pos.near (State.posn_putOpen _ _ _ _)).trans hnear)
  · exact (hvs.trans ((congrArg Pos.stock (State.posn_putOpen _ _ _ _)).trans hstock)).trans h.stock
  · exact (congrArg Fabric.edgeIn (hvf.trans hfab)).trans h.edgeIn
  · refine (congrArg (fun x : Fabric => x.edgeOut.get (edgeKey k p) []) (hvf.trans hfab)).trans ?_
    exact Map.get_put_same _ _ _ _
  · have hpieces : ((((t.tookEdge k p (l.drop (m + 1))).storeLine k (d.addr.toNat + 64 * (m % d.count.toNat))
        (l.getD m ⟨0, false, 0⟩)).putOpen k ((s.opens k d).after d.count.toNat m).id
        (((s.opens k d).after d.count.toNat m).on 1)).dealer k).pieces = (s.dealer k).pieces := by
      rw [State.dealer, State.posn_putOpen]
      exact (congrArg Dealer.pieces hw.dealer).trans (h.pieces.trans (if_neg (fun e => absurd e.1 (by omega))))
    have hlast : (((s.opens k d).after d.count.toNat m).on 1).isNone = true ↔ m + 1 = d.count.toNat * (d.rept.toNat + 1) := by
      rw [hnext]
      split
      · next e => exact ⟨fun _ => e, fun _ => rfl⟩
      · next e => exact ⟨fun x => (Bool.false_ne_true x).elim, fun x => absurd x e⟩
    exact hvp.trans (if_congr (by rw [hlast]; exact and_comm) ((Dealer.setVersion_congr hpieces _ _).trans
      (congrArg (fun x : Hand => ((s.dealer k).setVersion d.shard x.hand).pieces) hhand)) hpieces)

theorem State.exec_store (h : s.dealsNow k d 3) (hl : s.fab.edgeOut.get (edgeKey k p) [] = l)
    (hlen : d.count.toNat * (d.rept.toNat + 1) ≤ l.length)
    (he : ∀ i, i < d.count.toNat → s.exporting k 1 (d.addr.toNat + 64 * i) 1 = false) :
    ∃ t, exec (.store k d) s = .next t ∧ s.Dealt t k ∧ s.Stored k p d l (d.count.toNat * (d.rept.toNat + 1)) t ∧
      (t.dealer k).opened = [] := by
  obtain ⟨_, _, hk, hc, _⟩ := id h
  obtain ⟨hD, h0⟩ := s.steps_after k d hc
  have hpos := hD.pos
  obtain ⟨t, ht, hd, hi, ho⟩ := State.deals_all h (fun e => by rw [e] at hk; cases hk) hD h0 (Inv := s.Stored k p d l)
    (fun m t hm _ hi => hi.step hp hk hc hm hlen he) (fun t ht => by
      obtain ⟨q, v, i, hq⟩ := ht.posn
      refine ⟨ht.hand, by rw [hq]; rfl, by rw [hq], by rw [ht.fab], by rw [ht.fab, hl]; rfl, ?_⟩
      rw [if_neg (fun e => absurd e.1 (by omega)), State.dealer, hq])
  exact ⟨t, congrArg Host.Outcome.next ht, hd, hi, ho⟩

/-- A STORE for which no flit stands waits. -/
theorem State.exec_store_waits (h : s.dealsNow k d 3) (hl : s.fab.edgeOut.get (edgeKey k p) [] = []) :
    ∃ t, exec (.store k d) s = .next t ∧ s.HasRead t k d := by
  obtain ⟨_, _, hk, hc, _⟩ := id h
  obtain ⟨t, ht, hr⟩ := State.deals_held h (fun e => by rw [e] at hk; cases hk) (fun t a ht => by
    unfold State.kindUnit
    rw [show (s.opens k d).d.kind.toNat = 3 from hk]
    show t.storeUnit k (s.opens k d) = none
    unfold State.storeUnit
    rw [show onesOf (s.opens k d).d.ports.toNat 3 = [p] from hp, ht.fab]
    dsimp only [List.headD]
    rw [hl])
  exact ⟨t, congrArg Host.Outcome.next ht, hr⟩

end

/-! ### STOCK_IN (R248, R335) -/

/-- What stands after `m` lines of a STOCK_IN. -/
structure State.MovedIn (s : State) (k : Nat) (d : SDesc) (m : Nat) (t : State) : Prop where
  hand : t.hand = s.hand
  fab : t.fab = s.fab
  near : (t.posn k).near = (s.posn k).near.putLines d.addr2.toNat d.count.toNat (fun _ _ => zeros 64)
    (fun i => (s.posn k).stock.bytes (d.addr.toNat + 64 * (i % d.count.toNat)) 64) m
  stock : (t.posn k).stock = (s.posn k).stock

/-- A slice line moved into the stack, its shadow written as zero. -/
def State.movedLine (s : State) (k : Nat) (d : SDesc) (i : Nat) : State :=
  let t := s.putLine k (d.addr2.toNat + 64 * i) (s.stockRd k (d.addr.toNat + 64 * i) 64) (s.badStock k ((d.addr.toNat + 64 * i) / 64))
  if tracked (d.addr2.toNat + 64 * i) then t.nearWr k (shadowOf (d.addr2.toNat + 64 * i)) (zeros 64) else t

theorem State.MovedIn.step {s t : State} {k : Nat} {d : SDesc} {m : Nat} (h : s.MovedIn k d m t) (hk : d.kind.toNat = 5) :
    ∃ u, t.KindStep k 1 ((s.opens k d).after d.count.toNat m) u ∧ s.MovedIn k d (m + 1) u := by
  obtain ⟨hw, hnear, hstock⟩ := t.putTracked_keeps k (d.addr2.toNat + 64 * (m % d.count.toNat))
    (t.stockRd k (d.addr.toNat + 64 * (m % d.count.toNat)) 64) (t.badStock k ((d.addr.toNat + 64 * (m % d.count.toNat)) / 64))
    (fun _ _ => zeros 64) rfl
  change t.Writes (t.movedLine k d (m % d.count.toNat)) k at hw
  change ((t.movedLine k d (m % d.count.toNat)).posn k).near = _ at hnear
  change ((t.movedLine k d (m % d.count.toNat)).posn k).stock = _ at hstock
  refine ⟨_, ⟨_, hw.deals, State.Deals.refl _ k, fun a => ?_⟩, ⟨?_, ?_, ?_, ?_⟩⟩
  · unfold State.kindUnit
    rw [show ((s.opens k d).after d.count.toNat m).d.kind.toNat = 5 from hk]
    show some (t.stockInUnit k ((s.opens k d).after d.count.toNat m) a) = _
    unfold State.stockInUnit
    rw [t.dealEcc_clean k _ a rfl]
    rfl
  · show (t.movedLine k d (m % d.count.toNat)).hand = s.hand
    rw [hw.rest]
    exact h.hand
  · show (t.movedLine k d (m % d.count.toNat)).fab = s.fab
    rw [hw.rest]
    exact h.fab
  · rw [State.posn_putOpen, Map.putLines, ← h.near, ← h.stock]
    exact hnear
  · rw [State.posn_putOpen]
    exact hstock.trans h.stock

theorem State.exec_stockIn (s : State) (k : Nat) (d : SDesc) (h : s.dealsNow k d 5) :
    ∃ t, exec (.stockIn k d ⟨[], [], []⟩) s = .next t ∧ s.Dealt t k ∧ s.MovedIn k d (d.count.toNat * (d.rept.toNat + 1)) t ∧
      (t.dealer k).opened = [] := by
  obtain ⟨_, _, hk, hc, _⟩ := id h
  obtain ⟨hD, h0⟩ := s.steps_after k d hc
  obtain ⟨t, ht, hd, hi, ho⟩ := State.deals_all h (fun e => by rw [e] at hk; cases hk) hD h0 (Inv := s.MovedIn k d)
    (fun m t _ _ hi => hi.step hk) (fun t ht => by
      obtain ⟨q, v, i, hq⟩ := ht.posn
      exact ⟨ht.hand, ht.fab, by rw [hq]; rfl, by rw [hq]⟩)
  exact ⟨t, congrArg Host.Outcome.next ht, hd, hi, ho⟩

/-! ### STOCK_OUT (R328, R329, R335, R337) -/

theorem State.posn_putStock (s : State) (k off : Nat) (b : Bytes) (bad : Bool) :
    ∃ l, (s.putStock k off b bad).posn k = { s.posn k with stock := (s.posn k).stock.store off b, stockBad := l } := by
  unfold State.putStock
  dsimp only
  split
  · rw [State.posn_onPos_same, State.stockWr, State.posn_onPos_same]
    exact ⟨_, rfl⟩
  · rw [State.stockWr, State.posn_onPos_same]
    exact ⟨_, rfl⟩

/-- The first `j` lines of a block moved back to the slice. -/
def State.copied (s : State) (k : Nat) (d : SDesc) (j : Nat) : State :=
  s.each (List.range j) (fun s i => s.putStock k (d.addr2.toNat + 64 * i) (s.nearRd k (d.addr.toNat + 64 * i) 64)
    (s.badNear k ((d.addr.toNat + 64 * i) / 64)))

theorem State.copied_succ (s : State) (k : Nat) (d : SDesc) (j : Nat) : s.copied k d (j + 1) =
    (s.copied k d j).putStock k (d.addr2.toNat + 64 * j) ((s.copied k d j).nearRd k (d.addr.toNat + 64 * j) 64)
      ((s.copied k d j).badNear k ((d.addr.toNat + 64 * j) / 64)) := by
  unfold State.copied State.each
  rw [List.range_succ, List.foldl_append]
  rfl

theorem State.copied_keeps (s : State) (k : Nat) (d : SDesc) (j : Nat) : s.Writes (s.copied k d j) k ∧
    ((s.copied k d j).posn k).near = (s.posn k).near ∧
    (∀ i, i < 64 * j → ((s.copied k d j).posn k).stock.get (d.addr2.toNat + i) 0 = (s.posn k).near.get (d.addr.toNat + i) 0) ∧
    ∀ o, (o < d.addr2.toNat ∨ d.addr2.toNat + 64 * j ≤ o) → ((s.copied k d j).posn k).stock.get o 0 = (s.posn k).stock.get o 0 := by
  induction j with
  | zero => exact ⟨State.Writes.refl s k, rfl, fun i hi => absurd hi (Nat.not_lt_zero i), fun _ _ => rfl⟩
  | succ j ih =>
    obtain ⟨hw, hn, hin, hout⟩ := ih
    rw [s.copied_succ]
    generalize s.copied k d j = t at *
    obtain ⟨l, hp⟩ := t.posn_putStock k (d.addr2.toNat + 64 * j) (t.nearRd k (d.addr.toNat + 64 * j) 64)
      (t.badNear k ((d.addr.toNat + 64 * j) / 64))
    have hlen : (t.nearRd k (d.addr.toNat + 64 * j) 64).length = 64 := Map.length_bytes _ _ _
    rw [hp]
    refine ⟨hw.trans (t.writes_putStock _ _ _ _), hn, fun i hi => ?_, fun o ho => ?_⟩
    · dsimp only
      by_cases hj : i < 64 * j
      · rw [Map.get_store_out _ _ _ _ (by omega)]
        exact hin i hj
      · rw [Map.get_store, if_pos (by omega), State.nearRd, hn, Map.getD_bytes _ _ _ (by omega)]
        congr 1
        omega
    · dsimp only
      rw [Map.get_store_out _ _ _ _ (by omega)]
      exact hout o (by omega)

/-- Two states in which the delta coder makes the same of a block. -/
structure State.SameDelta (s t : State) (k : Nat) : Prop where
  hand : t.hand = s.hand
  num : t.num = s.num
  near : (t.posn k).near = (s.posn k).near
  descs : (t.dealer k).descs = (s.dealer k).descs
  codes : t.deltaCodes = s.deltaCodes
  rank : t.rank = s.rank
  step : t.rd64 R.NM_STEP_LO_STEP R.NM_STEP_HI_STEP = s.rd64 R.NM_STEP_LO_STEP R.NM_STEP_HI_STEP

theorem State.Dealt.sameDelta {s t : State} {k : Nat} (h : s.Dealt t k) (hh : t.hand = s.hand) (hn : t.num = s.num)
    (hm : (t.posn k).near = (s.posn k).near) (hd : (t.dealer k).descs = (s.dealer k).descs) : s.SameDelta t k := by
  refine ⟨hh, hn, hm, hd, ?_, h.rd R.LK_RANK_RANK (by decide) (by decide), ?_⟩
  · unfold State.deltaCodes State.on State.ringOn State.rreg
    rw [h.rd R.NM_UPD_CTRL_DELTA_EN (by decide) (by decide), h.reg (Ring.dlt.off + 0xC) ?_ (by decide)]
    simp only [Ring.off, Fld.addr, R.DL_PDESC_INDEX]
    omega
  · unfold State.rd64
    rw [h.rd R.NM_STEP_LO_STEP (by decide) (by decide), h.rd R.NM_STEP_HI_STEP (by decide) (by decide)]

/-- The staging of one delta segment. -/
def State.stagePart (k : Nat) (more : Bool) (s : State) (p : Nat × Nat × Bytes × Bool) : State :=
  s.stage k 1 (s.segment ⟨1, k, 0, p.2.2.2 && !more, s.segSeq k 1, p.1, p.2.1⟩ p.2.2.1)

theorem State.segment_same {s t : State} {k : Nat} (h : s.SameDelta t k) (x : SegHdr) (b : Bytes) : t.segment x b = s.segment x b := by
  unfold State.segment
  rw [h.hand, h.rank, h.step]

theorem State.stageParts_same (k : Nat) (more : Bool) (ps : List (Nat × Nat × Bytes × Bool)) : ∀ s t : State, s.SameDelta t k →
    t.each ps (State.stagePart k more) =
      { t with num := (s.each ps (State.stagePart k more)).num, hand := (s.each ps (State.stagePart k more)).hand } ∧
      ∃ q, (s.each ps (State.stagePart k more)).hand = { s.hand with deltaSeq := q } := by
  induction ps with
  | nil =>
    intro s t h
    refine ⟨?_, ⟨_, rfl⟩⟩
    show t = { t with num := s.num, hand := s.hand }
    rw [← h.num, ← h.hand]
  | cons p ps ih =>
    intro s t h
    have hseq : t.segSeq k 1 = s.segSeq k 1 := by unfold State.segSeq; rw [h.hand]
    have hpart : State.stagePart k more t p = { t with num := (State.stagePart k more s p).num, hand := (State.stagePart k more s p).hand } := by
      unfold State.stagePart State.stage
      rw [State.segment_same h, hseq, h.num, h.hand]
    have hsame : (State.stagePart k more s p).SameDelta (State.stagePart k more t p) k := by
      rw [hpart]
      exact ⟨rfl, rfl, h.near, h.descs, h.codes, h.rank, h.step⟩
    obtain ⟨he, q, hq⟩ := ih _ _ hsame
    refine ⟨?_, q, hq⟩
    show (State.stagePart k more t p).each ps (State.stagePart k more) = _
    rw [he, hpart]
    rfl

theorem State.stageDelta_off (s : State) (k : Nat) (o : OpenDesc) (h : s.deltaCodes = false) : s.stageDelta k o = some s := by
  unfold State.stageDelta
  exact if_pos (by rw [h]; rfl)

theorem State.stageDelta_same {s t u : State} {k : Nat} {o : OpenDesc} (h : s.SameDelta t k) (hu : s.stageDelta k o = some u) :
    t.stageDelta k o = some { t with num := u.num, hand := u.hand } ∧ ∃ q, u.hand = { s.hand with deltaSeq := q } := by
  by_cases hc : s.deltaCodes = false
  · rw [s.stageDelta_off k o hc] at hu
    obtain rfl := Option.some.inj hu
    rw [t.stageDelta_off k o (h.codes.trans hc), ← h.num, ← h.hand]
    exact ⟨rfl, _, rfl⟩
  · rw [Bool.not_eq_false] at hc
    have hparts : t.deltaParts k o.d = s.deltaParts k o.d := by
      unfold State.deltaParts State.nearRd
      rw [h.near]
    have hmore : t.moreOut k o.idx = s.moreOut k o.idx := by
      unfold State.moreOut
      rw [h.descs]
    obtain ⟨he, q, hq⟩ := State.stageParts_same k (s.moreOut k o.idx || decide (1 < o.runs)) (s.deltaParts k o.d) s t h
    have hs : s.stageDelta k o =
        if (s.each (s.deltaParts k o.d) (State.stagePart k (s.moreOut k o.idx || decide (1 < o.runs)))).staged k ≤ stagingSize then
          some (s.each (s.deltaParts k o.d) (State.stagePart k (s.moreOut k o.idx || decide (1 < o.runs)))) else none :=
      if_neg (by rw [hc]; decide)
    have ht : t.stageDelta k o =
        if (t.each (t.deltaParts k o.d) (State.stagePart k (t.moreOut k o.idx || decide (1 < o.runs)))).staged k ≤ stagingSize then
          some (t.each (t.deltaParts k o.d) (State.stagePart k (t.moreOut k o.idx || decide (1 < o.runs)))) else none :=
      if_neg (by rw [h.codes, hc]; decide)
    rw [hs] at hu
    rw [ht, hparts, hmore, he]
    split at hu
    · next hfit =>
      obtain rfl := Option.some.inj hu
      exact ⟨if_pos hfit, q, hq⟩
    · cases hu

/-- What stands after `m` runs of a STOCK_OUT whose delta has been staged as in `u`. -/
structure State.MovedOut (s : State) (k : Nat) (d : SDesc) (u : State) (m : Nat) (t : State) : Prop where
  hand : t.hand = if m = 0 then s.hand else u.hand
  num : t.num = if m = 0 then s.num else u.num
  fab : t.fab = s.fab
  descs : (t.dealer k).descs = (s.dealer k).descs
  near : (t.posn k).near = (s.posn k).near
  inside : 0 < m → ∀ j, j < 64 * d.count.toNat → (t.posn k).stock.get (d.addr2.toNat + j) 0 = (s.posn k).near.get (d.addr.toNat + j) 0
  outside : ∀ o, (o < d.addr2.toNat ∨ d.addr2.toNat + 64 * d.count.toNat ≤ o) → (t.posn k).stock.get o 0 = (s.posn k).stock.get o 0

theorem State.MovedOut.step {s t u : State} {k : Nat} {d : SDesc} {m : Nat} (h : s.MovedOut k d u m t) (ht : s.Dealt t k)
    (hk : d.kind.toNat = 6) (hm : m < d.rept.toNat + 1) (he : s.exporting k 0 d.addr2.toNat d.count.toNat = false)
    (hc : s.deltaCodes = false ∨ d.rept.toNat = 0) (hu : s.stageDelta k (s.opens k d) = some u) :
    ∃ x, t.KindStep k d.count.toNat ((s.opens k d).afterRuns m) x ∧ s.MovedOut k d u (m + 1) x := by
  obtain ⟨hhand, hnum, hstage⟩ : t.hand = s.hand ∧ t.num = s.num ∧ s.stageDelta k ((s.opens k d).afterRuns m) = some u := by
    rcases hc with hc | hr
    · obtain rfl := Option.some.inj ((s.stageDelta_off k _ hc).symm.trans hu)
      exact ⟨h.hand.trans (ite_self _), h.num.trans (ite_self _), s.stageDelta_off k _ hc⟩
    · obtain rfl : m = 0 := by omega
      exact ⟨h.hand, h.num, hu⟩
  obtain ⟨hst, q, hq⟩ := State.stageDelta_same (ht.sameDelta hhand hnum h.near h.descs) hstage
  generalize hv : ({ t with num := u.num, hand := u.hand } : State) = v at hst
  have hvp : v.pos = t.pos := by rw [← hv]
  have hvposn : v.posn k = t.posn k := congrArg (fun m : Map Pos => m.get k Pos.reset) hvp
  have hvd : t.Deals v k := by
    rw [← hv]
    exact ⟨rfl, rfl, ⟨q, by rw [hhand]; exact hq⟩, rfl, fun _ _ => rfl, rfl, rfl, fun _ _ => rfl⟩
  obtain ⟨hw, hn, hin, hout⟩ := v.copied_keeps k d d.count.toNat
  refine ⟨_, ⟨_, hvd.trans hw.deals, State.Deals.refl _ k, fun a => ?_⟩, ⟨?_, ?_, ?_, ?_, ?_, fun _ j hj => ?_, fun o ho => ?_⟩⟩
  · unfold State.kindUnit
    rw [show ((s.opens k d).afterRuns m).d.kind.toNat = 6 from hk]
    show t.stockOutUnit k ((s.opens k d).afterRuns m) a = _
    unfold State.stockOutUnit
    rw [t.dealEcc_clean k _ a rfl]
    dsimp only
    rw [hst]
    exact if_neg (by rw [State.exporting_of_hand hhand]; exact ne_true_of_eq_false he)
  · show (v.copied k d d.count.toNat).hand = _
    rw [hw.rest, ← hv, if_neg (Nat.succ_ne_zero m)]
  · show (v.copied k d d.count.toNat).num = _
    rw [hw.rest, ← hv, if_neg (Nat.succ_ne_zero m)]
  · show (v.copied k d d.count.toNat).fab = _
    rw [hw.rest, ← hv]
    exact h.fab
  · rw [State.dealer, State.posn_putOpen]
    show ((v.copied k d d.count.toNat).dealer k).descs = _
    rw [hw.dealer, State.dealer, hvposn]
    exact h.descs
  · rw [State.posn_putOpen]
    exact (hn.trans (congrArg Pos.near hvposn)).trans h.near
  · rw [State.posn_putOpen, ← h.near, ← hvposn]
    exact hin j hj
  · rw [State.posn_putOpen, ← h.outside o ho, ← hvposn]
    exact hout o ho

section
variable (s : State) (k : Nat) (d : SDesc) (h : s.dealsNow k d 6)
include h

theorem State.exec_stockOut {u : State} (he : s.exporting k 0 d.addr2.toNat d.count.toNat = false)
    (hc : s.deltaCodes = false ∨ d.rept.toNat = 0) (hu : s.stageDelta k (s.opens k d) = some u) :
    ∃ t, exec (.stockOut k d ⟨[], [], []⟩) s = .next t ∧ s.Dealt t k ∧ s.MovedOut k d u (d.rept.toNat + 1) t ∧
      (t.dealer k).opened = [] := by
  obtain ⟨_, _, hk, _⟩ := id h
  obtain ⟨hD, h0⟩ := s.steps_afterRuns k d
  obtain ⟨t, ht, hd, hi, ho⟩ := State.deals_all h (fun e => by rw [e] at hk; cases hk) hD h0 (Inv := s.MovedOut k d u)
    (fun m t hm ht hi => hi.step ht hk hm he hc hu) (fun t ht => by
      obtain ⟨q, v, i, hq⟩ := ht.posn
      exact ⟨ht.hand, ht.num, ht.fab, by rw [State.dealer, hq], by rw [hq], fun e => absurd e (Nat.not_lt_zero 0), fun o _ => by rw [hq]⟩)
  exact ⟨t, congrArg Host.Outcome.next ht, hd, hi, ho⟩

/-- A STOCK_OUT whose old lines have still to be read waits (R329). -/
theorem State.exec_stockOut_waits (he : s.exporting k 0 d.addr2.toNat d.count.toNat = true) :
    ∃ t, exec (.stockOut k d ⟨[], [], []⟩) s = .next t ∧ s.HasRead t k d := by
  obtain ⟨_, _, hk, _⟩ := id h
  obtain ⟨t, ht, hr⟩ := State.deals_held h (fun e => by rw [e] at hk; cases hk) (fun t a ht => by
    unfold State.kindUnit
    rw [show (s.opens k d).d.kind.toNat = 6 from hk]
    show t.stockOutUnit k (s.opens k d) a = none
    unfold State.stockOutUnit
    exact if_pos ((State.exporting_of_hand ht.hand _ _ _ _).trans he))
  exact ⟨t, congrArg Host.Outcome.next ht, hr⟩

end

/-! ### The trace of an event (R485) -/

theorem State.sup_msix (s : State) (v : Nat) : (s.msix v).sup = s.sup := by
  unfold State.msix
  split
  · rfl
  · rfl

theorem State.sup_ringSignal (s : State) (n : Nat) : (s.ringSignal .evt n).sup = s.sup := by
  unfold State.ringSignal
  dsimp only
  split
  · exact State.sup_msix _ _
  · rfl

theorem State.sup_ringFill (s : State) (w n : Nat) (b : Bytes) : (s.ringFill .evt w n b).sup = s.sup := by
  induction n generalizing s b with
  | zero => rfl
  | succ n ih => exact ih _ _

theorem State.sup_ringPut (s : State) (b : Bytes) : (s.ringPut .evt b).sup = s.sup :=
  (State.sup_ringSignal _ _).trans (s.sup_ringFill _ _ _)

theorem State.trace_manage (s : State) (e : EvRec) : (s.manage e).sup.trace = s.sup.trace := by
  unfold State.manage
  split
  · rfl
  · split
    · split
      · rfl
      · rfl
    · split
      · rfl
      · rfl

/-- An event's record stands in the trace. -/
theorem State.noted_emitRaw (s : State) (c : Nat) (l : List Arg) : s.noted c l ∈ (s.emitRaw c l).sup.trace := by
  unfold State.emitRaw
  dsimp only
  generalize hu : State.manage _ _ = u
  have h : s.noted c l ∈ u.sup.trace := by
    rw [← hu, State.trace_manage]
    dsimp only
    rw [List.drop_append_of_le_length (Nat.sub_le_of_le_add (Nat.add_le_add_left (by decide : 1 ≤ traceMax) _))]
    exact List.mem_append_right _ (List.mem_singleton_self _)
  split
  · exact h
  · split
    · rw [State.sup_ringPut]
      exact h
    · exact h

/-! ### The statement -/

/-- The other positions' memories, the list, the tiles and the hand. -/
theorem State.Dealt.memories {s t : State} {k : Nat} (h : s.Dealt t k) (hn : (t.posn k).near = (s.posn k).near)
    (hs : (t.posn k).stock = (s.posn k).stock) (j : Nat) : (t.posn j).near = (s.posn j).near ∧ (t.posn j).stock = (s.posn j).stock := by
  by_cases hj : j = k
  · rw [hj]
    exact ⟨hn, hs⟩
  · rw [h.others j hj]
    exact ⟨rfl, rfl⟩

theorem State.Dealt.elsewhere {s t : State} {k : Nat} (h : s.Dealt t k) (j : Nat) (hj : j ≠ k) :
    (t.posn j).near = (s.posn j).near ∧ (t.posn j).stock = (s.posn j).stock := by
  rw [h.others j hj]
  exact ⟨rfl, rfl⟩

/-- A fill without a conversion (R243). -/
theorem State.fillRows_plain (s : State) (k : Nat) (d : SDesc) (j : Nat) (hf : d.srcf = d.dstf) {x : Elem}
    (he : elemOf (d.dstf.setWidth 5) = some x) : s.fillRows k d j = (s,
      ((lanesOf d.mask).map (fun l => s.chunkSrc k d (chunkOf (d.dstf.setWidth 5)) x.bits l j)).map (fun y => y.1 ++ y.2.1),
      ((lanesOf d.mask).map (fun l => s.chunkSrc k d (chunkOf (d.dstf.setWidth 5)) x.bits l j)).any (fun y => y.2.2)) := by
  unfold State.fillRows
  dsimp only
  rw [hf, he]
  exact if_pos rfl

/-- A reserved value is the stream fault (R235). -/
theorem State.readDesc_reserved (s : State) (k : Nat) (d : SDesc) (kind : Nat) (ecc : LineEcc) (hd : s.dealing k = true)
    (hr : d.reserved = true) : ∃ u, s.readDesc k d kind ecc = u.misdeal 7 ∧ s.said s u 0x040F [.w4 k, .w4 (s.descIndex k)] := by
  refine ⟨s.emit 0x040F [.w4 k, .w4 (s.descIndex k)], ?_, State.quiet_emit _ _ _, ?_⟩
  · unfold State.readDesc
    rw [hd, hr]
    rfl
  · exact s.noted_emitRaw _ _

theorem State.HasRead.still {s t : State} {k : Nat} {d : SDesc} (h : s.HasRead t k d) :
    (t.descIndex k = s.nextIndex k % 2 ^ R.DL_PDESC_INDEX.width ∧ t.tiles = s.tiles ∧
      ∀ j, j ≠ k → (t.posn j).near = (s.posn j).near ∧ (t.posn j).stock = (s.posn j).stock) ∧ t.hand = s.hand ∧ t.fab = s.fab ∧
      (t.dealer k).opened = [s.opens k d] ∧ (t.posn k).near = (s.posn k).near ∧ (t.posn k).stock = (s.posn k).stock := by
  obtain ⟨p, v, i, hp⟩ := h.posn
  exact ⟨⟨h.index, h.tiles, h.dealt.elsewhere⟩, h.hand, h.fab, h.opened, by rw [hp], by rw [hp]⟩

theorem length_xorBytes (b c : Bytes) (hb : b.length = 64) (hc : c.length = 64) : (xorBytes b c).length = 64 := by
  rw [xorBytes, List.length_zipWith, hb, hc]
  rfl

theorem getD_xorBytes (b c : Bytes) {j : Nat} (hb : j < b.length) (hc : j < c.length) :
    (xorBytes b c).getD j 0 = b.getD j 0 ^^^ c.getD j 0 := by
  rw [xorBytes, List.getD_eq_getElem _ _ (by rw [List.length_zipWith]; omega), List.getElem_zipWith, List.getD_eq_getElem _ _ hb,
    List.getD_eq_getElem _ _ hc]

/-- In the last of the runs no later step writes the same line. -/
theorem mod_ne_of_last_run {n r i q : Nat} (h1 : n * r + i < q) (h2 : q < n * (r + 1)) : q % n ≠ i := by
  intro h
  have hd := Nat.div_add_mod q n
  have hlow : r < q / n := Nat.lt_of_mul_lt_mul_left (a := n) (by omega)
  have hhigh := Nat.mul_le_mul_left n (Nat.succ_le_of_lt hlow)
  rw [Nat.succ_eq_add_one] at hhigh
  omega

theorem Map.putLines_runs (x : Map Byte) (base : Nat) (f : Bytes → Bytes → Bytes) {line : Nat → Bytes} (hl : ∀ m, (line m).length = 64)
    {n : Nat} (r : Nat) (ht : ∀ i, i < n → tracked (base + 64 * i) = false) {i j : Nat} (hi : i < n) (hj : j < 64) :
    (x.putLines base n f line (n * (r + 1))).get (base + 64 * i + j) 0 = (line (n * r + i)).getD j 0 := by
  have hmod : (n * r + i) % n = i := by rw [Nat.mul_add_mod, Nat.mod_eq_of_lt hi]
  have h := x.putLines_last base n f line hl (Nat.zero_lt_of_lt hi) ht (q := n * r + i) hj (n * (r + 1))
    (by rw [Nat.mul_succ]; omega) (fun q h1 h2 => by rw [hmod]; exact mod_ne_of_last_run h1 h2)
  rw [hmod] at h
  exact h

/-- Settles O26: a descriptor that nothing holds is followed from its read to its end (`State.deals_all`), with what stands after `m` of its steps as the
invariant of its kind. -/
theorem dealers : Obligations.Dealers := by
  unfold Obligations.Dealers
  refine ⟨?_, ?_⟩
  · intro s k d rest runs fmt src fill pick line
    have hruns : runs = (List.range (d.count.toNat * (d.rept.toNat + 1))).map (· % d.count.toNat) := range_runs _ _
    refine ⟨?_, ?_, ?_, ?_⟩
    · intro h u hfit
      have hu : u = s.fills k d (d.count.toNat * (d.rept.toNat + 1)) := by
        show runs.foldl _ s = _
        rw [hruns]
        rfl
      rw [hu] at hfit
      obtain ⟨t, ht, hd, hi, ho⟩ := s.exec_weight k d h hfit
      rw [hu]
      exact ⟨t, ht, ⟨hd.index, hd.tiles, hi.hand, ho, hd.memories hi.near hi.stock⟩, hi.alike.fab, hi.alike.gen, hi.alike.cens⟩
    · intro hf he
      obtain ⟨x, hx⟩ := Option.isSome_iff_exists.mp he
      have hfill : ∀ j, fill j = (flitsOf (fillBytes (d.dstf.setWidth 5) (s.fillRows k d j).2.1)).map
          (fun f => { f with poison := (s.fillRows k d j).2.2 }) := fun j => by
        rw [s.fillRows_plain k d j hf hx]
        show (flitsOf (fillBytes fmt ((src j).map _))).map _ = _
        have hsrc : src j = (lanesOf d.mask).map (fun l => s.chunkSrc k d (chunkOf (d.dstf.setWidth 5)) x.bits l j) := by
          show (lanesOf d.mask).map (fun l => s.chunkSrc k d (chunkOf fmt) (match elemOf fmt with | none => 0 | some x => x.bits) l j) = _
          rw [hx]
        rw [hsrc]
      refine ⟨fun p j hp => ?_, fun p q j hp => ?_⟩
      · rw [hfill]
        unfold State.sendFill
        rw [hp, s.fillRows_plain k d j hf hx]
      · show _ = (s.toEdge k p (pick (fill j) 0)).toEdge k q (pick (fill j) 1)
        rw [hfill]
        unfold State.sendFill
        rw [hp, s.fillRows_plain k d j hf hx]
    · intro p h hp hfit
      have hsent : runs.map line = s.linesSent k d (d.count.toNat * (d.rept.toNat + 1)) := by
        rw [hruns]
        rfl
      rw [hsent] at hfit ⊢
      obtain ⟨t, ht, hd, hi, ho⟩ := s.exec_lines k p d h hp hfit
      refine ⟨t, ht, ⟨hd.index, hd.tiles, hi.hand, ho, hd.memories hi.near hi.stock⟩, ?_, fun j hj => ?_⟩
      · rw [hi.edges, State.get_toEdge, if_pos rfl]
      · rw [hi.edges, State.get_toEdge, if_neg hj]
    · intro c hc hd hr
      have hall : ∀ kind, ∃ t u : State,
          (Host.Outcome.next (s.readDesc k d kind ⟨[], [], []⟩) : Host.Outcome State Fault Refusal) = .next t ∧
          t = u.misdeal 7 ∧ s.said s u 0x040F [.w4 k, .w4 (s.descIndex k)] := fun kind => by
        obtain ⟨u, hu, hsaid⟩ := s.readDesc_reserved k d kind ⟨[], [], []⟩ hd hr
        exact ⟨_, u, rfl, hu, hsaid⟩
      simp only [List.mem_cons, List.not_mem_nil, or_false] at hc
      rcases hc with rfl | rfl | rfl | rfl | rfl | rfl
      · exact hall 1
      · exact hall 2
      · exact hall 3
      · exact hall 4
      · exact hall 5
      · exact hall 6
  · intro s k d n r a b others rest still
    have hn0 : d.count ≠ 0 → 0 < n := fun hc => Nat.pos_of_ne_zero (fun h => hc (BitVec.eq_of_toNat_eq (by simpa using h)))
    refine ⟨?_, ?_, ?_, ?_, ?_, ?_⟩
    · intro p h hp l
      refine ⟨fun hlen he => ?_, fun hl => ?_⟩
      · obtain ⟨t, ht, hd, hi, ho⟩ := State.exec_store hp h rfl hlen he
        have hn := hn0 h.2.2.2.1
        refine ⟨t, ht, ⟨⟨hd.index, hd.tiles, hd.elsewhere⟩, hi.hand, ho⟩, hi.lane, hi.edgeIn, hi.stock, ?_,
          fun htr => ⟨fun i j hin hj => ?_,
          fun o hout => ?_⟩, fun h1 h0 htr j hj => ?_⟩
        · rw [hi.pieces]
          exact if_congr (and_iff_right rfl) rfl rfl
        · rw [hi.near]
          exact Map.putLines_runs _ _ _ (length_storeBytes l) _ htr hin hj
        · rw [hi.near]
          exact Map.putLines_outside _ _ _ _ _ (length_storeBytes l) hn htr hout _
        · have hone : d.count.toNat = 1 := h1
          have hzero : d.rept.toNat = 0 := h0
          have hnear := hi.near
          rw [hone, hzero] at hnear
          obtain ⟨hline, hshadow⟩ := Map.putLines_tracked (s.posn k).near a xorBytes (storeBytes l) (length_storeBytes l) htr length_xorBytes 0 hj
          rw [hnear]
          refine ⟨hline, hshadow.trans ?_⟩
          rw [getD_xorBytes _ _ (by rw [length_storeBytes]; exact hj) (by rw [Map.length_bytes]; exact hj), Map.getD_bytes _ _ _ hj]
          rfl
      · obtain ⟨t, ht, hr⟩ := State.exec_store_waits hp h hl
        exact ⟨t, ht, hr.still⟩
    · intro h htr
      obtain ⟨t, ht, hd, hi, ho⟩ := s.exec_stockIn k d h
      have hn := hn0 h.2.2.2.1
      refine ⟨t, ht, ⟨⟨hd.index, hd.tiles, hd.elsewhere⟩, hi.hand, ho⟩, hi.fab, hi.stock, fun j hj => ?_, fun o hout => ?_⟩
      · have hmod : (n * r + j / 64) % n = j / 64 := by rw [Nat.mul_add_mod, Nat.mod_eq_of_lt (by omega)]
        have hlast := Map.putLines_runs (s.posn k).near b (fun _ _ => zeros 64)
          (line := fun i => (s.posn k).stock.bytes (a + 64 * (i % n)) 64) (fun _ => Map.length_bytes _ _ _) r htr
          (i := j / 64) (j := j % 64) (by omega) (Nat.mod_lt _ (by decide))
        rw [hmod, Map.getD_bytes _ _ _ (Nat.mod_lt _ (by decide)), Nat.add_assoc, Nat.add_assoc, Nat.div_add_mod] at hlast
        rw [hi.near]
        exact hlast
      · rw [hi.near]
        exact Map.putLines_outside _ _ _ _ _ (fun _ => Map.length_bytes _ _ _) hn htr hout _
    · intro h h1 htr
      obtain ⟨t, ht, hd, hi, ho⟩ := s.exec_stockIn k d h
      have hone : d.count.toNat = 1 := h1
      have hnear := hi.near
      rw [hone, Nat.one_mul] at hnear
      refine ⟨t, ht, ⟨⟨hd.index, hd.tiles, hd.elsewhere⟩, hi.hand, ho⟩, fun j hj => ?_⟩
      obtain ⟨hline, hshadow⟩ := Map.putLines_tracked (s.posn k).near b (fun _ _ => zeros 64)
        (fun i => (s.posn k).stock.bytes (d.addr.toNat + 64 * (i % 1)) 64) (fun _ => Map.length_bytes _ _ _) htr
        (fun _ _ _ _ => List.length_replicate ..) r hj
      rw [hnear]
      refine ⟨hline.trans ?_, hshadow.trans ?_⟩
      · rw [Nat.mod_one]
        exact Map.getD_bytes _ _ _ hj
      · rw [List.getD_eq_getElem _ _ (by rw [zeros, List.length_replicate]; exact hj)]
        exact List.getElem_replicate _
    · intro u h he hc hu
      obtain ⟨t, ht, hd, hi, ho⟩ := s.exec_stockOut k d h he hc hu
      exact ⟨t, ht, ⟨hd.index, hd.tiles, hd.elsewhere⟩, ho, hi.num, hi.hand, hi.fab, hi.near, hi.inside (Nat.succ_pos _), hi.outside⟩
    · exact s.stageDelta_off k _
    · intro h he
      obtain ⟨t, ht, hr⟩ := s.exec_stockOut_waits k d h he
      exact ⟨t, ht, hr.still⟩

end Sys2Proof.Machine

/-! PROOF. The scalar class (O2). -/

namespace Sys2Proof.Machine

/-! ### Reads and writes of one context -/

theorem State.hand_decoded (s : State) (a : Site) (w : W64) : (s.decoded a w).hand = s.hand := by
  rw [(s.elsewhere_decoded a w).1]

/-- A word of scratch memory reads as it was written. -/
theorem Ctx.scratchRd_scratchWr (c : Ctx) (at_ : Nat) (v : W32) : (c.scratchWr at_ v).scratchRd at_ = v := by
  have hread := Map.bytes_store c.scratch (at_ % 16384 / 4 * 4) (leBytes 4 v.toNat)
  rw [length_leBytes] at hread
  unfold Ctx.scratchRd Ctx.scratchWr
  dsimp only
  rw [hread, leNat_leBytes, Nat.mod_eq_of_lt (show v.toNat < 256 ^ 4 from v.isLt), BitVec.ofNat_toNat, BitVec.setWidth_eq]

/-- A write of a scratch word leaves the bytes of every other word. -/
theorem Ctx.scratch_scratchWr_other (c : Ctx) (at_ b : Nat) (v : W32) (h : b / 4 ≠ at_ % 16384 / 4) :
    (c.scratchWr at_ v).scratch.get b 0 = c.scratch.get b 0 := by
  refine Map.get_store_out _ _ _ _ ?_
  rw [length_leBytes]
  omega

/-! ### Scalar operations at their decode (R145, R156) -/

section
variable {s : State} {a : Site} {op : Nat} {f : SFmt} {reads : List (BitVec 5)}
  (h : s.canDecode a (wordOf 0 op (sLow f)) reads)
include h

/-- A scalar operation writes GD with what it reads of its context after the decode. -/
theorem State.scalar_wroteG (g : Ctx → W32) :
    (s.decoded a (wordOf 0 op (sLow f))).wroteG (s.scalar a op f reads (fun c => c.setGr f.gd (g c))) a f.gd
      (g ((s.ctx a).fold (wordOf 0 op (sLow f)))) := by
  rw [s.scalar_run a op f reads _ h]
  exact State.wroteG_onCtx _ a f.gd _ g (congrArg g (s.ctx_decoded a _))

/-- An access to scratch memory that reads well enough changes its context alone. -/
theorem State.scratch_run {ecc : Ecc} (he : ecc ≠ .double) (g : Ctx → Ctx) :
    s.scratch a op f reads ecc g = ((s.decoded a (wordOf 0 op (sLow f))).eccCe a.tile ecc).onCtx a g := by
  unfold State.scratch
  rw [s.instr_run _ _ _ _ _ h rfl, if_neg he]

end

/-! ### The special registers (R158) -/

theorem State.wroteG_of_free {s t : State} {a : Site} {r : BitVec 5} {v : W32} {k : Nat} (h : State.wroteG { s with free := k } t a r v) :
    s.wroteG t a r v := by
  obtain ⟨honly, hctx, hgr⟩ := h
  exact ⟨State.onlyCtx_trans ⟨s.elsewhere_free a.tile k, (Tile.setCtx_self _ _).symm⟩ honly, hctx, hgr⟩

/-- MFS writes what the special register gives. -/
theorem mfs_writes {s : State} {a : Site} {f : SFmt} (h : s.canDecode a (wordOf 0 0xD (sLow f)) []) {v : W32} {k : Nat}
    (hv : (s.decoded a (wordOf 0 0xD (sLow f))).special a f.imm.toNat = (v, { s.decoded a (wordOf 0 0xD (sLow f)) with free := k })) :
    ∃ t, exec (.mfs a f) s = .next t ∧ (s.decoded a (wordOf 0 0xD (sLow f))).wroteG t a f.gd v := by
  refine ⟨_, congrArg Host.Outcome.next (s.instr_run _ _ _ _ _ h rfl), ?_⟩
  rw [hv]
  exact State.wroteG_of_free (State.wroteG_onCtx _ a f.gd v (fun _ => v) rfl)

/-- A special register beyond those of R158 reads 0. -/
theorem State.special_beyond (s : State) (a : Site) {n : Nat} (h : 10 ≤ n) : s.special a n = (0, s) := by
  obtain ⟨k, rfl⟩ := Nat.exists_eq_add_of_le' h
  rfl

/-! ### O2 -/

/-- Settles O2: each operation is run to the state after its decode, and its one write read back. -/
theorem scalarClass : Obligations.ScalarClass := by
  unfold Obligations.ScalarClass
  refine ⟨fun s a f => ?_, fun s a f ecc he => ⟨fun h => ?_, fun h => ?_⟩, fun s a f h => ?_⟩
  · exact ⟨fun h => ⟨_, rfl, State.scalar_wroteG h _⟩, fun h => ⟨_, rfl, State.scalar_wroteG h _⟩,
      fun h => ⟨_, rfl, State.scalar_wroteG h _⟩, fun h => ⟨_, rfl, State.scalar_wroteG h _⟩,
      fun h => ⟨_, rfl, State.scalar_wroteG h _⟩, fun h => ⟨_, rfl, State.scalar_wroteG h _⟩,
      fun h => ⟨_, rfl, State.scalar_wroteG h _⟩, fun h => ⟨_, rfl, State.scalar_wroteG h _⟩,
      fun h => ⟨_, rfl, State.scalar_wroteG h _⟩, fun h => ⟨_, rfl, State.scalar_wroteG h _⟩,
      fun h => ⟨_, rfl, State.scalar_wroteG h (fun _ => f.imm)⟩⟩
  · refine ⟨_, congrArg Host.Outcome.next (State.scratch_run h he _), ?_⟩
    refine State.wroteG_onCtx _ a f.gd _ (fun c => c.scratchRd (scratchAddr c f)) ?_
    rw [State.ctx_eccCe, State.ctx_decoded]
    rfl
  · refine ⟨_, congrArg Host.Outcome.next (State.scratch_run h he _), State.onlyCtx_onCtx _ _ _, ?_⟩
    rw [State.ctx_onCtx_same, State.ctx_eccCe, State.ctx_decoded]
    exact ⟨rfl, Ctx.scratchRd_scratchWr _ _ _, fun b _ hb => Ctx.scratch_scratchWr_other _ _ b _ hb⟩
  · have hc := s.ctx_decoded a (wordOf 0 0xD (sLow f))
    have hhand := s.hand_decoded a (wordOf 0 0xD (sLow f))
    have hreads : ∀ v, (s.decoded a (wordOf 0 0xD (sLow f))).special a f.imm.toNat = (v, s.decoded a (wordOf 0 0xD (sLow f))) →
        ∃ t, exec (.mfs a f) s = .next t ∧ (s.decoded a (wordOf 0 0xD (sLow f))).wroteG t a f.gd v := fun v hv => mfs_writes h hv
    refine ⟨fun hi => ?_, fun hi => ?_, fun hi => ?_, fun hi => ?_, fun hi => ?_, fun hi => ?_, fun hi hs => ?_, fun hi hs d hd => ?_,
      fun hi => ?_, fun hi => ?_, fun hi => ?_⟩
    · have hfree : (s.decoded a (wordOf 0 0xD (sLow f))).special a f.imm.toNat = (s.decoded a (wordOf 0 0xD (sLow f))).freeW := by
        obtain hz | ho : f.imm.toNat = 0 ∨ f.imm.toNat = 1 := by omega
        · rw [hz]; rfl
        · rw [ho]; rfl
      exact ⟨_, mfs_writes h hfree⟩
    all_goals refine hreads _ ?_
    · rw [hi]; simp only [State.special, hc]; rw [← BitVec.setWidth_ushiftRight_eq_extractLsb]; rfl
    · rw [hi]; simp only [State.special, hc]; rw [← BitVec.setWidth_ushiftRight_eq_extractLsb]; rfl
    · rw [hi]; simp only [State.special, hhand]; rw [← BitVec.setWidth_ushiftRight_eq_extractLsb]; rfl
    · rw [hi]; simp only [State.special, hhand]; rw [← BitVec.setWidth_ushiftRight_eq_extractLsb]
    · rw [hi]; rfl
    · rw [hi]; simp only [State.special, hs]; rfl
    · rw [hi]; simp only [State.special, hs, hhand, hd]; rfl
    · rw [hi]; rfl
    · rw [hi]; rfl
    · exact State.special_beyond _ a hi

end Sys2Proof.Machine

/-! PROOF. Branches, jumps, waits and signature checks (O3). -/

namespace Sys2Proof.Machine

/-- What a general register reads after a write (R145). -/
theorem Ctx.gr_setGr (c : Ctx) (r q : BitVec 5) (v : W32) : (c.setGr r v).gr q = if q = r ∧ r ≠ 0 then v else c.gr q := by
  by_cases h0 : r = 0
  · rw [h0, Ctx.setGr_zero, if_neg (fun h => h.2 rfl)]
  · by_cases hq : q = r
    · rw [hq, if_pos ⟨rfl, h0⟩, Ctx.gr_setGr_same _ _ _ h0]
    · rw [if_neg (fun h => hq h.1), Ctx.gr_setGr_other _ _ _ _ hq]

theorem State.settles_eccCe (s : State) (n : Nat) (e : Ecc) : s.Settles (s.eccCe n e) n := by
  unfold State.eccCe State.sramCe State.stat
  split
  · exact s.settles_onTile n _ (fun _ => rfl) (fun _ => rfl)
  · exact State.Settles.refl s n

theorem State.settles_decoded (s : State) (a : Site) (w : W64) : s.Settles (s.decoded a w) a.tile :=
  (s.settles_eccCe a.tile a.fetch).trans (State.settles_onCtx _ a _ (fun h => h) (fun h => h))

/-- A word that decode runs to its end, with nothing to do but decode. -/
theorem State.instr_decodes {s : State} {a : Site} {w : W64} {reads : List (BitVec 5)} {bad : Ctx → Option Nat}
    (h : s.canDecode a w reads) (hb : bad (s.ctx a) = none) : s.instr a w reads bad (fun _ u => u) = s.decoded a w :=
  s.instr_run a w reads bad _ h hb

section
variable {s : State} {a : Site} {op : Nat} {f : SFmt} {reads : List (BitVec 5)}
  (h : s.canDecode a (wordOf 7 op (sLow f)) reads)
include h

/-- A branch leaves what its change of the context leaves (R156). -/
theorem State.branch_leaves {g : Ctx → Ctx} {c : Ctx} (hg : g ((s.ctx a).fold (wordOf 7 op (sLow f))) = c) :
    (s.decoded a (wordOf 7 op (sLow f))).onlyCtx (s.branch a op f reads g) a ∧ (s.branch a op f reads g).ctx a = c := by
  rw [s.branch_run a op f reads g h]
  refine ⟨State.onlyCtx_onCtx _ a g, ?_⟩
  rw [State.ctx_onCtx_same, State.ctx_decoded, hg]

/-- A jump on a condition moves PC to the target where the condition holds (R156). -/
theorem State.jumps (g : Ctx → Ctx) (on : Bool)
    (hg : g ((s.ctx a).fold (wordOf 7 op (sLow f))) = { (s.ctx a).fold (wordOf 7 op (sLow f)) with
      pc := if on then f.imm.setWidth 14 else (s.ctx a).pc + 1 }) :
    (s.decoded a (wordOf 7 op (sLow f))).onlyCtx (s.branch a op f reads g) a ∧
      (s.branch a op f reads g).ctx a = { (s.decoded a (wordOf 7 op (sLow f))).ctx a with
        pc := if on then f.imm.setWidth 14 else (s.ctx a).pc + 1 } := by
  rw [State.ctx_decoded]
  exact State.branch_leaves h hg

end

/-- The jump of a conditional branch. -/
theorem Ctx.pc_cond (c : Ctx) (w : W64) (f : SFmt) (p : Bool) :
    (if p then { c.fold w with pc := targetOf f } else c.fold w) = { c.fold w with pc := if p then f.imm.setWidth 14 else c.pc + 1 } := by
  cases p <;> rfl

/-- LOOP writes GA − 1 and branches while that is not 0 (R156). -/
theorem loop_leaves {s : State} {a : Site} {f : SFmt} (h : s.canDecode a (wordOf 7 5 (sLow f)) [f.ga]) :
    ∃ t, exec (.loop a f) s = .next t ∧ (s.decoded a (wordOf 7 5 (sLow f))).onlyCtx t a ∧
      t.ctx a = { ((s.ctx a).fold (wordOf 7 5 (sLow f))).setGr f.ga ((s.ctx a).gr f.ga - 1) with
        pc := if (s.ctx a).gr f.ga - 1 = 0 then (s.ctx a).pc + 1 else f.imm.setWidth 14 } := by
  refine ⟨_, rfl, State.branch_leaves h ?_⟩
  have hpc : (((s.ctx a).fold (wordOf 7 5 (sLow f))).setGr f.ga ((s.ctx a).gr f.ga - 1)).pc = (s.ctx a).pc + 1 := by
    unfold Ctx.setGr
    split <;> rfl
  dsimp only
  rw [Ctx.gr_fold]
  by_cases h0 : (s.ctx a).gr f.ga - 1 = 0
  · rw [if_pos h0, if_neg (fun hc => bne_iff_ne.mp hc h0), ← hpc]
  · rw [if_neg h0, if_pos (bne_iff_ne.mpr h0)]
    rfl

/-- WAITB runs decode to its new beat, and what waits in the tile goes on (R147). -/
theorem exec_waitb_advance {s : State} {a : Site} {f : SFmt} (h : s.canDecode a (wordOf 7 6 (sLow f)) []) :
    exec (.waitb a f) s = .next ((s.waited a f).advance a.tile) :=
  congrArg (fun u : State => Host.Outcome.next (u.advance a.tile)) (s.branch_run a 6 f [] _ h)

theorem State.calm_waited {s : State} {a : Site} (f : SFmt) (h : s.calm a.tile) : (s.waited a f).calm a.tile :=
  ((s.settles_decoded a _).trans (State.settles_onCtx _ a _ (fun h => h) (fun h => h))).calm h

theorem State.waited_eq (s : State) (a : Site) (f : SFmt) : s.waited a f =
    (s.decoded a (wordOf 7 6 (sLow f))).onCtx a (fun c => { c with tc := (s.ctx a).tc + f.imm.setWidth 64 }) := by
  refine State.onCtx_congr _ a _ _ ?_
  rw [State.ctx_decoded]
  rfl

/-- Settles O3: each branch is one change of PC after the decode; after a WAITB an idle tile has no turn to take. -/
theorem controlClass : Obligations.ControlClass := by
  unfold Obligations.ControlClass
  refine ⟨fun s a f => ⟨fun h => ?_, fun h => ?_, fun h => ?_, fun h => ?_, fun h => ?_, fun h => ?_⟩,
    fun s a f => ⟨fun h => ?_, fun h => ?_, fun h hsig => ?_⟩⟩
  · exact ⟨_, rfl, State.jumps h _ _ (Ctx.pc_cond _ _ f _)⟩
  · exact ⟨_, rfl, State.jumps h _ _ (Ctx.pc_cond _ _ f _)⟩
  · exact ⟨_, rfl, State.jumps h _ _ (Ctx.pc_cond _ _ f _)⟩
  · exact ⟨_, rfl, State.jumps h _ _ (Ctx.pc_cond _ _ f _)⟩
  · exact ⟨_, rfl, State.jumps h _ true rfl⟩
  · obtain ⟨t, hrun, honly, hctx⟩ := loop_leaves h
    have hg : { ((s.ctx a).fold (wordOf 7 5 (sLow f))).setGr f.ga ((s.ctx a).gr f.ga - 1) with
        pc := if (s.ctx a).gr f.ga - 1 = 0 then (s.ctx a).pc + 1 else f.imm.setWidth 14 } =
      { (s.ctx a).fold (wordOf 7 5 (sLow f)) with
        g := (t.ctx a).g, pc := if (s.ctx a).gr f.ga - 1 = 0 then (s.ctx a).pc + 1 else f.imm.setWidth 14 } := by
      rw [hctx]
      unfold Ctx.setGr
      split <;> rfl
    refine ⟨t, hrun, honly, ?_, fun q => ?_⟩
    · rw [State.ctx_decoded]
      exact hctx.trans hg
    · rw [hctx]
      show (((s.ctx a).fold (wordOf 7 5 (sLow f))).setGr f.ga ((s.ctx a).gr f.ga - 1)).gr q = _
      rw [Ctx.gr_setGr, Ctx.gr_fold]
  · dsimp only
    rw [← s.waited_eq a f]
    refine ⟨exec_waitb_advance h, fun hc => (exec_waitb_advance h).trans ?_⟩
    rw [State.advance_rests _ _ (State.rests_of_calm _ _ (State.calm_waited f hc))]
  · exact congrArg Host.Outcome.next (State.instr_decodes h rfl)
  · exact congrArg Host.Outcome.next (State.instr_decodes h (by simp [hsig]))

end Sys2Proof.Machine

/-! PROOF. Loads and stores of tile SRAM (O12). -/

namespace Sys2Proof.Machine

/-! ### Bytes of SRAM and of a vector register -/

theorem length_vecBytes (c : Ctx) (r : Nat) : (c.vecBytes r).length = 256 := by
  simp [Ctx.vecBytes, Ctx.vec, length_leBytes, List.length_flatMap, Function.comp_def]

/-- Part of a range of memory. -/
theorem Map.slice_bytes (m : Map Byte) (a : Nat) {n o k : Nat} (h : o + k ≤ n) : slice (m.bytes a n) o k = m.bytes (a + o) k := by
  have hlen : (((m.bytes a n).drop o).take k).length = k := by
    rw [List.length_take, List.length_drop, Map.length_bytes]
    omega
  dsimp only [slice]
  rw [hlen, Nat.sub_self, List.replicate_zero, List.append_nil]
  refine List.ext_getElem (by rw [hlen, Map.length_bytes]) (fun i _ _ => ?_)
  simp [Map.bytes_eq, Nat.add_assoc]

/-! ### The issue of LD and ST (R162, R163) -/

theorem State.inject_eccCe (s : State) (n : Nat) (e : Ecc) : (((s.eccCe n e).tile n).inject 2).1 = ((s.tile n).inject 2).1 := by
  obtain ⟨st, h⟩ := s.tile_eccCe n e
  rw [h]
  exact Tile.inject_congr _ _ 2 rfl

theorem State.readBad_none {s : State} {n off k : Nat} {e : Ecc} (h : (s.tile n).ueIn off k = none) (he : e ≠ .double) :
    s.readBad n off k e = none := by
  rw [State.readBad, h]
  exact if_neg he

section
variable {s : State} {a : Site} {f : LFmt}

/-- LD at its issue, where its lines read well enough and no upset meets its result. -/
theorem State.ld_clean {ecc : Ecc} {q : QIns} (hl : s.linesOk a.side (lineAddr q.ga f.off.toNat) 4 = true) (he : ecc ≠ .double)
    (hu : (s.tile a.tile).ueIn (64 * lineAddr q.ga f.off.toNat) 256 = none) (hi : ((s.tile a.tile).inject 2).1 = none) :
    s.ld a f ecc none q = (s.eccCe a.tile ecc).vput a f.v.toNat (fun _ => true) false
      (fun i => BitVec.ofNat 32 (field ((s.tile a.tile).sram.bytes (64 * lineAddr q.ga f.off.toNat) 256) (4 * i) 4)) := by
  unfold State.ld
  dsimp only
  rw [hl, State.readBad_none hu he, if_neg (by decide)]
  exact State.unchecked_clean _ a _ _ _ ((s.inject_eccCe a.tile ecc).trans hi)

theorem State.st_puts {q : QIns} (hl : s.linesOk a.side (lineAddr q.ga f.off.toNat) 4 = true) :
    s.st a f q = s.sramPut a (lineAddr q.ga f.off.toNat) ((s.ctx a).vecBytes f.v.toNat) := by
  unfold State.st
  dsimp only
  rw [hl]
  rfl

/-- The tile after lines have been written to its SRAM. -/
theorem State.sramPut_tile (s : State) (a : Site) (line : Nat) (b : Bytes) : ∃ m bad, (s.sramPut a line b).tile a.tile =
    { s.tile a.tile with sram := (s.tile a.tile).sram.store (64 * line) b, sramBad := bad, maxLine := m } := by
  obtain ⟨m, hm⟩ := Tile.wrote_eq ((s.tile a.tile).sramWr (64 * line) b) a.side line (b.length / 64)
  refine ⟨m, ((s.tile a.tile).sramWr (64 * line) b).sramBad, ?_⟩
  rw [State.sramPut, State.tile_onTile_same, hm]
  rfl

theorem State.settles_sramPut (s : State) (a : Site) (line : Nat) (b : Bytes) : s.Settles (s.sramPut a line b) a.tile := by
  obtain ⟨m, bad, h⟩ := s.sramPut_tile a line b
  exact State.settles_of_ctx _ (fun d => by rw [h]; cases d <;> rfl) rfl

theorem exec_ld (h : s.canIssue a (wordOf 3 0 (lLow f)) f.dt [f.ga]) {ecc : Ecc} {up : Option Upset} (he : ecc ≠ .double)
    (hc : s.clean a up) (hl : s.linesOk a.side (lineAddr ((s.ctx a).gr f.ga) f.off.toNat) 4 = true)
    (hu : (s.tile a.tile).ueIn (64 * lineAddr ((s.ctx a).gr f.ga) f.off.toNat) 256 = none) :
    exec (.ld a f ecc up) s = .next (((s.issued a (wordOf 3 0 (lLow f)) f.dt).eccCe a.tile ecc).vput a f.v.toNat (fun _ => true) false
      (fun i => BitVec.ofNat 32
        (field ((s.tile a.tile).sram.bytes (64 * lineAddr ((s.ctx a).gr f.ga) f.off.toNat) 256) (4 * i) 4))) := by
  obtain ⟨rfl, hinj⟩ := hc
  have hf := s.field_of_canIssue a _ _ _ h
  have hld := State.ld_clean (s := s.issued a (wordOf 3 0 (lLow f)) f.dt) (a := siteOf a.tile a.side) (f := f)
    (q := ⟨.ld f ecc none, (s.ctx a).pc, ((s.ctx a).target f.dt).toNat, (s.ctx a).gr f.ga, (s.ctx a).gr 0⟩)
    ((State.SameHand.linesOk (s.sameHand_issued a _ _) _ _ _).trans hl) he
    ((Tile.ueIn_congr (s.sramBad_issued a _ _ hf) _ _).trans hu) ((s.issued_inject a _ _ hf).trans hinj)
  refine congrArg Host.Outcome.next (s.timed_run _ a _ _ _ _ _ _ h (by simp [TOp.unit]) ?_ ?_)
  · refine (congrArg some hld).trans ?_
    rw [← s.sram_issued a (wordOf 3 0 (lLow f)) f.dt hf]
    rfl
  · refine State.rests_of_calm _ _ (State.Settles.calm ?_ (s.calm_issued a _ _ _ h))
    exact (State.settles_eccCe _ _ _).trans (State.settles_vput _ a _ _ _ _)

theorem exec_st (h : s.canIssue a (wordOf 3 1 (lLow f)) f.dt [f.ga])
    (hl : s.linesOk a.side (lineAddr ((s.ctx a).gr f.ga) f.off.toNat) 4 = true) :
    exec (.st a f) s = .next ((s.issued a (wordOf 3 1 (lLow f)) f.dt).sramPut a (lineAddr ((s.ctx a).gr f.ga) f.off.toNat)
      (((s.issued a (wordOf 3 1 (lLow f)) f.dt).ctx a).vecBytes f.v.toNat)) :=
  congrArg Host.Outcome.next (s.timed_run _ a _ _ _ _ _ _ h (by simp [TOp.unit])
    (congrArg some (State.st_puts ((State.SameHand.linesOk (s.sameHand_issued a _ _) _ _ _).trans hl)))
    (State.rests_of_calm _ _ (State.Settles.calm (State.settles_sramPut _ a _ _) (s.calm_issued a _ _ _ h))))

end

/-- A write of a whole vector register gives the values of its 64 elements. -/
theorem State.wroteV_congr {s t : State} {a : Site} {r : Nat} {on : Nat → Bool} {z : Bool} {new old : Nat → W32}
    (h : s.wroteV t a r on z old) (he : ∀ i, i < 64 → old i = new i) : s.wroteV t a r on z new := by
  obtain ⟨honly, hctx, hel⟩ := h
  refine ⟨honly, hctx, fun q i hi => ?_⟩
  rw [hel q i hi, he i hi]

/-- Settles O12: each is run to its issue, where the lines are read or written as one run of bytes. -/
theorem loadStore : Obligations.LoadStore := by
  unfold Obligations.LoadStore
  intro s a f line u
  refine ⟨fun h ecc up => ⟨fun he hc hl hu => ⟨_, exec_ld h he hc hl hu, ?_⟩, fun hl => congrArg Host.Outcome.next ?_⟩,
    fun h => ⟨fun hl => ⟨_, exec_st h hl, State.elsewhere_onTile _ _ _, ?_⟩, fun hl => congrArg Host.Outcome.next ?_⟩⟩
  · refine State.wroteV_congr (State.wroteV_vput _ a f.v.toNat (fun _ => true) false _) (fun i hi => ?_)
    rw [field, Map.slice_bytes _ _ (by omega)]
    rfl
  · refine State.mesh_outside h (by simp [TOp.unit]) hl (fun v hv => congrArg some ?_)
    unfold State.ld
    exact if_pos (by rw [Bool.not_eq_true']; exact hv)
  · have hf := s.field_of_canIssue a _ _ _ h
    obtain ⟨m, bad, ht⟩ := State.sramPut_tile (s.issued a (wordOf 3 1 (lLow f)) f.dt) a
      (lineAddr ((s.ctx a).gr f.ga) f.off.toNat) (((s.issued a (wordOf 3 1 (lLow f)) f.dt).ctx a).vecBytes f.v.toNat)
    have hbytes : ((s.issued a (wordOf 3 1 (lLow f)) f.dt).ctx a).vecBytes f.v.toNat = (s.ctx a).vecBytes f.v.toNat := by
      rw [Ctx.vecBytes, Ctx.vec_congr _ _ (s.issued_v a _ _ hf), Ctx.vecBytes]
    have hacc : ((s.issued a (wordOf 3 1 (lLow f)) f.dt).tile a.tile).acc = (s.tile a.tile).acc := by
      obtain ⟨st, sl, sb, hx⟩ := s.issued_tile a (wordOf 3 1 (lLow f)) f.dt hf
      rw [hx, Tile.setCtx_acc, Tile.marked_acc]
    rw [hbytes, s.sram_issued a _ _ hf] at ht
    refine ⟨fun i hi => ?_, fun b hb => ?_, ?_, ?_, ?_⟩
    all_goals rw [hbytes, ht]
    · have hget := Map.get_store (s.tile a.tile).sram (64 * line) ((s.ctx a).vecBytes f.v.toNat) (64 * line + i)
      rw [length_vecBytes, if_pos (by omega), Nat.add_sub_cancel_left] at hget
      exact hget
    · exact Map.get_store_out _ _ _ _ (by rw [length_vecBytes]; exact hb)
    · exact hacc
  · refine State.mesh_outside h (by simp [TOp.unit]) hl (fun v hv => congrArg some ?_)
    unfold State.st
    exact if_pos (by rw [Bool.not_eq_true']; exact hv)

end Sys2Proof.Machine

/-! PROOF. What the decode of an instruction changes, what stops it, and what a sequencer fault does (O4). -/

namespace Sys2Proof.Machine

/-! ### Decode into a queue (R147, R148) -/

/-- A corrected error is marked in STAT, and nothing else of the tile differs (R126, R151). -/
theorem State.eccCe_tile (s : State) (n : Nat) (e : Ecc) : (s.eccCe n e).tile n =
    { s.tile n with stat := if e = .corrected then (s.tile n).stat ||| 0x1000 else (s.tile n).stat } := by
  unfold State.eccCe State.sramCe State.stat
  split
  · rw [State.tile_onTile_same]
  · rfl

section
variable {s : State} {a : Site} {w : W64} {dt : BitVec 8} {op : TOp} {ga gs : BitVec 5} {reads : List (BitVec 5)}

/-- A timed word joins its unit's queue with its beat and its registers as they are at its decode. -/
theorem State.timed_joins (h : s.canDecode a w reads) (hq : (s.ctx a).full op.unit = false) :
    s.timed a w dt op ga gs reads = (s.timedTo a w dt).onCtx a (fun c => { c with
      uq := (s.ctx a).uq ++ [⟨op, (s.ctx a).pc, ((s.ctx a).target dt).toNat, (s.ctx a).gr ga, (s.ctx a).gr gs⟩] }) := by
  rw [s.timed_queues a w dt op ga gs reads h hq]
  refine State.onCtx_congr _ a _ _ ?_
  rw [(s.onward_timedTo a w dt (s.field_of_ready a h.1)).ctx]
  rfl

theorem State.timed_full (hq : (s.ctx a).full op.unit = true) : s.timed a w dt op ga gs reads = s := by
  unfold State.timed
  rw [if_pos hq]

/-- What the command of a timed instruction does: its word joins the queue or waits for room, and what can issue issues. -/
theorem State.timed_advance {c : Instr} (hc : exec c s = .next ((s.timed a w dt op ga gs reads).advance a.tile)) :
    (s.canDecode a w reads → (s.ctx a).full op.unit = false →
      exec c s = .next (((s.timedTo a w dt).onCtx a (fun c => { c with
        uq := (s.ctx a).uq ++ [⟨op, (s.ctx a).pc, ((s.ctx a).target dt).toNat, (s.ctx a).gr ga, (s.ctx a).gr gs⟩] })).advance a.tile)) ∧
    ((s.ctx a).full op.unit = true → exec c s = .next (s.advance a.tile)) := by
  refine ⟨fun h hq => ?_, fun hq => ?_⟩
  · rw [hc, State.timed_joins h hq]
  · rw [hc, State.timed_full hq]

end

/-! ### What stops a decode (R150, R151, R155, R162, R164) -/

section
variable {s : State} {a : Site} {w : W64} {reads : List (BitVec 5)} {bad : Ctx → Option Nat} {run : BitVec 14 → State → State}

theorem State.instr_halted (h : s.ready a = false) : s.instr a w reads bad run = s := by
  unfold State.instr
  simp only [h]
  rfl

variable (hr : s.ready a = true)
include hr

theorem State.instr_double (he : a.fetch = .double) :
    s.instr a w reads bad run = s.seqTileFault a.tile a.side 10 (s.ctx a).pc 9 := by
  unfold State.instr
  simp only [hr, he]
  rfl

variable (he : a.fetch ≠ .double)
include he

theorem State.instr_illegal
    (hl : ¬(legalWord (s.banks a.side).1 (s.banks a.side).2 (s.fetched a) = true ∧ evenPairs (s.fetched a) = true)) :
    s.instr a w reads bad run = (s.eccCe a.tile a.fetch).seqFault a.tile a.side 6 (s.ctx a).pc := by
  have hbad : (!(legalWord (s.banks a.side).1 (s.banks a.side).2 (s.fetched a) && evenPairs (s.fetched a))) = true := by
    rw [Bool.not_eq_true', ← Bool.not_eq_true, Bool.and_eq_true]
    exact hl
  unfold State.instr
  simp only [hr, if_neg he, hbad, if_true]
  rfl

variable (hl : legalWord (s.banks a.side).1 (s.banks a.side).2 (s.fetched a) = true ∧ evenPairs (s.fetched a) = true)
include hl

theorem State.instr_passes (hs : s.fetched a ≠ w ∨ (s.ctx a).waitsFor reads = true) : s.instr a w reads bad run = s := by
  unfold State.instr
  simp only [hr, if_neg he, hl.1, hl.2, if_pos hs]
  rfl

end

theorem State.instr_faults {s : State} {a : Site} {w : W64} {reads : List (BitVec 5)} {bad : Ctx → Option Nat}
    {run : BitVec 14 → State → State} (h : s.canDecode a w reads) {k : Nat} (hb : bad (s.ctx a) = some k) :
    s.instr a w reads bad run = (s.eccCe a.tile a.fetch).seqFault a.tile a.side k (s.ctx a).pc := by
  obtain ⟨hr, he, hw, hl, hp, hwait⟩ := h
  unfold State.instr
  simp only [hr, if_neg he, hw, hl, hp, hwait, hb]
  rw [if_neg (by decide), if_neg (by decide), if_neg (by simp)]

/-! ### A record stands in the trace while few events follow it (R485) -/

/-- A record is in the trace and stays there while at most `k` events follow. -/
def State.traces (s : State) (e : EvRec) (k : Nat) : Prop := e ∈ s.sup.trace.drop (s.sup.trace.length + k - traceMax)

theorem State.traces.mem {s : State} {e : EvRec} {k : Nat} (h : s.traces e k) : e ∈ s.sup.trace := List.mem_of_mem_drop h

theorem State.traces.of_sup {s t : State} {e : EvRec} {k : Nat} (h : s.traces e k) (ht : t.sup = s.sup) : t.traces e k := by
  unfold State.traces
  rw [ht]
  exact h

theorem State.traces.fewer {s : State} {e : EvRec} {k j : Nat} (h : s.traces e k) (hj : j ≤ k) : s.traces e j := by
  unfold State.traces at *
  refine List.drop_subset_drop_left _ ?_ h
  omega

/-- What an event makes of the trace: its record joins, and the oldest leaves where there is no room. -/
theorem State.trace_emitRaw (s : State) (c : Nat) (l : List Arg) :
    (s.emitRaw c l).sup.trace = (s.sup.trace ++ [s.noted c l]).drop (s.sup.trace.length + 1 - traceMax) := by
  unfold State.emitRaw
  dsimp only
  generalize hu : State.manage _ _ = u
  have h : u.sup.trace = (s.sup.trace ++ [s.noted c l]).drop (s.sup.trace.length + 1 - traceMax) := by
    rw [← hu, State.trace_manage]
    simp only [State.noted]
  split
  · exact h
  · split
    · rw [State.sup_ringPut]
      exact h
    · exact h

theorem State.traces_noted (s : State) (c : Nat) (l : List Arg) {k : Nat} (hk : k < traceMax) : (s.emitRaw c l).traces (s.noted c l) k := by
  unfold State.traces
  rw [State.trace_emitRaw, List.drop_drop, List.length_drop, List.length_append, List.length_singleton,
    List.drop_append_of_le_length (by omega)]
  exact List.mem_append_right _ (List.mem_singleton_self _)

theorem State.traces.emitRaw {s : State} {e : EvRec} {k : Nat} (h : s.traces e (k + 1)) (hk : k < traceMax) (c : Nat) (l : List Arg) :
    (s.emitRaw c l).traces e k := by
  unfold State.traces at *
  rw [State.trace_emitRaw, List.drop_drop, List.length_drop, List.length_append, List.length_singleton,
    List.drop_append_of_le_length (by omega)]
  refine List.mem_append_left _ (List.drop_subset_drop_left _ ?_ h)
  omega

theorem State.traces.compactNote {s : State} {e : EvRec} {k : Nat} (h : s.traces e (k + 1)) (hk : k < traceMax) : s.compactNote.traces e k := by
  unfold State.compactNote
  exact State.traces.emitRaw (s := s.freeW.2) (h.of_sup rfl) hk _ _

theorem State.traces.compactBegin {s : State} {e : EvRec} {k : Nat} (h : s.traces e (k + 1)) (hk : k < traceMax) : s.compactBegin.traces e k := by
  unfold State.compactBegin
  split
  · exact h.fewer (by omega)
  · exact State.traces.compactNote (h.of_sup rfl) hk

theorem State.sup_putRecs (l : List (BitVec 16 × Bytes)) (s : State) : (l.foldl (fun (s : State) w => s.putRec w.1 w.2) s).sup = s.sup := by
  induction l generalizing s with
  | nil => rfl
  | cons w l ih => exact ih _

theorem State.traces.compactEnd {s : State} {e : EvRec} {k : Nat} (h : s.traces e (k + 1)) (hk : k < traceMax) : s.compactEnd.traces e k := by
  unfold State.compactEnd
  refine State.traces.of_sup ?_ (State.sup_putRecs _ _)
  exact State.traces.compactNote (h.of_sup rfl) hk

theorem State.traces.compactFirst {s : State} {e : EvRec} {k : Nat} (h : s.traces e (k + 2)) (hk : k + 1 < traceMax) :
    s.compactFirst.traces e k := by
  unfold State.compactFirst
  split
  · exact (h.compactBegin hk).compactEnd (by omega)
  · exact h.fewer (by omega)

/-- A record of the journal is written with at most three events of the journal's own (R526). -/
theorem State.traces.ledger {s : State} {e : EvRec} {k : Nat} (h : s.traces e (k + 3)) (hk : k + 2 < traceMax) (t : Nat) (b : Bytes) :
    (s.ledger t b).traces e k := by
  have hfirst := h.compactFirst (k := k + 1) hk
  unfold State.ledger
  dsimp only
  split
  · unfold State.ledgerWait
    have hwait : ∀ u : State, u.sup = s.compactFirst.sup → ∀ (p : Prop) [Decidable p] (c : Nat) (l : List Arg),
        (if p then u.emitRaw c l else u).traces e k := by
      intro u hu p _ c l
      split
      · exact (hfirst.of_sup hu).emitRaw (by omega) c l
      · exact (hfirst.of_sup hu).fewer (by omega)
    exact hwait _ (by split <;> rfl) _ _ _
  · split
    · exact State.traces.compactBegin (hfirst.of_sup rfl) (by omega)
    · exact (hfirst.of_sup rfl).fewer (by omega)

/-- The record of an event stands in the trace, whatever the journal makes of it. -/
theorem State.noted_emit (s : State) (c : Nat) (l : List Arg) : s.noted c l ∈ (s.emit c l).sup.trace := by
  have h := s.traces_noted c l (k := 3) (by decide)
  unfold State.emit
  dsimp only
  split
  · exact h.mem
  · split
    · refine State.traces.mem (k := 0) (State.traces.ledger ?_ (by decide) _ _)
      exact h.of_sup rfl
    · exact h.mem

/-! ### A sequencer fault halts its context (R164, R207) -/

theorem State.tiles_flood (s : State) (src typ hops : Nat) (body : Bytes) (port : Option Nat) :
    (s.flood src typ hops body port).1.tiles = s.tiles := by
  unfold State.flood
  split
  · rfl
  · refine (State.each_keeps State.tiles _ _ (fun u p => ?_) _).trans rfl
    unfold State.linkOut
    dsimp only
    split <;> rfl

theorem State.tile_of_tiles {s t : State} (h : t.tiles = s.tiles) (n : Nat) : t.tile n = s.tile n := by
  unfold State.tile
  rw [h]

/-- After a misdeal each tile stands as it was, or stopped. -/
theorem State.tile_misdeal (s : State) (cause n : Nat) : (s.misdeal cause).tile n = s.tile n ∨ (s.misdeal cause).tile n = (s.tile n).stop := by
  unfold State.misdeal
  split
  · exact .inl rfl
  · split
    · refine .inr ((State.tile_of_tiles ?_ n).trans (s.tile_stopWafer n))
      unfold State.tear
      exact State.emit_tiles _ _ _
    · split
      · exact .inl rfl
      · refine .inr ((State.tile_of_tiles ?_ n).trans (s.tile_stopWafer n))
        unfold State.misdealNow
        dsimp only
        split
        · rfl
        · exact (State.emit_tiles _ _ _).trans (State.tiles_flood _ _ _ _ _ _)

theorem Tile.stop_stop (x : Tile) : x.stop.stop = x.stop := rfl

/-- After the supervisor's STOP each tile stands as it was, or stopped (R208, R210). -/
theorem State.tile_supvStop (s : State) (n : Nat) : s.supvStop.tile n = s.tile n ∨ s.supvStop.tile n = (s.tile n).stop := by
  unfold State.supvStop State.stopFor
  split
  · rw [← Tile.stop_stop (s.tile n), ← s.tile_stopWafer n]
    refine .inr ?_
    obtain h | h := s.stopWafer.tile_misdeal 7 n
    · rw [h, s.tile_stopWafer n, Tile.stop_stop]
    · exact h
  · exact .inl rfl

theorem State.tiles_faultFlag (s : State) : s.faultFlag.tiles = s.tiles := by
  unfold State.faultFlag State.stallNow
  dsimp only
  split
  · rfl
  · split
    · rfl
    · exact State.emit_tiles _ _ _

/-- A context halted for a fault: it does not run, and waits for nothing. -/
def Ctx.halted (c : Ctx) : Prop := c.running = false ∧ c.waits = []

theorem Tile.stop_halted {x : Tile} {d : Bool} (h : (x.ctx d).halted) : (x.stop.ctx d).halted := by
  cases d
  · exact ⟨rfl, rfl⟩
  · exact ⟨h.1, rfl⟩

theorem State.tileStop_halted {s : State} {n : Nat} {d : Bool} (h : ((s.tile n).ctx d).halted) : (((s.tileStop n).tile n).ctx d).halted := by
  unfold State.tileStop
  split
  · exact h
  · have hf : ((((s.onTile n (fun x => { x with flags := x.flags ||| 4 })).faultFlag).tile n).ctx d).halted := by
      rw [State.tile_of_tiles (State.tiles_faultFlag _), State.tile_onTile_same]
      cases d <;> exact h
    obtain hs | hs := State.tile_supvStop (s.onTile n (fun x => { x with flags := x.flags ||| 4 })).faultFlag n
    · rw [hs]
      exact hf
    · rw [hs]
      exact Tile.stop_halted hf

theorem State.tiles_ringFill (s : State) (r : Ring) (w n : Nat) (b : Bytes) : (s.ringFill r w n b).tiles = s.tiles := by
  induction n generalizing s b with
  | zero => rfl
  | succ n ih =>
    refine (ih _ _).trans ?_
    cases r <;> rfl

theorem State.tiles_ringSignal (s : State) (r : Ring) (n : Nat) : (s.ringSignal r n).tiles = s.tiles := by
  have hset : ∀ o, (s.setOutq r o).tiles = s.tiles := fun o => by cases r <;> rfl
  unfold State.ringSignal
  dsimp only
  split
  · unfold State.msix
    split <;> exact hset _
  · exact hset _

/-- Completing a descriptor leaves the tiles (R398). -/
theorem State.tiles_complete (s : State) (q : Nat) (cid : BitVec 16) (status detail result : Nat) :
    (s.complete q cid status detail result).tiles = s.tiles := by
  unfold State.complete
  extract_lets _ u o b p v w _ x
  have hv : v.tiles = s.tiles := by
    unfold v
    split
    · exact (State.tiles_ringSignal _ _ _).trans (State.tiles_ringFill _ _ _ _ _)
    · rfl
  have hw : w.tiles = s.tiles := by
    unfold w
    split
    · exact hv
    · exact hv
  split
  · rfl
  · split
    · exact hw
    · exact hw

theorem State.endSide_halted (s : State) (n : Nat) : ((s.endSide.tile n).ctx true).halted := by
  have h : ({ s with tiles := s.tiles.mapVals Tile.reset (fun x => { x with side := { x.side.halt with running := false } }) } : State).tile n =
      { s.tile n with side := { (s.tile n).side.halt with running := false } } :=
    Map.get_mapVals s.tiles Tile.reset (fun x => { x with side := { x.side.halt with running := false } }) n rfl
  have hx : s.endSide.tile n = { s.tile n with side := { (s.tile n).side.halt with running := false } } := by
    refine Eq.trans ?_ h
    unfold State.endSide
    dsimp only
    split
    · rfl
    · exact State.tile_of_tiles (State.tiles_complete _ _ _ _ _ _) n
  rw [hx]
  exact ⟨rfl, rfl⟩

/-- What a sequencer fault leaves of its context (R164). -/
theorem State.seqFault_halted (s : State) (n : Nat) (side : Bool) (fault : Nat) (pc : BitVec 14) :
    (((s.seqFault n side fault pc).tile n).ctx side).halted := by
  unfold State.seqFault
  cases side
  · refine State.tileStop_halted ?_
    rw [State.tile_emit, State.haltCtx, State.tile_onTile_same]
    exact ⟨rfl, rfl⟩
  · exact State.endSide_halted _ n

/-! ### O4 -/

/-- What the decode of a word changes (R148, R150, R151, R126). -/
theorem State.decoded_leaves (s : State) (a : Site) (w : W64) : (s.decoded a w).tile a.tile = ({ s.tile a.tile with
    stat := if a.fetch = .corrected then (s.tile a.tile).stat ||| 0x1000 else (s.tile a.tile).stat } : Tile).setCtx a.side
      ((s.decoded a w).ctx a) := by
  rw [State.ctx_decoded, State.decoded, State.onCtx, State.tile_onTile_same, ← State.ctx, State.ctx_eccCe, State.eccCe_tile]

section
variable (s : State) (a : Site) (f : SFmt)

theorem exec_add_instr : exec (.add a f) s = .next (s.instr a (wordOf 0 0 (sLow f)) [f.ga, f.gb] noFault
    (fun _ u => u.onCtx a (fun c => c.setGr f.gd (c.gr f.ga + c.gr f.gb)))) := rfl

theorem exec_jmp_instr : exec (.jmp a f) s = .next (s.instr a (wordOf 7 4 (sLow f)) [] noFault
    (fun _ u => u.onCtx a (fun c => { c with pc := targetOf f }))) := rfl

theorem exec_beq_instr : exec (.beq a f) s = .next (s.instr a (wordOf 7 0 (sLow f)) [f.ga, f.gb] noFault
    (fun _ u => u.onCtx a (fun c => if c.gr f.ga == c.gr f.gb then { c with pc := targetOf f } else c))) := rfl

end

/-- Settles O4: the one path through decode, each of its stops, and the tile that a fault halts. -/
theorem instructionDecode : Obligations.InstructionDecode := by
  unfold Obligations.InstructionDecode
  refine ⟨fun s a w => ⟨s.elsewhere_decoded a w, s.ctx_decoded a w, s.decoded_leaves a w⟩, fun s a ecc buf up ups => ?_, fun s a f => ?_,
    fun s n side fault pc => ?_⟩
  · exact ⟨fun f => State.timed_advance rfl, fun f => State.timed_advance rfl, fun f => State.timed_advance rfl,
      fun f => State.timed_advance rfl, fun f => State.timed_advance rfl, fun f => State.timed_advance rfl,
      fun f => State.timed_advance rfl, fun f => State.timed_advance rfl, fun f => State.timed_advance rfl,
      fun f => State.timed_advance rfl, fun f => State.timed_advance rfl⟩
  · rw [exec_add_instr, exec_jmp_instr, exec_beq_instr]
    refine ⟨fun hr => ?_, fun hr he hl hw => ?_, fun hr he hl hw => ?_, fun hr he => ?_, fun hr he hl => ?_, fun h hsig => ?_⟩
    · exact ⟨congrArg Host.Outcome.next (State.instr_halted hr), congrArg Host.Outcome.next (State.instr_halted hr),
        congrArg Host.Outcome.next (State.instr_halted hr)⟩
    · exact ⟨congrArg Host.Outcome.next (State.instr_passes hr he hl (.inr hw)),
        congrArg Host.Outcome.next (State.instr_passes hr he hl (.inr hw))⟩
    · exact congrArg Host.Outcome.next (State.instr_passes hr he hl (.inl hw))
    · exact ⟨congrArg Host.Outcome.next (State.instr_double hr he), congrArg Host.Outcome.next (State.instr_double hr he)⟩
    · exact ⟨congrArg Host.Outcome.next (State.instr_illegal hr he hl), congrArg Host.Outcome.next (State.instr_illegal hr he hl)⟩
    · exact congrArg Host.Outcome.next (State.instr_faults h (if_pos (bne_iff_ne.mpr hsig)))
  · obtain ⟨hrun, hwaits⟩ := s.seqFault_halted n side fault pc
    exact ⟨hrun, hwaits, _, ⟨State.quiet_emit _ _ _, State.noted_emit _ _ _⟩, rfl⟩

end Sys2Proof.Machine

/-! SUPPORT. The turns of a marker (R152, R154, R156, R259): at its beat it acts on the state after its decode, and nothing else of its tile moves. -/

namespace Sys2Proof.Machine

/-! ### What a decode that runs says of its context -/

section
variable {s : State} {a : Site} {w : W64} {reads : List (BitVec 5)} (h : s.canDecode a w reads)
include h

theorem State.canDecode_running : (s.ctx a).running = true ∧ (s.ctx a).closing = false := by
  have hr := h.1
  unfold State.ready at hr
  simp only [Bool.and_eq_true, Bool.not_eq_true'] at hr
  obtain ⟨⟨⟨⟨⟨_, hrun⟩, hclose⟩, _⟩, _⟩, _⟩ := hr
  exact ⟨hrun, hclose⟩

theorem State.canDecode_before : s.before (s.ctx a).tc.toNat = true := by
  have hr := h.1
  unfold State.ready at hr
  simp only [Bool.and_eq_true] at hr
  exact hr.2

theorem State.canDecode_open (hs : s.fab.started = true) (hc : (s.tile a.tile).corr.length ≤ 1) : s.Open a := by
  have hr := h.1
  unfold State.ready at hr
  simp only [Bool.and_eq_true, Bool.not_eq_true'] at hr
  obtain ⟨⟨⟨_, hfield⟩, hstall⟩, _⟩ := hr
  exact ⟨hs, hfield, hstall, hc⟩

end

@[simp] theorem Ctx.target_zero (c : Ctx) : c.target 0 = c.tc := by simp [Ctx.target]

/-! ### One change of a context after another -/

/-- Two changes of a context that runs are one. -/
theorem State.onCtx_onCtx (s : State) (a : Site) (f g : Ctx → Ctx) (h : (f (s.ctx a)).running = true) :
    (s.onCtx a f).onCtx a g = s.onCtx a (fun c => g (f c)) := by
  have hne : (s.tile a.tile).setCtx a.side (f ((s.tile a.tile).ctx a.side)) ≠ Tile.reset :=
    Tile.ne_reset _ a.side (by rw [Tile.ctx_setCtx_same]; exact h)
  unfold State.onCtx
  rw [State.onTile_onTile _ _ _ _ hne]
  simp only [Tile.ctx_setCtx_same, Tile.setCtx_setCtx]

theorem State.Open.other {s : State} {a : Site} (h : s.Open a) (side : Bool) : s.Open (siteOf a.tile side) :=
  ⟨h.started, h.field, h.stalled, h.corr⟩

/-! ### A marker at its beat -/

/-- A context in which one marker stands at its beat, and nothing else, takes its turn: it acts with the beat counter at its beat. -/
theorem State.Onward.nextTurn_marker {s t : State} {a : Site} {c : Ctx} {q : QIns} (h : s.Onward t a c) (ho : s.Open a)
    (hr : c.running = true) (hq : c.uq = [q]) (hi : ({ c with uq := [] } : Ctx).idle) (hu : q.op.unit = 0) (hb : q.beat ≤ c.tc.toNat)
    (hn : s.before (s.fromStart a q.beat) = true) :
    t.nextTurn (siteOf a.tile a.side) =
      (t.onCtx a (fun c => { c with bc := BitVec.ofNat 64 q.beat, uq := [] })).issue (siteOf a.tile a.side) q := by
  have hrun : (t.ctx a).running = true := by rw [h.ctx]; exact hr
  rw [h.nextTurn ho hr hi.2.2.1 (Ctx.turns_head c q hi hq) hb hn]
  unfold State.turn
  dsimp only
  rw [Nat.mul_div_cancel_left _ (by decide), hu]
  refine congrArg (fun u : State => u.issue (siteOf a.tile a.side) q) ?_
  have hcollapse : ((t.atBeat (siteOf a.tile a.side) q.beat).onCtx (siteOf a.tile a.side) (fun c => { c with uq := c.uq.drop 1 })) =
      t.onCtx a (fun c => { c with bc := BitVec.ofNat 64 q.beat, uq := [] }) := by
    refine (State.onCtx_onCtx t a (fun c => { c with bc := BitVec.ofNat 64 q.beat }) (fun c => { c with uq := c.uq.drop 1 }) hrun).trans
      (State.onCtx_congr t a _ _ ?_)
    rw [h.ctx, hq]
    rfl
  rw [hcollapse]
  refine State.onTile_eq_self (State.atRest_onCtx t a _) _ ?_
  simp [siteOf, b2n]

/-- A marker whose beat decode has reached acts, at its turn, on the state after its decode. -/
theorem State.marker_turn {s : State} {a : Site} {w : W64} (h : s.canDecode a w []) (ho : s.Open a) (hidle : (s.ctx a).idle) {t : State}
    {q : QIns} {cl : Bool} {g : Ctx → Ctx} (hu : q.op.unit = 0) (hb : q.beat = (s.ctx a).tc.toNat)
    (hn : s.before (s.fromStart a (s.ctx a).tc.toNat) = true) (hg : g ((s.ctx a).fold w) = { (s.ctx a).fold w with uq := [q], closing := cl })
    (hi : ((s.decoded a w).onCtx a (fun c => { c with bc := (s.ctx a).tc, closing := cl })).issue (siteOf a.tile a.side) q = some t) :
    ((s.decoded a w).onCtx a g).nextTurn (siteOf a.tile a.side) = some t := by
  have hV : s.Onward ((s.decoded a w).onCtx a g) a { (s.ctx a).fold w with uq := [q], closing := cl } :=
    hg ▸ State.onward_onCtx (s.onward_decoded a w) g
  have hrun := (State.canDecode_running h).1
  have hfold : ((s.decoded a w).ctx a) = (s.ctx a).fold w := s.ctx_decoded a w
  rw [hV.nextTurn_marker ho hrun rfl ⟨rfl, hidle.2⟩ hu (le_of_eq hb) (hb ▸ hn), ← hi]
  refine congrArg (fun u : State => u.issue (siteOf a.tile a.side) q) ?_
  refine (State.onCtx_onCtx _ a _ _ (by rw [hfold, hg]; exact hrun)).trans (State.onCtx_congr _ a _ _ ?_)
  rw [hfold, hg, hb, BitVec.ofNat_toNat, BitVec.setWidth_eq, ← hidle.1]
  rfl

section
variable {s : State} {a : Site} {w : W64} (h : s.canIssue a w 0 [])
include h

/-- In an idle tile it then rests. -/
theorem State.marker_advance {t : State} {q : QIns} {cl : Bool} {g : Ctx → Ctx} (hu : q.op.unit = 0) (hb : q.beat = (s.ctx a).tc.toNat)
    (hg : g ((s.ctx a).fold w) = { (s.ctx a).fold w with uq := [q], closing := cl })
    (hi : ((s.decoded a w).onCtx a (fun c => { c with bc := (s.ctx a).tc, closing := cl })).issue (siteOf a.tile a.side) q = some t)
    (ht : t.rests a.tile) : ((s.decoded a w).onCtx a g).advance a.tile = t := by
  have hidle := s.canIssue_idle a _ _ _ h
  have hV : s.Onward ((s.decoded a w).onCtx a g) a { (s.ctx a).fold w with uq := [q], closing := cl } :=
    hg ▸ State.onward_onCtx (s.onward_decoded a w) g
  have hbefore := h.2.2.2.2
  rw [Ctx.target_zero] at hbefore
  have hother : ((((s.decoded a w).onCtx a g).tile a.tile).ctx (!a.side)).idle := by rw [hV.other]; exact hidle _
  have hout : ∀ d, ((((s.decoded a w).onCtx a g).tile a.tile).ctx d).out = [] := by
    intro d
    by_cases hd : d = a.side
    · rw [hd]
      exact (congrArg Ctx.out hV.ctx).trans (Ctx.out_of_idle (s.ctx a) (hidle a.side))
    · rw [Bool.eq_not.mpr hd]
      exact Ctx.out_of_idle _ hother
  exact State.advance_one _ t a.tile a.side (State.marker_turn h.1 (State.canIssue_open h) (hidle a.side) hu hb hbefore hg hi)
    (State.nextTurn_idle _ _ hother) (hout false) (hout true) ht

/-- After the decode of a marker, at its beat, nothing waits in its tile. -/
theorem State.calm_marker (cl : Bool) : ((s.decoded a w).onCtx a (fun c => { c with bc := (s.ctx a).tc, closing := cl })).calm a.tile :=
  ((s.settles_decoded a w).trans (State.settles_onCtx _ a _ (fun hi => hi) (fun hr => hr))).calm h.2.1

end

/-! ### WOPEN and WCLOSE (R152) -/

/-- The window of a context after WOPEN or WCLOSE. -/
def State.opensWindow (s : State) (a : Site) (w : W64) (on : Bool) : State :=
  (s.decoded a w).onCtx a (fun c => { c with bc := (s.ctx a).tc, window := if a.side then c.window else on })

/-- WOPEN and WCLOSE set the window of the primary, and in a side context they move its beat counter alone (R152). -/
theorem State.window_marker {s : State} {a : Site} {w : W64} (h : s.canDecode a w []) (on : Bool) :
    State.window ((s.decoded a w).onCtx a (fun c => { c with bc := (s.ctx a).tc })) a on = s.opensWindow a w on := by
  unfold State.window State.opensWindow
  cases a.side
  · rw [if_neg (by decide)]
    refine State.onCtx_onCtx _ a _ _ ?_
    rw [State.ctx_decoded]
    exact (State.canDecode_running h).1
  · rfl

theorem State.settles_opensWindow (s : State) (a : Site) (w : W64) (on : Bool) : s.Settles (s.opensWindow a w on) a.tile :=
  (s.settles_decoded a w).trans (State.settles_onCtx _ a _ (fun hi => hi) (fun hr => hr))

/-- What a window marker is, in the queue and at its turn. -/
structure TOp.Opens (op : TOp) (a : Site) (on : Bool) : Prop where
  unit : op.unit = 0
  issue : ∀ (u : State) (pc : BitVec 14) (b : Nat) (x y : W32), u.issue (siteOf a.tile a.side) ⟨op, pc, b, x, y⟩ = some (u.window a on)

theorem TOp.opens_wopen (a : Site) : TOp.wopen.Opens a true := ⟨rfl, fun _ _ _ _ _ => rfl⟩
theorem TOp.opens_wclose (a : Site) : TOp.wclose.Opens a false := ⟨rfl, fun _ _ _ _ _ => rfl⟩

/-- A marker joins an empty queue. -/
theorem Ctx.enqueue_marker (c : Ctx) (w : W64) (op : TOp) (h : c.idle) : (c.fold w).enqueue op c.pc (c.fold w).tc 0 0 =
    { c.fold w with uq := [⟨op, c.pc, c.tc.toNat, 0, 0⟩], closing := c.closing } := by
  unfold Ctx.enqueue
  rw [show (c.fold w).uq = [] from h.1]
  rfl

section
variable {s : State} {a : Site} {w : W64} {op : TOp} {on : Bool} (ho : op.Opens a on)
include ho

theorem TOp.Opens.issue_window (h : s.canDecode a w []) : ((s.decoded a w).onCtx a (fun c => { c with bc := (s.ctx a).tc, closing := (s.ctx a).closing })).issue
    (siteOf a.tile a.side) ⟨op, (s.ctx a).pc, (s.ctx a).tc.toNat, 0, 0⟩ = some (s.opensWindow a w on) := by
  rw [ho.issue, ← State.window_marker h on]
  refine congrArg (fun u : State => some (u.window a on)) (State.onCtx_congr _ a _ _ ?_)
  rw [State.ctx_decoded]
  rfl

theorem TOp.Opens.turn (h : s.canDecode a w []) (hopen : s.Open a) (hidle : (s.ctx a).idle)
    (hn : s.before (s.fromStart a (s.ctx a).tc.toNat) = true) :
    ((s.decoded a w).onCtx a (fun c => c.enqueue op (s.ctx a).pc c.tc 0 0)).nextTurn (siteOf a.tile a.side) = some (s.opensWindow a w on) :=
  State.marker_turn h hopen hidle (q := ⟨op, (s.ctx a).pc, (s.ctx a).tc.toNat, 0, 0⟩) ho.unit rfl hn ((s.ctx a).enqueue_marker w op hidle)
    (ho.issue_window h)

theorem TOp.Opens.advance (h : s.canIssue a w 0 []) :
    ((s.decoded a w).onCtx a (fun c => c.enqueue op (s.ctx a).pc c.tc 0 0)).advance a.tile = s.opensWindow a w on :=
  State.marker_advance h (q := ⟨op, (s.ctx a).pc, (s.ctx a).tc.toNat, 0, 0⟩) ho.unit rfl
    ((s.ctx a).enqueue_marker w op (s.canIssue_idle a _ _ _ h a.side)) (ho.issue_window h.1)
    (State.rests_of_calm _ _ ((s.settles_opensWindow a w on).calm h.2.1))

end

end Sys2Proof.Machine

/-! PROOF. Windows, phases and the end of a schedule (O5). -/

namespace Sys2Proof.Machine

/-! ### Tables that are listed anew -/

theorem Map.mem_ins_of_ne {α : Type} (m : Map α) (k : Nat) (v : α) {e : Nat × α} (he : e ∈ m) (hk : e.1 ≠ k) : e ∈ m.ins k v := by
  induction m with
  | nil => exact absurd he List.not_mem_nil
  | cons x t ih =>
    obtain ⟨j, y⟩ := x
    unfold Map.ins
    split
    · exact List.mem_cons_of_mem _ he
    · obtain rfl | ht := List.mem_cons.mp he
      · rw [if_neg hk]
        exact List.mem_cons_self
      · split
        · exact List.mem_cons_of_mem _ ht
        · exact List.mem_cons_of_mem _ (ih ht)

theorem State.mem_tiles_setTile (s : State) (n : Nat) (x : Tile) {e : Nat × Tile} (he : e ∈ s.tiles) (hn : e.1 ≠ n) :
    e ∈ (s.setTile n x).tiles := by
  unfold State.setTile Map.put
  dsimp only
  split
  · rw [Map.del_eq_filter]
    exact List.mem_filter.mpr ⟨he, bne_iff_ne.mpr hn⟩
  · exact Map.mem_ins_of_ne _ _ _ he hn

section
variable {α β : Type} (key : β → Nat) (val : β → α)

/-- What a table lists that is made of a list's entries. -/
theorem Map.find?_listing (l : List β) : ∀ (m : Map α) (k : Nat) (v : α), (l.foldl (fun m e => m.ins (key e) (val e)) m).find? k = some v →
    m.find? k = some v ∨ ∃ e ∈ l, key e = k ∧ val e = v := by
  induction l with
  | nil => exact fun m k v h => .inl h
  | cons e l ih =>
    intro m k v h
    obtain h | ⟨x, hx, hk⟩ := ih _ k v h
    · by_cases he : k = key e
      · rw [he, Map.find?_ins_same] at h
        exact .inr ⟨e, List.mem_cons_self, he.symm, Option.some.inj h⟩
      · rw [Map.find?_ins_other _ _ _ _ he] at h
        exact .inl h
    · exact .inr ⟨x, List.mem_cons_of_mem _ hx, hk⟩

theorem Map.isSome_listing_of_mem (l : List β) : ∀ (m : Map α) (k : Nat), (m.find? k).isSome = true →
    ((l.foldl (fun m e => m.ins (key e) (val e)) m).find? k).isSome = true := by
  induction l with
  | nil => exact fun m k h => h
  | cons e l ih =>
    intro m k h
    refine ih _ k ?_
    by_cases he : k = key e
    · rw [he, Map.find?_ins_same]
      rfl
    · rw [Map.find?_ins_other _ _ _ _ he]
      exact h

/-- A table that is made of a list's entries lists the key of each. -/
theorem Map.isSome_listing (l : List β) : ∀ (m : Map α), ∀ e ∈ l, ((l.foldl (fun m e => m.ins (key e) (val e)) m).find? (key e)).isSome = true := by
  induction l with
  | nil => exact fun m e he => absurd he List.not_mem_nil
  | cons x l ih =>
    intro m e he
    obtain rfl | ht := List.mem_cons.mp he
    · refine Map.isSome_listing_of_mem key val l _ _ ?_
      rw [Map.find?_ins_same]
      rfl
    · exact ih _ e ht

end

/-! ### A flush of census slots (R259) -/

/-- A change of a tile's SRAM, and of no other tile. -/
structure State.Flushed (s t : State) (n : Nat) : Prop where
  rest : s.elsewhere t n
  ctx : ∀ d, (t.tile n).ctx d = (s.tile n).ctx d
  others : ∀ e ∈ s.tiles, e.1 ≠ n → e ∈ t.tiles

theorem State.Flushed.refl (s : State) (n : Nat) : s.Flushed s n := ⟨s.elsewhere_refl n, fun _ => rfl, fun _ h _ => h⟩

theorem State.Flushed.trans {s t u : State} {n : Nat} (h : s.Flushed t n) (g : t.Flushed u n) : s.Flushed u n :=
  ⟨State.elsewhere_trans h.rest g.rest, fun d => (g.ctx d).trans (h.ctx d), fun e he hn => g.others e (h.others e he hn) hn⟩

theorem State.flushed_each {α : Type} (n : Nat) (f : State → α → State) (h : ∀ (s : State) (e : α), s.Flushed (f s e) n) (l : List α)
    (s : State) : s.Flushed (s.each l f) n := by
  induction l generalizing s with
  | nil => exact State.Flushed.refl s n
  | cons e l ih => exact (h s e).trans (ih _)

theorem State.flushed_sramWr (s : State) (n off : Nat) (b : Bytes) : s.Flushed (s.onTile n (fun x => x.sramWr off b)) n := by
  refine ⟨s.elsewhere_onTile n _, fun d => ?_, fun e he hn => s.mem_tiles_setTile n _ he hn⟩
  rw [State.tile_onTile_same]
  cases d <;> rfl

theorem State.flushed_free (s : State) (n k : Nat) : s.Flushed { s with free := k } n := ⟨s.elsewhere_free n k, fun _ => rfl, fun _ h _ => h⟩

/-- A flush writes census lines of its tile alone (R259). -/
theorem State.flushed_flush (s : State) (n : Nat) : s.Flushed (s.flush n) n := by
  unfold State.flush
  refine State.flushed_each n _ (fun u e => ?_) _ s
  dsimp only
  split
  · exact State.Flushed.refl u n
  · split
    · exact State.Flushed.refl u n
    · refine State.Flushed.trans ?_ (State.flushed_sramWr _ n _ _)
      split
      · exact u.flushed_free n _
      · exact State.Flushed.refl u n

theorem State.Flushed.settles {s t : State} {n : Nat} (h : s.Flushed t n) : s.Settles t n :=
  State.settles_of_ctx n h.ctx (by rw [h.rest.1])

/-! ### PHASE binds the census anew (R180, R259) -/

/-- The slots of a tile and phase that the plan gives. -/
def State.planned (s : State) (n p : Nat) : List PlanEnt := s.num.plan.filter (fun e => e.tile == n && e.phase == p)

/-- A slot as a binding leaves it. -/
def State.boundSlot (s : State) (n : Nat) (e : PlanEnt) : CSlot :=
  { CSlot.reset with bound := some (e.index, e.tensor), code := (s.tile n).sram.get (64 * s.censusLine e.index s.hand.hand.toNat + 0x2C) 0 }

theorem State.bind_eq (s : State) (n p : Nat) : s.bind n p = s.onCtx (siteOf n false) (fun c =>
    { c with census := (s.planned n p).foldl (fun m e => m.ins e.slot (s.boundSlot n e)) [] }) := rfl

theorem State.mem_planned {s : State} {n p : Nat} {e : PlanEnt} : e ∈ s.planned n p ↔ e ∈ s.num.plan ∧ e.tile = n ∧ e.phase = p := by
  simp [State.planned]

/-- After the beat of a PHASE has passed, the census of the primary is bound to the phase's slots, each of them empty. -/
theorem State.bind_census {s : State} {n p : Nat} {k : Nat} {c : CSlot} (h : ((s.bind n p).ctx (siteOf n false)).census.find? k = some c) :
    c.total = 0 ∧ c.amax = 0 ∧ ∃ e ∈ s.num.plan, e.tile = n ∧ e.phase = p ∧ e.slot = k ∧ c.bound = some (e.index, e.tensor) := by
  rw [State.bind_eq, State.ctx_onCtx_same] at h
  obtain h | ⟨e, he, hk, rfl⟩ := Map.find?_listing PlanEnt.slot (s.boundSlot n) _ _ _ _ h
  · cases h
  · obtain ⟨hm, ht, hp⟩ := State.mem_planned.mp he
    exact ⟨rfl, rfl, e, hm, ht, hp, hk, rfl⟩

theorem State.bind_lists {s : State} {n p : Nat} {e : PlanEnt} (he : e ∈ s.num.plan) (ht : e.tile = n) (hp : e.phase = p) :
    (((s.bind n p).ctx (siteOf n false)).census.find? e.slot).isSome = true := by
  rw [State.bind_eq, State.ctx_onCtx_same]
  exact Map.isSome_listing PlanEnt.slot (s.boundSlot n) _ [] e (State.mem_planned.mpr ⟨he, ht, hp⟩)

theorem Ctx.turns_bind (c : Ctx) {pc : BitVec 14} {b p : Nat} (h : ({ c with binds := [] } : Ctx).idle) (hb : c.binds = [(pc, b, p)]) :
    c.turns = [(2 * b + 1, .bind pc p)] := by
  obtain ⟨h1, h2, _, h4, h5, _, _⟩ := h
  dsimp only at h1 h2 h4 h5
  simp [Ctx.turns, hb, h1, h2, h4, h5]

theorem State.reached_odd (s : State) (a : Site) (b : Nat) :
    s.reached a (2 * b + 1) = (((s.ctx a).closing || decide (b < (s.ctx a).tc.toNat)) && s.before (s.fromStart a b)) := by
  have h0 : ¬(2 * b + 1) % 2 = 0 := by omega
  have h1 : (2 * b + 1) / 2 = b := by omega
  unfold State.reached
  simp only [h1, if_neg h0]

/-! ### END (R154, R156, R259, R327) -/

/-- The state in which a context has halted at its END. -/
def State.haltsAtEnd (s : State) (a : Site) : State := s.onCtx a (fun c => { c.halt with running := false, ended := true, out := c.out })

theorem State.endNow_primary (s : State) (a : Site) (q : QIns) (hs : a.side = false) : s.endNow a q =
    if q.beat ≠ s.endBeat then s.seqFault a.tile false 8 q.pc else ((s.haltsAtEnd a).flush a.tile).ended := by
  unfold State.endNow
  rw [hs]
  rfl

theorem State.endNow_side (s : State) (a : Site) (q : QIns) (hs : a.side = true) : s.endNow a q =
    if (s.haltsAtEnd a).tiles.any (fun e => e.2.side.running) then s.haltsAtEnd a
    else match (s.haltsAtEnd a).hand.sideRun with
      | none => s.haltsAtEnd a
      | some d => (({ s.haltsAtEnd a with hand := { (s.haltsAtEnd a).hand with sideRun := none } } : State).complete d.q d.cid 0x00 0
          (s.haltsAtEnd a).hand.hand.toNat) := by
  unfold State.endNow
  rw [hs]
  rfl

/-- The context that an END leaves. -/
def State.closes (s : State) (a : Site) (w : W64) : State :=
  (s.decoded a w).onCtx a (fun c => { c with bc := (s.ctx a).tc, closing := true })

/-- The END of a context, before its schedule's end is seen to. -/
def State.ends (s : State) (a : Site) (w : W64) : State :=
  (s.closes a w).onCtx a (fun c => { c with running := false, ended := true, waits := [] })

theorem State.elsewhere_closes (s : State) (a : Site) (w : W64) : s.elsewhere (s.closes a w) a.tile :=
  State.elsewhere_trans (s.elsewhere_decoded a w) (State.onlyCtx_onCtx _ a _).1

theorem State.elsewhere_ends (s : State) (a : Site) (w : W64) : s.elsewhere (s.ends a w) a.tile :=
  State.elsewhere_trans (s.elsewhere_closes a w) (State.onlyCtx_onCtx _ a _).1

theorem State.settles_ends (s : State) (a : Site) (w : W64) : (s.closes a w).Settles (s.ends a w) a.tile :=
  State.settles_onCtx _ a _ (fun hi => hi) (fun _ => rfl)

section
variable {s : State} {a : Site} {w : W64} (h : s.canIssue a w 0 [])
include h

theorem State.closes_halts : (s.closes a w).haltsAtEnd (siteOf a.tile a.side) = s.ends a w := by
  unfold State.haltsAtEnd State.ends
  obtain ⟨h1, h2, h3, h4, h5, h6, h7⟩ := s.canIssue_idle a _ _ _ h a.side
  rw [State.onCtx_siteOf]
  refine State.onCtx_congr (s.closes a w) a (fun c => { c.halt with running := false, ended := true, out := c.out })
    (fun c => { c with running := false, ended := true, waits := [] }) ?_
  unfold State.closes
  rw [State.ctx_onCtx_same, State.ctx_decoded]
  unfold Ctx.halt Ctx.fold State.ctx
  rw [h1, h2, h3, h4, h5, h6, h7]

/-- END at its beat does what the end of its schedule is, and then its tile rests. -/
theorem State.end_advance {t : State} (hi : (s.closes a w).endNow (siteOf a.tile a.side) ⟨.endOp, (s.ctx a).pc, (s.ctx a).tc.toNat, 0, 0⟩ = t)
    (ht : t.calm a.tile) :
    ((s.decoded a w).onCtx a (fun c => { c.enqueue .endOp (s.ctx a).pc c.tc 0 0 with closing := true })).advance a.tile = t := by
  refine State.marker_advance h (q := ⟨.endOp, (s.ctx a).pc, (s.ctx a).tc.toNat, 0, 0⟩) (cl := true) rfl rfl ?_ (congrArg some hi)
    (State.rests_of_calm _ _ ht)
  unfold Ctx.enqueue
  rw [show ((s.ctx a).fold w).uq = [] from (s.canIssue_idle a _ _ _ h a.side).1]
  rfl

end

theorem exec_endOp {s : State} {a : Site} {f : SFmt} (h : s.canDecode a (wordOf 7 0xB (sLow f)) []) :
    exec (.endOp a f) s = .next (((s.decoded a (wordOf 7 0xB (sLow f))).onCtx a
      (fun c => { c.enqueue .endOp (s.ctx a).pc c.tc 0 0 with closing := true })).advance a.tile) :=
  congrArg (fun u : State => Host.Outcome.next (u.advance a.tile)) (s.instr_run _ _ _ _ _ h rfl)

/-! ### The primary's END and a side context's -/

section
variable {s : State} {a : Site} {f : SFmt} (h : s.canIssue a (wordOf 7 0xB (sLow f)) 0 [])
include h

theorem State.calm_ends : (s.ends a (wordOf 7 0xB (sLow f))).calm a.tile := (s.settles_ends a _).calm (State.calm_marker h true)

/-- The primary's END at the beat of its schedule's end, while another tile's primary still runs (R154, R259). -/
theorem endOp_primary (hs : a.side = false) (hb : (s.ctx a).tc.toNat = s.endBeat)
    (ho : ∃ e ∈ (s.ends a (wordOf 7 0xB (sLow f))).tiles, e.1 ≠ a.tile ∧ e.2.prim.running = true) :
    ∃ t, exec (.endOp a f) s = .next t ∧ (s.ends a (wordOf 7 0xB (sLow f))).Flushed t a.tile := by
  have hfl := (s.ends a (wordOf 7 0xB (sLow f))).flushed_flush a.tile
  have hbeat : (s.closes a (wordOf 7 0xB (sLow f))).endBeat = s.endBeat := by
    unfold State.endBeat State.curImage
    rw [(s.elsewhere_closes a _).1]
  have hmore : ((s.ends a (wordOf 7 0xB (sLow f))).flush a.tile).ended = (s.ends a (wordOf 7 0xB (sLow f))).flush a.tile := by
    obtain ⟨e, he, hn, hrun⟩ := ho
    have hall : ((s.ends a (wordOf 7 0xB (sLow f))).flush a.tile).allEnded = false := by
      unfold State.allEnded
      rw [Bool.and_eq_false_iff, List.all_eq_false]
      exact .inr ⟨e, hfl.others e he hn, by simp [hrun]⟩
    unfold State.ended
    rw [hall]
    rfl
  refine ⟨_, (exec_endOp h.1).trans (congrArg Host.Outcome.next (State.end_advance h ?_ (hfl.settles.calm (State.calm_ends h)))), hfl⟩
  rw [State.endNow_primary _ (siteOf a.tile a.side) _ hs, State.closes_halts h, hbeat, if_neg (fun hne => hne hb)]
  exact hmore

/-- The primary's END at any other beat is the schedule fault (R154, R164). -/
theorem endOp_late (hs : a.side = false) (hb : (s.ctx a).tc.toNat ≠ s.endBeat) :
    exec (.endOp a f) s = .next ((s.closes a (wordOf 7 0xB (sLow f))).seqFault a.tile false 8 (s.ctx a).pc) := by
  have hbeat : (s.closes a (wordOf 7 0xB (sLow f))).endBeat = s.endBeat := by
    unfold State.endBeat State.curImage
    rw [(s.elsewhere_closes a _).1]
  have hcalm := State.calm_marker h true
  refine (exec_endOp h.1).trans (congrArg Host.Outcome.next (State.end_advance h ?_ ?_))
  · rw [State.endNow_primary _ (siteOf a.tile a.side) _ hs, hbeat, if_pos hb]
    rfl
  · exact State.calm_seqFault _ a.tile false 8 _ hcalm.2.1 hcalm.2.2

/-- END of a side context, while another tile's side context still runs (R154). -/
theorem endOp_side (hs : a.side = true) (ho : ∃ e ∈ (s.ends a (wordOf 7 0xB (sLow f))).tiles, e.2.side.running = true) :
    exec (.endOp a f) s = .next (s.ends a (wordOf 7 0xB (sLow f))) := by
  refine (exec_endOp h.1).trans (congrArg Host.Outcome.next (State.end_advance h ?_ (State.calm_ends h)))
  have hany : (s.ends a (wordOf 7 0xB (sLow f))).tiles.any (fun e => e.2.side.running) = true := by
    obtain ⟨e, he, hrun⟩ := ho
    exact List.any_eq_true.mpr ⟨e, he, hrun⟩
  rw [State.endNow_side _ (siteOf a.tile a.side) _ hs, State.closes_halts h, if_pos hany]

/-- The last END of a side job completes it (R154). -/
theorem endOp_last (hs : a.side = true) (ho : ∀ e ∈ (s.ends a (wordOf 7 0xB (sLow f))).tiles, e.2.side.running = false) {d : Deal}
    (hd : s.hand.sideRun = some d) :
    exec (.endOp a f) s = .next (({ s.ends a (wordOf 7 0xB (sLow f)) with
      hand := { (s.ends a (wordOf 7 0xB (sLow f))).hand with sideRun := none } } : State).complete d.q d.cid 0x00 0
        (s.ends a (wordOf 7 0xB (sLow f))).hand.hand.toNat) := by
  refine (exec_endOp h.1).trans (congrArg Host.Outcome.next (State.end_advance h ?_ ?_))
  · have hany : ¬(s.ends a (wordOf 7 0xB (sLow f))).tiles.any (fun e => e.2.side.running) = true := by
      rw [Bool.not_eq_true, List.any_eq_false]
      exact fun e he => by rw [ho e he]; decide
    have hrun : (s.ends a (wordOf 7 0xB (sLow f))).hand.sideRun = some d := by rw [(s.elsewhere_ends a _).1]; exact hd
    rw [State.endNow_side _ (siteOf a.tile a.side) _ hs, State.closes_halts h, if_neg hany, hrun]
  · exact ((State.settles_hand _ a.tile _).trans (State.settles_complete _ a.tile _ _ _ _ _)).calm (State.calm_ends h)

end

/-! ### A side MOWN that waits for the window (R152) -/

@[simp] theorem Tile.setBuf_ctx (x : Tile) (b : BitVec 1) (v : WBuf) (d : Bool) : (x.setBuf b v).ctx d = x.ctx d := by
  unfold Tile.setBuf
  split <;> cases d <;> rfl

@[simp] theorem Tile.buf_setBuf_same (x : Tile) (b : BitVec 1) (v : WBuf) : (x.setBuf b v).buf b = v := by
  unfold Tile.setBuf Tile.buf
  by_cases h : b = 0
  · rw [if_pos h, if_pos h]
  · rw [if_neg h, if_neg h]

/-- The other buffer stays. -/
@[simp] theorem Tile.buf_setBuf_other (x : Tile) (b : BitVec 1) (v : WBuf) : (x.setBuf b v).buf (~~~b) = x.buf (~~~b) := by
  obtain rfl | rfl : b = 0 ∨ b = 1 := by decide +revert
  · rfl
  · rfl

@[simp] theorem Tile.buf_setCtx (x : Tile) (d : Bool) (c : Ctx) (b : BitVec 1) : (x.setCtx d c).buf b = x.buf b := by cases d <;> rfl

/-- The state in which a buffer has a new owner. -/
def State.gives (s : State) (n : Nat) (b : BitVec 1) (side : Bool) : State := s.setTile n ((s.tile n).setBuf b { (s.tile n).buf b with side := side })

/-- Inside the primary's window MOWN gives a buffer that its context owns to the other context (R152). -/
theorem State.issue_mown (s : State) (a : Site) (q : QIns) {g : MOwnF} (hop : q.op = .mown g) (hw : (s.tile a.tile).prim.window = true)
    (ho : ((s.tile a.tile).buf g.buf).side = a.side) : s.issue a q = some (s.gives a.tile g.buf (!a.side)) := by
  unfold State.issue State.mown State.gives
  rw [hop]
  simp [hw, ho]

/-- The state in which the side context's front instruction issues (R133, R146). -/
def State.sideHead (s : State) (n : Nat) (q : QIns) : State :=
  ((s.atBeat (siteOf n true) q.beat).onCtx (siteOf n true) (fun c => { c with uq := c.uq.drop 1 })).onTile n
    (fun x => { x with sideBeats := x.sideBeats + b2n (true && q.op.unit != 0) })

/-- A tile whose side context's only instruction has left its queue. -/
def Tile.sideHead (x : Tile) (q : QIns) : Tile :=
  ({ x with sideBeats := x.sideBeats + b2n (true && q.op.unit != 0) } : Tile).setCtx true { x.side with bc := BitVec.ofNat 64 q.beat, uq := [] }

theorem State.elsewhere_sideHead (s : State) (n : Nat) (q : QIns) : s.elsewhere (s.sideHead n q) n :=
  State.elsewhere_trans (State.elsewhere_trans (s.elsewhere_atBeat (siteOf n true) q.beat) (State.onlyCtx_onCtx _ (siteOf n true) _).1)
    (State.elsewhere_onTile _ n _)

theorem State.tile_sideHead {s : State} {n : Nat} {q : QIns} (hr : (s.tile n).side.running = true) (hq : (s.tile n).side.uq = [q]) :
    (s.sideHead n q).tile n = (s.tile n).sideHead q := by
  have htwo : (s.atBeat (siteOf n true) q.beat).onCtx (siteOf n true) (fun c => { c with uq := c.uq.drop 1 }) =
      s.onCtx (siteOf n true) (fun c => { c with bc := BitVec.ofNat 64 q.beat, uq := [] }) := by
    refine (State.onCtx_onCtx s (siteOf n true) (fun c => { c with bc := BitVec.ofNat 64 q.beat }) (fun c => { c with uq := c.uq.drop 1 }) hr).trans
      (State.onCtx_congr s (siteOf n true) _ _ ?_)
    have hdrop : (s.ctx (siteOf n true)).uq.drop 1 = [] := congrArg (List.drop 1) hq
    dsimp only
    rw [hdrop]
  unfold State.sideHead
  rw [htwo, State.tile_onTile_same, State.onCtx]
  dsimp only [siteOf]
  rw [State.tile_onTile_same]
  rfl

/-- A side context's front instruction takes its turn when decode and the wafer have reached its beat. -/
theorem State.nextTurn_sideHead {s : State} {n : Nat} {q : QIns} (ho : s.Open (siteOf n true)) (hr : (s.tile n).side.running = true)
    (hq : (s.tile n).side.uq = [q]) (hi : ({ (s.tile n).side with uq := [] } : Ctx).idle) (hb : q.beat ≤ (s.tile n).side.tc.toNat)
    (hn : s.before (s.fromStart (siteOf n true) q.beat) = true) :
    s.nextTurn (siteOf n true) = (s.sideHead n q).issue (siteOf n true) q := by
  have hreach : s.reached (siteOf n true) (2 * q.beat) = true := by
    rw [State.reached_even _ _ _ hn]
    exact decide_eq_true hb
  rw [State.nextTurn_single s (siteOf n true) (2 * q.beat, .head q) hi.2.2.1 (Ctx.turns_head _ q hi hq) (ho.issues hr hi.2.2.1) hreach]
  unfold State.turn
  dsimp only
  rw [Nat.mul_div_cancel_left _ (by decide)]
  rfl

/-- A side MOWN takes its turn once the primary's window is open: its buffer is the primary's (R152). -/
theorem State.nextTurn_mown {s : State} {n : Nat} {q : QIns} {g : MOwnF} (ho : s.Open (siteOf n true)) (hr : (s.tile n).side.running = true)
    (hq : (s.tile n).side.uq = [q]) (hi : ({ (s.tile n).side with uq := [] } : Ctx).idle) (hop : q.op = .mown g)
    (hb : q.beat ≤ (s.tile n).side.tc.toNat) (hn : s.before (s.fromStart (siteOf n true) q.beat) = true)
    (hw : (s.tile n).prim.window = true) (hown : ((s.tile n).buf g.buf).side = true) :
    s.nextTurn (siteOf n true) = some ((s.sideHead n q).gives n g.buf false) := by
  have hu := State.tile_sideHead hr hq
  refine (State.nextTurn_sideHead ho hr hq hi hb hn).trans (State.issue_mown _ (siteOf n true) q hop ?_ ?_)
  · dsimp only [siteOf]
    rw [hu]
    exact hw
  · dsimp only [siteOf]
    rw [hu, Tile.sideHead, Tile.buf_setCtx]
    exact hown

/-- The tile after it. -/
theorem State.tile_mown {s : State} {n : Nat} {q : QIns} (hr : (s.tile n).side.running = true) (hq : (s.tile n).side.uq = [q]) (b : BitVec 1) :
    ((s.sideHead n q).gives n b false).tile n = ((s.tile n).sideHead q).setBuf b { (s.tile n).buf b with side := false } := by
  unfold State.gives
  rw [State.tile_setTile_same, State.tile_sideHead hr hq, Tile.sideHead, Tile.buf_setCtx]
  rfl

end Sys2Proof.Machine

/-! PROOF. O5, assembled: a side MOWN at the primary's WOPEN, a PHASE and its binding, and END. -/

namespace Sys2Proof.Machine

@[simp] theorem Tile.prim_setBuf (x : Tile) (b : BitVec 1) (v : WBuf) : (x.setBuf b v).prim = x.prim := x.setBuf_ctx b v false
@[simp] theorem Tile.side_setBuf (x : Tile) (b : BitVec 1) (v : WBuf) : (x.setBuf b v).side = x.side := x.setBuf_ctx b v true

/-- A decode leaves the weight buffers. -/
theorem State.buf_decoded (s : State) (a : Site) (w : W64) (b : BitVec 1) : ((s.decoded a w).tile a.tile).buf b = (s.tile a.tile).buf b := by
  obtain ⟨st, h⟩ := s.decoded_tile a w
  rw [h, Tile.buf_setCtx]
  rfl

theorem State.buf_onCtx (s : State) (a : Site) (f : Ctx → Ctx) (b : BitVec 1) : ((s.onCtx a f).tile a.tile).buf b = (s.tile a.tile).buf b := by
  rw [State.onCtx, State.tile_onTile_same, Tile.buf_setCtx]

theorem State.router_decoded (s : State) (a : Site) (w : W64) : ((s.decoded a w).tile a.tile).router = (s.tile a.tile).router := by
  obtain ⟨st, h⟩ := s.decoded_tile a w
  rw [h]
  cases a.side <;> rfl

theorem State.elsewhere_opensWindow (s : State) (a : Site) (w : W64) (on : Bool) : s.elsewhere (s.opensWindow a w on) a.tile :=
  State.elsewhere_trans (s.elsewhere_decoded a w) (State.onlyCtx_onCtx _ a _).1

/-- The contexts of a tile after a change of its primary. -/
theorem State.Onward.prim {s t : State} {a : Site} {c : Ctx} (h : s.Onward t a c) (hs : a.side = false) : (t.tile a.tile).prim = c := by
  have hc := h.ctx
  unfold State.ctx at hc
  rw [hs] at hc
  exact hc

theorem State.Onward.side {s t : State} {a : Site} {c : Ctx} (h : s.Onward t a c) (hs : a.side = false) :
    (t.tile a.tile).side = (s.tile a.tile).side := by
  have ho := h.other
  rw [hs] at ho
  exact ho

/-- The primary takes one turn, then the side context one, and then their tile rests. -/
theorem State.advance_both {s t u : State} {n : Nat} (hs : s.nextTurn (siteOf n false) = some t) (ht : t.nextTurn (siteOf n false) = none)
    (htu : t.nextTurn (siteOf n true) = some u) (hout : ∀ d, ((s.tile n).ctx d).out = []) (hu : u.rests n) : s.advance n = u := by
  have hprim : s.turnsOf (siteOf n false) turnLimit = t := (State.turnsOf_next hs 99999).trans (State.turnsOf_none _ _ _ ht)
  have hside : t.turnsOf (siteOf n true) turnLimit = u := (State.turnsOf_next htu 99999).trans (State.turnsOf_none _ _ _ hu.2.1)
  unfold State.advance
  dsimp only
  rw [s.pumpOut_empty (siteOf n false) (hout false), s.pumpOut_empty (siteOf n true) (hout true), hprim, hside]
  exact u.pumps_nothing n (fun d => match d with | false => hu.2.2.1 | true => hu.2.2.2.1) hu.2.2.2.2

/-! ### WOPEN wakes a side MOWN (R152) -/

section
variable {s : State} {a : Site} {w : W64} {op : TOp} {q : QIns} {g : MOwnF} (hop : op.Opens a true) (h : s.canDecode a w []) (hs : a.side = false)
  (hp : (s.tile a.tile).prim.idle) (hf : s.fab.freezing = false) (hst : s.fab.started = true) (hcorr : (s.tile a.tile).corr.length ≤ 1)
  (hr : (s.tile a.tile).side.running = true) (hq : (s.tile a.tile).side.uq = [q]) (hi : ({ (s.tile a.tile).side with uq := [] } : Ctx).idle)
  (hm : q.op = .mown g) (hb : q.beat ≤ (s.tile a.tile).side.tc.toNat) (hn : s.before (s.fromStart (siteOf a.tile true) q.beat) = true)
  (hown : ((s.tile a.tile).buf g.buf).side = true)
include hop h hs hp hf hst hcorr hr hq hi hm hb hn hown

/-- The window opens, and in the same beat the buffer of the side MOWN that waits for it moves (R152). -/
theorem TOp.Opens.advance_mown : ∃ t, ((s.decoded a w).onCtx a (fun c => c.enqueue op (s.ctx a).pc c.tc 0 0)).advance a.tile = t ∧
    s.elsewhere t a.tile ∧ (t.tile a.tile).prim.window = true ∧ (t.tile a.tile).side.uq = [] ∧
    (t.tile a.tile).buf g.buf = { (s.tile a.tile).buf g.buf with side := false } ∧
    (t.tile a.tile).buf (~~~ g.buf) = (s.tile a.tile).buf (~~~ g.buf) := by
  have hopen := State.canDecode_open h hst hcorr
  have hctx : s.ctx a = (s.tile a.tile).prim := by unfold State.ctx; rw [hs]; rfl
  have hidle : (s.ctx a).idle := hctx ▸ hp
  have hbefore : s.before (s.fromStart a (s.ctx a).tc.toNat) = true := by
    unfold State.fromStart
    rw [hs]
    exact State.canDecode_before h
  -- the queue as decode leaves it
  have hV : s.Onward ((s.decoded a w).onCtx a (fun c => c.enqueue op (s.ctx a).pc c.tc 0 0)) a _ := State.onward_onCtx (s.onward_decoded a w) _
  have hout : ∀ d, ((((s.decoded a w).onCtx a (fun c => c.enqueue op (s.ctx a).pc c.tc 0 0)).tile a.tile).ctx d).out = [] := by
    intro d
    cases d
    · exact (congrArg Ctx.out (hV.prim hs)).trans hidle.2.2.2.2.2.2
    · exact (congrArg Ctx.out (hV.side hs)).trans hi.2.2.2.2.2.2
  -- the window is open
  have hT : s.Onward (s.opensWindow a w true) a _ := State.onward_onCtx (s.onward_decoded a w) _
  have hTe := s.elsewhere_opensWindow a w true
  have hTbuf : ∀ b, ((s.opensWindow a w true).tile a.tile).buf b = (s.tile a.tile).buf b := fun b =>
    (State.buf_onCtx _ a _ b).trans (s.buf_decoded a w b)
  have hTwin : ((s.opensWindow a w true).tile a.tile).prim.window = true := by rw [hT.prim hs, hs]; rfl
  have hTidle : ((s.opensWindow a w true).tile a.tile).prim.idle := by rw [hT.prim hs]; exact hidle
  have hTside := hT.side hs
  -- the side context's turn, and its buffer
  have hbeat : (s.opensWindow a w true).before ((s.opensWindow a w true).fromStart (siteOf a.tile true) q.beat) = true := by
    refine (hT.before _).trans (Eq.trans (congrArg s.before ?_) hn)
    unfold State.fromStart siteOf
    dsimp only
    rw [hT.side0]
  have hturn := State.nextTurn_mown ((hT.open hopen).other true) (hTside ▸ hr) (hTside ▸ hq) (hTside ▸ hi) hm (hTside ▸ hb) hbeat hTwin
    ((congrArg WBuf.side (hTbuf g.buf)).trans hown)
  have hUtile := State.tile_mown (s := s.opensWindow a w true) (hTside ▸ hr) (hTside ▸ hq) g.buf
  have hUe : s.elsewhere (((s.opensWindow a w true).sideHead a.tile q).gives a.tile g.buf false) a.tile :=
    State.elsewhere_trans hTe (State.elsewhere_trans (State.elsewhere_sideHead _ a.tile q) (State.elsewhere_setTile _ a.tile _))
  have hcalm : (((s.opensWindow a w true).sideHead a.tile q).gives a.tile g.buf false).calm a.tile := by
    refine ⟨?_, ?_, (congrArg Fabric.freezing (State.elsewhere_fab hUe)).trans hf⟩
    · rw [hUtile, Tile.prim_setBuf]
      exact hTidle
    · rw [hUtile, Tile.side_setBuf]
      show ({ ((s.opensWindow a w true).tile a.tile).side with bc := _, uq := [] } : Ctx).idle
      rw [hTside]
      exact ⟨rfl, hi.2⟩
  refine ⟨_, State.advance_both (hs ▸ hop.turn h hopen hidle hbefore) (State.nextTurn_idle _ _ hTidle) hturn hout
    (State.rests_of_calm _ _ hcalm), hUe, ?_, ?_, ?_, ?_⟩
  · rw [hUtile, Tile.prim_setBuf]
    exact hTwin
  · rw [hUtile, Tile.side_setBuf]
    rfl
  · rw [hUtile, Tile.buf_setBuf_same, hTbuf]
  · rw [hUtile, Tile.buf_setBuf_other, Tile.sideHead, Tile.buf_setCtx]
    exact hTbuf _

end

/-! ### PHASE (R180, R259) -/

/-- A tile whose router is to switch to phase `p` at beat `b` (R180). -/
def Tile.switchAt (x : Tile) (b p : Nat) : Tile := { x with router := { x.router with switches := x.router.switches ++ [(b, p)] } }

/-- The state in which a PHASE has noted the router's switch at beat TC and the binding at that beat. -/
def State.notesPhase (s : State) (a : Site) (w : W64) (p : Nat) : State :=
  ((s.decoded a w).onTile a.tile (fun x => x.switchAt ((s.decoded a w).fromStart a (s.ctx a).tc.toNat) p)).onCtx a
    (fun c => { c with binds := c.binds ++ [((s.ctx a).pc, (s.ctx a).tc.toNat, p)] })

theorem State.onward_notesPhase (s : State) (a : Site) (w : W64) (p : Nat) : s.Onward (s.notesPhase a w p) a
    { (s.ctx a).fold w with binds := ((s.ctx a).fold w).binds ++ [((s.ctx a).pc, (s.ctx a).tc.toNat, p)] } :=
  State.onward_onCtx (State.onward_onTile (s.onward_decoded a w) (fun x => x.switchAt _ p) (fun _ => rfl) (fun _ => rfl) (fun _ => rfl) (fun _ => rfl)) _

theorem exec_phase {s : State} {a : Site} {f : SFmt} (h : s.canDecode a (wordOf 7 7 (sLow f)) [])
    (hp : f.imm.toNat < max 1 (s.tile a.tile).router.phases.length) :
    exec (.phase a f) s = .next ((s.notesPhase a (wordOf 7 7 (sLow f)) f.imm.toNat).advance a.tile) := by
  refine congrArg (fun u : State => Host.Outcome.next (u.advance a.tile)) ((s.instr_run a _ _ _ _ h rfl).trans ?_)
  have hlt : ¬ max 1 ((s.decoded a (wordOf 7 7 (sLow f))).tile a.tile).router.phases.length ≤ f.imm.toNat := by
    rw [s.router_decoded]
    exact Nat.not_le.mpr hp
  dsimp only
  rw [if_neg (fun hc => hlt hc.1), State.ctx_decoded]
  unfold State.onTile
  dsimp only
  rw [if_neg hlt]
  rfl

/-- Nothing of the tile moves until decode passes the beat of the binding. -/
theorem State.rests_notesPhase {s : State} {a : Site} {w : W64} (h : s.canDecode a w []) (hc : s.calm a.tile) (p : Nat) :
    (s.notesPhase a w p).rests a.tile := by
  have hV := s.onward_notesPhase a w p
  have hidle : ∀ d, ((s.tile a.tile).ctx d).idle := fun d => match d with | false => hc.1 | true => hc.2.1
  have hbinds : ((s.ctx a).fold w).binds = [] := (hidle a.side).2.2.2.2.2.1
  rw [hbinds, List.nil_append] at hV
  have hthis : (s.notesPhase a w p).nextTurn (siteOf a.tile a.side) = none := by
    refine State.nextTurn_unreached _ _ (2 * (s.ctx a).tc.toNat + 1, .bind (s.ctx a).pc p) ?_ ?_ ?_
    · rw [State.ctx_siteOf, hV.ctx]
      exact (hidle a.side).2.2.1
    · rw [State.ctx_siteOf, hV.ctx]
      refine Ctx.turns_bind _ ?_ rfl
      show ({ (s.ctx a).fold w with binds := [] } : Ctx).idle
      rw [← hbinds]
      exact hidle a.side
    · rw [State.reached_odd, State.ctx_siteOf, hV.ctx]
      have hclose : ((s.ctx a).fold w).closing = false := (State.canDecode_running h).2
      have htc : ((s.ctx a).fold w).tc = (s.ctx a).tc := rfl
      simp [hclose, htc]
  have hother : (s.notesPhase a w p).nextTurn (siteOf a.tile (!a.side)) = none :=
    State.nextTurn_idle _ _ (show (((s.notesPhase a w p).tile a.tile).ctx (!a.side)).idle by rw [hV.other]; exact hidle _)
  have hout : ∀ d, (((s.notesPhase a w p).tile a.tile).ctx d).out = [] := by
    intro d
    by_cases hd : d = a.side
    · rw [hd]
      exact (congrArg Ctx.out hV.ctx).trans (hidle a.side).2.2.2.2.2.2
    · rw [Bool.eq_not.mpr hd, hV.other]
      exact Ctx.out_of_idle _ (hidle _)
  have hfree : (s.notesPhase a w p).fab.freezing = false := hV.freezing.trans hc.2.2
  cases hs : a.side
  · rw [hs] at hthis hother
    exact ⟨hthis, hother, hout false, hout true, hfree⟩
  · rw [hs] at hthis hother
    exact ⟨hother, hthis, hout false, hout true, hfree⟩

/-- PHASE notes the switch of the router and the binding of the census, at beat TC (R180, R259). -/
theorem phase_notes {s : State} {a : Site} {f : SFmt} (h : s.canDecode a (wordOf 7 7 (sLow f)) []) (hc : s.calm a.tile)
    (hp : f.imm.toNat < max 1 (s.tile a.tile).router.phases.length) :
    exec (.phase a f) s = .next (s.notesPhase a (wordOf 7 7 (sLow f)) f.imm.toNat) := by
  rw [exec_phase h hp, State.advance_rests _ _ (State.rests_notesPhase h hc _)]

theorem State.ctx_notesPhase {s : State} {a : Site} {w : W64} (hc : (s.ctx a).binds = []) (p : Nat) :
    (s.notesPhase a w p).ctx a = { (s.decoded a w).ctx a with binds := [((s.ctx a).pc, (s.ctx a).tc.toNat, p)] } := by
  have hbinds : ((s.ctx a).fold w).binds = [] := hc
  rw [(s.onward_notesPhase a w p).ctx, hbinds, State.ctx_decoded]
  rfl

theorem State.elsewhere_notesPhase (s : State) (a : Site) (w : W64) (p : Nat) : (s.decoded a w).elsewhere (s.notesPhase a w p) a.tile :=
  State.elsewhere_trans (State.elsewhere_onTile _ a.tile _) (State.onlyCtx_onCtx _ a _).1

theorem State.tile_notesPhase (s : State) (a : Site) (w : W64) (p : Nat) : (s.notesPhase a w p).tile a.tile =
    ({ (s.decoded a w).tile a.tile with router := { (s.tile a.tile).router with
      switches := (s.tile a.tile).router.switches ++ [(s.fromStart a (s.ctx a).tc.toNat, p)] } } : Tile).setCtx a.side
      ((s.notesPhase a w p).ctx a) := by
  have hfrom : (s.decoded a w).fromStart a (s.ctx a).tc.toNat = s.fromStart a (s.ctx a).tc.toNat :=
    (s.onward_decoded a w).fromStart _
  rw [← s.router_decoded a w]
  refine (State.onlyCtx_onCtx _ a _).2.trans (congrArg (fun x : Tile => x.setCtx a.side ((s.notesPhase a w p).ctx a)) ?_)
  rw [State.tile_onTile_same, hfrom]
  rfl

/-! ### The binding at its beat (R259) -/

theorem State.elsewhere_bind (s : State) (n p : Nat) : s.elsewhere (s.bind n p) n := by
  rw [State.bind_eq]
  exact s.elsewhere_onTile n _

theorem State.side_bind (s : State) (n p : Nat) : ((s.bind n p).tile n).side = (s.tile n).side := by
  have h := (State.onlyCtx_onCtx s (siteOf n false) (fun c => { c with
    census := (s.planned n p).foldl (fun m e => m.ins e.slot (s.boundSlot n e)) [] })).2
  rw [State.bind_eq]
  exact (congrArg Tile.side h).trans rfl

/-- The state in which the census of the primary has been bound anew at a beat. -/
def State.bindsAt (s : State) (a : Site) (b p : Nat) : State :=
  ((s.onCtx a (fun c => { c with bc := BitVec.ofNat 64 b, binds := [] })).flush a.tile).bind a.tile p

section
variable {s t : State} {a : Site} {c : Ctx} {pc : BitVec 14} {b p : Nat} (hV : s.Onward t a c) (ho : s.Open a) (hs : a.side = false)
  (hr : c.running = true) (hb : c.binds = [(pc, b, p)]) (hi : ({ c with binds := [] } : Ctx).idle) (htc : b < c.tc.toNat)
  (hn : s.before b = true) (hp : p < max 1 (t.tile a.tile).router.phases.length)
include hV ho hs hr hb hi htc hn hp

/-- Once decode has passed the beat of a PHASE, the one turn of the context is the binding. -/
theorem State.Onward.nextTurn_bind : t.nextTurn (siteOf a.tile a.side) = some (t.bindsAt a b p) := by
  have hc : t.ctx (siteOf a.tile a.side) = c := hV.ctx
  have hreach : t.reached (siteOf a.tile a.side) (2 * b + 1) = true := by
    have hfrom : t.fromStart (siteOf a.tile a.side) b = b := by
      unfold State.fromStart
      rw [show (siteOf a.tile a.side).side = false from hs]
      rfl
    rw [State.reached_odd, hc, hfrom, hV.before, hn]
    simp [htc]
  have hone : (t.atBeat (siteOf a.tile a.side) b).onCtx (siteOf a.tile a.side) (fun c => { c with binds := c.binds.drop 1 }) =
      t.onCtx a (fun c => { c with bc := BitVec.ofNat 64 b, binds := [] }) := by
    refine (State.onCtx_onCtx t a (fun c => { c with bc := BitVec.ofNat 64 b }) (fun c => { c with binds := c.binds.drop 1 })
      (by rw [hV.ctx]; exact hr)).trans (State.onCtx_congr t a _ _ ?_)
    rw [hV.ctx, hb]
    rfl
  have hrouter : ((t.onCtx a (fun c => { c with bc := BitVec.ofNat 64 b, binds := [] })).tile a.tile).router = (t.tile a.tile).router := by
    rw [State.onCtx, State.tile_onTile_same]
    cases a.side <;> rfl
  have hdiv : (2 * b + 1) / 2 = b := by omega
  rw [State.nextTurn_single t (siteOf a.tile a.side) (2 * b + 1, .bind pc p) (by rw [hc]; exact hi.2.2.1)
    (by rw [hc]; exact c.turns_bind hi hb) ((hV.open ho).issues (hV.ctx ▸ hr) (hV.ctx ▸ hi.2.2.1)) hreach]
  unfold State.turn
  dsimp only
  rw [hdiv, hone, show (siteOf a.tile a.side).side = false from hs, if_neg (by decide)]
  unfold State.rebind
  rw [if_neg (by rw [show (siteOf a.tile a.side).tile = a.tile from rfl, hrouter]; exact Nat.not_le.mpr hp)]
  rfl

end

theorem State.flushed_bindsAt (s : State) (a : Site) (b : Nat) :
    (s.onCtx a (fun c => { c with bc := BitVec.ofNat 64 b, binds := [] })).Flushed
      ((s.onCtx a (fun c => { c with bc := BitVec.ofNat 64 b, binds := [] })).flush a.tile) a.tile := State.flushed_flush _ a.tile

theorem State.elsewhere_bindsAt (s : State) (a : Site) (b p : Nat) : s.elsewhere (s.bindsAt a b p) a.tile :=
  State.elsewhere_trans (State.elsewhere_trans (State.onlyCtx_onCtx s a _).1 (s.flushed_bindsAt a b).rest)
    (State.elsewhere_bind _ a.tile p)

section
variable {s : State} {a : Site} (hs : a.side = false) (b p : Nat)
include hs

theorem State.ctx_bindsAt : (s.bindsAt a b p).ctx a =
    { s.ctx a with bc := BitVec.ofNat 64 b, binds := [], census := ((s.bindsAt a b p).ctx a).census } := by
  have hsite : ∀ u : State, u.ctx a = u.ctx (siteOf a.tile false) := fun u => by unfold State.ctx; rw [hs]; rfl
  have hfl : ((s.onCtx a (fun c => { c with bc := BitVec.ofNat 64 b, binds := [] })).flush a.tile).ctx (siteOf a.tile false) =
      { s.ctx a with bc := BitVec.ofNat 64 b, binds := [] } := by
    rw [← hsite]
    exact ((s.flushed_bindsAt a b).ctx a.side).trans (State.ctx_onCtx_same s a _)
  rw [hsite, State.bindsAt, State.bind_eq, State.ctx_onCtx_same, hfl]

theorem State.side_bindsAt : ((s.bindsAt a b p).tile a.tile).side = (s.tile a.tile).side := by
  rw [State.bindsAt, State.side_bind]
  refine ((s.flushed_bindsAt a b).ctx true).trans ?_
  rw [State.onCtx, State.tile_onTile_same, hs]
  rfl

end


/-! ### O5 -/

section
variable {s : State} {a : Site} {f : SFmt} {pc : BitVec 14} {b p : Nat} (h : s.canDecode a (wordOf 7 6 (sLow f)) []) (hs : a.side = false)
  (hb : (s.ctx a).binds = [(pc, b, p)]) (hi : ({ s.ctx a with binds := [] } : Ctx).idle) (hside : (s.tile a.tile).side.idle)
  (hf : s.fab.freezing = false) (hst : s.fab.started = true) (hcorr : (s.tile a.tile).corr.length ≤ 1)
  (htc : b < ((s.ctx a).tc + f.imm.setWidth 64).toNat) (hn : s.before b = true) (hp : p < max 1 (s.tile a.tile).router.phases.length)
include h hs hb hi hside hf hst hcorr htc hn hp

/-- A WAITB that passes the beat of a PHASE binds the census, and does nothing more (R147, R259). -/
theorem waitb_binds : exec (.waitb a f) s = .next ((s.waited a f).bindsAt a b p) := by
  have hV : s.Onward (s.waited a f) a { (s.ctx a).fold (wordOf 7 6 (sLow f)) with tc := (s.ctx a).tc + f.imm.setWidth 64 } :=
    s.waited_eq a f ▸ State.onward_onCtx (s.onward_decoded a _) (fun c => { c with tc := (s.ctx a).tc + f.imm.setWidth 64 })
  have hopen := State.canDecode_open h hst hcorr
  have hturn := hV.nextTurn_bind hopen hs (State.canDecode_running h).1 hb hi htc hn (s.router_waited a f ▸ hp)
  have hTside : (((s.waited a f).bindsAt a b p).tile a.tile).side.idle := by
    rw [State.side_bindsAt hs, hV.side hs]
    exact hside
  have hTprim : (((s.waited a f).bindsAt a b p).tile a.tile).prim.idle := by
    have hc := State.ctx_bindsAt (s := s.waited a f) hs b p
    rw [hV.ctx] at hc
    have hprim : ((s.waited a f).bindsAt a b p).ctx a = (((s.waited a f).bindsAt a b p).tile a.tile).prim := by
      unfold State.ctx
      rw [hs]
      rfl
    rw [← hprim, hc]
    exact hi
  have hfree : ((s.waited a f).bindsAt a b p).fab.freezing = false := by
    rw [State.elsewhere_fab (State.elsewhere_bindsAt _ a b p), hV.freezing]
    exact hf
  rw [exec_waitb_advance h]
  refine congrArg Host.Outcome.next (State.advance_one _ _ a.tile false ?_ (State.nextTurn_idle _ _ ?_) ?_ ?_
    (State.rests_of_calm _ _ ⟨hTprim, hTside, hfree⟩))
  · rw [hs] at hturn
    exact hturn
  · show ((s.waited a f).tile a.tile).side.idle
    rw [hV.side hs]
    exact hside
  · rw [hV.prim hs]
    exact hi.2.2.2.2.2.2
  · rw [hV.side hs]
    exact hside.2.2.2.2.2.2

end

/-- Settles O5: a marker acts on the state after its decode at its one turn; a WOPEN leaves one more turn, that of the side MOWN which waits for it. -/
theorem scheduleTiming : Obligations.ScheduleTiming := by
  unfold Obligations.ScheduleTiming
  refine ⟨fun s a f => ⟨fun h => ?_, fun h => ?_, fun q g h hs hp hf hst hcorr hr hi hq hm hb hn hown => ?_, fun h hc hp => ?_⟩,
    fun s a f pc b p h hs hb hi hside hf hst hcorr htc hn hp => ?_, fun s a f h => ⟨fun hs hb => ⟨⟨_, rfl⟩, fun ho => ?_⟩, ?_, ?_, ?_⟩⟩
  · refine ⟨s.opensWindow a _ true, congrArg Host.Outcome.next ?_, State.onlyCtx_onCtx _ a _, ?_⟩
    · rw [s.marker_run a 8 f .wopen h.1]
      exact (TOp.opens_wopen a).advance h
    · rw [State.opensWindow, State.ctx_onCtx_same, State.ctx_decoded]
      rfl
  · refine ⟨s.opensWindow a _ false, congrArg Host.Outcome.next ?_, State.onlyCtx_onCtx _ a _, ?_⟩
    · rw [s.marker_run a 9 f .wclose h.1]
      exact (TOp.opens_wclose a).advance h
    · rw [State.opensWindow, State.ctx_onCtx_same, State.ctx_decoded]
      rfl
  · obtain ⟨t, hadv, hrest⟩ := (TOp.opens_wopen a).advance_mown h hs hp hf hst hcorr hr hq hi hm hb hn hown
    refine ⟨t, congrArg Host.Outcome.next ?_, hrest⟩
    rw [s.marker_run a 8 f .wopen h]
    exact hadv
  · refine ⟨_, phase_notes h hc hp, s.elsewhere_notesPhase a _ _, State.ctx_notesPhase ?_ _, s.tile_notesPhase a _ _⟩
    exact match hs : a.side with
      | false => by unfold State.ctx; rw [hs]; exact hc.1.2.2.2.2.2.1
      | true => by unfold State.ctx; rw [hs]; exact hc.2.1.2.2.2.2.2.1
  · have hc := State.ctx_bindsAt (s := s.waited a f) hs b p
    rw [s.ctx_waited a f] at hc
    have hnum : (((s.waited a f).onCtx a (fun c => { c with bc := BitVec.ofNat 64 b, binds := [] })).flush a.tile).num = s.num := by
      rw [((s.waited a f).flushed_bindsAt a b).rest.1, (s.elsewhere_waited a f).1]
      rfl
    have hsite : ((s.waited a f).bindsAt a b p).ctx a = ((s.waited a f).bindsAt a b p).ctx (siteOf a.tile false) := by
      unfold State.ctx
      rw [hs]
      rfl
    refine ⟨_, waitb_binds h hs hb hi hside hf hst hcorr htc hn hp, ?_, ?_, ?_, fun sl c hsl => ?_, fun e he ht hph => ?_, ?_, ?_, ?_, fun m hm => ?_⟩
    · rw [hc]
    · rw [hc]
    · rw [hc]
    · rw [hsite] at hsl
      have hbound := State.bind_census hsl
      rw [hnum] at hbound
      exact hbound
    · rw [hsite]
      exact State.bind_lists (hnum ▸ he) ht hph
    · rw [hc]
      rfl
    · rw [hc]
      rfl
    · rw [hc]
      rfl
    · exact (State.elsewhere_trans (s.elsewhere_waited a f) (State.elsewhere_bindsAt _ a b p)).2 m hm
  · obtain ⟨t, hrun, hfl⟩ := endOp_primary h hs hb ho
    have hctx : t.ctx a = (s.ends a (wordOf 7 0xB (sLow f))).ctx a := hfl.ctx a.side
    refine ⟨t, hrun, hfl.rest, hctx, ?_, ?_⟩
    · rw [hctx, State.ends, State.ctx_onCtx_same]
    · rw [hctx, State.ends, State.ctx_onCtx_same]
  · exact fun hs hb => endOp_late h hs hb
  · exact fun hs ho => endOp_side h hs ho
  · exact fun hs ho d hd => endOp_last h hs ho hd

end Sys2Proof.Machine

/-! SUPPORT. Weight buffers and fills (R74 to R76): what a fill writes, from SRAM lines and from the flits of FIL0 and FIL1. -/

namespace Sys2Proof.Machine

/-! ### The lanes of a mask -/

theorem bitOf_toNat_eq {w : Nat} (v : BitVec w) (i : Nat) : bitOf v.toNat i = v.getLsbD i := by
  rw [bitOf, BitVec.getLsbD, Nat.testBit_eq_decide_div_mod_eq]
  exact beq_eq_decide _ _

theorem lanesOf_nodup (m : BitVec 128) : (lanesOf m).Nodup := List.nodup_range.filter _

theorem not_mem_lanesOf {m : BitVec 128} {l : Nat} (h : m.getLsbD l = false) : l ∉ lanesOf m := by
  intro hm
  have hb := (List.mem_filter.mp hm).2
  rw [bitOf_toNat_eq, h] at hb
  exact absurd hb (by decide)

/-! ### The rows that a fill writes (R76) -/

section
variable {ls : List Nat} (val : Nat → Bytes) (m : Map Bytes)

/-- The rows of lanes, one after another. -/
def Map.rows (ls : List Nat) (m : Map Bytes) (k : Nat) : Map Bytes := (List.range k).foldl (fun m i => m.ins (ls.getD i 0) (val i)) m

theorem Map.rows_succ (k : Nat) : Map.rows val ls m (k + 1) = (Map.rows val ls m k).ins (ls.getD k 0) (val k) := by
  unfold Map.rows
  rw [List.range_succ, List.foldl_concat]

theorem Map.get_rows (hnd : ls.Nodup) (k : Nat) (hk : k ≤ ls.length) : ∀ i, i < k → (Map.rows val ls m k).get (ls.getD i 0) [] = val i := by
  induction k with
  | zero => exact fun i hi => absurd hi (Nat.not_lt_zero i)
  | succ k ih =>
    intro i hi
    rw [Map.rows_succ]
    by_cases he : i = k
    · rw [he, Map.get_ins_same]
    · rw [Map.get_ins_other _ _ _ _ _ (fun hc => he ?_)]
      · exact ih (by omega) i (by omega)
      · rw [List.getD_eq_getElem _ _ (by omega), List.getD_eq_getElem _ _ (by omega)] at hc
        exact (List.Nodup.getElem_inj_iff hnd).mp hc

theorem Map.get_rows_other (k : Nat) (hk : k ≤ ls.length) {l : Nat} (hl : l ∉ ls) : (Map.rows val ls m k).get l [] = m.get l [] := by
  induction k with
  | zero => rfl
  | succ k ih =>
    rw [Map.rows_succ, Map.get_ins_other _ _ _ _ _ (fun hc => hl ?_), ih (by omega)]
    rw [hc, List.getD_eq_getElem _ _ (by omega)]
    exact List.getElem_mem _

end

/-- A buffer that a fill has written: its format, its lane mask and the rows of its lanes; its owner and the other rows stay. -/
structure WBuf.Filled (w old : WBuf) (f : BitVec 5) (m : BitVec 128) (data : Bytes) : Prop where
  fmt : w.fmt = some f
  mask : w.mask = m
  side : w.side = old.side
  rows : w.rows = Map.rows (fun i => slice data (rowBytes f * i) (rowBytes f)) (lanesOf m) old.rows (lanesOf m).length

theorem fillBuf_filled (w : WBuf) (fmt : BitVec 5) (mask : BitVec 128) (data : Bytes) (sent : Option (List W32 × List W16)) :
    (fillBuf w fmt mask data sent).Filled w fmt mask data := ⟨rfl, rfl, rfl, rfl⟩

/-- A stand-in changes the checker rows alone. -/
theorem WBuf.Filled.standIn {w old : WBuf} {fmt : BitVec 5} {mask : BitVec 128} {data : Bytes} (h : w.Filled old fmt mask data) (l : Nat) :
    (w.standIn l).Filled old fmt mask data := ⟨h.fmt, h.mask, h.side, h.rows⟩

theorem WBuf.Filled.row {w old : WBuf} {fmt : BitVec 5} {mask : BitVec 128} {data : Bytes} (h : w.Filled old fmt mask data) {i : Nat}
    (hi : i < (lanesOf mask).length) : w.rows.get ((lanesOf mask).getD i 0) [] = slice data (rowBytes fmt * i) (rowBytes fmt) := by
  rw [h.rows]
  exact Map.get_rows _ _ (lanesOf_nodup mask) _ (le_refl _) i hi

theorem WBuf.Filled.masked {w old : WBuf} {fmt : BitVec 5} {mask : BitVec 128} {data : Bytes} (h : w.Filled old fmt mask data) {l : Nat}
    (hl : mask.getLsbD l = false) : w.rows.get l [] = old.rows.get l [] := by
  rw [h.rows]
  exact Map.get_rows_other _ _ _ (le_refl _) (not_mem_lanesOf hl)

/-! ### The parts of a tile that a buffer is not -/

@[simp] theorem Tile.sram_setBuf (x : Tile) (b : BitVec 1) (v : WBuf) : (x.setBuf b v).sram = x.sram := by unfold Tile.setBuf; split <;> rfl
@[simp] theorem Tile.acc_setBuf (x : Tile) (b : BitVec 1) (v : WBuf) : (x.setBuf b v).acc = x.acc := by unfold Tile.setBuf; split <;> rfl
@[simp] theorem Tile.router_setBuf (x : Tile) (b : BitVec 1) (v : WBuf) : (x.setBuf b v).router = x.router := by unfold Tile.setBuf; split <;> rfl

/-! ### A fill that ends (R76) -/

/-- A tile in which the fill of a context has ended: its buffer is written, and the context's fill is done. -/
structure Tile.Fills (y x : Tile) (side : Bool) (h : FillHeld) (data : Bytes) : Prop where
  ctx : y.ctx side = { x.ctx side with fill := none }
  other : y.ctx (!side) = x.ctx (!side)
  buf : (y.buf h.f.buf).Filled (x.buf h.f.buf) h.f.fmt h.mask data
  spare : y.buf (~~~ h.f.buf) = x.buf (~~~ h.f.buf)
  sram : y.sram = x.sram
  acc : y.acc = x.acc

theorem Tile.fills_setBuf (x : Tile) (side : Bool) (h : FillHeld) (data : Bytes) {w : WBuf}
    (hw : w.Filled (x.buf h.f.buf) h.f.fmt h.mask data) : ((x.setCtx side { x.ctx side with fill := none }).setBuf h.f.buf w).Fills x side h data := by
  refine ⟨?_, ?_, ?_, ?_, ?_, ?_⟩
  · rw [Tile.setBuf_ctx, Tile.ctx_setCtx_same]
  · rw [Tile.setBuf_ctx, Tile.ctx_setCtx_other _ _ _ _ (by cases side <;> decide)]
  · rw [Tile.buf_setBuf_same]
    exact hw
  · rw [Tile.buf_setBuf_other, Tile.buf_setCtx]
  · rw [Tile.sram_setBuf, Tile.setCtx_sram]
  · rw [Tile.acc_setBuf, Tile.setCtx_acc]

/-- No stand-in lane is filled. -/
def Tile.copiesNone (x : Tile) (mask : BitVec 128) : Prop := ∀ l, x.standin = some l → mask.getLsbD l = false

/-- A fill whose data are there writes its buffer and is done, where it holds no copy of a stand-in's lane. -/
theorem State.fillPut_fills (s : State) (a : Site) (h : FillHeld) (data : Bytes) (sent : Option (List W32 × List W16))
    (hc : (s.tile a.tile).copiesNone h.mask) :
    s.elsewhere (s.fillPut a h data sent) a.tile ∧ ((s.fillPut a h data sent).tile a.tile).Fills (s.tile a.tile) a.side h data ∧
      ((s.fillPut a h data sent).tile a.tile).router = (s.tile a.tile).router := by
  have hput : ∀ w : WBuf, w.Filled ((s.tile a.tile).buf h.f.buf) h.f.fmt h.mask data →
      s.elsewhere ((s.onCtx a (fun c => { c with fill := none })).onTile a.tile (fun y => y.setBuf h.f.buf w)) a.tile ∧
        (((s.onCtx a (fun c => { c with fill := none })).onTile a.tile (fun y => y.setBuf h.f.buf w)).tile a.tile).Fills
          (s.tile a.tile) a.side h data ∧
        (((s.onCtx a (fun c => { c with fill := none })).onTile a.tile (fun y => y.setBuf h.f.buf w)).tile a.tile).router =
          (s.tile a.tile).router := by
    intro w hw
    refine ⟨State.elsewhere_trans (State.onlyCtx_onCtx s a _).1 (State.elsewhere_onTile _ a.tile _), ?_⟩
    rw [State.tile_onTile_same, State.onCtx, State.tile_onTile_same]
    exact ⟨Tile.fills_setBuf _ a.side h data hw, by rw [Tile.router_setBuf, Tile.setCtx_router]⟩
  have hfill := fillBuf_filled ((s.tile a.tile).buf h.f.buf) h.f.fmt h.mask data sent
  unfold State.fillPut
  dsimp only
  split
  · exact hput _ hfill
  next l hst =>
    rw [hc l hst, Bool.false_and, if_neg (by decide)]
    exact hput _ (hfill.standIn l)

/-- What the context's fill was before does not matter. -/
theorem Tile.Fills.of_setCtx {y x : Tile} {side : Bool} {h : FillHeld} {data : Bytes} {o : Option FillHeld}
    (hy : y.Fills (x.setCtx side { x.ctx side with fill := o }) side h data) : y.Fills x side h data := by
  obtain ⟨hctx, hother, hbuf, hspare, hsram, hacc⟩ := hy
  rw [Tile.ctx_setCtx_same] at hctx
  rw [Tile.ctx_setCtx_other _ _ _ _ (by cases side <;> decide)] at hother
  rw [Tile.buf_setCtx] at hbuf hspare
  rw [Tile.setCtx_sram] at hsram
  rw [Tile.setCtx_acc] at hacc
  exact ⟨hctx, hother, hbuf, hspare, hsram, hacc⟩

/-- Nor do the flags and the router. -/
theorem Tile.Fills.of_marks {y x : Tile} {side : Bool} {h : FillHeld} {data : Bytes} {st : W32} {R : Router}
    (hy : y.Fills { x with stat := st, router := R } side h data) : y.Fills x side h data :=
  ⟨hy.ctx, hy.other, hy.buf, hy.spare, hy.sram, hy.acc⟩

/-! ### The turn of a fill (R74, R76) -/

/-- A context whose fill has its buffer may issue. -/
theorem State.Open.issues_go {s : State} {a : Site} (h : s.Open a) (hr : (s.ctx a).running = true) {r : FillHeld} (hf : (s.ctx a).fill = some r)
    (hg : r.go = true) : s.issues (siteOf a.tile a.side) = true := by
  unfold State.issues
  rw [State.ctx_siteOf, h.started, hr, hf]
  simp [siteOf, h.field, h.stalled, h.corr, hg]

theorem State.nextTurn_fill {s t : State} {a : Site} (hi : s.issues a = true) (ht : s.fillOn a = some t) : s.nextTurn a = some t := by
  unfold State.nextTurn
  rw [hi, ht]
  rfl

section
variable {s : State} {a : Site} {h : FillHeld} (hh : (s.ctx a).fill = some h) (hg : h.go = true) (hc : (s.tile a.tile).copiesNone h.mask)
include hh hg hc

/-- A fill from SRAM is done in one turn. -/
theorem State.fillOn_sram (hsrc : h.f.src = 0) (hecc : h.ecc ≠ .double)
    (hue : (s.tile a.tile).ueIn (64 * h.line) ((lanesOf h.mask).length * rowBytes h.f.fmt) = none) :
    ∃ t, s.fillOn a = some t ∧ s.elsewhere t a.tile ∧ (t.tile a.tile).Fills (s.tile a.tile) a.side h
      ((s.tile a.tile).sram.bytes (64 * h.line) ((lanesOf h.mask).length * rowBytes h.f.fmt)) := by
  obtain ⟨st, hst⟩ := s.tile_eccCe a.tile h.ecc
  have hput := (s.eccCe a.tile h.ecc).fillPut_fills a h
    ((s.tile a.tile).sram.bytes (64 * h.line) ((lanesOf h.mask).length * rowBytes h.f.fmt)) none (hst ▸ hc)
  refine ⟨_, ?_, State.elsewhere_trans (s.elsewhere_eccCe _ _) hput.1, ?_⟩
  · unfold State.fillOn
    rw [hh]
    dsimp only
    rw [hg, if_neg (by decide), if_pos hsrc, State.readBad_none hue hecc]
  · have hf := hput.2.1
    rw [hst] at hf
    exact Tile.Fills.of_marks (R := (s.tile a.tile).router) hf

end

/-! ### Flits in turn from FIL0 and FIL1 (R75, R76) -/

section
variable (p q : List Flit)

/-- The flit that a fill takes as its `i`-th. -/
def fillFlit (i : Nat) : Flit := (if i % 2 = 0 then p else q).getD (i / 2) ⟨0, false, 0⟩

theorem drop_of_even {g : Nat} (hg : g % 2 = 0) (h : (g + 1) / 2 < p.length) : p.drop ((g + 1) / 2) = fillFlit p q g :: p.drop ((g + 2) / 2) := by
  rw [List.drop_eq_getElem_cons h]
  have h1 : (g + 1) / 2 = g / 2 := by omega
  have h2 : (g + 2) / 2 = (g + 1) / 2 + 1 := by omega
  rw [h2, fillFlit, if_pos hg, List.getD_eq_getElem _ _ (by omega)]
  simp only [h1]

theorem drop_of_odd {g : Nat} (hg : ¬g % 2 = 0) (h : g / 2 < q.length) : q.drop (g / 2) = fillFlit p q g :: q.drop ((g + 1) / 2) := by
  have h2 : (g + 1) / 2 = g / 2 + 1 := by omega
  rw [List.drop_eq_getElem_cons h, h2, fillFlit, if_neg hg, List.getD_eq_getElem _ _ h]

/-- A fill that finds its flits takes them, by turns, the first from FIL0. -/
theorem takeFill_all {k : Nat} (hp : (k + 1) / 2 ≤ p.length) (hq : k / 2 ≤ q.length) : ∀ n g, g ≤ k → k < g + n →
    takeFill k (p.drop ((g + 1) / 2)) (q.drop (g / 2)) ((List.range g).map (fillFlit p q)) n =
      (p.drop ((k + 1) / 2), q.drop (k / 2), (List.range k).map (fillFlit p q)) := by
  intro n
  induction n with
  | zero => exact fun g hg hk => absurd hk (by omega)
  | succ n ih =>
    intro g hg hk
    have hlen : ((List.range g).map (fillFlit p q)).length = g := by rw [List.length_map, List.length_range]
    have hnext : (List.range g).map (fillFlit p q) ++ [fillFlit p q g] = (List.range (g + 1)).map (fillFlit p q) := by
      rw [List.range_succ, List.map_append]
      rfl
    unfold takeFill
    rw [hlen]
    by_cases he : k ≤ g
    · rw [if_pos he, show g = k by omega]
    · rw [if_neg he]
      by_cases hpar : g % 2 = 0
      · rw [if_pos hpar, drop_of_even p q hpar (by omega)]
        dsimp only
        rw [hnext, show g / 2 = (g + 1) / 2 by omega]
        exact ih (g + 1) (by omega) (by omega)
      · rw [if_neg hpar, drop_of_odd p q hpar (by omega)]
        dsimp only
        rw [hnext, show (g + 1) / 2 = (g + 1 + 1) / 2 by omega]
        rw [show q.drop ((g + 1 + 1) / 2) = q.drop ((g + 1) / 2) by rw [show (g + 1 + 1) / 2 = (g + 1) / 2 by omega]]
        exact ih (g + 1) (by omega) (by omega)

end

/-- The flits that a fill of a mask and a format takes. -/
def FillHeld.flits (h : FillHeld) : Nat := fillFlits ((lanesOf h.mask).length * rowBytes h.f.fmt) (chunkOf h.f.fmt)

/-- The lanes of FIL0 and FIL1 after a fill. -/
def Router.fill (r : Router) (k : Nat) : Router :=
  (r.setLane (laneOut 1 false) ((r.lane (laneOut 1 false)).drop ((k + 1) / 2))).setLane (laneOut 2 false) ((r.lane (laneOut 2 false)).drop (k / 2))

theorem Router.lane_fill (r : Router) (k : Nat) : (r.fill k).lane (laneOut 1 false) = (r.lane (laneOut 1 false)).drop ((k + 1) / 2) ∧
    (r.fill k).lane (laneOut 2 false) = (r.lane (laneOut 2 false)).drop (k / 2) := by
  refine ⟨?_, Map.get_put_same _ _ _ _⟩
  exact (Map.get_put_other _ _ _ _ _ _ (by decide)).trans (Map.get_put_same _ _ _ _)

/-- The state in which a fill has taken its flits. -/
def State.takes (s : State) (a : Site) (h : FillHeld) (fl : List Flit) : State :=
  (s.onTile a.tile (fun y => { y with router := y.router.fill h.flits })).onCtx a (fun c => { c with fill := some { h with got := fl } })

theorem State.tile_takes (s : State) (a : Site) (h : FillHeld) (fl : List Flit) : (s.takes a h fl).tile a.tile =
    ({ s.tile a.tile with router := (s.tile a.tile).router.fill h.flits } : Tile).setCtx a.side { s.ctx a with fill := some { h with got := fl } } := by
  unfold State.takes State.onCtx
  rw [State.tile_onTile_same, State.tile_onTile_same]
  rfl

theorem State.elsewhere_takes (s : State) (a : Site) (h : FillHeld) (fl : List Flit) : s.elsewhere (s.takes a h fl) a.tile :=
  State.elsewhere_trans (s.elsewhere_onTile a.tile _) (State.onlyCtx_onCtx _ a _).1

/-- The checker rows that the dealer sends behind the lane rows (R75, R95). -/
def FillHeld.sent (h : FillHeld) (data : Bytes) : List W32 × List W16 :=
  ((List.range (chunkOf h.f.fmt)).map (fun i => BitVec.ofNat 32 (field data ((lanesOf h.mask).length * rowBytes h.f.fmt + 4 * i) 4)),
    (List.range (chunkOf h.f.fmt)).map (fun i =>
      BitVec.ofNat 16 (field data ((lanesOf h.mask).length * rowBytes h.f.fmt + 4 * chunkOf h.f.fmt + 2 * i) 2)))

section
variable {s : State} {a : Site} {h : FillHeld} (hh : (s.ctx a).fill = some h) (hg : h.go = true) (hsrc : h.f.src ≠ 0) (hgot : h.got = [])
include hh hg hsrc hgot

/-- What a fill from the mesh does with the flits that it takes. -/
theorem State.fillOn_took {fl : List Flit}
    (ht : takeFill h.flits ((s.tile a.tile).router.lane (laneOut 1 false)) ((s.tile a.tile).router.lane (laneOut 2 false)) [] (h.flits + 1) =
      (((s.tile a.tile).router.lane (laneOut 1 false)).drop ((h.flits + 1) / 2), ((s.tile a.tile).router.lane (laneOut 2 false)).drop (h.flits / 2), fl))
    (hlen : fl.length = h.flits) (hpois : fl.any (·.poison) = false) :
    s.fillOn a = some ((s.takes a h fl).fillPut a h (fl.flatMap flitBytes) (some (h.sent (fl.flatMap flitBytes)))) := by
  unfold FillHeld.flits at ht hlen
  unfold State.fillOn
  rw [hh]
  dsimp only
  rw [if_neg (by rw [hg]; decide), if_neg hsrc, hgot, ht]
  dsimp only
  rw [if_neg (by omega), if_neg (by omega), if_neg (by rw [hpois]; decide)]
  rfl

/-- A fill from the mesh whose flits are there is done in one turn. -/
theorem State.fillOn_mesh (hc : (s.tile a.tile).copiesNone h.mask)
    (hp : (h.flits + 1) / 2 ≤ ((s.tile a.tile).router.lane (laneOut 1 false)).length)
    (hq : h.flits / 2 ≤ ((s.tile a.tile).router.lane (laneOut 2 false)).length) {fl : List Flit}
    (hfl : fl = (List.range h.flits).map (fillFlit ((s.tile a.tile).router.lane (laneOut 1 false)) ((s.tile a.tile).router.lane (laneOut 2 false))))
    (hpois : fl.any (·.poison) = false) :
    ∃ t, s.fillOn a = some t ∧ s.elsewhere t a.tile ∧
      (t.tile a.tile).Fills (s.tile a.tile) a.side h (fl.flatMap flitBytes) ∧ (t.tile a.tile).router = (s.tile a.tile).router.fill h.flits := by
  have htake := takeFill_all _ _ hp hq (h.flits + 1) 0 (Nat.zero_le _) (by omega)
  have hcopies : ((s.takes a h fl).tile a.tile).copiesNone h.mask := by
    intro l hl
    rw [State.tile_takes] at hl
    exact hc l (by rw [← hl]; cases a.side <;> rfl)
  obtain ⟨helse, hfills, hrouter⟩ := (s.takes a h fl).fillPut_fills a h (fl.flatMap flitBytes) (some (h.sent (fl.flatMap flitBytes))) hcopies
  rw [State.tile_takes] at hfills hrouter
  rw [Tile.setCtx_router] at hrouter
  exact ⟨_, State.fillOn_took hh hg hsrc hgot (hfl ▸ htake) (by rw [hfl, List.length_map, List.length_range]) hpois,
    State.elsewhere_trans (s.elsewhere_takes a h fl) helse,
    Tile.Fills.of_marks (st := (s.tile a.tile).stat) (Tile.Fills.of_setCtx hfills), hrouter⟩

/-- A fill from the mesh whose first flit is not there waits. -/
theorem State.fillOn_empty (hp : (s.tile a.tile).router.lane (laneOut 1 false) = []) (hk : 0 < h.flits) : s.fillOn a = none := by
  have htake : takeFill h.flits [] ((s.tile a.tile).router.lane (laneOut 2 false)) [] (h.flits + 1) =
      ([], (s.tile a.tile).router.lane (laneOut 2 false), []) := by
    unfold takeFill
    rw [if_neg (show ¬h.flits ≤ ([] : List Flit).length from Nat.not_le.mpr hk)]
    rfl
  unfold FillHeld.flits at hk htake
  unfold State.fillOn
  rw [hh]
  dsimp only
  rw [hg, if_neg (by decide), if_neg hsrc, hgot, hp, htake]
  exact if_pos ⟨hk, rfl⟩

end

end Sys2Proof.Machine

/-! PROOF. Weight buffers: ownership, fills and release (O10). -/

namespace Sys2Proof.Machine

/-! ### MOWN (R152, R164) -/

theorem State.settles_gives (s : State) (n : Nat) (b : BitVec 1) (d : Bool) : s.Settles (s.gives n b d) n :=
  State.settles_of_ctx n (fun e => by rw [State.gives, State.tile_setTile_same, Tile.setBuf_ctx]) rfl

/-- A timed instruction whose unit holds it at issue waits in its queue, and nothing else changes. -/
theorem State.timed_stays {s : State} {a : Site} {w : W64} {dt : BitVec 8} {op : TOp} {ga gs : BitVec 5} {reads : List (BitVec 5)}
    (h : s.canIssue a w dt reads) (hu : op.unit ≠ 0)
    (hi : (s.issued a w dt).issue (siteOf a.tile a.side)
      ⟨op, (s.ctx a).pc, ((s.ctx a).target dt).toNat, (s.ctx a).gr ga, (s.ctx a).gr gs⟩ = none) :
    (s.timed a w dt op ga gs reads).advance a.tile = s.waits a w dt op ga gs := by
  obtain ⟨hother, hout⟩ := s.waits_other a w dt op ga gs reads h
  have hthis := (s.nextTurn_waits a w dt op ga gs reads h hu).trans hi
  have hrest := State.nextTurn_idle _ (siteOf a.tile (!a.side)) hother
  have hfree : (s.waits a w dt op ga gs).fab.freezing = false :=
    (s.onward_timedTo a w dt (s.field_of_canIssue a _ _ _ h)).freezing.trans h.2.1.2.2
  rw [s.timed_waits a w dt op ga gs reads h.1 (s.canIssue_idle a w dt reads h a.side)]
  refine State.advance_rests _ _ ?_
  cases hs : a.side
  · rw [hs] at hthis hrest
    exact ⟨hthis, hrest, hout false, hout true, hfree⟩
  · rw [hs] at hthis hrest
    exact ⟨hrest, hthis, hout false, hout true, hfree⟩

/-- A timed instruction that is a fault of the sequencer at its issue. -/
theorem State.timed_seqFault {s : State} {a : Site} {w : W64} {dt : BitVec 8} {op : TOp} {ga gs : BitVec 5} {reads : List (BitVec 5)}
    (h : s.canIssue a w dt reads) (hu : op.unit ≠ 0) {fault : Nat}
    (hi : (s.issued a w dt).issue (siteOf a.tile a.side)
      ⟨op, (s.ctx a).pc, ((s.ctx a).target dt).toNat, (s.ctx a).gr ga, (s.ctx a).gr gs⟩ =
        some ((s.issued a w dt).seqFault a.tile a.side fault (s.ctx a).pc)) :
    (s.timed a w dt op ga gs reads).advance a.tile = (s.issued a w dt).seqFault a.tile a.side fault (s.ctx a).pc := by
  have hcalm := s.calm_issued a w dt _ h
  have hother : (((s.issued a w dt).tile a.tile).ctx (!a.side)).idle := by
    cases a.side
    · exact hcalm.2.1
    · exact hcalm.1
  exact s.timed_run _ a w dt op ga gs reads h hu hi (State.rests_of_calm _ _ (State.calm_seqFault _ a.tile a.side fault _ hother hcalm.2.2))

section
variable (u : State) (a : Site) (q : QIns) {g : MOwnF} (hop : q.op = .mown g)
include hop

/-- A side MOWN waits while the primary's window is closed (R152). -/
theorem State.issue_mown_waits (hw : (u.tile a.tile).prim.window = false) (hs : a.side = true) : u.issue a q = none := by
  unfold State.issue
  rw [hop]
  simp [hw, hs]

/-- The primary's MOWN outside its window is the window fault (R152, R164). -/
theorem State.issue_mown_closed (hw : (u.tile a.tile).prim.window = false) (hs : a.side = false) :
    u.issue a q = some (u.seqFault a.tile a.side 3 q.pc) := by
  unfold State.issue State.mown
  rw [hop]
  simp [hw, hs]

/-- A MOWN of a buffer that its context does not own is the ownership fault (R164). -/
theorem State.issue_mown_other (hw : (u.tile a.tile).prim.window = true) (ho : ((u.tile a.tile).buf g.buf).side ≠ a.side) :
    u.issue a q = some (u.seqFault a.tile a.side 2 q.pc) := by
  unfold State.issue State.mown
  rw [hop]
  simp [hw, ho]

end

/-! ### The issue of an MFILL (R74, R152, R163) -/

/-- The lane mask of a fill, in two mask registers. -/
def Ctx.fillMask (c : Ctx) (f : MFillF) : BitVec 128 := c.mask (f.mm.toNat + 1) ++ c.mask f.mm.toNat

theorem Ctx.fillMask_eq (c : Ctx) (f : MFillF) : c.mask (f.mm.toNat + 1) ++ c.mask f.mm.toNat = c.fillMask f := rfl

/-- The beats for which an issued step still names a buffer. -/
def Tile.inUse (x : Tile) (side : Bool) (f : MFillF) (beat : Nat) : Nat := (if f.buf = 0 then x.useA else x.useB) - x.now side beat

/-- The lines of a fill from SRAM. -/
def fillLines (mask : BitVec 128) (f : MFillF) : Nat := ((lanesOf mask).length * rowBytes f.fmt + 63) / 64

section
variable (u : State) (a : Site) (q : QIns) (f : MFillF) (ecc : Ecc) (hop : q.op = .mfill f ecc)
include hop

/-- An MFILL inside the primary's window is the window fault (R152). -/
theorem State.issue_mfill_window (hs : a.side = false) (hw : (u.ctx a).window = true) : u.issue a q = some (u.seqFault a.tile a.side 3 q.pc) := by
  unfold State.issue State.mfill
  rw [hop]
  simp [hw, hs]

section
variable (hw : (!a.side && (u.ctx a).window) = false)
include hw

/-- An MFILL from lines outside its partition is the partition fault (R163). -/
theorem State.issue_mfill_outside (hsrc : f.src = 0) (hl : ¬u.linesOk a.side (q.ga.toNat % 2 ^ 20) (fillLines ((u.ctx a).fillMask f) f) = true) :
    u.issue a q = some (u.seqFault a.tile a.side 4 q.pc) := by
  have hl' : u.linesOk a.side (lineAddr q.ga 0) (fillLines ((u.ctx a).fillMask f) f) = false := Bool.eq_false_iff.mpr hl
  unfold fillLines Ctx.fillMask at hl'
  unfold State.issue State.mfill
  rw [hop]
  simp [hw, hsrc, hl']

/-- Any other MFILL is under way, and goes on at once where no issued step names its buffer (R74). -/
theorem State.issue_mfill (hl : f.src = 0 → u.linesOk a.side (q.ga.toNat % 2 ^ 20) (fillLines ((u.ctx a).fillMask f) f) = true) :
    u.issue a q = some ((u.slipOf a ((u.tile a.tile).inUse a.side f q.beat)).onCtx a (fun c => { c with
      fill := some ⟨f, (u.ctx a).fillMask f, q.ga.toNat % 2 ^ 20, ecc, (u.tile a.tile).inUse a.side f q.beat == 0, []⟩ })) := by
  have hl' : ¬(f.src = 0 ∧ (!u.linesOk a.side (lineAddr q.ga 0) (fillLines ((u.ctx a).fillMask f) f)) = true) := by
    rintro ⟨h0, hno⟩
    rw [show u.linesOk a.side (lineAddr q.ga 0) (fillLines ((u.ctx a).fillMask f) f) = true from hl h0] at hno
    exact absurd hno (by decide)
  unfold fillLines Ctx.fillMask at hl'
  unfold State.issue State.mfill
  rw [hop]
  dsimp only
  rw [hw, if_neg (by decide), if_neg hl']
  rfl

end

end

/-- Slips leave the weight buffers. -/
theorem State.buf_slipOf (u : State) (a : Site) (n : Nat) (hf : tileField a.tile < 48) (b : BitVec 1) :
    ((u.slipOf a n).tile a.tile).buf b = (u.tile a.tile).buf b := by
  unfold State.slipOf
  split
  · rfl
  · rw [(u.slip_frame a.tile n hf).2.1]
    rfl

/-! ### An MFILL that issues (R74 to R76) -/

/-- A fill as the issue of an MFILL sets it up. -/
def State.fillHeld (s : State) (a : Site) (f : MFillF) (ecc : Ecc) (go : Bool) : FillHeld :=
  ⟨f, (s.ctx a).fillMask f, ((s.ctx a).gr f.ga).toNat % 2 ^ 20, ecc, go, []⟩

/-- A fill is under way in a context. -/
def State.fillsFrom (u : State) (a : Site) (r : FillHeld) : State := u.onCtx a (fun c => { c with fill := some r })

theorem State.tile_fillsFrom (u : State) (a : Site) (r : FillHeld) :
    (u.fillsFrom a r).tile a.tile = (u.tile a.tile).setCtx a.side { u.ctx a with fill := some r } := by
  rw [State.fillsFrom, State.onCtx, State.tile_onTile_same, State.ctx]

theorem State.ctx_fillsFrom (u : State) (a : Site) (r : FillHeld) : (u.fillsFrom a r).ctx a = { u.ctx a with fill := some r } :=
  State.ctx_onCtx_same u a _

section
variable {s : State} {a : Site} {f : MFillF} {ecc : Ecc} (h : s.canIssue a (wordOf 1 2 (mfillLow f)) f.dt [f.ga])
  {u : State} (hu : u = s.issued a (wordOf 1 2 (mfillLow f)) f.dt)
include h hu

/-- The fill of an MFILL that finds its buffer free, in the state at its issue. -/
theorem State.onward_fillsFrom (go : Bool) : s.Onward (u.fillsFrom a (s.fillHeld a f ecc go)) a
    { (s.ctx a).fold (wordOf 1 2 (mfillLow f)) with
      tc := (s.ctx a).target f.dt, bc := (s.ctx a).target f.dt, fill := some (s.fillHeld a f ecc go) } := by
  subst hu
  exact State.onward_onCtx (s.onward_issued a _ f.dt (s.field_of_canIssue a _ _ _ h)) (fun c => { c with fill := some (s.fillHeld a f ecc go) })

theorem State.fillMask_issued : (u.ctx a).fillMask f = (s.ctx a).fillMask f := by
  subst hu
  rw [(s.onward_issued a _ f.dt (s.field_of_canIssue a _ _ _ h)).ctx]
  rfl

section
variable (hw : (!a.side && (u.ctx a).window) = false)
  (hl : f.src = 0 → s.linesOk a.side (((s.ctx a).gr f.ga).toNat % 2 ^ 20) (fillLines ((s.ctx a).fillMask f) f) = true)
include hw hl

theorem State.issue_fills {n : Nat} (hn : (u.tile a.tile).inUse a.side f ((s.ctx a).target f.dt).toNat = n) :
    u.issue (siteOf a.tile a.side) ⟨.mfill f ecc, (s.ctx a).pc, ((s.ctx a).target f.dt).toNat, (s.ctx a).gr f.ga, (s.ctx a).gr 0⟩ =
      some ((u.slipOf a n).fillsFrom a (s.fillHeld a f ecc (n == 0))) := by
  subst hu
  have hmask := State.fillMask_issued h rfl
  refine (State.issue_mfill _ (siteOf a.tile a.side) _ f ecc rfl hw ?_).trans ?_
  · intro h0
    rw [State.ctx_siteOf, hmask]
    exact (State.SameHand.linesOk (s.sameHand_issued a _ f.dt) _ _ _).trans (hl h0)
  · rw [State.ctx_siteOf, hmask, ← hn]
    rfl

/-- An MFILL that finds its buffer free. -/
theorem State.issue_fills_free (hn : (u.tile a.tile).inUse a.side f ((s.ctx a).target f.dt).toNat = 0) :
    u.issue (siteOf a.tile a.side) ⟨.mfill f ecc, (s.ctx a).pc, ((s.ctx a).target f.dt).toNat, (s.ctx a).gr f.ga, (s.ctx a).gr 0⟩ =
      some (u.fillsFrom a (s.fillHeld a f ecc true)) := by
  subst hu
  have hrest : (s.issued a (wordOf 1 2 (mfillLow f)) f.dt).atRest a.tile := State.atRest_onTile _ _ _
  rw [State.issue_fills h rfl hw hl hn, State.slipOf_zero hrest]
  rfl

/-- A fill that is done in the turn after its issue. -/
theorem exec_mfill_done (hn : (u.tile a.tile).inUse a.side f ((s.ctx a).target f.dt).toNat = 0) {t : State}
    (ht : (u.fillsFrom a (s.fillHeld a f ecc true)).fillOn a = some t)
    (he : (u.fillsFrom a (s.fillHeld a f ecc true)).elsewhere t a.tile)
    (hc : t.ctx a = { u.ctx a with fill := none })
    (ho : (t.tile a.tile).ctx (!a.side) = (u.tile a.tile).ctx (!a.side)) :
    exec (.mfill a f ecc) s = .next t := by
  subst hu
  have hidle := s.canIssue_idle a _ _ _ h
  have hX := s.onward_issued a (wordOf 1 2 (mfillLow f)) f.dt (s.field_of_canIssue a _ _ _ h)
  have hT := State.onward_fillsFrom (ecc := ecc) h rfl true
  have hissues := (hT.open (State.canIssue_open h)).issues_go (by rw [hT.ctx]; exact s.canIssue_running a _ _ _ h) (by rw [hT.ctx]) rfl
  have hthis : (t.ctx a).idle := by
    rw [hc, hX.ctx]
    have hown : (s.ctx a).idle := hidle a.side
    exact ⟨hown.1, hown.2.1, rfl, hown.2.2.2⟩
  have hother : ((t.tile a.tile).ctx (!a.side)).idle := by rw [ho, hX.other]; exact hidle _
  have hout : ∀ d, ((t.tile a.tile).ctx d).out = [] := by
    intro d
    by_cases hd : d = a.side
    · rw [hd]
      exact Ctx.out_of_idle _ hthis
    · rw [Bool.eq_not.mpr hd]
      exact Ctx.out_of_idle _ hother
  exact congrArg Host.Outcome.next (State.mesh_first h (by simp [TOp.unit]) (State.issue_fills_free h rfl hw hl hn)
    (State.nextTurn_fill hissues ht) (State.nextTurn_idle _ _ hthis) (State.nextTurn_idle _ _ hother) hout
    ((congrArg Fabric.freezing (State.elsewhere_fab he)).trans (hT.freezing.trans h.2.1.2.2)))

/-- A fill that waits after its issue, for its buffer or for its flits. -/
theorem exec_mfill_waits {n : Nat}
    (hn : (u.tile a.tile).inUse a.side f ((s.ctx a).target f.dt).toNat = n)
    (hwait : ((u.slipOf a n).fillsFrom a (s.fillHeld a f ecc (n == 0))).nextTurn (siteOf a.tile a.side) = none) :
    exec (.mfill a f ecc) s = .next ((u.slipOf a n).fillsFrom a (s.fillHeld a f ecc (n == 0))) := by
  subst hu
  have hfield := s.field_of_canIssue a _ _ _ h
  have hX := State.onward_onCtx (State.onward_slipOf (s.onward_issued a (wordOf 1 2 (mfillLow f)) f.dt hfield) hfield n)
    (fun c => { c with fill := some (s.fillHeld a f ecc (n == 0)) })
  have hidle := s.canIssue_idle a _ _ _ h
  obtain ⟨hother, hout⟩ := hX.still hidle (Ctx.out_of_idle (s.ctx a) (hidle a.side))
  exact congrArg Host.Outcome.next (State.mesh_waits h (by simp [TOp.unit]) (State.issue_fills h rfl hw hl hn) hwait
    (State.nextTurn_idle _ _ hother) hout (hX.freezing.trans h.2.1.2.2))

end

/-- What stands once the fill of an MFILL has ended. -/
theorem State.filled_of_fills {t : State} {data : Bytes} {r : FillHeld}
    (he : u.elsewhere t a.tile)
    (hf : (t.tile a.tile).Fills (u.tile a.tile) a.side r data)
    (hr : r = s.fillHeld a f ecc true) :
    (t.ctx a).fill = none ∧
    ((t.tile a.tile).buf f.buf).fmt = some f.fmt ∧ ((t.tile a.tile).buf f.buf).mask = (s.ctx a).fillMask f ∧
    ((t.tile a.tile).buf f.buf).side = ((u.tile a.tile).buf f.buf).side ∧
    (∀ i, i < (lanesOf ((s.ctx a).fillMask f)).length →
      ((t.tile a.tile).buf f.buf).rows.get ((lanesOf ((s.ctx a).fillMask f)).getD i 0) [] = slice data (rowBytes f.fmt * i) (rowBytes f.fmt)) ∧
    (∀ l, ((s.ctx a).fillMask f).getLsbD l = false → ((t.tile a.tile).buf f.buf).rows.get l [] =
      ((u.tile a.tile).buf f.buf).rows.get l []) ∧
    (t.tile a.tile).buf (~~~ f.buf) = (u.tile a.tile).buf (~~~ f.buf) ∧
    (t.tile a.tile).sram = (u.tile a.tile).sram ∧
    (t.tile a.tile).acc = (u.tile a.tile).acc ∧
    (t.ctx a).v = (s.ctx a).v ∧ (t.ctx a).g = (s.ctx a).g ∧ ∀ m, m ≠ a.tile → t.tile m = s.tile m := by
  subst hu
  subst hr
  have hfield := s.field_of_canIssue a _ _ _ h
  have hX := s.onward_issued a (wordOf 1 2 (mfillLow f)) f.dt hfield
  obtain ⟨hctx, _, hbuf, hspare, hsram, hacc⟩ := hf
  have hc : t.ctx a = { (s.issued a (wordOf 1 2 (mfillLow f)) f.dt).ctx a with fill := none } := hctx
  rw [hX.ctx] at hc
  refine ⟨by rw [hc], hbuf.fmt, hbuf.mask, hbuf.side, fun i hi => hbuf.row hi, fun l hl => hbuf.masked hl, hspare, hsram, hacc, by rw [hc]; rfl,
    by rw [hc]; rfl, fun m hm => (he.2 m hm).trans ?_⟩
  exact s.issued_other a _ f.dt hfield m hm

end

/-! ### The release of a buffer (R74, R209) -/

/-- A context after the release of a buffer. -/
def Ctx.release (c : Ctx) (b : BitVec 1) : Ctx := { c with fill := c.fill.map (fun h => if h.f.buf = b then { h with go := true } else h) }

theorem Ctx.release_none {c : Ctx} (b : BitVec 1) (h : c.fill = none) : c.release b = c := by
  unfold Ctx.release
  rw [h, Option.map_none, ← h]

theorem Ctx.release_some {c : Ctx} {h : FillHeld} (hh : c.fill = some h) : c.release h.f.buf = { c with fill := some { h with go := true } } := by
  unfold Ctx.release
  rw [hh, Option.map_some, if_pos rfl]

/-- A release changes one context, where the other waits for nothing. -/
theorem Tile.release_eq (x : Tile) (d : Bool) (b : BitVec 1) (h : (x.ctx (!d)).fill = none) :
    ({ x with prim := x.prim.release b, side := x.side.release b } : Tile) = x.setCtx d ((x.ctx d).release b) := by
  cases d
  · exact congrArg (fun c : Ctx => ({ x with prim := x.prim.release b, side := c } : Tile)) (Ctx.release_none b h)
  · exact congrArg (fun c : Ctx => ({ x with prim := c, side := x.side.release b } : Tile)) (Ctx.release_none b h)

section
variable {s : State} {a : Site} {h : FillHeld} (hh : (s.ctx a).fill = some h) (hgo : s.canGo a)
include hh hgo

/-- A release lets the one fill that waits for the buffer go on. -/
theorem exec_release : exec (.fillBufferRelease a.tile h.f.buf) s = .next ((s.fillsFrom a { h with go := true }).advance a.tile) := by
  have hmove := hgo.2.2.2.1
  refine congrArg Host.Outcome.next ((if_pos hmove).trans (congrArg (fun u : State => u.advance a.tile) (congrArg (s.setTile a.tile) ?_)))
  exact (Tile.release_eq (s.tile a.tile) a.side h.f.buf hgo.2.2.2.2.2.2.2.2.1).trans
    (congrArg ((s.tile a.tile).setCtx a.side) (Ctx.release_some hh))

/-- It is done in one turn, if its data are there. -/
theorem exec_release_done (hi : ({ s.ctx a with fill := none } : Ctx).idle) {t : State} (ht : (s.fillsFrom a { h with go := true }).fillOn a = some t)
    (he : (s.fillsFrom a { h with go := true }).elsewhere t a.tile) (hc : t.ctx a = { s.ctx a with fill := none })
    (ho : (t.tile a.tile).ctx (!a.side) = (s.tile a.tile).ctx (!a.side)) : exec (.fillBufferRelease a.tile h.f.buf) s = .next t := by
  have hctx : (s.fillsFrom a { h with go := true }).ctx a = { s.ctx a with fill := some { h with go := true } } := State.ctx_onCtx_same s a _
  have hside : ((s.fillsFrom a { h with go := true }).tile a.tile).ctx (!a.side) = (s.tile a.tile).ctx (!a.side) := by
    rw [State.tile_fillsFrom, Tile.ctx_setCtx_other _ _ _ _ (by cases a.side <;> decide)]
  have hTgo : (s.fillsFrom a { h with go := true }).canGo a := State.canGo_of_elsewhere hgo (State.onlyCtx_onCtx s a _).1 (by rw [hctx])
    (by rw [State.tile_fillsFrom, Tile.setCtx_corr]) hside
  rw [exec_release hh hgo]
  have hopen := State.canGo_open hTgo
  obtain ⟨_, hrun, _, _, hfree, _, hother⟩ := hTgo
  have hissues := hopen.issues_go hrun (by rw [hctx]) rfl
  have hthis : (t.ctx a).idle := by rw [hc]; exact hi
  have htother : ((t.tile a.tile).ctx (!a.side)).idle := by rw [ho, ← hside]; exact hother
  have hout : ∀ u : State, (u.ctx a).out = [] → ((u.tile a.tile).ctx (!a.side)).idle → ∀ d, ((u.tile a.tile).ctx d).out = [] := by
    intro u h1 h2 d
    by_cases hd : d = a.side
    · rw [hd]
      exact h1
    · rw [Bool.eq_not.mpr hd]
      exact Ctx.out_of_idle _ h2
  have hTout := hout _ (by rw [hctx]; exact hi.2.2.2.2.2.2) hother
  have hcalm : t.calm a.tile := by
    have hfab : t.fab.freezing = false := by rw [State.elsewhere_fab he]; exact hfree
    unfold State.ctx at hthis
    cases hs : a.side <;> rw [hs] at hthis htother
    · exact ⟨hthis, htother, hfab⟩
    · exact ⟨htother, hthis, hfab⟩
  exact congrArg Host.Outcome.next (State.advance_one _ t a.tile a.side (State.nextTurn_fill hissues ht) (State.nextTurn_idle _ _ hother)
    (hTout false) (hTout true) (State.rests_of_calm _ _ hcalm))

end

/-! ### O10 -/

/-- The primary's window is closed, or the context is a side context's. -/
theorem State.mfill_open {u : State} (a : Site) (h : a.side = true ∨ (u.tile a.tile).prim.window = false) :
    (!a.side && (u.ctx a).window) = false := by
  unfold State.ctx
  obtain hs | hw := h
  · rw [hs]
    rfl
  · cases hs : a.side
    · exact hw
    · rfl

section
variable (u : State) (a : Site) {r : FillHeld} (hg : r.go = true)

theorem State.fill_fillsFrom (r : FillHeld) : ((u.fillsFrom a r).ctx a).fill = some r := congrArg Ctx.fill (u.ctx_fillsFrom a r)

theorem State.copiesNone_fillsFrom {r : FillHeld} (hc : (u.tile a.tile).copiesNone r.mask) :
    ((u.fillsFrom a r).tile a.tile).copiesNone r.mask := by
  intro l hl
  rw [State.tile_fillsFrom] at hl
  exact hc l (by rw [← hl]; cases a.side <;> rfl)

include hg

/-- A fill from SRAM that is under way ends in one turn. -/
theorem State.fillsFrom_sram (hc : (u.tile a.tile).copiesNone r.mask) (hsrc : r.f.src = 0) (hecc : r.ecc ≠ .double)
    (hue : (u.tile a.tile).ueIn (64 * r.line) ((lanesOf r.mask).length * rowBytes r.f.fmt) = none) :
    ∃ t, (u.fillsFrom a r).fillOn a = some t ∧ (u.fillsFrom a r).elsewhere t a.tile ∧ (t.tile a.tile).Fills (u.tile a.tile) a.side r
      ((u.tile a.tile).sram.bytes (64 * r.line) ((lanesOf r.mask).length * rowBytes r.f.fmt)) := by
  have htile := u.tile_fillsFrom a r
  have hbad : ((u.fillsFrom a r).tile a.tile).sramBad = (u.tile a.tile).sramBad := by rw [htile, Tile.setCtx_sramBad]
  obtain ⟨t, ht, he, hf⟩ := State.fillOn_sram (u.fill_fillsFrom a r) hg (u.copiesNone_fillsFrom a hc) hsrc hecc
    ((Tile.ueIn_congr hbad _ _).trans hue)
  rw [htile, Tile.setCtx_sram] at hf
  exact ⟨t, ht, he, Tile.Fills.of_setCtx hf⟩

variable (hsrc : r.f.src ≠ 0) (hgot : r.got = [])
include hsrc hgot

/-- A fill from the mesh that is under way ends in one turn once its flits are there. -/
theorem State.fillsFrom_mesh (hc : (u.tile a.tile).copiesNone r.mask)
    (hp : (r.flits + 1) / 2 ≤ ((u.tile a.tile).router.lane (laneOut 1 false)).length)
    (hq : r.flits / 2 ≤ ((u.tile a.tile).router.lane (laneOut 2 false)).length) {fl : List Flit}
    (hfl : fl = (List.range r.flits).map (fillFlit ((u.tile a.tile).router.lane (laneOut 1 false)) ((u.tile a.tile).router.lane (laneOut 2 false))))
    (hpois : fl.any (·.poison) = false) :
    ∃ t, (u.fillsFrom a r).fillOn a = some t ∧ (u.fillsFrom a r).elsewhere t a.tile ∧
      (t.tile a.tile).Fills (u.tile a.tile) a.side r (fl.flatMap flitBytes) ∧ (t.tile a.tile).router = (u.tile a.tile).router.fill r.flits := by
  have htile := u.tile_fillsFrom a r
  have hrouter : ((u.fillsFrom a r).tile a.tile).router = (u.tile a.tile).router := by rw [htile, Tile.setCtx_router]
  obtain ⟨t, ht, he, hf, hR⟩ := State.fillOn_mesh (u.fill_fillsFrom a r) hg hsrc hgot (u.copiesNone_fillsFrom a hc) (hrouter ▸ hp) (hrouter ▸ hq)
    (by rw [hrouter]; exact hfl) hpois
  rw [htile] at hf
  exact ⟨t, ht, he, Tile.Fills.of_setCtx hf, hrouter ▸ hR⟩

theorem State.fillsFrom_empty (hp : (u.tile a.tile).router.lane (laneOut 1 false) = []) (hk : 0 < r.flits) : (u.fillsFrom a r).fillOn a = none := by
  refine State.fillOn_empty (u.fill_fillsFrom a r) hg hsrc hgot ?_ hk
  rw [State.tile_fillsFrom, Tile.setCtx_router]
  exact hp

end

/-- A context in which only a fill is under way has no other turn. -/
theorem State.nextTurn_noFill {u : State} {a : Site} (hi : ({ u.ctx a with fill := none } : Ctx).idle) (hf : u.fillOn a = none) : u.nextTurn a = none := by
  have hturns : (u.ctx a).turns = [] := by
    obtain ⟨h1, h2, _, h4, h5, h6, _⟩ := hi
    dsimp only at h1 h2 h4 h5 h6
    simp [Ctx.turns, h1, h2, h4, h5, h6]
  unfold State.nextTurn Ctx.due
  rw [hf, hturns]
  exact ite_self _

/-- A context whose fill waits for its buffer does not issue (R74). -/
theorem State.nextTurn_busy {u : State} {a : Site} {r : FillHeld} (hr : (u.ctx a).fill = some r) (hg : r.go = false) : u.nextTurn a = none := by
  have hno : u.issues a = false := by
    unfold State.issues
    rw [hr]
    simp [hg]
  unfold State.nextTurn
  rw [hno]
  rfl

section
variable {s : State} {a : Site} {f : MFillF} {ecc : Ecc} (h : s.canIssue a (wordOf 1 2 (mfillLow f)) f.dt [f.ga])
  {u : State} (hu : u = s.issued a (wordOf 1 2 (mfillLow f)) f.dt) (hw : (!a.side && (u.ctx a).window) = false)
include h hu hw

/-- A fill from the mesh waits for its first flit. -/
theorem exec_mfill_empty (hsrc : f.src ≠ 0)
    (hn : (u.tile a.tile).inUse a.side f ((s.ctx a).target f.dt).toNat = 0)
    (hp : (u.tile a.tile).router.lane (laneOut 1 false) = []) (hk : 0 < (s.fillHeld a f ecc true).flits) :
    exec (.mfill a f ecc) s = .next (u.fillsFrom a (s.fillHeld a f ecc true)) := by
  subst hu
  have hrest : (s.issued a (wordOf 1 2 (mfillLow f)) f.dt).atRest a.tile := State.atRest_onTile _ _ _
  have hT := State.onward_fillsFrom (ecc := ecc) h rfl true
  have hidle : (s.ctx a).idle := s.canIssue_idle a _ _ _ h a.side
  have hwait : ((s.issued a (wordOf 1 2 (mfillLow f)) f.dt).fillsFrom a (s.fillHeld a f ecc true)).nextTurn (siteOf a.tile a.side) = none := by
    refine State.nextTurn_noFill ?_ (State.fillsFrom_empty _ a rfl hsrc rfl hp hk)
    rw [State.ctx_siteOf, hT.ctx]
    exact ⟨hidle.1, hidle.2.1, rfl, hidle.2.2.2⟩
  have hexec := exec_mfill_waits (ecc := ecc) h rfl hw (fun h0 => absurd h0 hsrc) hn
  rw [State.slipOf_zero hrest] at hexec
  exact hexec hwait

/-- While an issued step names its buffer a fill waits, and the buffer stays (R74). -/
theorem exec_mfill_busy (hl : f.src = 0 → s.linesOk a.side (((s.ctx a).gr f.ga).toNat % 2 ^ 20) (fillLines ((s.ctx a).fillMask f) f) = true)
    (hn : (u.tile a.tile).inUse a.side f ((s.ctx a).target f.dt).toNat ≠ 0) :
    ∃ t, exec (.mfill a f ecc) s = .next t ∧ (t.ctx a).fill = some (s.fillHeld a f ecc false) ∧
      (t.tile a.tile).buf f.buf = (u.tile a.tile).buf f.buf := by
  subst hu
  have hfill := State.fill_fillsFrom ((s.issued a (wordOf 1 2 (mfillLow f)) f.dt).slipOf a
    (((s.issued a (wordOf 1 2 (mfillLow f)) f.dt).tile a.tile).inUse a.side f ((s.ctx a).target f.dt).toNat)) a (s.fillHeld a f ecc false)
  have hgo := beq_false_of_ne hn
  refine ⟨_, exec_mfill_waits h rfl hw hl rfl (State.nextTurn_busy (r := s.fillHeld a f ecc false) ?_ rfl), ?_, ?_⟩
  · rw [hgo]
    exact hfill
  · rw [hgo]
    exact hfill
  · rw [State.tile_fillsFrom, Tile.buf_setCtx]
    exact State.buf_slipOf _ a _ (s.field_of_canIssue a _ _ _ h) _

end

/-- Settles O10: MOWN is its issue; a fill is done in the one turn after its issue or after the release, or has no turn to take. -/
theorem matrixBuffers : Obligations.MatrixBuffers := by
  unfold Obligations.MatrixBuffers
  refine ⟨fun s a f h => ⟨fun hw ho => ?_, fun hw hs => ?_, fun hw hs => ?_, fun hw ho => ?_⟩,
    fun s a f ecc h hecc => ⟨fun hsrc hopen hfits hl hc hue => ?_, fun hsrc hopen hfits hc => ⟨fun hp hq hpois => ?_, fun hp hk => ?_⟩,
      fun hopen hfits hl => ?_, fun hopen => ?_, fun hsrc hopen hl => ?_⟩,
    fun s a h hh hi hgo hg hsrc hecc hc hue => ?_, fun s n b hm => congrArg Host.Outcome.next (if_neg (Bool.not_eq_true _ ▸ hm))⟩
  · refine ⟨_, congrArg Host.Outcome.next (s.timed_run _ a _ f.dt (.mown f) 0 0 [] h (by simp [TOp.unit])
      (State.issue_mown _ (siteOf a.tile a.side) _ rfl hw ho) (State.rests_of_calm _ _ ?_)), State.elsewhere_setTile _ a.tile _, ?_⟩
    · exact (State.settles_gives _ a.tile _ _).calm (s.calm_issued a _ f.dt [] h)
    · exact State.tile_setTile_same _ _ _
  · exact congrArg Host.Outcome.next (State.timed_stays h (by simp [TOp.unit]) (State.issue_mown_waits _ (siteOf a.tile a.side) _ rfl hw hs))
  · exact congrArg Host.Outcome.next (State.timed_seqFault h (by simp [TOp.unit]) (State.issue_mown_closed _ (siteOf a.tile a.side) _ rfl hw hs))
  · exact congrArg Host.Outcome.next (State.timed_seqFault h (by simp [TOp.unit]) (State.issue_mown_other _ (siteOf a.tile a.side) _ rfl hw ho))
  · obtain ⟨t, ht, he, hf⟩ := State.fillsFrom_sram (s.issued a (wordOf 1 2 (mfillLow f)) f.dt) a (r := s.fillHeld a f ecc true) rfl hc hsrc hecc hue
    exact ⟨t, exec_mfill_done h rfl (State.mfill_open a hopen) (fun _ => hl) (Nat.sub_eq_zero_of_le hfits) ht he hf.ctx hf.other,
      State.filled_of_fills h rfl (State.elsewhere_trans (State.onlyCtx_onCtx _ a _).1 he) hf rfl⟩
  · have hsrc' : f.src ≠ 0 := by rw [hsrc]; decide
    have hk : (s.fillHeld a f ecc true).flits = ((lanesOf ((s.ctx a).fillMask f)).length * rowBytes f.fmt + 6 * chunkOf f.fmt + 63) / 64 := rfl
    rw [Ctx.fillMask_eq, ← hk] at hp hq hpois
    obtain ⟨t, ht, he, hf, hR⟩ := State.fillsFrom_mesh (s.issued a (wordOf 1 2 (mfillLow f)) f.dt) a (r := s.fillHeld a f ecc true) rfl hsrc' rfl hc
      hp hq rfl hpois
    refine ⟨t, exec_mfill_done h rfl (State.mfill_open a hopen) (fun h0 => absurd h0 hsrc') (Nat.sub_eq_zero_of_le hfits) ht he hf.ctx hf.other,
      State.filled_of_fills h rfl (State.elsewhere_trans (State.onlyCtx_onCtx _ a _).1 he) hf rfl, ?_⟩
    rw [hR]
    exact Router.lane_fill _ _
  · have hsrc' : f.src ≠ 0 := by rw [hsrc]; decide
    exact exec_mfill_empty h rfl (State.mfill_open a hopen) hsrc' (Nat.sub_eq_zero_of_le hfits) hp hk
  · exact exec_mfill_busy h rfl (State.mfill_open a hopen) hl (Nat.sub_ne_zero_of_lt (Nat.not_le.mp hfits))
  · obtain ⟨hs, hwin⟩ := not_or.mp hopen
    have hside := Bool.eq_false_iff.mpr hs
    refine congrArg Host.Outcome.next (State.timed_seqFault h (by simp [TOp.unit]) (State.issue_mfill_window _ (siteOf a.tile a.side) _ f ecc rfl hside ?_))
    rw [State.ctx_siteOf, State.ctx, hside]
    exact eq_true_of_ne_false hwin
  · refine congrArg Host.Outcome.next (State.timed_seqFault h (by simp [TOp.unit])
      (State.issue_mfill_outside _ (siteOf a.tile a.side) _ f ecc rfl (State.mfill_open a hopen) hsrc ?_))
    rw [State.ctx_siteOf, State.fillMask_issued h rfl]
    exact fun hin => hl ((State.SameHand.linesOk (s.sameHand_issued a _ f.dt) _ _ _).symm.trans hin)
  · obtain ⟨t, ht, he, hf⟩ := State.fillsFrom_sram s a (r := { h with go := true }) rfl hc hsrc hecc hue
    exact ⟨t, exec_release_done hh hgo hi ht he hf.ctx hf.other, State.elsewhere_trans (State.onlyCtx_onCtx s a _).1 he, hf.ctx,
      hf.buf.fmt, hf.buf.mask, fun i hi => hf.buf.row hi, hf.spare, hf.sram, hf.other⟩

end Sys2Proof.Machine

/-! SUPPORT. Descriptors that start (R393, R403), the validator's codes (R141) and the image store (R140). -/

namespace Sys2Proof.Machine

/-! ### A descriptor that starts (R393, R403) -/

/-- Starting a descriptor writes the head of its queue, and no other register. -/
theorem State.reg_take (s : State) (d : DHdr) {o : Nat} (h : o ≠ sqOff d.q + 0x18) : (s.take d).reg o = s.reg o :=
  State.reg_setReg_other s _ o _ h

theorem State.on_take (s : State) (d : DHdr) (f : Fld) (h : f.addr 0 ≠ sqOff d.q + 0x18) : (s.take d).on f = s.on f := by
  unfold State.on State.rd State.getI
  rw [State.reg_take s d h]

theorem State.fatalNow_take (s : State) (d : DHdr) : (s.take d).fatalNow = s.fatalNow :=
  State.on_take s d _ (by show 4 + 0 * 0 ≠ 0x1000 + 0x40 * d.q + 0x18; omega)

/-- No byte of a descriptor is bad. -/
theorem firstBad_none {d : DHdr} {noB : Bool} {fields : List (Bool × Nat)} (hf : d.flags.toNat < 4) (hr : d.rsvBad = none)
    (hb : (noB && bitOf d.flags.toNat 1) = false) (hl : fields.filter (·.1) = []) : firstBad d noB fields = none := by
  have h4 : decide (4 ≤ d.flags.toNat) = false := decide_eq_false (by omega)
  unfold firstBad
  simp [h4, hb, hr, hl]

/-- A well-formed descriptor that starts does what its type says. -/
theorem State.descr_runs {s : State} {d : DHdr} (h : s.starts d) {bad : Option Nat} (hb : bad = none) (run : State → State) :
    s.descr d bad run = run (s.take d) := by
  obtain ⟨hmay, hidle, hfatal, _, _⟩ := h
  have hp : (s.pwr.pstate == .idle) = false := beq_false_of_ne hidle
  subst hb
  unfold State.descr
  rw [hmay, hp]
  dsimp only
  rw [if_neg (by decide), State.fatalNow_take, hfatal, if_neg (by decide)]

/-! ### The codes of the validator (R141) -/

/-- Every flaw of a list has one of R141's codes. -/
def codesOk (l : List Flaw) : Prop := ∀ f ∈ l, 1 ≤ f.1 ∧ f.1 ≤ 11

theorem codesOk_nil : codesOk [] := fun _ h => absurd h List.not_mem_nil

theorem codesOk_flaw (bad : Bool) (code idx : Nat) (h : 1 ≤ code ∧ code ≤ 11) : codesOk (flaw bad code idx) := by
  intro f hf
  unfold flaw at hf
  split at hf
  · rw [List.mem_singleton.mp hf]
    exact h
  · exact absurd hf List.not_mem_nil

theorem codesOk_append {l m : List Flaw} (hl : codesOk l) (hm : codesOk m) : codesOk (l ++ m) := fun f hf =>
  (List.mem_append.mp hf).elim (hl f) (hm f)

theorem codesOk_flatMap {α : Type} (l : List α) {g : α → List Flaw} (h : ∀ x, codesOk (g x)) : codesOk (l.flatMap g) := by
  intro f hf
  obtain ⟨x, _, hx⟩ := List.mem_flatMap.mp hf
  exact h x f hx

theorem codesOk_formatFlaws (b : Bytes) (n : Nat) : codesOk (formatFlaws b n) :=
  codesOk_append (codesOk_append (codesOk_append (codesOk_flaw _ _ _ (by decide)) (codesOk_flatMap _ fun _ => codesOk_flaw _ _ _ (by decide)))
    (codesOk_flaw _ _ _ (by decide))) (codesOk_flaw _ _ _ (by decide))

theorem codesOk_crcFlaws (b : Bytes) : codesOk (crcFlaws b) :=
  codesOk_append (codesOk_flaw _ _ _ (by decide)) (codesOk_flatMap _ fun _ => codesOk_flaw _ _ _ (by decide))

theorem State.codesOk_signFlaws (s : State) (m : Image) : codesOk (s.signFlaws m) := by
  unfold State.signFlaws
  split
  · exact codesOk_flaw _ _ _ (by decide)
  · exact codesOk_flatMap _ fun _ => codesOk_flaw _ _ _ (by decide)

theorem State.codesOk_baseFlaws (s : State) (m : Image) : codesOk (s.baseFlaws m) := by
  unfold State.baseFlaws
  split
  · exact codesOk_nil
  · split
    · intro f hf
      rw [List.mem_singleton.mp hf]
      decide
    · exact codesOk_flaw _ _ _ (by decide)

theorem codesOk_encodingFlaws (m : Image) : codesOk (encodingFlaws m) := codesOk_flatMap _ fun _ => codesOk_flaw _ _ _ (by decide)

theorem codesOk_operandFlaws (m : Image) (base : Option Image) (walks : List Walked) : codesOk (operandFlaws m base walks) :=
  codesOk_append (codesOk_flatMap _ fun _ => codesOk_flaw _ _ _ (by decide)) (codesOk_flatMap _ fun _ => codesOk_flaw _ _ _ (by decide))

theorem State.codesOk_placeFlaws (s : State) (m : Image) : codesOk (s.placeFlaws m) := codesOk_flatMap _ fun _ => codesOk_flaw _ _ _ (by decide)

theorem State.codesOk_routeFlaws (s : State) (m : Image) (walks : List Walked) : codesOk (s.routeFlaws m walks) :=
  codesOk_append (codesOk_flatMap _ fun _ => codesOk_flaw _ _ _ (by decide)) (codesOk_flatMap _ fun _ => codesOk_flaw _ _ _ (by decide))

theorem State.codesOk_scheduleFlaws (s : State) (m : Image) (base : Option Image) (walks : List Walked) : codesOk (s.scheduleFlaws m base walks) := by
  unfold State.scheduleFlaws
  split
  · exact codesOk_flatMap _ fun _ => codesOk_flaw _ _ _ (by decide)
  · exact codesOk_append (codesOk_append (codesOk_append (codesOk_flatMap _ fun _ => codesOk_flaw _ _ _ (by decide))
      (codesOk_flatMap _ fun _ => codesOk_flaw _ _ _ (by decide))) (codesOk_flaw _ _ _ (by decide))) (s.codesOk_routeFlaws m walks)

theorem State.codesOk_resourceFlaws (s : State) (m : Image) (walks : List Walked) : codesOk (s.resourceFlaws m walks) :=
  codesOk_append (codesOk_append (codesOk_flaw _ _ _ (by decide)) (codesOk_flatMap _ fun _ => codesOk_flaw _ _ _ (by decide)))
    (codesOk_flatMap _ fun _ => codesOk_flaw _ _ _ (by decide))

/-- What the validator checks before the code of an image. -/
def State.earlyFlaws (s : State) (b : Bytes) : List Flaw :=
  crcFlaws b ++ s.signFlaws (imageOf b) ++ flaw (decide (s.rd R.SP_FW_RUN_VERSION < (imageOf b).minFw.toNat)) 4 inTable ++ s.baseFlaws (imageOf b)

/-- What it checks of its code and its sections, and last of the store. -/
def State.lateFlaws (s : State) (m : Image) : List Flaw :=
  encodingFlaws m ++ operandFlaws m (s.image m.base) m.walks ++ s.placeFlaws m ++ s.scheduleFlaws m (s.image m.base) m.walks ++
    s.resourceFlaws m m.walks ++ flaw (s.duplicate m.id) 11 inTable

theorem State.codesOk_earlyFlaws (s : State) (b : Bytes) : codesOk (s.earlyFlaws b) :=
  codesOk_append (codesOk_append (codesOk_append (codesOk_crcFlaws b) (s.codesOk_signFlaws _)) (codesOk_flaw _ _ _ (by decide))) (s.codesOk_baseFlaws _)

theorem State.codesOk_lateFlaws (s : State) (m : Image) : codesOk (s.lateFlaws m) :=
  codesOk_append (codesOk_append (codesOk_append (codesOk_append (codesOk_append (codesOk_encodingFlaws m) (codesOk_operandFlaws m _ _))
    (s.codesOk_placeFlaws m)) (s.codesOk_scheduleFlaws m _ _)) (s.codesOk_resourceFlaws m _)) (codesOk_flaw _ _ _ (by decide))

theorem mem_of_firstFlaw {l : List Flaw} {f : Flaw} (h : firstFlaw l = some f) : f ∈ l := by
  obtain ⟨c, _, hc⟩ := List.exists_of_findSome?_eq_some h
  exact List.mem_of_find?_eq_some hc

theorem firstFlaw_none {l : List Flaw} (hl : codesOk l) (h : firstFlaw l = none) : l = [] := by
  refine List.eq_nil_iff_forall_not_mem.mpr (fun f hf => ?_)
  have hc := List.findSome?_eq_none_iff.mp h f.1 (List.mem_range.mpr (by have := (hl f hf).2; omega))
  exact List.find?_eq_none.mp hc f hf (beq_self_eq_true f.1)

/-- What a rejected image shows has one of R141's codes. -/
theorem State.validate_code {s : State} {b : Bytes} {n : Nat} {f : Flaw} (h : s.validate b n = .inl f) : 1 ≤ f.1 ∧ f.1 ≤ 11 := by
  unfold State.validate at h
  dsimp only at h
  split at h
  next g l hfmt =>
    rw [← Sum.inl.inj h]
    exact codesOk_formatFlaws b n g (hfmt ▸ List.mem_cons_self)
  next hfmt =>
    split at h
    next g hearly =>
      rw [← Sum.inl.inj h]
      exact s.codesOk_earlyFlaws b g (mem_of_firstFlaw hearly)
    next hearly =>
      split at h
      next g hlate =>
        rw [← Sum.inl.inj h]
        exact s.codesOk_lateFlaws _ g (mem_of_firstFlaw hlate)
      next => cases h

/-- An image that passes the validator shows no flaw in its code and fits the store. -/
theorem State.validate_image {s : State} {b : Bytes} {n : Nat} {m : Image} (h : s.validate b n = .inr m) :
    m = (imageOf b).recorded (imageOf b).walks ∧ s.lateFlaws (imageOf b) = [] := by
  unfold State.validate at h
  dsimp only at h
  split at h
  next => cases h
  next =>
    split at h
    next => cases h
    next =>
      split at h
      next => cases h
      next hlate => exact ⟨(Sum.inr.inj h).symm, firstFlaw_none (s.codesOk_lateFlaws _) hlate⟩

theorem flaw_nil {bad : Bool} {code idx : Nat} (h : flaw bad code idx = []) : bad = false := by
  unfold flaw at h
  split at h
  · cases h
  next hb => exact Bool.eq_false_iff.mpr hb

/-- A loaded image is no duplicate, and the store has room for it (R140). -/
theorem State.validate_fits {s : State} {b : Bytes} {n : Nat} {m : Image} (h : s.validate b n = .inr m) :
    s.image m.id = none ∧ s.hand.images.length < 64 ∧ (s.hand.images.map (·.length)).sum + m.length ≤ 24 * gib := by
  obtain ⟨rfl, hlate⟩ := State.validate_image h
  obtain ⟨hrest, hdup⟩ := List.append_eq_nil_iff.mp hlate
  obtain ⟨_, hres⟩ := List.append_eq_nil_iff.mp hrest
  obtain ⟨hres, _⟩ := List.append_eq_nil_iff.mp hres
  obtain ⟨hroom, _⟩ := List.append_eq_nil_iff.mp hres
  have hd := flaw_nil hdup
  have hr := flaw_nil hroom
  unfold State.duplicate at hd
  simp only [Bool.or_eq_false_iff, decide_eq_false_iff_not] at hd hr
  obtain ⟨⟨hnone, _⟩, _⟩ := hd
  obtain ⟨⟨⟨_, hcount⟩, _⟩, hbytes⟩ := hr
  exact ⟨Option.isNone_iff_eq_none.mp (Option.isSome_eq_false_iff.mp hnone), Nat.not_le.mp hcount, Nat.not_lt.mp hbytes⟩

end Sys2Proof.Machine

/-! SUPPORT. Bytes written at device addresses (R222, R225, R394). -/

namespace Sys2Proof.Machine

theorem length_slice (b : Bytes) (o n : Nat) : (slice b o n).length = n := by
  unfold slice
  simp only [List.length_append, List.length_replicate, List.length_take, List.length_drop]
  omega

/-! ### Changes of memory alone -/

/-- Nothing but the positions and the tiles differs. -/
def State.inMemory (s t : State) : Prop := t = { s with pos := t.pos, tiles := t.tiles }

theorem State.inMemory_trans {s t u : State} (h : s.inMemory t) (g : t.inMemory u) : s.inMemory u := by
  unfold State.inMemory at h g ⊢
  rw [h] at g
  exact g

/-- What a device address reaches does not hang on what memory holds. -/
theorem State.loc_inMemory {s t : State} (h : s.inMemory t) (a : Nat) : t.loc a = s.loc a := by
  rw [h]
  rfl

theorem State.inMemory_locWr (s : State) (b : Byte) (l : Loc) : s.inMemory (s.locWr b l) := by cases l <;> rfl

/-- Whether a location holds a byte of memory; a tile's registers do not. -/
def Loc.isByte : Loc → Bool
  | .treg _ _ => false
  | _ => true

theorem State.locRd_locWr_same (s : State) (b : Byte) {l : Loc} (h : l.isByte = true) : (s.locWr b l).locRd l = b := by
  cases l with
  | near k o => simp [State.locWr, State.locRd]
  | stock k o => simp [State.locWr, State.locRd]
  | sram n o => simp [State.locWr, State.locRd]
  | treg n o => cases h

theorem State.locRd_locWr_other (s : State) (b : Byte) {l m : Loc} (h : m ≠ l) : (s.locWr b l).locRd m = s.locRd m := by
  cases l with
  | near k o =>
    cases m with
    | near j p =>
      by_cases hj : j = k
      · have ho : p ≠ o := fun hc => h (by rw [hj, hc])
        subst hj
        simp [State.locWr, State.locRd, Map.get_put_other _ _ _ _ _ _ ho]
      · simp [State.locWr, State.locRd, State.posn_onPos_other _ _ _ _ hj]
    | stock j p =>
      by_cases hj : j = k
      · subst hj
        simp [State.locWr, State.locRd]
      · simp [State.locWr, State.locRd, State.posn_onPos_other _ _ _ _ hj]
    | sram n p => rfl
    | treg n p => rfl
  | stock k o =>
    cases m with
    | near j p =>
      by_cases hj : j = k
      · subst hj
        simp [State.locWr, State.locRd]
      · simp [State.locWr, State.locRd, State.posn_onPos_other _ _ _ _ hj]
    | stock j p =>
      by_cases hj : j = k
      · have ho : p ≠ o := fun hc => h (by rw [hj, hc])
        subst hj
        simp [State.locWr, State.locRd, Map.get_put_other _ _ _ _ _ _ ho]
      · simp [State.locWr, State.locRd, State.posn_onPos_other _ _ _ _ hj]
    | sram n p => rfl
    | treg n p => rfl
  | sram n o =>
    cases m with
    | near j p => rfl
    | stock j p => rfl
    | sram j p =>
      by_cases hj : j = n
      · have ho : p ≠ o := fun hc => h (by rw [hj, hc])
        subst hj
        simp [State.locWr, State.locRd, Map.get_put_other _ _ _ _ _ _ ho]
      · simp [State.locWr, State.locRd, State.tile_onTile_other _ _ _ _ hj]
    | treg j p => rfl
  | treg n o => cases m <;> rfl

/-! ### Bytes one after another -/

/-- The bytes of a string written at device addresses from `a`, the first `k` of them. -/
def State.wrote (s : State) (a : Nat) (b : Bytes) (k : Nat) : State :=
  (List.range k).foldl (fun s i => match s.loc (a + i) with | some l => s.locWr (b.getD i 0) l | none => s) s

theorem State.wrote_succ (s : State) (a : Nat) (b : Bytes) (k : Nat) : s.wrote a b (k + 1) =
    match (s.wrote a b k).loc (a + k) with | some l => (s.wrote a b k).locWr (b.getD k 0) l | none => s.wrote a b k := by
  unfold State.wrote
  rw [List.range_succ, List.foldl_concat]

theorem State.inMemory_wrote (s : State) (a : Nat) (b : Bytes) (k : Nat) : s.inMemory (s.wrote a b k) := by
  induction k with
  | zero => rfl
  | succ k ih =>
    rw [State.wrote_succ]
    split
    · exact State.inMemory_trans ih (State.inMemory_locWr _ _ _)
    · exact ih

/-- A location that no written address reaches keeps its byte. -/
theorem State.locRd_wrote_other (s : State) (a : Nat) (b : Bytes) (k : Nat) {l : Loc} (h : ∀ i, i < k → s.loc (a + i) ≠ some l) :
    (s.wrote a b k).locRd l = s.locRd l := by
  induction k with
  | zero => rfl
  | succ k ih =>
    have hk := h k (Nat.lt_succ_self k)
    rw [State.wrote_succ, State.loc_inMemory (s.inMemory_wrote a b k), ← ih (fun i hi => h i (by omega))]
    split
    next m hm => exact State.locRd_locWr_other _ _ (fun hc => hk (hc ▸ hm))
    next => rfl

/-- A location holds the last byte that was written to it. -/
theorem State.locRd_wrote (s : State) (a : Nat) (b : Bytes) (k : Nat) {i : Nat} {l : Loc} (hi : i < k) (hl : s.loc (a + i) = some l)
    (hlast : ∀ j, i < j → j < k → s.loc (a + j) ≠ some l) (hb : l.isByte = true) : (s.wrote a b k).locRd l = b.getD i 0 := by
  induction k with
  | zero => exact absurd hi (Nat.not_lt_zero i)
  | succ k ih =>
    rw [State.wrote_succ, State.loc_inMemory (s.inMemory_wrote a b k)]
    by_cases he : i = k
    · subst he
      rw [hl]
      exact State.locRd_locWr_same _ _ hb
    · have hk := hlast k (by omega) (Nat.lt_succ_self k)
      rw [← ih (by omega) (fun j h1 h2 => hlast j h1 (by omega))]
      split
      next m hm => exact State.locRd_locWr_other _ _ (fun hc => hk (hc ▸ hm))
      next => rfl

/-! ### Clearing poison (R229) -/

/-- A change of positions that keeps every byte. -/
structure State.KeepsBytes (s t : State) : Prop where
  rest : s.inMemory t
  bytes : ∀ l, t.locRd l = s.locRd l

theorem State.KeepsBytes.refl (s : State) : s.KeepsBytes s := ⟨rfl, fun _ => rfl⟩

theorem State.KeepsBytes.trans {s t u : State} (h : s.KeepsBytes t) (g : t.KeepsBytes u) : s.KeepsBytes u :=
  ⟨State.inMemory_trans h.rest g.rest, fun l => (g.bytes l).trans (h.bytes l)⟩

theorem State.keepsBytes_onPos (s : State) (k : Nat) (f : Pos → Pos) (hn : ∀ p, (f p).near = p.near) (hs : ∀ p, (f p).stock = p.stock) :
    s.KeepsBytes (s.onPos k f) := by
  refine ⟨rfl, fun l => ?_⟩
  cases l with
  | near j o =>
    by_cases hj : j = k
    · subst hj
      simp [State.locRd, hn]
    · simp [State.locRd, State.posn_onPos_other _ _ _ _ hj]
  | stock j o =>
    by_cases hj : j = k
    · subst hj
      simp [State.locRd, hs]
    · simp [State.locRd, State.posn_onPos_other _ _ _ _ hj]
  | sram n o => rfl
  | treg n o => rfl

theorem State.keepsBytes_clearPoison (s : State) (a n : Nat) : s.KeepsBytes (s.clearPoison a n) := by
  unfold State.clearPoison State.each
  generalize (List.range (n / 64 + 2)).map (fun i => (a / 64 + i) * 64) = ls
  induction ls generalizing s with
  | nil => exact .refl s
  | cons l ls ih =>
    refine State.KeepsBytes.trans ?_ (ih _)
    dsimp only
    split
    · split
      · exact s.keepsBytes_onPos _ _ (fun _ => rfl) (fun _ => rfl)
      · exact s.keepsBytes_onPos _ _ (fun _ => rfl) (fun _ => rfl)
      · exact .refl s
    · exact .refl s

/-! ### A write over a range that the host may reach (R394) -/

theorem State.reach_ok {s : State} {a n : Nat} (h : s.reach a n true = .ok) {i : Nat} (hi : i < n) :
    ∃ la lb, s.loc a = some la ∧ s.loc (a + i) = some lb ∧ sameRegion la lb = true := by
  unfold State.reach at h
  dsimp only at h
  split at h
  next => cases h
  next =>
    split at h
    next => cases h
    next =>
      split at h
      next => cases h
      next hnone =>
        have hb := List.find?_eq_none.mp hnone (a + i) (List.mem_map_of_mem (List.mem_range.mpr hi))
        split at hb
        next la lb hla hlb =>
          simp only [Bool.or_eq_true, Bool.not_eq_true', not_or, Bool.not_eq_false] at hb
          exact ⟨la, lb, hla, hlb, hb.1⟩
        next => exact absurd rfl hb

/-- The device addresses of a tile's SRAM. -/
theorem State.sram_of_loc {s : State} {a n o : Nat} (h : s.loc a = some (.sram n o)) :
    0x200000000000 ≤ a ∧ n = (a - 0x200000000000) / 0x4000000 ∧ o = (a - 0x200000000000) % 0x4000000 := by
  have hnear : s.nearLoc a ≠ some (.sram n o) := by
    unfold State.nearLoc
    dsimp only
    repeat' split
    all_goals exact fun hc => by cases hc
  have hstock : s.stockLoc a ≠ some (.sram n o) := by
    unfold State.stockLoc
    dsimp only
    split <;> exact fun hc => by cases hc
  unfold State.loc at h
  dsimp only at h
  split at h
  · exact absurd h hnear
  · split at h
    · cases h
    · split at h
      · exact absurd h hstock
      · split at h
        · cases h
        · split at h
          · split at h
            · cases h
            · split at h
              · cases h
                exact ⟨by omega, rfl, rfl⟩
              · split at h <;> cases h
          · cases h

/-- Two addresses in the SRAM of one tile lie there as far apart as in the view. -/
theorem State.sram_offset {s : State} {a i n o p : Nat} (h : s.loc a = some (.sram n o)) (g : s.loc (a + i) = some (.sram n p)) : p = o + i := by
  obtain ⟨h0, hn, ho⟩ := State.sram_of_loc h
  obtain ⟨_, gn, gp⟩ := State.sram_of_loc g
  omega

/-- A write into the SRAM of a tile. -/
theorem State.stored_sram {s : State} {a n o : Nat} {b : Bytes} (h : s.loc a = some (.sram n o))
    (hall : ∀ i, i < b.length → s.loc (a + i) = some (.sram n (o + i))) : s.stored (s.onTile n (fun x => x.sramWr o b)) a b := by
  have hget : ∀ p, (s.onTile n (fun x => x.sramWr o b)).locRd (.sram n p) =
      if o ≤ p ∧ p < o + b.length then b.getD (p - o) 0 else s.locRd (.sram n p) := by
    intro p
    unfold State.locRd
    dsimp only
    rw [State.tile_onTile_same]
    exact Map.get_store _ _ _ _
  refine ⟨fun l hl => ?_, fun i l hi hl _ _ => ?_⟩
  · cases l with
    | near k p => rfl
    | stock k p => rfl
    | treg k p => rfl
    | sram k p =>
      by_cases hk : k = n
      · subst hk
        rw [hget, if_neg]
        rintro ⟨h1, h2⟩
        refine hl (p - o) (by omega) ((hall (p - o) (by omega)).trans ?_)
        rw [Nat.add_sub_cancel' h1]
      · unfold State.locRd
        dsimp only
        rw [State.tile_onTile_other _ _ _ _ hk]
  · rw [hall i hi] at hl
    obtain rfl := Option.some.inj hl
    rw [hget, if_pos (by omega), Nat.add_sub_cancel_left]

/-- A write anywhere else, byte by byte. -/
theorem State.stored_wrote (s : State) (a : Nat) (b : Bytes) (n : Nat) : s.stored ((s.wrote a b b.length).clearPoison a n) a b := by
  have hk := State.keepsBytes_clearPoison (s.wrote a b b.length) a n
  refine ⟨fun l hl => (hk.bytes l).trans (s.locRd_wrote_other a b _ hl), fun i l hi hl hlast hreg => (hk.bytes l).trans ?_⟩
  refine s.locRd_wrote a b _ hi hl hlast ?_
  cases l with
  | treg n o => exact absurd rfl (hreg n o)
  | near k o => rfl
  | stock k o => rfl
  | sram n o => rfl

theorem State.devWr_sram {s : State} {a n o : Nat} (b : Bytes) (h : s.loc a = some (.sram n o)) :
    s.devWr a b = s.onTile n (fun x => x.sramWr o b) := by
  unfold State.devWr
  rw [h]

theorem State.devWr_wrote {s : State} {a : Nat} (b : Bytes) (h : ∀ n o, s.loc a ≠ some (.sram n o)) :
    s.devWr a b = (s.wrote a b b.length).clearPoison a b.length := by
  unfold State.devWr
  split
  next n o hl => exact absurd hl (h n o)
  next => rfl

/-- A write over a range that the host may reach stores its bytes, and leaves every other byte. -/
theorem State.devWr_stored {s : State} {a : Nat} {b : Bytes} (hr : s.reach a b.length true = .ok) :
    s.inMemory (s.devWr a b) ∧ s.stored (s.devWr a b) a b := by
  by_cases h : ∃ n o, s.loc a = some (.sram n o)
  · obtain ⟨n, o, h⟩ := h
    rw [State.devWr_sram b h]
    refine ⟨rfl, State.stored_sram h (fun i hi => ?_)⟩
    obtain ⟨la, lb, hla, hlb, hsame⟩ := State.reach_ok hr hi
    rw [h] at hla
    obtain rfl := Option.some.inj hla
    cases lb with
    | near k p => cases hsame
    | stock k p => cases hsame
    | treg k p => cases hsame
    | sram k p =>
      obtain rfl : n = k := beq_iff_eq.mp hsame
      rw [hlb, State.sram_offset h hlb]
  · rw [State.devWr_wrote b (fun n o hc => h ⟨n, o, hc⟩)]
    exact ⟨State.inMemory_trans (s.inMemory_wrote a b _) (State.keepsBytes_clearPoison _ a _).rest, s.stored_wrote a b _⟩

end Sys2Proof.Machine

/-! PROOF. The image store and deals (O34). -/

namespace Sys2Proof.Machine

/-! ### LOAD and UNLOAD (R140, R395) -/

section
variable {s : State} {d : DHdr} (h : s.starts d)
include h

theorem State.load_runs (run : State → State) : s.descr d (firstBad d false []) run = run (s.take d) :=
  State.descr_runs h (firstBad_none h.2.2.2.1 h.2.2.2.2 (Bool.false_and _) rfl) run

theorem load_nothing (host : W64) {len : W64} (b : HostIn) (hlen : len = 0) :
    exec (.load d host len b) s = .next ((s.take d).complete d.q d.cid 1 0 0) :=
  congrArg Host.Outcome.next ((State.load_runs h _).trans (if_pos hlen))

section
variable (host : W64) {len : W64} {b : HostIn} (hlen : len ≠ 0) (herr : b.err = .none) (hdirty : b.dirty = [])
include hlen herr hdirty

theorem load_rejected {f : Flaw} (hv : (s.take d).validate (slice b.bytes 0 len.toNat) len.toNat = .inl f) :
    exec (.load d host len b) s = .next ((s.take d).complete d.q d.cid 0x44 f.1 f.2) := by
  have hok : ¬(b.err ≠ .none ∨ (!b.dirty.isEmpty) = true) := by simp [herr, hdirty]
  refine congrArg Host.Outcome.next ((State.load_runs h _).trans ?_)
  dsimp only
  rw [if_neg hlen, if_neg hok, hv]

theorem load_stored {m : Image} (hv : (s.take d).validate (slice b.bytes 0 len.toNat) len.toNat = .inr m) :
    exec (.load d host len b) s = .next (({ s.take d with hand := { s.hand with images := s.hand.images ++ [m] } } : State).complete
      d.q d.cid 0 0 m.id.toNat) := by
  have hok : ¬(b.err ≠ .none ∨ (!b.dirty.isEmpty) = true) := by simp [herr, hdirty]
  refine congrArg Host.Outcome.next ((State.load_runs h _).trans ?_)
  dsimp only
  rw [if_neg hlen, if_neg hok, hv]
  rfl

end

end

/-- Whether an image of the store, or a deal, still needs an image. -/
def State.needed (s : State) (id : W64) : Bool :=
  dealNames s.hand.running id || dealNames s.hand.waiting id || dealNames s.hand.sideRun id || dealNames s.hand.sideWait id ||
    s.hand.images.any (fun m => m.base == id)

theorem State.needed_eq (s : State) (id : W64) : s.needed id =
    ([s.hand.running, s.hand.waiting, s.hand.sideRun, s.hand.sideWait].any (fun o => dealNames o id) ||
      s.hand.images.any (fun m => m.base == id)) := by
  simp [State.needed, Bool.or_assoc]

/-- The store without an image. -/
def Hand.without (h : Hand) (id : W64) : Hand := { h with
  images := h.images.filter (fun m => m.id != id)
  installed := if h.installed = some id then none else h.installed
  sideInst := if h.sideInst = some id then none else h.sideInst }

theorem exec_unload {s : State} {d : DHdr} {id : W64} (h : s.starts d) (hb : bitOf d.flags.toNat 1 = false) (hid : id ≠ 0) :
    exec (.unload d id) s = .next (
      if (s.image id).isNone then (s.take d).complete d.q d.cid 0x45 1 0
      else if s.needed id then (s.take d).done d 0x46
      else ({ s.take d with hand := s.hand.without id } : State).done d 0x00) := by
  have hbad : firstBad d true [(id == 0, 8)] = none := firstBad_none h.2.2.2.1 h.2.2.2.2 (by rw [hb]; rfl)
    (by rw [beq_false_of_ne hid]; rfl)
  exact congrArg Host.Outcome.next (State.descr_runs h hbad _)

/-- After an UNLOAD the image is gone, and no other. -/
theorem find?_without (l : List Image) (id x : W64) : (l.filter (fun m => m.id != id)).find? (fun m => m.id == x) =
    if x = id then none else l.find? (fun m => m.id == x) := by
  induction l with
  | nil => exact (ite_self _).symm
  | cons m l ih =>
    by_cases hm : m.id = id
    · rw [List.filter_cons_of_neg (by simp [hm]), ih]
      by_cases hx : x = id
      · rw [if_pos hx, if_pos hx]
      · rw [if_neg hx, if_neg hx, List.find?_cons_of_neg]
        rw [hm]
        exact fun hc => hx (beq_iff_eq.mp hc).symm
    · rw [List.filter_cons_of_pos (by simp [hm]), List.find?_cons, List.find?_cons, ih]
      by_cases hx : x = id
      · have hne : (m.id == x) = false := beq_false_of_ne (hx ▸ hm)
        rw [hne, if_pos hx]
      · rw [if_neg hx, if_neg hx]

/-! ### DEAL (R396, R399, R404) -/

theorem State.image_take (s : State) (d : DHdr) (id : W64) : (s.take d).image id = s.image id := rfl

section
variable {s : State} {d : DHdr} (hq : d.q < 64)
include hq

/-- Starting a descriptor leaves what decides about a deal. -/
theorem State.torn_take : (s.take d).on R.NM_UPD_STATUS_TORN = s.on R.NM_UPD_STATUS_TORN :=
  State.on_take s d _ (by show 0x700004 + 0 * 0 ≠ 0x1000 + 0x40 * d.q + 0x18; omega)

theorem State.mayRecover_take : (s.take d).mayRecover = s.mayRecover := by
  unfold State.mayRecover
  rw [State.torn_take hq, State.on_take s d _ (by show 0x700004 + 0 * 0 ≠ 0x1000 + 0x40 * d.q + 0x18; omega)]
  rfl

theorem State.entryReason_take (m : Image) (f : DealD) : (s.take d).entryReason m f = s.entryReason m f := by
  unfold State.entryReason
  rw [State.torn_take hq, State.mayRecover_take hq]
  rfl

end

section
variable (u : State) (d : DHdr) {f : DealD} (b : HostIn)

theorem State.dealNow_unloaded (h : u.image f.imageId = none) : u.dealNow d f b = u.complete d.q d.cid 0x45 1 0 := by
  unfold State.dealNow
  rw [h]

section
variable {m : Image} (h : u.image f.imageId = some m)
include h

/-- A deal that a reason refuses, where its fields fit the kind of its image. -/
theorem State.dealNow_refused (hfit : m.kind = 3 → f.mbCount = 0 ∧ f.dflags = 0) {r : Nat} (hr : u.entryReason m f = some r) :
    u.dealNow d f b = u.complete d.q d.cid 0x45 r 0 := by
  unfold State.dealNow
  rw [h]
  dsimp only
  by_cases hk : m.kind = 3
  · obtain ⟨hmb, hfl⟩ := hfit hk
    rw [hmb, hfl, if_neg (by simp), if_neg (by simp), hr]
  · have hk' : (m.kind == 3) = false := beq_false_of_ne hk
    rw [hk', if_neg (by simp), if_neg (by simp), hr]

/-- A deal of a primary image that deals something enters its slot. -/
theorem State.dealNow_enters (hk : m.kind ≠ 3) (hr : u.entryReason m f = none) (hsome : f.mbCount ≠ 0 ∨ f.dflags ≠ 0) :
    u.dealNow d f b = u.enterDeal d f false b := by
  have hk' : (m.kind == 3) = false := beq_false_of_ne hk
  have hno : (!(m.kind == 3) && f.mbCount == 0 && f.dflags == 0) = false := by
    obtain hmb | hfl := hsome
    · rw [beq_false_of_ne hmb, Bool.and_false, Bool.false_and]
    · rw [beq_false_of_ne hfl, Bool.and_false]
  unfold State.dealNow
  rw [h]
  dsimp only
  rw [hr, if_neg (by simp [hk']), if_neg (by simp [hk'])]
  dsimp only
  rw [hno, if_neg (by decide), hk']

theorem State.dealNow_nothing (hk : m.kind ≠ 3) (hr : u.entryReason m f = none) (hmb : f.mbCount = 0) (hfl : f.dflags = 0) :
    u.dealNow d f b = u.complete d.q d.cid 2 0 0 := by
  have hk' : (m.kind == 3) = false := beq_false_of_ne hk
  unfold State.dealNow
  rw [h]
  dsimp only
  rw [hr, hk', hmb, hfl]
  rfl

/-- A deal of a SIDE image enters the other slot. -/
theorem State.dealNow_side (hk : m.kind = 3) (hr : u.entryReason m f = none) (hmb : f.mbCount = 0) (hfl : f.dflags = 0) :
    u.dealNow d f b = u.enterDeal d f true b := by
  unfold State.dealNow
  rw [h]
  dsimp only
  rw [hr, hk, hmb, hfl]
  rfl

end

/-- A deal without a batch. -/
theorem State.enterDeal_alone (side : Bool) (h : f.batchLen = 0) : u.enterDeal d f side b =
    if side then { u with hand := { u.hand with sideWait := some ⟨d.q, d.cid, f, bitOf d.flags.toNat 1, some 0⟩ } }
    else { u with hand := { u.hand with waiting := some ⟨d.q, d.cid, f, bitOf d.flags.toNat 1, some 0⟩ } } := by
  unfold State.enterDeal
  rw [h]
  rfl

/-- A copy from the host that meets no error. -/
theorem State.dmaIn_ok {a dev n : Nat} (herr : b.err = .none) (hdirty : b.dirty = []) (hr : u.reach dev n true = .ok) :
    u.dmaIn d a dev n b = (u.devWr dev (slice b.bytes 0 n), 0) := by
  unfold State.dmaIn
  rw [hr]
  dsimp only
  rw [if_pos herr, hdirty, if_pos ⟨herr, rfl⟩]
  rfl

/-- A deal whose batch is copied as it enters. -/
theorem State.enterDeal_copies (herr : b.err = .none) (hdirty : b.dirty = []) (hlen : f.batchLen ≠ 0)
    (hr : u.reach f.batchDev.toNat f.batchLen.toNat true = .ok) : ∃ t, u.enterDeal d f false b = t ∧
      u.stored t f.batchDev.toNat (slice b.bytes 0 f.batchLen.toNat) ∧ t.regs = u.regs ∧
      t.hand = { u.hand with waiting := some ⟨d.q, d.cid, f, bitOf d.flags.toNat 1, some 0⟩ } := by
  obtain ⟨hmem, hst⟩ := State.devWr_stored (s := u) (a := f.batchDev.toNat) (b := slice b.bytes 0 f.batchLen.toNat) (by rw [length_slice]; exact hr)
  refine ⟨{ u.devWr f.batchDev.toNat (slice b.bytes 0 f.batchLen.toNat) with
    hand := { (u.devWr f.batchDev.toNat (slice b.bytes 0 f.batchLen.toNat)).hand with
      waiting := some ⟨d.q, d.cid, f, bitOf d.flags.toNat 1, some 0⟩ } }, ?_, ?_, ?_, ?_⟩
  · unfold State.enterDeal
    rw [if_neg hlen, State.dmaIn_ok u d b herr hdirty hr]
    rfl
  · have hrd : ∀ (v : State) (x : Hand) (l : Loc), ({ v with hand := x } : State).locRd l = v.locRd l := fun v x l => by cases l <;> rfl
    exact ⟨fun l hl => (hrd _ _ l).trans (hst.1 l hl), fun i l hi hl hlast hreg => (hrd _ _ l).trans (hst.2 i l hi hl hlast hreg)⟩
  · rw [hmem]
  · rw [hmem]

end

section
variable {s : State} {d : DHdr} {f : DealD} {b : HostIn} (h : s.starts d) (hid : f.imageId ≠ 0) (hfl : f.dflags.toNat ≤ 1)
  (hrec : bitOf f.dflags.toNat 0 = true → f.mbCount = 0) (hmay : s.mayDeal f = true)
include h hid hfl hrec hmay

/-- A well-formed DEAL that may start. -/
theorem exec_deal : exec (.deal d f b) s = .next ((s.take d).dealNow d f b) := by
  have hmb : (bitOf f.dflags.toNat 0 && f.mbCount != 0) = false := by
    cases hb : bitOf f.dflags.toNat 0
    · rfl
    · rw [hrec hb]
      rfl
  have hbad : firstBad d false [(f.imageId == 0, 8), (decide (2 ≤ f.dflags.toNat), 0x26), (bitOf f.dflags.toNat 0 && f.mbCount != 0, 0x24)] = none := by
    refine firstBad_none h.2.2.2.1 h.2.2.2.2 (Bool.false_and _) ?_
    rw [beq_false_of_ne hid, decide_eq_false (by omega), hmb]
    rfl
  refine congrArg Host.Outcome.next ((if_neg ?_).trans (State.descr_runs h hbad _))
  rw [hmay]
  decide

end

/-- A deal that may not start waits. -/
theorem exec_deal_waits {s : State} {d : DHdr} {f : DealD} {b : HostIn} (h : s.mayDeal f = false) : exec (.deal d f b) s = .next s :=
  congrArg Host.Outcome.next (if_pos (by rw [h]; rfl))

/-- Why a side deal is refused. -/
theorem State.entryReason_side (s : State) {m : Image} (f : DealD) (hk : m.kind = 3) : s.entryReason m f =
    if !s.hosted m then some 7 else if s.on R.NM_UPD_STATUS_TORN then some 5 else none := if_pos hk

/-- Settles O34: a descriptor that starts runs on the state after its take; the validator by its lists of flaws, the batch copy by its bytes. -/
theorem imagesAndDeals : Obligations.ImagesAndDeals := by
  unfold Obligations.ImagesAndDeals
  refine ⟨⟨fun s d host len b h => ⟨load_nothing h host b, fun f hlen herr hdirty hv => load_rejected h host hlen herr hdirty hv,
    fun m hlen herr hdirty hv => load_stored h host hlen herr hdirty hv⟩, fun s b n f h => State.validate_code h,
    fun s b n m h => State.validate_fits h, fun s d id h hb hid => ⟨fun hno => ?_, fun hyes hneed => ?_, fun hyes hnamed hbased => ?_⟩⟩,
    fun s d f b hq h hid hfl hrec => ⟨exec_deal_waits, fun hmay hno => ?_, fun m hmay hm hk => ⟨fun r hr => ?_, fun hr hmb hf0 => ?_,
      fun hr hsome hlen => ?_, fun hr hsome hlen herr hdirty hreach => ?_⟩,
      fun m hmay hm hk hmb hf0 => ⟨fun hh => ?_, fun hh ht => ?_, fun hh ht hlen => ?_⟩⟩⟩
  · rw [exec_unload h hb hid, if_pos (by rw [hno]; rfl)]
  · rw [exec_unload h hb hid, if_neg (by simpa using hyes), if_pos]
    · rfl
    · rw [State.needed_eq, Bool.or_eq_true]
      exact hneed
  · refine ⟨_, { s.take d with hand := s.hand.without id }, ?_, rfl, rfl, fun x => find?_without _ id x, ?_⟩
    · rw [exec_unload h hb hid, if_neg (by simpa using hyes), if_neg]
      · rfl
      · rw [State.needed_eq, hnamed, hbased]
        decide
    · show (if s.hand.installed = some id then none else s.hand.installed) ≠ some id
      split
      · exact fun hc => by cases hc
      next hne => exact hne
  · rw [exec_deal h hid hfl hrec hmay,
      State.dealNow_unloaded (s.take d) d b ((s.image_take d _).trans hno)]
  · rw [exec_deal h hid hfl hrec hmay,
      State.dealNow_refused (s.take d) d b ((s.image_take d _).trans hm) (fun hc => absurd hc hk) ((State.entryReason_take hq m f).trans hr)]
  · rw [exec_deal h hid hfl hrec hmay,
      State.dealNow_nothing (s.take d) d b ((s.image_take d _).trans hm) hk ((State.entryReason_take hq m f).trans hr) hmb hf0]
  · rw [exec_deal h hid hfl hrec hmay,
      State.dealNow_enters (s.take d) d b ((s.image_take d _).trans hm) hk ((State.entryReason_take hq m f).trans hr) hsome,
      State.enterDeal_alone (s.take d) d b false hlen]
    rfl
  · obtain ⟨t, ht, hst, hregs, hhand⟩ := State.enterDeal_copies (s.take d) d b herr hdirty hlen hreach
    refine ⟨t, ?_, hst, hregs, hhand⟩
    rw [exec_deal h hid hfl hrec hmay,
      State.dealNow_enters (s.take d) d b ((s.image_take d _).trans hm) hk ((State.entryReason_take hq m f).trans hr) hsome, ht]
  · have hr : s.entryReason m f = some 7 := by rw [State.entryReason_side s f hk, hh]; rfl
    rw [exec_deal h hid hfl hrec hmay,
      State.dealNow_refused (s.take d) d b ((s.image_take d _).trans hm) (fun _ => ⟨hmb, hf0⟩) ((State.entryReason_take hq m f).trans hr)]
  · have hr : s.entryReason m f = some 5 := by rw [State.entryReason_side s f hk, hh, ht]; rfl
    rw [exec_deal h hid hfl hrec hmay,
      State.dealNow_refused (s.take d) d b ((s.image_take d _).trans hm) (fun _ => ⟨hmb, hf0⟩) ((State.entryReason_take hq m f).trans hr)]
  · have hr : s.entryReason m f = none := by rw [State.entryReason_side s f hk, hh, ht]; rfl
    rw [exec_deal h hid hfl hrec hmay,
      State.dealNow_side (s.take d) d b ((s.image_take d _).trans hm) hk ((State.entryReason_take hq m f).trans hr) hmb hf0,
      State.enterDeal_alone (s.take d) d b true hlen]
    rfl

end Sys2Proof.Machine

/-! SUPPORT. A wafer in whose units nothing waits: what `advanceAll` and the delivery of trick results leave of it (R204, R211, R212). -/

namespace Sys2Proof.Machine

/-! ### Units that have nothing to do -/

/-- Nothing waits in a unit of any tile, whether or not a freeze is under way. -/
def State.allIdle (s : State) : Prop := ∀ n side, ((s.tile n).ctx side).idle

theorem State.allCalm.allIdle {s : State} (h : s.allCalm) : s.allIdle := by
  intro n side
  obtain ⟨hprim, hside, _⟩ := h n
  cases side
  · exact hprim
  · exact hside

theorem State.allCalm.freezing {s : State} (h : s.allCalm) : s.fab.freezing = false := (h 0).2.2

theorem State.allIdle.allCalm {s : State} (h : s.allIdle) (hf : s.fab.freezing = false) : s.allCalm :=
  fun n => ⟨h n false, h n true, hf⟩

theorem State.allIdle.of_tiles {s t : State} (h : s.allIdle) (ht : t.tiles = s.tiles) : t.allIdle := by
  intro n side
  rw [State.tile_of_tiles ht]
  exact h n side

/-- With idle units a tile goes on by nothing but the end of a freeze (R211). -/
theorem State.advance_idle {s : State} (h : s.allIdle) (n : Nat) : s.advance n = s.freezeCheck := by
  have hpump : ∀ side, s.pumpOut (siteOf n side) = s := fun side => s.pumpOut_empty _ (Ctx.out_of_idle _ (h n side))
  have hturns : ∀ side, s.turnsOf (siteOf n side) turnLimit = s := fun side =>
    s.turnsOf_none _ _ (s.nextTurn_idle _ (h n side))
  unfold State.advance
  simp only [hpump, hturns]

/-- Nothing happens in any tile while no unit has anything to do. -/
theorem State.advanceAll_calm {s : State} (h : s.allCalm) : s.advanceAll = s := by
  have hall : ∀ l : List Nat, s.each l State.advance = s := by
    intro l
    induction l with
    | nil => rfl
    | cons n l ih => rw [State.each_cons, s.advance_rests n (s.rests_of_calm n (h n)), ih]
  exact hall _

/-! ### What the delivery of results leaves (R204, R212) -/

/-- A context but for its general registers and what it waits for. -/
def Ctx.sansWaits (c : Ctx) : Ctx := { c with waits := [], g := [] }

/-- A tile but for what results write: general registers, and waits for tricks. -/
def Tile.sansWaits (x : Tile) : Tile := { x with prim := x.prim.sansWaits, side := x.side.sansWaits }

/-- What results may change has changed and nothing else: the tricks, the waits for them and the registers that take them. -/
structure State.Delivered (s t : State) : Prop where
  rest : t = { s with tiles := t.tiles, fab := { s.fab with tricks := t.fab.tricks } }
  tile : ∀ n, (t.tile n).sansWaits = (s.tile n).sansWaits

theorem State.Delivered.refl (s : State) : s.Delivered s := ⟨rfl, fun _ => rfl⟩

theorem State.Delivered.trans {s t u : State} (h : s.Delivered t) (g : t.Delivered u) : s.Delivered u :=
  ⟨by rw [g.rest, h.rest], fun n => (g.tile n).trans (h.tile n)⟩

theorem State.Delivered.ctx {s t : State} (h : s.Delivered t) (n : Nat) (side : Bool) :
    ((t.tile n).ctx side).sansWaits = ((s.tile n).ctx side).sansWaits := by
  cases side
  · exact congrArg Tile.prim (h.tile n)
  · exact congrArg Tile.side (h.tile n)

theorem State.Delivered.allIdle {s t : State} (h : s.Delivered t) (hs : s.allIdle) : t.allIdle := by
  have hiff : ∀ c : Ctx, c.sansWaits.idle ↔ c.idle := fun _ => Iff.rfl
  intro n side
  rw [← hiff, h.ctx, hiff]
  exact hs n side

theorem State.Delivered.allCalm {s t : State} (h : s.Delivered t) (hs : s.allCalm) : t.allCalm :=
  (h.allIdle hs.allIdle).allCalm (by rw [h.rest]; exact hs.freezing)

theorem Ctx.sansWaits_setGr (c : Ctx) (r : BitVec 5) (v : W32) : (c.setGr r v).sansWaits = c.sansWaits := by
  unfold Ctx.setGr
  split
  · rfl
  · rfl

theorem Ctx.setGr_waits (c : Ctx) (r : BitVec 5) (v : W32) : (c.setGr r v).waits = c.waits := by
  unfold Ctx.setGr
  split
  · rfl
  · rfl

/-- A context that takes the result of a tree: each wait that has issued ends, and its register holds the value (R162, R204). -/
def Ctx.takeResult (tree : Nat) (v : W32) (c : Ctx) : Ctx :=
  (c.waits.filter (fun w => w.issued && w.tree == tree)).foldl (fun (c : Ctx) w => c.setGr w.gd v)
    { c with waits := c.waits.filter (fun w => !(w.issued && w.tree == tree)) }

theorem Ctx.foldl_setGr_sansWaits (l : List TrickWait) (v : W32) (c : Ctx) :
    (l.foldl (fun (c : Ctx) w => c.setGr w.gd v) c).sansWaits = c.sansWaits := by
  induction l generalizing c with
  | nil => rfl
  | cons w l ih => exact (ih _).trans (c.sansWaits_setGr _ _)

theorem Ctx.foldl_setGr_waits (l : List TrickWait) (v : W32) (c : Ctx) :
    (l.foldl (fun (c : Ctx) w => c.setGr w.gd v) c).waits = c.waits := by
  induction l generalizing c with
  | nil => rfl
  | cons w l ih => exact (ih _).trans (c.setGr_waits _ _)

/-- A register that one of the waits names holds the value once all have taken it. -/
theorem Ctx.foldl_setGr_gr (l : List TrickWait) (v : W32) (c : Ctx) (r : BitVec 5) (hr : r ≠ 0)
    (h : c.gr r = v ∨ ∃ w ∈ l, w.gd = r) : (l.foldl (fun (c : Ctx) w => c.setGr w.gd v) c).gr r = v := by
  induction l generalizing c with
  | nil =>
    obtain h | ⟨w, hw, _⟩ := h
    · exact h
    · cases hw
  | cons w l ih =>
    refine ih _ ?_
    by_cases hw : w.gd = r
    · rw [← hw] at hr ⊢
      exact .inl (c.gr_setGr_same _ _ hr)
    · rw [c.gr_setGr_other _ _ _ (Ne.symm hw)]
      obtain h | ⟨x, hx, hxr⟩ := h
      · exact .inl h
      · obtain rfl | hx := List.mem_cons.mp hx
        · exact absurd hxr hw
        · exact .inr ⟨x, hx, hxr⟩

theorem Ctx.takeResult_sansWaits (tree : Nat) (v : W32) (c : Ctx) : (c.takeResult tree v).sansWaits = c.sansWaits :=
  Ctx.foldl_setGr_sansWaits _ v _

theorem Ctx.takeResult_waits (tree : Nat) (v : W32) (c : Ctx) :
    (c.takeResult tree v).waits = c.waits.filter (fun w => !(w.issued && w.tree == tree)) :=
  Ctx.foldl_setGr_waits _ v _

theorem Ctx.takeResult_gr {tree : Nat} (v : W32) {c : Ctx} {w : TrickWait} (hw : w ∈ c.waits) (hi : w.issued = true) (ht : w.tree = tree)
    (hr : w.gd ≠ 0) : (c.takeResult tree v).gr w.gd = v :=
  Ctx.foldl_setGr_gr _ v _ _ hr (.inr ⟨w, List.mem_filter.mpr ⟨hw, by rw [hi, ht, beq_self_eq_true]; rfl⟩, rfl⟩)

/-- A tile whose contexts take the result of a tree. -/
def Tile.takeResult (tree : Nat) (v : W32) (x : Tile) : Tile :=
  { x with prim := x.prim.takeResult tree v, side := x.side.takeResult tree v }

theorem Tile.takeResult_sansWaits (tree : Nat) (v : W32) (x : Tile) : (x.takeResult tree v).sansWaits = x.sansWaits := by
  unfold Tile.takeResult Tile.sansWaits
  dsimp only
  rw [Ctx.takeResult_sansWaits, Ctx.takeResult_sansWaits]

theorem State.delivered_onTile (s : State) (n tree : Nat) (v : W32) : s.Delivered (s.onTile n (Tile.takeResult tree v)) := by
  refine ⟨rfl, fun m => ?_⟩
  by_cases hm : m = n
  · rw [hm, State.tile_onTile_same, Tile.takeResult_sansWaits]
  · rw [State.tile_onTile_other _ _ _ _ hm]

theorem State.delivered_setTrick (s : State) (tree : Nat) (t : Trick) : s.Delivered (s.setTrick tree t) := ⟨rfl, fun _ => rfl⟩

theorem State.delivered_each {α : Type} (f : State → α → State) (h : ∀ (u : State) (e : α), u.Delivered (f u e)) (l : List α) (s : State) :
    s.Delivered (s.each l f) := by
  induction l generalizing s with
  | nil => exact State.Delivered.refl s
  | cons e l ih => exact (h s e).trans (ih _)

/-- What the members of a complete trick take, before its tree begins anew. -/
def State.giveResult (s : State) (tree : Nat) (v : W32) : State :=
  s.each (s.members tree) (fun u m => u.onTile m (Tile.takeResult tree v))

theorem State.deliver_eq (s : State) (tree : Nat) : s.deliver tree =
    match (s.trickOf tree).done with
    | none => s
    | some v => if !s.moving then s else (s.giveResult tree v).setTrick tree { Trick.reset with inst := (s.trickOf tree).inst + 1 } := rfl

/-- A complete trick of a wafer that moves is delivered. -/
theorem State.deliver_done {s : State} {tree : Nat} {v : W32} (hd : (s.trickOf tree).done = some v) (hm : s.moving = true) :
    s.deliver tree = (s.giveResult tree v).setTrick tree { Trick.reset with inst := (s.trickOf tree).inst + 1 } := by
  rw [State.deliver_eq, hd, hm]
  rfl

theorem State.deliver_none {s : State} {tree : Nat} (hd : (s.trickOf tree).done = none) : s.deliver tree = s := by
  rw [State.deliver_eq, hd]

theorem State.deliver_held {s : State} (tree : Nat) (hm : s.moving = false) : s.deliver tree = s := by
  rw [State.deliver_eq, hm]
  split
  · rfl
  · rfl

theorem State.delivered_deliver (s : State) (tree : Nat) : s.Delivered (s.deliver tree) := by
  cases hd : (s.trickOf tree).done with
  | none => rw [State.deliver_none hd]; exact State.Delivered.refl s
  | some v =>
    cases hm : s.moving with
    | true =>
      rw [State.deliver_done hd hm]
      exact (State.delivered_each _ (fun u m => u.delivered_onTile m tree v) _ s).trans (State.delivered_setTrick _ _ _)
    | false => rw [State.deliver_held tree hm]; exact State.Delivered.refl s

theorem State.delivered_deliverAll (s : State) : s.Delivered s.deliverAll := State.delivered_each _ State.delivered_deliver _ s

end Sys2Proof.Machine

/-! PROOF. Tricks at the root and their timeouts (O20). -/

namespace Sys2Proof.Machine

/-! ### Packets in good order (R200, R201) -/

/-- A packet in good order of the kind that a node takes is taken. -/
theorem State.hop_good (s : State) {h : Hop} {kind : BitVec 4} (hg : goodHop h kind) (hk : kindReserved kind = false)
    (run : State → State) : s.hop h kind run = run s := by
  obtain ⟨hperr, rfl⟩ := hg
  unfold State.hop
  rw [hk, decide_eq_false (by omega)]
  exact if_pos rfl

/-! ### Sets of keys -/

theorem contains_setIns (l : List Nat) (k x : Nat) : (setIns l k).contains x = (decide (x = k) || l.contains x) := by
  rw [Bool.eq_iff_iff]
  simp only [List.contains_iff_mem, Bool.or_eq_true, decide_eq_true_eq]
  induction l with
  | nil => simp [setIns]
  | cons j l ih =>
    unfold setIns
    split
    · simp
    · split
      next hj => subst hj; simp
      · simp only [List.mem_cons, ih]
        tauto

/-! ### Contributions at the root (R204) -/

@[simp] theorem State.trickOf_setTrick_same (s : State) (tree : Nat) (t : Trick) : (s.setTrick tree t).trickOf tree = t :=
  Map.get_put_same _ _ _ _

theorem State.trickOf_setTrick_other (s : State) {tree r : Nat} (t : Trick) (h : r ≠ tree) : (s.setTrick tree t).trickOf r = s.trickOf r :=
  Map.get_put_other _ _ _ _ _ _ h

@[simp] theorem State.tile_setTrick (s : State) (tree : Nat) (t : Trick) (n : Nat) : (s.setTrick tree t).tile n = s.tile n := rfl

/-- The value that a contribution leaves at the root, and the state after a draw where no rule gives it (R204; log 218). -/
def State.trickValue (s : State) (tree : Nat) (fn : BitVec 4) (v : W32) : W32 × State :=
  if 3 < fn.toNat then s.freeW
  else (if (s.trickOf tree).got.isEmpty then v else trickFn fn (s.trickOf tree).value v, s)

/-- What the root holds of a tree after the contribution of a member. -/
def State.joined (s : State) (tree m : Nat) (fn : BitVec 4) (v : W32) : Trick :=
  { s.trickOf tree with
    fn := some fn, got := setIns (s.trickOf tree).got m, value := (s.trickValue tree fn v).1
    done := if (s.members tree).all (fun x => decide (x = m) || (s.trickOf tree).got.contains x) then some (s.trickValue tree fn v).1 else none }

theorem State.trickValue_known (s : State) (tree : Nat) {fn : BitVec 4} (v : W32) (h : fn.toNat ≤ 3) :
    (s.trickValue tree fn v).1 = if (s.trickOf tree).got.isEmpty then v else trickFn fn (s.trickOf tree).value v := by
  unfold State.trickValue
  rw [if_neg (by omega)]

theorem State.trickValue_state (s : State) (tree : Nat) (fn : BitVec 4) (v : W32) :
    ∃ k, (s.trickValue tree fn v).2 = { s with free := k } := by
  unfold State.trickValue
  split
  · exact ⟨_, rfl⟩
  · exact ⟨_, rfl⟩

section
variable {s : State} {tree m : Nat} (htree : tree < 0xF0) (hm : (s.members tree).contains m = true)
  (hgot : (s.trickOf tree).got.contains m = false) (hdone : (s.trickOf tree).done = none)
include htree hm hgot hdone

/-- The first contribution of a member of an open wafer trick. -/
theorem State.contribIn_first (fn : BitVec 4) (v : W32) : s.contribIn tree m fn v =
    if (s.trickOf tree).fn.any (fun g => g != fn) then s.trickFault tree
    else (s.trickValue tree fn v).2.setTrick tree (s.joined tree m fn v) := by
  have hfree : ¬ (tree = 0xFF ∨ (!(s.members tree).contains m) = true ∨ (s.trickOf tree).got.contains m = true ∨
      (s.trickOf tree).done.isSome = true) := by
    rw [hm, hgot, hdone]
    simp
    omega
  have hfull : (s.members tree).all (setIns (s.trickOf tree).got m).contains =
      (s.members tree).all (fun x => decide (x = m) || (s.trickOf tree).got.contains x) :=
    congrArg (s.members tree).all (funext (contains_setIns _ m))
  unfold State.contribIn
  refine (if_neg hfree).trans ?_
  split
  · rfl
  · dsimp only
    rw [hfull, decide_eq_true htree, decide_eq_false (by omega), Bool.and_false, Bool.and_true]
    rfl

/-- One whose function agrees is combined (R204). -/
theorem State.contribIn_joins {fn : BitVec 4} (v : W32) (hfn : (s.trickOf tree).fn = none ∨ (s.trickOf tree).fn = some fn) :
    s.contribIn tree m fn v = (s.trickValue tree fn v).2.setTrick tree (s.joined tree m fn v) := by
  rw [State.contribIn_first htree hm hgot hdone fn v]
  refine if_neg ?_
  obtain h | h := hfn <;> simp [h]

/-- One whose function differs is TRICK_FAULT (R204). -/
theorem State.contribIn_differs {fn g : BitVec 4} (v : W32) (hfn : (s.trickOf tree).fn = some g) (hne : g ≠ fn) :
    s.contribIn tree m fn v = s.trickFault tree := by
  rw [State.contribIn_first htree hm hgot hdone fn v]
  refine if_pos ?_
  rw [hfn]
  simpa using hne

end

/-! ### Results (R204) -/

theorem State.members_nodup (s : State) (tree : Nat) : (s.members tree).Nodup := List.nodup_range.filter _

/-- A change of each of several tiles, each named once. -/
theorem State.tile_each_onTile (f : Tile → Tile) (l : List Nat) (hl : l.Nodup) (s : State) (n : Nat) :
    (s.each l (fun u m => u.onTile m f)).tile n = if n ∈ l then f (s.tile n) else s.tile n := by
  induction l generalizing s with
  | nil => rfl
  | cons m l ih =>
    obtain ⟨hm, hl⟩ := List.nodup_cons.mp hl
    rw [State.each_cons, ih hl]
    by_cases hn : n = m
    · subst hn
      rw [if_neg hm, if_pos List.mem_cons_self, State.tile_onTile_same]
    · rw [State.tile_onTile_other _ _ _ _ hn]
      simp only [List.mem_cons, hn, false_or]

theorem State.tile_giveResult (s : State) (tree : Nat) (v : W32) (n : Nat) :
    (s.giveResult tree v).tile n = if n ∈ s.members tree then (s.tile n).takeResult tree v else s.tile n :=
  State.tile_each_onTile _ _ (s.members_nodup tree) s n

theorem Tile.ctx_takeResult (tree : Nat) (v : W32) (x : Tile) (side : Bool) :
    (x.takeResult tree v).ctx side = (x.ctx side).takeResult tree v := by
  cases side
  · rfl
  · rfl

theorem exec_result (tree : Nat) (h : Hop) (s : State) : exec (.result tree h) s = .next (s.hop h 2 (fun u => (u.deliver tree).advanceAll)) := rfl

/-! ### Events and the members of a tree -/

theorem State.said_emit (s : State) (c : Nat) (l : List Arg) : s.said s (s.emit c l) c l := ⟨s.quiet_emit c l, s.noted_emit c l⟩

theorem State.members_congr {s t : State} (ht : t.tiles = s.tiles) (hf : ∀ f, t.fieldOff f = s.fieldOff f) (tree : Nat) :
    t.members tree = s.members tree := by
  unfold State.members
  simp only [hf, State.tile_of_tiles ht]

theorem State.Quiet.fieldOff {s t : State} (h : s.Quiet t) (f : Nat) : t.fieldOff f = s.fieldOff f := by
  unfold State.fieldOff State.folded State.lost State.rd64
  rw [h.rd _ (by decide), h.rd _ (by decide), h.rd _ (by decide), h.rd _ (by decide)]

/-! ### O20 -/

/-- Settles O20: by what one contribution, one delivery and one timeout do. -/
theorem tricks : Obligations.Tricks := by
  unfold Obligations.Tricks
  refine ⟨fun s tree h => ⟨fun m fn v hh htree hm hgot hdone hfn => ?_, fun m fn g v hh htree hm hgot hdone hfn hne => ?_,
    fun v hh hdone hmov hcalm => ?_, fun hh hdone hcalm => ?_⟩, fun s tree => ⟨fun hlate => ?_, fun hlate => ?_⟩⟩
  · obtain ⟨k, hk⟩ := s.trickValue_state tree fn v
    refine ⟨(s.trickValue tree fn v).2.setTrick tree (s.joined tree m fn v), ?_, ?_⟩
    · rw [← State.contribIn_joins htree hm hgot hdone v hfn]
      exact congrArg Host.Outcome.next (s.hop_good hh rfl _)
    · rw [State.trickOf_setTrick_same, hk]
      refine ⟨rfl, rfl, fun hle => s.trickValue_known tree v hle, ?_, fun r hr => ?_, rfl, rfl⟩
      · simp only [State.joined]
      · exact State.trickOf_setTrick_other _ _ hr
  · refine ⟨_, s.emit 0x030D [.w4 tree], ?_, s.said_emit _ _, rfl⟩
    refine congrArg Host.Outcome.next ((s.hop_good hh rfl _).trans ?_)
    exact State.contribIn_differs htree hm hgot hdone v hfn hne
  · have hdel := s.delivered_deliver tree
    refine ⟨s.deliver tree, ?_, ?_⟩
    · rw [exec_result, s.hop_good hh rfl, State.advanceAll_calm (hdel.allCalm hcalm)]
    · have htile : ∀ n, (s.deliver tree).tile n = if n ∈ s.members tree then (s.tile n).takeResult tree v else s.tile n := by
        intro n
        rw [State.deliver_done hdone hmov, State.tile_setTrick]
        exact s.tile_giveResult tree v n
      refine ⟨?_, fun n side hn => ?_, fun n hn => ?_, ?_, ?_⟩
      · rw [State.deliver_done hdone hmov, State.trickOf_setTrick_same]
      · rw [htile, if_pos hn, Tile.ctx_takeResult]
        exact ⟨Ctx.takeResult_waits tree v _, fun w hw hi ht hr => Ctx.takeResult_gr v hw hi ht hr⟩
      · rw [htile, if_neg hn]
      · rw [hdel.rest]
      · rw [hdel.rest]
  · refine congrArg Host.Outcome.next ((s.hop_good hh rfl _).trans ?_)
    rw [State.deliver_none hdone, State.advanceAll_calm hcalm]
  · obtain ⟨htree, hgot, hdone, hmov⟩ := hlate
    have hsaid := s.said_emit 0x030B [.w4 tree]
    refine ⟨_, s.emit 0x030B [.w4 tree], congrArg Host.Outcome.next (if_neg ?_), hsaid, ?_⟩
    · rw [hdone, hmov]
      simpa using ⟨htree, hgot⟩
    · dsimp only
      simp only [List.isEmpty_iff, State.members_congr hsaid.1.tiles hsaid.1.fieldOff]
  · refine congrArg Host.Outcome.next (if_pos ?_)
    by_contra hc
    refine hlate ?_
    simpa [Option.isSome_iff_ne_none] using hc

end Sys2Proof.Machine

/-! PROOF. Stall, freeze, step and thaw (O18). -/

namespace Sys2Proof.Machine

/-! ### The end of a freeze's way to F_eff (R211, R214) -/

/-- Every unit stands at a beat. -/
def State.allThere (s : State) (f : Nat) : Bool := s.tiles.all (fun x => s.ctxThere x.1 f && s.routerThere x.1 f)

/-- A context whose beat is F_eff, if it runs. -/
def Ctx.standing (f : Nat) (c : Ctx) : Ctx := if c.running then { c with bc := BitVec.ofNat 64 f } else c

/-- The wafer frozen at F_eff, before its event. -/
def State.frozenAt (s : State) : State :=
  ({ s with
    fab := { s.fab with freezing := false }
    tiles := s.tiles.mapVals Tile.reset (fun x => { x with prim := x.prim.standing s.fEff }) } : State).wr R.FB_STATUS_FROZEN 1

theorem State.freezeCheck_eq (s : State) : s.freezeCheck =
    if !(s.fab.freezing && s.allThere s.fEff) then s else s.frozenAt.emit 0x030F [.w8 s.fEff] := rfl

theorem State.freezeCheck_there {s : State} (hf : s.fab.freezing = true) (ht : s.allThere s.fEff = true) :
    s.freezeCheck = s.frozenAt.emit 0x030F [.w8 s.fEff] := by
  rw [State.freezeCheck_eq, hf, ht]
  rfl

theorem State.tile_frozenAt (s : State) (n : Nat) : s.frozenAt.tile n = { s.tile n with prim := (s.tile n).prim.standing s.fEff } :=
  Map.get_mapVals s.tiles Tile.reset (fun x => { x with prim := x.prim.standing s.fEff }) n rfl

theorem Ctx.standing_idle (f : Nat) {c : Ctx} (h : c.idle) : (c.standing f).idle := by
  unfold Ctx.standing
  split
  · exact h
  · exact h

theorem State.frozenAt_allIdle {s : State} (h : s.allIdle) : s.frozenAt.allIdle := by
  intro n side
  rw [s.tile_frozenAt n]
  cases side
  · exact Ctx.standing_idle _ (h n false)
  · exact h n true

/-- What the units that go on may change while nothing waits in them: the tricks, the beats, the freeze and its event. -/
structure State.Resumes (s t : State) : Prop where
  idle : s.allIdle → t.allIdle
  pos : t.pos = s.pos
  fab : t.fab = { s.fab with tricks := t.fab.tricks, freezing := t.fab.freezing }
  rd : ∀ f : Fld, R.FB_STATUS_FROZEN.apart 0 f 0 = true → eventReg (f.addr 0) = false → t.rd f = s.rd f

theorem State.Resumes.refl (s : State) : s.Resumes s := ⟨fun h => h, rfl, rfl, fun _ _ _ => rfl⟩

theorem State.Resumes.trans {s t u : State} (h : s.Resumes t) (g : t.Resumes u) : s.Resumes u :=
  ⟨fun hs => g.idle (h.idle hs), g.pos.trans h.pos, by rw [g.fab, h.fab], fun f ha he => (g.rd f ha he).trans (h.rd f ha he)⟩

theorem State.Delivered.resumes {s t : State} (h : s.Delivered t) : s.Resumes t :=
  ⟨h.allIdle, by rw [h.rest], by rw [h.rest], fun f _ _ => by rw [h.rest]; rfl⟩

theorem State.Resumes.fEff {s t : State} (h : s.Resumes t) : t.fEff = s.fEff := by
  unfold State.fEff State.rd64
  rw [h.rd _ (by decide) (by decide), h.rd _ (by decide) (by decide)]

theorem State.Resumes.on {s t : State} (h : s.Resumes t) (f : Fld) (ha : R.FB_STATUS_FROZEN.apart 0 f 0 = true)
    (he : eventReg (f.addr 0) = false) : t.on f = s.on f := by
  unfold State.on
  rw [h.rd f ha he]

theorem State.resumes_frozenAt (s : State) : s.Resumes s.frozenAt :=
  ⟨State.frozenAt_allIdle, rfl, rfl, fun f ha _ => State.rd_wr_other _ _ f 1 (by decide) ha⟩

theorem State.resumes_emit (s : State) (c : Nat) (l : List Arg) : s.Resumes (s.emit c l) :=
  ⟨fun h => h.of_tiles (s.emit_tiles c l), s.emit_pos c l, by rw [s.emit_fab c l], fun f _ he => s.emit_rd c l f he⟩

theorem State.resumes_freezeCheck (s : State) : s.Resumes s.freezeCheck := by
  rw [State.freezeCheck_eq]
  split
  · exact State.Resumes.refl s
  · exact s.resumes_frozenAt.trans (State.resumes_emit _ _ _)

/-- Once the freeze is at its end there is no more of it. -/
theorem State.freezeCheck_twice (s : State) : s.freezeCheck.freezeCheck = s.freezeCheck := by
  by_cases h : (!(s.fab.freezing && s.allThere s.fEff)) = true
  · have hs : s.freezeCheck = s := by rw [State.freezeCheck_eq, if_pos h]
    rw [hs, hs]
  · refine State.freezeCheck_off _ ?_
    rw [State.freezeCheck_eq, if_neg h, State.emit_fab]
    rfl

/-- While nothing waits in the units, going on is the end of a freeze or nothing. -/
theorem State.advanceAll_idle {s : State} (h : s.allIdle) : s.advanceAll = s ∨ s.advanceAll = s.freezeCheck := by
  have hall : ∀ l : List Nat, s.freezeCheck.each l State.advance = s.freezeCheck := by
    intro l
    induction l with
    | nil => rfl
    | cons n l ih => rw [State.each_cons, State.advance_idle (s.resumes_freezeCheck.idle h), s.freezeCheck_twice, ih]
  unfold State.advanceAll
  generalize s.tiles.map (·.1) = l
  cases l with
  | nil => exact .inl rfl
  | cons n l => rw [State.each_cons, State.advance_idle h, hall]; exact .inr rfl

theorem State.advanceAll_freezeCheck {s : State} (h : s.allIdle) : s.advanceAll.freezeCheck = s.freezeCheck := by
  obtain ha | ha := State.advanceAll_idle h
  · rw [ha]
  · rw [ha, s.freezeCheck_twice]

theorem State.resumes_advanceAll {s : State} (h : s.allIdle) : s.Resumes s.advanceAll := by
  obtain ha | ha := State.advanceAll_idle h
  · rw [ha]; exact State.Resumes.refl s
  · rw [ha]; exact s.resumes_freezeCheck

theorem State.on_frozenAt (s : State) : s.frozenAt.on R.FB_STATUS_FROZEN = true :=
  State.on_wr_same _ R.FB_STATUS_FROZEN 1 (by decide)

/-- A freeze under way is in force once the check is made, or still under way. -/
theorem State.freezeCheck_frozen {s : State} (hf : s.fab.freezing = true) :
    s.freezeCheck.on R.FB_STATUS_FROZEN = true ∨ s.freezeCheck.fab.freezing = true := by
  rw [State.freezeCheck_eq]
  split
  · exact .inr hf
  · rw [State.emit_on _ _ _ _ (by decide)]
    exact .inl s.on_frozenAt

/-! ### Where every unit stands (R203, R211) -/

theorem Map.get_of_not_mem {α : Type} (m : Map α) (k : Nat) (d : α) (h : ∀ e ∈ m, e.1 ≠ k) : m.get k d = d := by
  induction m with
  | nil => rfl
  | cons e t ih =>
    rw [Map.get, if_neg (h e List.mem_cons_self)]
    exact ih fun x hx => h x (List.mem_cons_of_mem _ hx)

/-- A tile that is not listed has nothing that could be late. -/
theorem State.allThere_iff (s : State) (f : Nat) : s.allThere f = true ↔ ∀ n, (s.ctxThere n f && s.routerThere n f) = true := by
  unfold State.allThere
  rw [List.all_eq_true]
  refine ⟨fun h n => ?_, fun h x _ => h x.1⟩
  by_cases hn : ∃ x ∈ s.tiles, x.1 = n
  · obtain ⟨x, hx, rfl⟩ := hn
    exact h x hx
  · have hreset : s.tile n = Tile.reset := Map.get_of_not_mem _ _ _ fun x hx he => hn ⟨x, hx, he⟩
    unfold State.ctxThere State.routerThere
    rw [hreset]
    rfl

theorem State.endBeat_congr {s t : State} (h : t.hand = s.hand) : t.endBeat = s.endBeat := by
  unfold State.endBeat State.curImage
  rw [h]

/-- The delivery of results moves no unit. -/
theorem State.Delivered.allThere {s t : State} (h : s.Delivered t) (f : Nat) : t.allThere f = s.allThere f := by
  have hctx : ∀ n, t.ctxThere n f = s.ctxThere n f := by
    have hwaits : ∀ (u : State) (n : Nat), u.ctxThere n f =
      (!(u.tile n).prim.sansWaits.running || (((u.tile n).prim.sansWaits.closing || decide (f ≤ (u.tile n).prim.sansWaits.tc.toNat)) &&
        (u.tile n).prim.sansWaits.turns.all (fun e => decide (f ≤ e.1 / 2)) && !(u.tile n).prim.sansWaits.fill.any (·.go))) := fun _ _ => rfl
    intro n
    rw [hwaits, hwaits, show (t.tile n).prim.sansWaits = (s.tile n).prim.sansWaits from h.ctx n false]
  have hrouter : ∀ n, t.routerThere n f = s.routerThere n f := by
    intro n
    have hr : (t.tile n).sansWaits.router = (s.tile n).sansWaits.router := by rw [h.tile n]
    have hr : (t.tile n).router = (s.tile n).router := hr
    have hhand : t.hand = s.hand := by rw [h.rest]
    unfold State.routerThere
    rw [hr, State.endBeat_congr hhand]
  rw [Bool.eq_iff_iff, State.allThere_iff, State.allThere_iff]
  simp only [hctx, hrouter]

/-! ### FREEZE (R211) -/

/-- The least F_eff that is in force. -/
def State.freezeOld (s : State) : Nat := if s.on R.FB_STATUS_FROZEN || s.fab.freezing then s.fEff else 0

/-- F_eff of a freeze: the greatest of what is in force, the target, and the beat that the units gather. -/
def State.freezeBeat (s : State) (target : Nat) : Nat :=
  max (max s.freezeOld target) (if s.on R.FB_STATUS_FROZEN || s.fab.freezing then 0 else s.topBeat) % 2 ^ 48

/-- The units begin to run on to F_eff. -/
def State.freezeSet (s : State) (e : Nat) : State :=
  ({ (s.wr64 R.FB_FREEZE_BEAT_LO_FE_LO R.FB_FREEZE_BEAT_HI_FE_HI e).wr R.DB_STATUS_BREAK 0 with
    fab := { s.fab with freezing := true } } : State).wr R.FB_STATUS_FROZEN 0

theorem State.freezeNow_eq (s : State) (target : Nat) : s.freezeNow target =
    if (s.on R.FB_STATUS_FROZEN || s.fab.freezing) && s.freezeBeat target == s.freezeOld then s
    else ((s.freezeSet (s.freezeBeat target)).deliverAll.advanceAll).freezeCheck := rfl

theorem State.rd_freezeSet (s : State) (e : Nat) (f : Fld) (h1 : R.FB_FREEZE_BEAT_LO_FE_LO.apart 0 f 0 = true)
    (h2 : R.FB_FREEZE_BEAT_HI_FE_HI.apart 0 f 0 = true) (h3 : R.DB_STATUS_BREAK.apart 0 f 0 = true)
    (h4 : R.FB_STATUS_FROZEN.apart 0 f 0 = true) : (s.freezeSet e).rd f = s.rd f := by
  refine (State.rd_wr_other _ _ f 0 (by decide) h4).trans ?_
  refine (State.rd_wr_other _ _ f 0 (by decide) h3).trans ?_
  exact (State.rd_wr_other _ _ f _ (by decide) h2).trans (State.rd_wr_other _ _ f _ (by decide) h1)

theorem State.fEff_freezeSet (s : State) {e : Nat} (he : e < 2 ^ 48) : (s.freezeSet e).fEff = e := by
  have hkeep : ∀ f : Fld, R.DB_STATUS_BREAK.apart 0 f 0 = true → R.FB_STATUS_FROZEN.apart 0 f 0 = true →
      (s.freezeSet e).rd f = (s.wr64 R.FB_FREEZE_BEAT_LO_FE_LO R.FB_FREEZE_BEAT_HI_FE_HI e).rd f := fun f h1 h2 =>
    (State.rd_wr_other _ _ f 0 (by decide) h2).trans (State.rd_wr_other _ _ f 0 (by decide) h1)
  unfold State.fEff State.rd64
  rw [hkeep _ (by decide) (by decide), hkeep _ (by decide) (by decide)]
  unfold State.wr64
  rw [State.rd_wr_same _ _ _ (by decide), State.rd_wr_other _ _ _ _ (by decide) (by decide), State.rd_wr_same _ _ _ (by decide)]
  show e % 2 ^ 32 % 2 ^ 32 + 2 ^ 32 * (e / 2 ^ 32 % 2 ^ 16) = e
  omega

theorem State.fEff_lt (s : State) : s.fEff < 2 ^ 48 := by
  have hlo : s.rd R.FB_FREEZE_BEAT_LO_FE_LO < 2 ^ 32 := s.getI_lt _ 0
  have hhi : s.rd R.FB_FREEZE_BEAT_HI_FE_HI < 2 ^ 16 := s.getI_lt _ 0
  unfold State.fEff State.rd64
  omega

section
variable {s : State} {target : Nat} (hs : s.allIdle)
  (hnew : ((s.on R.FB_STATUS_FROZEN || s.fab.freezing) && s.freezeBeat target == s.freezeOld) = false)
include hs hnew

/-- A freeze that is new, or goes further than the one in force, makes the units run on with the results that they waited for. -/
theorem State.freezeNow_runs : ∃ d, (s.freezeSet (s.freezeBeat target)).Delivered d ∧ s.freezeNow target = d.freezeCheck := by
  have hdel := (s.freezeSet (s.freezeBeat target)).delivered_deliverAll
  refine ⟨_, hdel, ?_⟩
  rw [State.freezeNow_eq, hnew]
  exact State.advanceAll_freezeCheck (hdel.allIdle (hs.of_tiles rfl))

theorem State.freezeNow_beat : (s.freezeNow target).fEff = s.freezeBeat target := by
  obtain ⟨d, hdel, ht⟩ := State.freezeNow_runs hs hnew
  rw [ht, d.resumes_freezeCheck.fEff, hdel.resumes.fEff]
  exact s.fEff_freezeSet (Nat.mod_lt _ (by decide))

theorem State.freezeNow_frozen : (s.freezeNow target).on R.FB_STATUS_FROZEN = true ∨ (s.freezeNow target).fab.freezing = true := by
  obtain ⟨d, hdel, ht⟩ := State.freezeNow_runs hs hnew
  rw [ht]
  exact State.freezeCheck_frozen (by rw [hdel.rest]; rfl)

/-- Where every unit stands at F_eff the wafer is frozen at once, with FREEZE_DONE (R214). -/
theorem State.freezeNow_there (h : s.allThere (s.freezeBeat target) = true) :
    (s.freezeNow target).on R.FB_STATUS_FROZEN = true ∧ (s.freezeNow target).fab.freezing = false ∧
      s.noted 0x030F [.w8 (s.freezeBeat target)] ∈ (s.freezeNow target).sup.trace := by
  obtain ⟨d, hdel, ht⟩ := State.freezeNow_runs hs hnew
  have he : d.fEff = s.freezeBeat target := hdel.resumes.fEff.trans (s.fEff_freezeSet (Nat.mod_lt _ (by decide)))
  have hthere : d.allThere d.fEff = true := by
    rw [he, hdel.allThere]
    exact h
  have hnoted : d.frozenAt.noted 0x030F [.w8 d.fEff] = s.noted 0x030F [.w8 (s.freezeBeat target)] := by
    have hn : ∀ u : State, u.frozenAt.noted 0x030F [.w8 d.fEff] = u.noted 0x030F [.w8 d.fEff] := fun _ => rfl
    rw [hn, he, hdel.rest]
    rfl
  rw [ht, State.freezeCheck_there (by rw [hdel.rest]; rfl) hthere, ← hnoted]
  refine ⟨?_, ?_, State.noted_emit _ _ _⟩
  · rw [State.emit_on _ _ _ _ (by decide)]
    exact d.on_frozenAt
  · rw [State.emit_fab]
    rfl

theorem State.freezeNow_pos : (s.freezeNow target).pos = s.pos := by
  obtain ⟨d, hdel, ht⟩ := State.freezeNow_runs hs hnew
  rw [ht, d.resumes_freezeCheck.pos, hdel.resumes.pos]
  rfl

theorem State.freezeNow_allIdle : (s.freezeNow target).allIdle := by
  obtain ⟨d, hdel, ht⟩ := State.freezeNow_runs hs hnew
  rw [ht]
  exact d.resumes_freezeCheck.idle (hdel.allIdle (hs.of_tiles rfl))

theorem State.freezeNow_fab :
    (s.freezeNow target).fab.stallAt = s.fab.stallAt ∧ (s.freezeNow target).fab.freezePend = s.fab.freezePend := by
  obtain ⟨d, hdel, ht⟩ := State.freezeNow_runs hs hnew
  rw [ht, d.resumes_freezeCheck.fab, hdel.resumes.fab]
  exact ⟨rfl, rfl⟩

theorem State.freezeNow_rd (f : Fld) (h1 : R.FB_FREEZE_BEAT_LO_FE_LO.apart 0 f 0 = true)
    (h2 : R.FB_FREEZE_BEAT_HI_FE_HI.apart 0 f 0 = true) (h3 : R.DB_STATUS_BREAK.apart 0 f 0 = true)
    (h4 : R.FB_STATUS_FROZEN.apart 0 f 0 = true) (he : eventReg (f.addr 0) = false) : (s.freezeNow target).rd f = s.rd f := by
  obtain ⟨d, hdel, ht⟩ := State.freezeNow_runs hs hnew
  rw [ht, d.resumes_freezeCheck.rd f h4 he, hdel.resumes.rd f h4 he, s.rd_freezeSet _ f h1 h2 h3 h4]

end

/-! ### Stalls (R208, R209, R434) -/

theorem State.tiles_stallEnd (s : State) : s.stallEnd.tiles = s.tiles := s.stallEnd_frame.1

theorem State.fab_stallEnd (s : State) : s.stallEnd.fab = { s.fab with stallAt := none } := by
  unfold State.stallEnd
  dsimp only
  split
  · rfl
  · rfl

theorem State.pos_stallEnd (s : State) : s.stallEnd.pos = s.pos := by
  unfold State.stallEnd
  dsimp only
  split
  · rfl
  · rfl

theorem State.hand_stallEnd (s : State) : s.stallEnd.hand = s.hand := by
  unfold State.stallEnd
  dsimp only
  split
  · rfl
  · rfl

theorem State.on_stallEnd (s : State) : s.stallEnd.on R.FB_STATUS_STALLED = false := State.on_wr_same _ R.FB_STATUS_STALLED 0 (by decide)

theorem State.rd_stallEnd (s : State) (f : Fld) (h1 : R.FB_STALL_BEATS_BEATS.apart 0 f 0 = true)
    (h2 : R.FB_STATUS_STALLED.apart 0 f 0 = true) : s.stallEnd.rd f = s.rd f := by
  unfold State.stallEnd
  dsimp only
  refine (State.rd_wr_other _ _ f 0 (by decide) h2).trans ?_
  split
  · rfl
  · exact State.getI_setI_other s _ f 0 0 _ (by decide) h1

/-- The beats of the stall are counted (R209, R215). -/
theorem State.beats_stallEnd (s : State) :
    s.stallEnd.rd R.FB_STALL_BEATS_BEATS = min (s.rd R.FB_STALL_BEATS_BEATS + s.stallBeats) (2 ^ 32 - 1) := by
  have hlt : s.rd R.FB_STALL_BEATS_BEATS < 2 ^ 32 := s.getI_lt _ 0
  unfold State.stallEnd
  dsimp only
  refine (State.rd_wr_other _ _ _ 0 (by decide) (by decide)).trans ?_
  split
  next h0 =>
    rw [h0]
    exact (Nat.min_eq_left (show s.rd R.FB_STALL_BEATS_BEATS + 0 ≤ 2 ^ 32 - 1 by omega)).symm
  · exact (State.getI_setI_same s R.FB_STALL_BEATS_BEATS 0 _ (by decide)).trans (Nat.mod_eq_of_lt (by
      show min _ (2 ^ 32 - 1) < 2 ^ 32
      omega))

/-- An event names what it is emitted in by number, time and hand alone. -/
theorem State.said_emit_of {s u : State} (c : Nat) (l : List Arg) (h : u.noted c l = s.noted c l) : s.said u (u.emit c l) c l :=
  ⟨u.quiet_emit c l, h ▸ u.noted_emit c l⟩

/-- A wafer that stalls now, before its event. -/
def State.stalling (s : State) : State := ({ s with fab := { s.fab with stallAt := some s.ticks } } : State).wr R.FB_STATUS_STALLED 1

theorem State.stallNow_new {s : State} (cause : Nat) (h : s.on R.FB_STATUS_STALLED = false) :
    s.stallNow cause = s.stalling.emit 0x030E [.w4 cause] := if_neg (by rw [h]; decide)

theorem State.stallNow_stalled {s : State} (cause : Nat) (h : s.on R.FB_STATUS_STALLED = true) : s.stallNow cause = s := if_pos h

/-! ### UNSTALL (R209, R212) -/

/-- The wafer whose stall has ended, with the freeze that waited taken from it. -/
def State.unstalled (s : State) : State := ({ s with fab := { s.fab with freezePend := none } } : State).stallEnd

/-- The freeze that waited takes effect. -/
def State.refreezes (s : State) : Option Nat → State
  | none => s
  | some f => s.freezeNow f

theorem State.unstallNow_eq (s : State) : s.unstallNow =
    if s.fab.stallAt.isNone then s else (s.unstalled.refreezes s.fab.freezePend).deliverAll.advanceAll := by
  unfold State.unstallNow State.refreezes
  split
  · rfl
  · dsimp only
    cases s.fab.freezePend with
    | none => rfl
    | some f => rfl

theorem State.topBeat_congr {s t : State} (ht : t.tiles = s.tiles) (hf : t.fab.started = s.fab.started) : t.topBeat = s.topBeat := by
  unfold State.topBeat
  rw [ht, hf]

theorem State.fEff_stallEnd (s : State) : s.stallEnd.fEff = s.fEff := by
  unfold State.fEff State.rd64
  rw [s.rd_stallEnd _ (by decide) (by decide), s.rd_stallEnd _ (by decide) (by decide)]

theorem State.topBeat_unstalled (s : State) : s.unstalled.topBeat = s.topBeat := by
  refine State.topBeat_congr (State.tiles_stallEnd _) ?_
  unfold State.unstalled
  rw [State.fab_stallEnd]

theorem State.unstalled_calm {s : State} (hs : s.allCalm) : s.unstalled.allCalm := by
  refine State.allIdle.allCalm (hs.allIdle.of_tiles ?_) ?_
  · exact State.tiles_stallEnd _
  · unfold State.unstalled
    rw [State.fab_stallEnd]
    exact hs.freezing

/-- With no freeze in force, none is in force again: F_eff is the beat that the units gather, or the target where that is greater. -/
theorem State.freezeBeat_new {s : State} (hs : s.allCalm) (hf : s.on R.FB_STATUS_FROZEN = false) (target : Nat) :
    ((s.on R.FB_STATUS_FROZEN || s.fab.freezing) && s.freezeBeat target == s.freezeOld) = false ∧
      s.freezeBeat target = max target s.topBeat % 2 ^ 48 := by
  unfold State.freezeBeat State.freezeOld
  rw [hf, hs.freezing]
  refine ⟨rfl, ?_⟩
  show max (max 0 target) s.topBeat % 2 ^ 48 = _
  rw [Nat.zero_max]

/-- A freeze in force gives way to a greater beat alone (R211). -/
theorem State.freezeBeat_old {s : State} (hf : s.on R.FB_STATUS_FROZEN = true) {target : Nat} (ht : target < 2 ^ 48) :
    s.freezeOld = s.fEff ∧ s.freezeBeat target = max s.fEff target := by
  have hlt := s.fEff_lt
  unfold State.freezeBeat State.freezeOld
  rw [hf]
  refine ⟨rfl, ?_⟩
  show max (max s.fEff target) 0 % 2 ^ 48 = _
  rw [Nat.max_zero, Nat.mod_eq_of_lt (by omega)]

/-- What an UNSTALL leaves, whatever freeze waited. -/
theorem State.refreezes_leaves {s : State} (hs : s.allCalm) (p : Option Nat) :
    let t := s.unstalled.refreezes p
    t.allIdle ∧ t.pos = s.pos ∧ t.fab.stallAt = none ∧ t.fab.freezePend = none ∧
      ∀ f : Fld, R.FB_FREEZE_BEAT_LO_FE_LO.apart 0 f 0 = true → R.FB_FREEZE_BEAT_HI_FE_HI.apart 0 f 0 = true →
        R.DB_STATUS_BREAK.apart 0 f 0 = true → R.FB_STATUS_FROZEN.apart 0 f 0 = true → eventReg (f.addr 0) = false →
        t.rd f = s.unstalled.rd f := by
  have hcalm := State.unstalled_calm hs
  have hpos : s.unstalled.pos = s.pos := State.pos_stallEnd _
  have hfab : s.unstalled.fab.stallAt = none ∧ s.unstalled.fab.freezePend = none := by
    unfold State.unstalled
    rw [State.fab_stallEnd]
    exact ⟨rfl, rfl⟩
  cases p with
  | none => exact ⟨hcalm.allIdle, hpos, hfab.1, hfab.2, fun _ _ _ _ _ _ => rfl⟩
  | some target =>
    by_cases hnew : ((s.unstalled.on R.FB_STATUS_FROZEN || s.unstalled.fab.freezing) &&
        s.unstalled.freezeBeat target == s.unstalled.freezeOld) = true
    · have hkept : s.unstalled.refreezes (some target) = s.unstalled := by
        show s.unstalled.freezeNow target = _
        rw [State.freezeNow_eq, if_pos hnew]
      rw [hkept]
      exact ⟨hcalm.allIdle, hpos, hfab.1, hfab.2, fun _ _ _ _ _ _ => rfl⟩
    · rw [Bool.not_eq_true] at hnew
      obtain ⟨hstall, hpend⟩ := State.freezeNow_fab hcalm.allIdle hnew
      exact ⟨State.freezeNow_allIdle hcalm.allIdle hnew, (State.freezeNow_pos hcalm.allIdle hnew).trans hpos, hstall.trans hfab.1,
        hpend.trans hfab.2, fun f => State.freezeNow_rd hcalm.allIdle hnew f⟩

/-- Held results are delivered and the units run on. -/
theorem State.resumes_deliver_advance {s : State} (hs : s.allIdle) : s.Resumes s.deliverAll.advanceAll :=
  s.delivered_deliverAll.resumes.trans (State.resumes_advanceAll (s.delivered_deliverAll.allIdle hs))

/-- The first tick from now on that a command names keeps all but the ticks. -/
theorem State.allCalm.atTick {s : State} (h : s.allCalm) (tick : Nat) : (s.atTick tick).allCalm := h

theorem exec_stall (cause : Nat) (p : TrumpPkt) (s : State) :
    exec (.stall cause p) s = .next (s.hop p.hop 7 (fun u => (u.atTick p.arg).stallNow cause)) := rfl
theorem exec_unstall (p : TrumpPkt) (s : State) : exec (.unstall p) s = .next (s.hop p.hop 8 (fun u => (u.atTick p.arg).unstallNow)) := rfl
theorem exec_freeze (f : Nat) (h : Hop) (s : State) : exec (.freeze f h) s = .next (s.hop h 4 (fun u => u.freezeAt f)) := rfl
theorem exec_step (p : TrumpPkt) (s : State) : exec (.step p) s = .next (s.hop p.hop 5 (fun u => u.stepBy p.arg)) := rfl
theorem exec_thaw (p : TrumpPkt) (s : State) : exec (.thaw p) s = .next (s.hop p.hop 6 (fun u => (u.atTick p.arg).thawNow)) := rfl

theorem State.freezeAt_moving {s : State} (h : s.on R.FB_STATUS_STALLED = false) (f : Nat) : s.freezeAt f = s.freezeNow f :=
  if_neg (by rw [h]; decide)

/-- UNSTALL of a wafer that stalls (R209, R212, R434). -/
theorem unstall_leaves {s : State} {a : Nat} (ha : s.fab.stallAt = some a) (hs : s.allCalm) :
    let t := s.unstallNow
    t.on R.FB_STATUS_STALLED = false ∧ t.fab.stallAt = none ∧ t.fab.freezePend = none ∧
      t.rd R.FB_STALL_BEATS_BEATS =
        min (s.rd R.FB_STALL_BEATS_BEATS + (s.ticks - a) * 12 * (16 - s.rd R.CK_THROTTLE_LEVEL) / 16) (2 ^ 32 - 1) ∧
      (s.fab.freezePend = none → t.on R.FB_STATUS_FROZEN = s.on R.FB_STATUS_FROZEN ∧ t.fEff = s.fEff) ∧
      (∀ f, s.fab.freezePend = some f → s.on R.FB_STATUS_FROZEN = false → t.fEff = max f s.topBeat % 2 ^ 48) ∧ t.pos = s.pos := by
  have ht : s.unstallNow = (s.unstalled.refreezes s.fab.freezePend).deliverAll.advanceAll := by
    rw [State.unstallNow_eq, ha]
    rfl
  have hcalm := State.unstalled_calm hs
  obtain ⟨hidle, hpos, hstall, hpend, hrd⟩ := State.refreezes_leaves hs s.fab.freezePend
  have hres := State.resumes_deliver_advance hidle
  have hfrozen : s.unstalled.on R.FB_STATUS_FROZEN = s.on R.FB_STATUS_FROZEN := by
    unfold State.on State.unstalled
    rw [State.rd_stallEnd _ _ (by decide) (by decide)]
    rfl
  rw [← ht] at hres
  refine ⟨?_, ?_, ?_, ?_, fun hnone => ?_, fun f hsome hf => ?_, hres.pos.trans hpos⟩
  · rw [hres.on _ (by decide) (by decide)]
    unfold State.on
    rw [hrd _ (by decide) (by decide) (by decide) (by decide) (by decide)]
    exact State.on_stallEnd _
  · rw [hres.fab]
    exact hstall
  · rw [hres.fab]
    exact hpend
  · rw [hres.rd _ (by decide) (by decide), hrd _ (by decide) (by decide) (by decide) (by decide) (by decide)]
    refine (State.beats_stallEnd _).trans ?_
    have hbeats : ({ s with fab := { s.fab with freezePend := none } } : State).stallBeats =
        (s.ticks - a) * 12 * (16 - s.rd R.CK_THROTTLE_LEVEL) / 16 := by
      unfold State.stallBeats
      dsimp only
      rw [ha]
      rfl
    rw [hbeats]
    rfl
  · rw [hnone] at ht
    have hdel := s.unstalled.delivered_deliverAll
    have hmid : s.unstallNow = s.unstalled.deliverAll := ht.trans (State.advanceAll_calm (hdel.allCalm hcalm))
    rw [hmid, hdel.resumes.fEff, ← hfrozen]
    refine ⟨?_, State.fEff_stallEnd _⟩
    rw [hdel.rest]
    rfl
  · rw [hsome] at hres
    have hnew := State.freezeBeat_new hcalm (hfrozen.trans hf) f
    rw [hres.fEff]
    refine (State.freezeNow_beat hcalm.allIdle hnew.1).trans ?_
    rw [hnew.2, State.topBeat_unstalled]

/-- STEP of a frozen wafer (R211). -/
theorem State.stepBy_frozen {s : State} (h : s.on R.FB_STATUS_FROZEN = true) {n : Nat} (hn : 0 < n) :
    s.stepBy n = s.freezeAt (s.fEff + n) :=
  if_pos (by rw [h, decide_eq_true hn]; rfl)

/-- The wafer without its freeze (R211, R212). -/
def State.thawed (s : State) : State :=
  ({ s with fab := { s.fab with freezePend := none, freezing := false } } : State).wr R.FB_STATUS_FROZEN 0

theorem State.thawed_calm {s : State} (hs : s.allCalm) : s.thawed.allCalm := (hs.allIdle.of_tiles (t := s.thawed) rfl).allCalm rfl

/-- THAW (R209, R211, R212). -/
theorem thaw_leaves {s : State} (hs : s.allCalm) :
    let t := s.thawNow
    t.on R.FB_STATUS_FROZEN = false ∧ t.fab.freezePend = none ∧ t.fab.freezing = false ∧
      t.on R.FB_STATUS_STALLED = s.on R.FB_STATUS_STALLED ∧ t.pos = s.pos := by
  have hdel := s.thawed.delivered_deliverAll
  have ht : s.thawNow = s.thawed.deliverAll := State.advanceAll_calm (hdel.allCalm (State.thawed_calm hs))
  rw [ht]
  refine ⟨?_, ?_, ?_, ?_, hdel.resumes.pos⟩
  · rw [hdel.rest]
    exact State.on_wr_same _ R.FB_STATUS_FROZEN 0 (by decide)
  · rw [hdel.rest]
    rfl
  · rw [hdel.rest]
    rfl
  · rw [hdel.resumes.on _ (by decide) (by decide)]
    exact State.on_wr_other _ R.FB_STATUS_FROZEN _ 0 (by decide) (by decide)

/-- Settles O18: by what a stall that ends leaves, and by the run to F_eff of units in which nothing waits. -/
theorem stallAndFreeze : Obligations.StallAndFreeze := by
  unfold Obligations.StallAndFreeze
  refine ⟨fun s cause tick h => ⟨fun hh hoff => ?_, fun hh hon => ?_, fun a hh ha hcalm => ?_, fun hh ha => ?_⟩,
    fun s h => ⟨fun f hh hoff hthawed hcalm => ?_, fun f hh hoff hfrozen hle => ?_, fun f hh hon => ?_,
      fun n hh hfrozen hoff hn hlt hcalm => ?_, fun n hh hno => ?_, fun tick hh hcalm => ?_⟩⟩
  · refine ⟨_, ?_, State.said_emit_of (u := (s.atTick tick).stalling) _ _ rfl⟩
    rw [exec_stall, s.hop_good hh rfl]
    exact congrArg Host.Outcome.next (State.stallNow_new cause hoff)
  · rw [exec_stall, s.hop_good hh rfl]
    exact congrArg Host.Outcome.next (State.stallNow_stalled cause hon)
  · exact ⟨(s.atTick tick).unstallNow, congrArg Host.Outcome.next (s.hop_good hh rfl _), unstall_leaves ha (hcalm.atTick tick)⟩
  · rw [exec_unstall, s.hop_good hh rfl, State.unstallNow_eq, if_pos]
    show s.fab.stallAt.isNone = true
    rw [ha]
    rfl
  · obtain ⟨hnew, hbeat⟩ := State.freezeBeat_new hcalm hthawed f
    refine ⟨s.freezeNow f, ?_, ?_, State.freezeNow_frozen hcalm.allIdle hnew, State.freezeNow_pos hcalm.allIdle hnew, fun hthere => ?_⟩
    · rw [exec_freeze, s.hop_good hh rfl, State.freezeAt_moving hoff]
    · rw [State.freezeNow_beat hcalm.allIdle hnew, hbeat]
    · rw [← hbeat] at hthere ⊢
      exact State.freezeNow_there hcalm.allIdle hnew hthere
  · have hkept : ((s.on R.FB_STATUS_FROZEN || s.fab.freezing) && s.freezeBeat f == s.freezeOld) = true := by
      obtain ⟨hold, hbeat⟩ := State.freezeBeat_old hfrozen (hle.trans_lt s.fEff_lt)
      rw [hold, hbeat, Nat.max_eq_left hle, hfrozen, beq_self_eq_true]
      rfl
    rw [exec_freeze, s.hop_good hh rfl, State.freezeAt_moving hoff, State.freezeNow_eq, if_pos hkept]
  · rw [exec_freeze, s.hop_good hh rfl]
    exact congrArg Host.Outcome.next (if_pos hon)
  · obtain ⟨hold, hbeat⟩ := State.freezeBeat_old hfrozen hlt
    rw [Nat.max_eq_right (by omega)] at hbeat
    have hnew : ((s.on R.FB_STATUS_FROZEN || s.fab.freezing) && s.freezeBeat (s.fEff + n) == s.freezeOld) = false := by
      rw [hold, hbeat, beq_false_of_ne (by omega), Bool.and_false]
    refine ⟨s.freezeNow (s.fEff + n), ?_, ?_, State.freezeNow_frozen hcalm.allIdle hnew, State.freezeNow_pos hcalm.allIdle hnew⟩
    · rw [exec_step, s.hop_good hh rfl, State.stepBy_frozen hfrozen hn, State.freezeAt_moving hoff]
    · rw [State.freezeNow_beat hcalm.allIdle hnew, hbeat]
  · rw [exec_step, s.hop_good hh rfl]
    refine congrArg Host.Outcome.next (if_neg ?_)
    obtain h0 | h0 := hno <;> simp [h0]
  · exact ⟨(s.atTick tick).thawNow, by rw [exec_thaw, s.hop_good hh rfl], thaw_leaves (hcalm.atTick tick)⟩

end Sys2Proof.Machine

/-! SUPPORT. What STOP, a misdeal and a fatal error leave: the stopped wafer, the registers apart, and the trace (R32, R210, R371, R481). -/

namespace Sys2Proof.Machine

/-! ### Packets that a seat sends (R359, R367) -/

/-- Whether a register is one of LK_PHELD. -/
def pheldReg (o : Nat) : Bool := decide (R.LK_PHELD_SLOTS.addr 0 ≤ o) && decide (o < R.LK_PHELD_SLOTS.addr 16)

/-- What packets that leave change: the link ports, a count of held slots and with it the free values. -/
structure State.Sends (s t : State) : Prop where
  rest : t = { s with regs := t.regs, link := t.link, free := t.free }
  reg : ∀ o, pheldReg o = false → t.reg o = s.reg o

theorem State.Sends.refl (s : State) : s.Sends s := ⟨rfl, fun _ _ => rfl⟩

theorem State.Sends.trans {s t u : State} (h : s.Sends t) (g : t.Sends u) : s.Sends u :=
  ⟨by rw [g.rest, h.rest], fun o ho => (g.reg o ho).trans (h.reg o ho)⟩

theorem pheldReg_addr {p : Nat} (hp : p < 16) : pheldReg (R.LK_PHELD_SLOTS.addr p) = true := by
  unfold pheldReg Fld.addr R.LK_PHELD_SLOTS
  dsimp only
  rw [decide_eq_true (by omega), decide_eq_true (by omega)]
  rfl

theorem State.sends_linkOut (s : State) (p : LinkOut) (hp : p.port < 16) : s.Sends (s.linkOut p) := by
  unfold State.linkOut
  dsimp only
  split
  · exact ⟨rfl, fun _ _ => rfl⟩
  · refine ⟨rfl, fun o ho => ?_⟩
    refine State.reg_setReg_other _ _ o _ ?_
    rintro rfl
    rw [pheldReg_addr hp] at ho
    cases ho

theorem State.each_keeps_mem {α : Type} {P : State → Prop} {f : State → α → State} {l : List α} (h : ∀ u, ∀ a ∈ l, P u → P (f u a))
    {s : State} (hs : P s) : P (s.each l f) := by
  induction l generalizing s with
  | nil => exact hs
  | cons a l ih =>
    exact ih (fun u b hb => h u b (List.mem_cons_of_mem _ hb)) (h s a List.mem_cons_self hs)

theorem State.sends_flood (s : State) (src typ hops : Nat) (body : Bytes) (port : Option Nat) :
    s.Sends (s.flood src typ hops body port).1 := by
  unfold State.flood
  split
  · exact State.Sends.refl s
  · refine State.each_keeps_mem (P := fun u => s.Sends u) (fun u p hp hu => hu.trans (u.sends_linkOut _ ?_)) ⟨rfl, fun _ _ => rfl⟩
    exact List.mem_range.mp (List.mem_filter.mp (List.mem_filter.mp hp).1).1

/-! ### A stopped wafer (R210, R212, R249, R315) -/

/-- A position under STOP: its dealer has discarded what it queued, and its pot adder every open round (R249, R315). -/
def Pos.stop (p : Pos) : Pos := { p with dealer := { p.dealer with gathers := [], opened := [] }, pot := p.pot.abandon }

/-- Every unit, dealer and pot adder is stopped; no trick is open, no schedule runs, and neither a freeze nor a stall is in force. -/
structure State.Stopped (t : State) : Prop where
  tile : ∀ n, (t.tile n).stop = t.tile n
  posn : ∀ k, (t.posn k).stop = t.posn k
  tricks : t.fab.tricks = []
  started : t.fab.started = false
  freezing : t.fab.freezing = false
  frozen : t.on R.FB_STATUS_FROZEN = false
  stalled : t.on R.FB_STATUS_STALLED = false

theorem State.Stopped.of_frame {s t : State} (h : s.Stopped) (ht : t.tiles = s.tiles) (hp : t.pos = s.pos) (hf : t.fab = s.fab)
    (hz : t.on R.FB_STATUS_FROZEN = s.on R.FB_STATUS_FROZEN) (hs : t.on R.FB_STATUS_STALLED = s.on R.FB_STATUS_STALLED) : t.Stopped := by
  have hposn : ∀ k, t.posn k = s.posn k := fun k => by unfold State.posn; rw [hp]
  refine ⟨fun n => ?_, fun k => ?_, ?_, ?_, ?_, hz.trans h.frozen, hs.trans h.stalled⟩
  · rw [State.tile_of_tiles ht]
    exact h.tile n
  · rw [hposn]
    exact h.posn k
  · rw [hf]
    exact h.tricks
  · rw [hf]
    exact h.started
  · rw [hf]
    exact h.freezing

/-- The wafer under STOP while its stall, if any, is still counted. -/
def State.stopping (s : State) : State :=
  { s with
    tiles := s.tiles.mapVals Tile.reset Tile.stop
    pos := s.pos.mapVals Pos.reset Pos.stop
    fab := { s.fab with tricks := [], edgeIn := [], edgeOut := [], freezePend := none, freezing := false, started := false } }

theorem State.stopWafer_eq (s : State) : s.stopWafer = s.stopping.stallEnd.wr R.FB_STATUS_FROZEN 0 := rfl

theorem State.posn_stopWafer (s : State) (k : Nat) : s.stopWafer.posn k = (s.posn k).stop := by
  unfold State.posn
  rw [State.stopWafer_eq, State.wr_pos, State.pos_stallEnd]
  exact Map.get_mapVals s.pos Pos.reset Pos.stop k rfl

theorem State.fab_stopWafer (s : State) : s.stopWafer.fab = { s.stopping.fab with stallAt := none } := by
  rw [State.stopWafer_eq, State.wr_fab, State.fab_stallEnd]

theorem State.hand_stopWafer (s : State) : s.stopWafer.hand = s.hand := by
  rw [State.stopWafer_eq, State.wr_hand, State.hand_stallEnd]
  rfl

theorem State.sup_stallEnd (s : State) : s.stallEnd.sup = s.sup := by
  unfold State.stallEnd
  dsimp only
  split
  · rfl
  · rfl

theorem State.sup_stopWafer (s : State) : s.stopWafer.sup = s.sup := by
  rw [State.stopWafer_eq, State.wr_sup, State.sup_stallEnd]
  rfl

theorem State.rd_stopWafer (s : State) (f : Fld) (h1 : R.FB_STALL_BEATS_BEATS.apart 0 f 0 = true)
    (h2 : R.FB_STATUS_STALLED.apart 0 f 0 = true) (h3 : R.FB_STATUS_FROZEN.apart 0 f 0 = true) : s.stopWafer.rd f = s.rd f := by
  rw [State.stopWafer_eq, State.rd_wr_other _ _ _ _ (by decide) h3, State.rd_stallEnd _ _ h1 h2]
  rfl

theorem State.stopped_stopWafer (s : State) : s.stopWafer.Stopped := by
  refine ⟨fun n => ?_, fun k => ?_, ?_, ?_, ?_, ?_, ?_⟩
  · rw [s.tile_stopWafer, Tile.stop_stop]
  · rw [s.posn_stopWafer]
    rfl
  · rw [s.fab_stopWafer]
    rfl
  · rw [s.fab_stopWafer]
    rfl
  · rw [s.fab_stopWafer]
    rfl
  · exact State.on_wr_same _ R.FB_STATUS_FROZEN 0 (by decide)
  · rw [State.stopWafer_eq, State.on_wr_other _ _ _ _ (by decide) (by decide), State.on_stallEnd]

theorem State.Stopped.emit {s : State} (h : s.Stopped) (c : Nat) (l : List Arg) : (s.emit c l).Stopped :=
  h.of_frame (s.emit_tiles c l) (s.emit_pos c l) (s.emit_fab c l) (s.emit_on c l _ (by decide)) (s.emit_on c l _ (by decide))

theorem State.Stopped.hand {s : State} (h : s.Stopped) (x : Hand) : ({ s with hand := x } : State).Stopped := h.of_frame rfl rfl rfl rfl rfl

theorem State.Sends.rd {s t : State} (h : s.Sends t) (f : Fld) (hf : pheldReg (f.addr 0) = false) : t.rd f = s.rd f := by
  unfold State.rd State.getI
  rw [h.reg _ hf]

theorem State.Stopped.sends {s t : State} (h : s.Stopped) (g : s.Sends t) : t.Stopped := by
  refine h.of_frame (by rw [g.rest]) (by rw [g.rest]) (by rw [g.rest]) ?_ ?_
  · unfold State.on
    rw [g.rd _ (by decide)]
  · unfold State.on
    rw [g.rd _ (by decide)]

/-! ### Ending a hand early (R32, R328, R371) -/

/-- The torn shard, before its event (R328). -/
def State.tornAt (s : State) : State := (s.stopWafer.wr R.NM_UPD_STATUS_TORN 1).wr R.NM_UPD_STATUS_SWEEP_BUSY 0

theorem State.stopped_tear (s : State) : s.tear.Stopped := by
  have h : s.tornAt.Stopped := s.stopped_stopWafer.of_frame rfl rfl rfl
    ((State.on_wr_other _ _ _ _ (by decide) (by decide)).trans (State.on_wr_other _ _ _ _ (by decide) (by decide)))
    ((State.on_wr_other _ _ _ _ (by decide) (by decide)).trans (State.on_wr_other _ _ _ _ (by decide) (by decide)))
  exact (h.emit _ _).hand _

/-- The stopped wafer whose seat has told its table of the misdeal (R371). -/
def State.misdealTold (s : State) (cause : Nat) : State :=
  if s.stopWafer.alone then s.stopWafer
  else ((s.stopWafer.flood s.stopWafer.rank 0x33 0 (misdealBody s.stopWafer.hand.hand s.stopWafer.rank cause) none).1).emit 0x050A
    [.w8 s.stopWafer.hand.hand.toNat, .w4 cause]

theorem State.misdealNow_eq (s : State) (cause : Nat) : s.misdealNow cause =
    { s.misdealTold cause with hand := { (s.misdealTold cause).hand with misdealt := true, outcome := some (0x47, cause) } } := rfl

theorem State.stopped_misdealNow (s : State) (cause : Nat) : (s.misdealNow cause).Stopped := by
  rw [State.misdealNow_eq]
  refine State.Stopped.hand ?_ _
  unfold State.misdealTold
  split
  · exact s.stopped_stopWafer
  · exact (s.stopped_stopWafer.sends (State.sends_flood _ _ _ _ _ _)).emit _ _

/-- A stopped wafer stays stopped through a misdeal. -/
theorem State.Stopped.misdeal {s : State} (h : s.Stopped) (cause : Nat) : (s.misdeal cause).Stopped := by
  unfold State.misdeal
  split
  · exact h
  · split
    · exact s.stopped_tear
    · split
      · exact h.hand _
      · exact s.stopped_misdealNow cause

/-! ### Registers that ending a hand may write -/

/-- Whether a register is one that a STOP or a misdeal may write. -/
def stopReg (o : Nat) : Bool :=
  o == R.FB_STALL_BEATS_BEATS.off || o == R.FB_STATUS_FROZEN.off || o == R.NM_UPD_STATUS_TORN.off || pheldReg o || eventReg o

theorem State.reg_stopWafer (s : State) {o : Nat} (ho : stopReg o = false) : s.stopWafer.reg o = s.reg o := by
  simp only [stopReg, Bool.or_eq_false_iff, beq_eq_false_iff_ne] at ho
  obtain ⟨⟨⟨⟨hbeats, hstatus⟩, _⟩, _⟩, _⟩ := ho
  have hend : s.stopping.stallEnd.reg o = s.reg o := by
    unfold State.stallEnd
    dsimp only
    refine (State.reg_setReg_other _ _ _ _ hstatus).trans ?_
    split
    · rfl
    · exact State.reg_setReg_other _ _ _ _ hbeats
  rw [State.stopWafer_eq]
  exact (State.reg_setReg_other _ _ _ _ hstatus).trans hend

theorem State.reg_misdeal (s : State) (cause : Nat) {o : Nat} (ho : stopReg o = false) : (s.misdeal cause).reg o = s.reg o := by
  have hstop := s.reg_stopWafer ho
  simp only [stopReg, Bool.or_eq_false_iff, beq_eq_false_iff_ne] at ho
  obtain ⟨⟨⟨_, hupd⟩, hheld⟩, hevent⟩ := ho
  unfold State.misdeal
  split
  · rfl
  · split
    · refine Eq.trans ((State.quiet_emit s.tornAt _ _).reg o hevent) ?_
      exact (State.reg_setReg_other _ _ _ _ hupd).trans ((State.reg_setReg_other _ _ _ _ hupd).trans hstop)
    · split
      · rfl
      · rw [State.misdealNow_eq]
        show (s.misdealTold cause).reg o = s.reg o
        unfold State.misdealTold
        split
        · exact hstop
        · exact ((State.quiet_emit _ _ _).reg o hevent).trans (((State.sends_flood _ _ _ _ _ _).reg o hheld).trans hstop)

/-! ### The trace (R485) -/

/-- An event is followed by at most three of the journal's own. -/
theorem State.traces.emit {s : State} {e : EvRec} {k : Nat} (h : s.traces e (k + 4)) (hk : k + 3 < traceMax) (c : Nat) (l : List Arg) :
    (s.emit c l).traces e k := by
  have hraw := State.traces.emitRaw (k := k + 3) h hk c l
  unfold State.emit
  dsimp only
  split
  · exact hraw.fewer (by omega)
  · split
    · refine State.traces.ledger ?_ (by omega) _ _
      exact hraw.of_sup rfl
    · exact State.traces.of_sup (hraw.fewer (by omega)) rfl

theorem State.traces.misdeal {s : State} {e : EvRec} {k : Nat} (h : s.traces e (k + 4)) (hk : k + 3 < traceMax) (cause : Nat) :
    (s.misdeal cause).traces e k := by
  have hstop : s.stopWafer.traces e (k + 4) := h.of_sup s.sup_stopWafer
  unfold State.misdeal
  split
  · exact h.fewer (by omega)
  · split
    · have htorn : s.tornAt.traces e (k + 4) := hstop.of_sup rfl
      exact (htorn.emit hk _ _).of_sup rfl
    · split
      · exact State.traces.of_sup (h.fewer (by omega)) rfl
      · rw [State.misdealNow_eq]
        refine State.traces.of_sup (s := s.misdealTold cause) ?_ rfl
        unfold State.misdealTold
        split
        · exact hstop.fewer (by omega)
        · refine State.traces.emit (State.traces.of_sup hstop ?_) hk _ _
          rw [(State.sends_flood _ _ _ _ _ _).rest]

/-! ### Completions (R398) -/

/-- Whether a register belongs to a queue of the host, or to the pending bits of its messages. -/
def queueReg (o : Nat) : Bool := (decide (0x1000 ≤ o) && decide (o < 0x3000)) || decide (0xE01000 ≤ o)

/-- What a completion changes: queues, what the module writes to host memory, and their registers. -/
structure State.Queues (s t : State) : Prop where
  rest : t = { s with regs := t.regs, host := t.host }
  reg : ∀ o, queueReg o = false → t.reg o = s.reg o

theorem State.Queues.refl (s : State) : s.Queues s := ⟨rfl, fun _ _ => rfl⟩

theorem State.Queues.trans {s t u : State} (h : s.Queues t) (g : t.Queues u) : s.Queues u :=
  ⟨by rw [g.rest, h.rest], fun o ho => (g.reg o ho).trans (h.reg o ho)⟩

theorem State.queues_host (s : State) (x : HostIf) : s.Queues { s with host := x } := ⟨rfl, fun _ _ => rfl⟩

theorem State.queues_setReg (s : State) {o : Nat} (ho : queueReg o = true) (w : W32) : s.Queues (s.setReg o w) := by
  refine ⟨rfl, fun p hp => s.reg_setReg_other o p w ?_⟩
  rintro rfl
  rw [ho] at hp
  cases hp

theorem State.queues_msix (s : State) (v : Nat) : s.Queues (s.msix v) := by
  unfold State.msix
  split
  · refine ⟨rfl, fun p hp => Map.get_put_other _ _ _ _ _ _ ?_⟩
    rintro rfl
    simp only [queueReg, Bool.or_eq_false_iff, decide_eq_false_iff_not] at hp
    omega
  · exact s.queues_host _

theorem queueReg_of_lt {o : Nat} (h1 : 0x1000 ≤ o) (h2 : o < 0x3000) : queueReg o = true := by
  unfold queueReg
  rw [decide_eq_true h1, decide_eq_true h2]
  rfl

section
variable {q : Nat} (hq : q < 64)
include hq

theorem State.queues_ringFill (s : State) (w n : Nat) (b : Bytes) : s.Queues (s.ringFill (.cq q) w n b) := by
  induction n generalizing s b with
  | zero => exact State.Queues.refl s
  | succ n ih =>
    refine State.Queues.trans ?_ (ih _ _)
    refine State.Queues.trans ((s.queues_host _).trans (State.queues_setReg _ (queueReg_of_lt ?_ ?_) _)) (State.queues_host _ _)
    · show 0x1000 ≤ 0x1020 + 0x40 * q + 0x1C
      omega
    · show 0x1020 + 0x40 * q + 0x1C < 0x3000
      omega

omit hq in
theorem State.queues_ringSignal (s : State) (n : Nat) : s.Queues (s.ringSignal (.cq q) n) := by
  unfold State.ringSignal
  dsimp only
  split
  · exact (s.queues_host _).trans (State.queues_msix _ _)
  · exact s.queues_host _

/-- A completion but one for an error of the host's memory. -/
theorem State.queues_complete (s : State) (cid : BitVec 16) {status : Nat} (hst : status ≠ 0x43) (detail result : Nat) :
    s.Queues (s.complete q cid status detail result) := by
  unfold State.complete
  extract_lets _ u o b p v w _ x
  have hv : s.Queues v := by
    unfold v
    split
    · exact ((((s.queues_host _).trans (u.queues_host _)).trans (State.queues_ringFill hq _ _ _ _)).trans (State.queues_ringSignal _ _))
    · exact s.queues_host _
  have hw : w = v := if_neg hst
  split
  · exact State.Queues.refl s
  · split
    · rw [← hw] at hv
      refine hv.trans ((w.queues_host _).trans (State.queues_setReg _ (queueReg_of_lt ?_ ?_) _))
      · show 0x1000 ≤ 0x1000 + 0x40 * q + 0xC
        omega
      · show 0x1000 + 0x40 * q + 0xC < 0x3000
        omega
    · rw [hw]
      exact hv

end

theorem State.queues_completeAll (s : State) {status : Nat} (hst : status ≠ 0x43) : s.Queues (s.completeAll status) := by
  refine State.each_keeps_mem (P := fun u => s.Queues u) (fun u q hq hu => ?_) (State.Queues.refl s)
  refine State.each_keeps_mem (P := fun u => s.Queues u) (fun v c _ hv => ?_) hu
  exact hv.trans (State.queues_complete (List.mem_range.mp hq) _ _ hst _ _)

end Sys2Proof.Machine

/-! SUPPORT. What a fatal error leaves: it shows in HI_STATUS with its code, and the events before it stand in the trace (R480, R481, R485). -/

namespace Sys2Proof.Machine

/-! ### The steps of a fatal error (R481) -/

/-- The error is recorded and the hand misdealt, and every unit has stopped. -/
def State.fatalStopped (s : State) (code origin : Nat) : State :=
  (State.misdeal (((s.wr R.SP_FATAL_CODE code).wr R.SP_FATAL_ORIGIN origin).emit 0x0A25 [.w4 code, .w4 origin]) 4).stopWafer

/-- The fatal state shows. -/
def State.fatalShown (s : State) : State :=
  (((s.wr R.HI_STATUS_FATAL 1).wr R.HI_STATUS_STAGE 7).wr R.HI_STATUS_READY 0).wr R.SP_STATUS_FATAL 1

/-- Nothing of the hand is left, once every started descriptor is completed. -/
def State.fatalCleared (s : State) : State :=
  let s := { s with hand := { s.hand with
    running := none, waiting := none, sideRun := none, sideWait := none, outcome := none, sweep := false } }
  let s := { s with host := { s.host with copies := [] } }
  s.onPos s.highPos (fun p => { p with pot := { p.pot with crib := [] } })

theorem State.fatal_eq {s : State} (h : s.fatalNow = false) (code origin : Nat) : s.fatal code origin =
    (((s.fatalStopped code origin).fatalShown.completeAll 0x4A).fatalCleared).writeDump code origin (s.rd R.HI_STATUS_STAGE) false := by
  unfold State.fatal State.fatalStopped State.fatalShown State.fatalCleared
  rw [if_neg (by rw [h]; decide)]

/-! ### The dump (R481, R485) -/

/-- Memory that the dump has been written to: nothing but positions differ. -/
theorem State.each_nearWr (k : Nat) (l : List (Nat × Nat × Bytes)) (s : State) :
    ∃ p, s.each l (fun s e => s.nearWr k (dumpOff + e.2.1) e.2.2) = { s with pos := p } := by
  induction l generalizing s with
  | nil => exact ⟨s.pos, rfl⟩
  | cons e l ih =>
    obtain ⟨p, hp⟩ := ih (s.nearWr k (dumpOff + e.2.1) e.2.2)
    exact ⟨p, hp⟩

/-- The dump is memory of one position, the bit that says it is there, a record of the journal and an event. -/
theorem State.writeDump_eq (s : State) (code origin stage : Nat) (rom : Bool) : ∃ p n hdr l,
    s.writeDump code origin stage rom =
      (State.ledger (({ s with pos := p, free := n } : State).wr R.HI_STATUS_DUMP_VALID 1) 0x0009 hdr).emit 0x0A26 l := by
  unfold State.writeDump
  extract_lets ss status hdr ents k u v w x y
  obtain ⟨p, hp⟩ := State.each_nearWr k ss u
  refine ⟨p, s.free + 1, hdr, [.w8 y.hand.hand.toNat, .w4 ss.length, .w4 status], ?_⟩
  have hv : v = { s with pos := p } := hp
  unfold y x w
  rw [hv]

theorem State.rd_writeDump (s : State) (code origin stage : Nat) (rom : Bool) (f : Fld) (h1 : R.HI_STATUS_DUMP_VALID.apart 0 f 0 = true)
    (he : eventReg (f.addr 0) = false) : (s.writeDump code origin stage rom).rd f = s.rd f := by
  obtain ⟨p, n, hdr, l, h⟩ := s.writeDump_eq code origin stage rom
  rw [h, State.emit_rd _ _ _ _ he, (State.quiet_ledger _ _ _).rd f he, State.rd_wr_other _ _ _ _ (by decide) h1]
  rfl

theorem State.traces.writeDump {s : State} {e : EvRec} {k : Nat} (h : s.traces e (k + 7)) (hk : k + 6 < traceMax)
    (code origin stage : Nat) (rom : Bool) : (s.writeDump code origin stage rom).traces e k := by
  obtain ⟨p, n, hdr, l, hd⟩ := s.writeDump_eq code origin stage rom
  rw [hd]
  refine State.traces.emit (State.traces.ledger ?_ (by omega) _ _) (by omega) _ _
  exact h.of_sup rfl

/-! ### What the steps leave -/

theorem State.rd_fatalCleared (s : State) (f : Fld) : s.fatalCleared.rd f = s.rd f := rfl

theorem State.sup_fatalCleared (s : State) : s.fatalCleared.sup = s.sup := rfl

theorem State.rd_completeAll (s : State) {status : Nat} (hst : status ≠ 0x43) (f : Fld) (hf : queueReg (f.addr 0) = false) :
    (s.completeAll status).rd f = s.rd f := by
  unfold State.rd State.getI
  rw [(s.queues_completeAll hst).reg _ hf]

theorem State.sup_completeAll (s : State) {status : Nat} (hst : status ≠ 0x43) : (s.completeAll status).sup = s.sup := by
  rw [(s.queues_completeAll hst).rest]

theorem State.on_fatalShown (s : State) : s.fatalShown.on R.HI_STATUS_FATAL = true := by
  unfold State.fatalShown
  rw [State.on_wr_other _ _ _ _ (by decide) (by decide), State.on_wr_other _ _ _ _ (by decide) (by decide),
    State.on_wr_other _ _ _ _ (by decide) (by decide), State.on_wr_same _ _ _ (by decide)]
  rfl

theorem State.code_fatalShown (s : State) : s.fatalShown.rd R.SP_FATAL_CODE = s.rd R.SP_FATAL_CODE := by
  unfold State.fatalShown
  rw [State.rd_wr_other _ _ _ _ (by decide) (by decide), State.rd_wr_other _ _ _ _ (by decide) (by decide),
    State.rd_wr_other _ _ _ _ (by decide) (by decide), State.rd_wr_other _ _ _ _ (by decide) (by decide)]

theorem State.code_fatalStopped (s : State) {code : Nat} (hc : code < 2 ^ 16) (origin : Nat) :
    (s.fatalStopped code origin).rd R.SP_FATAL_CODE = code := by
  unfold State.fatalStopped
  rw [State.rd_stopWafer _ _ (by decide) (by decide) (by decide)]
  unfold State.rd State.getI
  rw [State.reg_misdeal _ _ (by decide)]
  refine (State.emit_rd _ _ _ R.SP_FATAL_CODE (by decide)).trans ?_
  rw [State.rd_wr_other _ _ _ _ (by decide) (by decide), State.rd_wr_same _ _ _ (by decide)]
  exact Nat.mod_eq_of_lt hc

theorem State.traces.fatalStopped {s : State} {e : EvRec} {k : Nat} (h : s.traces e (k + 8)) (hk : k + 7 < traceMax) (code origin : Nat) :
    (s.fatalStopped code origin).traces e k := by
  unfold State.fatalStopped
  refine State.traces.of_sup ?_ (State.sup_stopWafer _)
  refine State.traces.misdeal (State.traces.emit ?_ (by omega) _ _) (by omega) _
  exact h.of_sup rfl

/-- A fatal error shows with its code, and what stood in the trace stands there still (R481). -/
theorem State.fatal_leaves {s : State} (h : s.fatalNow = false) {code : Nat} (hc : code < 2 ^ 16) (origin : Nat) :
    (s.fatal code origin).on R.HI_STATUS_FATAL = true ∧ (s.fatal code origin).rd R.SP_FATAL_CODE = code ∧
      ∀ e, s.traces e 15 → e ∈ (s.fatal code origin).sup.trace := by
  rw [State.fatal_eq h]
  refine ⟨?_, ?_, fun e he => ?_⟩
  · unfold State.on
    rw [State.rd_writeDump _ _ _ _ _ _ (by decide) (by decide), State.rd_fatalCleared, State.rd_completeAll _ (by decide) _ (by decide)]
    exact State.on_fatalShown _
  · rw [State.rd_writeDump _ _ _ _ _ _ (by decide) (by decide), State.rd_fatalCleared, State.rd_completeAll _ (by decide) _ (by decide), State.code_fatalShown,
      State.code_fatalStopped _ hc]
  · have hstop : (s.fatalStopped code origin).traces e 7 := he.fatalStopped (by decide) code origin
    refine State.traces.mem (k := 0) (State.traces.writeDump ?_ (by decide) _ _ _ _)
    exact hstop.of_sup ((State.sup_fatalCleared _).trans (State.sup_completeAll _ (by decide)))

/-- TRUMP_FAULT (R199, R200, R480). -/
theorem State.trumpFault_leaves {s : State} (h : s.fatalNow = false) (node : Nat) :
    (s.trumpFault node).on R.HI_STATUS_FATAL = true ∧ (s.trumpFault node).rd R.SP_FATAL_CODE = 0x030C ∧
      s.noted 0x030C [.w4 node] ∈ (s.trumpFault node).sup.trace := by
  have hnow : (s.emit 0x030C [.w4 node]).fatalNow = false := (s.emit_on _ _ _ (by decide)).trans h
  obtain ⟨hon, hcode, htrace⟩ := State.fatal_leaves hnow (code := 0x030C) (by decide) 0xFFFF
  refine ⟨hon, hcode, htrace _ ?_⟩
  exact s.traces_noted 0x030C [.w4 node] (by decide)

end Sys2Proof.Machine

/-! PROOF. Trump commands and flags, STOP and START (O19). -/

namespace Sys2Proof.Machine

/-! ### Flags (R207, R208) -/

/-- A flag packet at the root, before a FAULT stalls the wafer. -/
def State.flagged (s : State) (n : Nat) (f : BitVec 3) : State :=
  ((s.onTile n (fun x => { x with flags := x.flags ||| f })).flagBit f 0 R.FB_TRUMP_FLAGS_NONFIN).flagBit f 1 R.FB_TRUMP_FLAGS_RENEGE

theorem exec_flag (n : Nat) (f : BitVec 3) (h : Hop) (s : State) : exec (.flag n f h) s =
    .next (s.hop h 3 (fun u => if f.getLsbD 2 then (u.flagged n f).faultFlag else u.flagged n f)) := rfl

theorem State.flagBit_eq (s : State) (f : BitVec 3) (i : Nat) (g : Fld) : ∃ r, s.flagBit f i g = { s with regs := r } := by
  unfold State.flagBit
  split
  · exact ⟨_, rfl⟩
  · exact ⟨s.regs, rfl⟩

theorem State.on_flagBit_same (s : State) (f : BitVec 3) (i : Nat) (g : Fld) (hg : g.lsb + g.width ≤ 32) (h1 : g.width = 1) :
    (s.flagBit f i g).on g = (s.on g || f.getLsbD i) := by
  unfold State.flagBit
  split
  next h => rw [s.on_wr_same g 1 hg, h1, h, Bool.or_true]; rfl
  next h => rw [Bool.not_eq_true] at h; rw [h, Bool.or_false]

theorem State.rd_flagBit_other (s : State) (f : BitVec 3) (i : Nat) (g e : Fld) (hg : g.lsb + g.width ≤ 32) (h : g.apart 0 e 0 = true) :
    (s.flagBit f i g).rd e = s.rd e := by
  unfold State.flagBit
  split
  · exact s.rd_wr_other g e 1 hg h
  · rfl

theorem State.on_flagBit_other (s : State) (f : BitVec 3) (i : Nat) (g e : Fld) (hg : g.lsb + g.width ≤ 32) (h : g.apart 0 e 0 = true) :
    (s.flagBit f i g).on e = s.on e := by
  unfold State.on
  rw [s.rd_flagBit_other f i g e hg h]

/-- The flags of a packet change registers and the tile's own flags. -/
theorem State.flagged_eq (s : State) (n : Nat) (f : BitVec 3) :
    ∃ r, s.flagged n f = { s.onTile n (fun x => { x with flags := x.flags ||| f }) with regs := r } := by
  unfold State.flagged
  obtain ⟨r, hr⟩ := (s.onTile n (fun x => { x with flags := x.flags ||| f })).flagBit_eq f 0 R.FB_TRUMP_FLAGS_NONFIN
  rw [hr]
  exact State.flagBit_eq _ f 1 R.FB_TRUMP_FLAGS_RENEGE

theorem State.on_flagged_other (s : State) (n : Nat) (f : BitVec 3) (e : Fld) (h1 : R.FB_TRUMP_FLAGS_NONFIN.apart 0 e 0 = true)
    (h2 : R.FB_TRUMP_FLAGS_RENEGE.apart 0 e 0 = true) : (s.flagged n f).on e = s.on e := by
  unfold State.flagged
  rw [State.on_flagBit_other _ _ _ _ _ (by decide) h2, State.on_flagBit_other _ _ _ _ _ (by decide) h1]
  rfl

theorem State.nonfin_flagged (s : State) (n : Nat) (f : BitVec 3) :
    (s.flagged n f).on R.FB_TRUMP_FLAGS_NONFIN = (s.on R.FB_TRUMP_FLAGS_NONFIN || f.getLsbD 0) := by
  unfold State.flagged
  rw [State.on_flagBit_other _ _ _ _ _ (by decide) (by decide), State.on_flagBit_same _ _ _ _ (by decide) rfl]
  rfl

theorem State.renege_flagged (s : State) (n : Nat) (f : BitVec 3) :
    (s.flagged n f).on R.FB_TRUMP_FLAGS_RENEGE = (s.on R.FB_TRUMP_FLAGS_RENEGE || f.getLsbD 1) := by
  unfold State.flagged
  rw [State.on_flagBit_same _ _ _ _ (by decide) rfl, State.on_flagBit_other _ _ _ _ _ (by decide) (by decide)]
  rfl

theorem State.tile_flagged (s : State) (n : Nat) (f : BitVec 3) :
    ((s.flagged n f).tile n).flags = (s.tile n).flags ||| f ∧ ∀ m, m ≠ n → (s.flagged n f).tile m = s.tile m := by
  obtain ⟨r, hr⟩ := s.flagged_eq n f
  have htile : ∀ m, (s.flagged n f).tile m = (s.onTile n (fun x => { x with flags := x.flags ||| f })).tile m := fun m => by
    rw [hr]
    rfl
  refine ⟨?_, fun m hm => ?_⟩
  · rw [htile, State.tile_onTile_same]
  · rw [htile, State.tile_onTile_other _ _ _ _ hm]

/-! ### Stalls at a tick (R208, R209) -/

/-- The first tick that may be named is 12 ahead (R208). -/
theorem State.ticks_nextTick (s : State) : (s.atTick (s.ticks + 12)).ticks = s.ticks + 12 := by
  show s.ticks + (2 ^ 32 + (s.ticks + 12) % 2 ^ 32 - s.ticks % 2 ^ 32) % 2 ^ 32 = s.ticks + 12
  omega

theorem State.stalling_on (s : State) : s.stalling.on R.FB_STATUS_STALLED = true := State.on_wr_same _ R.FB_STATUS_STALLED 1 (by decide)

theorem State.Quiet.outcome {s t : State} (h : s.Quiet t) : t.hand.outcome = s.hand.outcome := by
  have := congrArg (fun u : State => u.hand.outcome) h.still
  exact this

/-- STALL at the first tick that may be named. -/
theorem State.stall_leaves (s : State) (cause : Nat) :
    let t := (s.atTick (s.ticks + 12)).stallNow cause
    t.on R.FB_STATUS_STALLED = true ∧ t.tiles = s.tiles ∧ t.pos = s.pos ∧ t.hand.outcome = s.hand.outcome ∧
      (s.on R.FB_STATUS_STALLED = false → t.fab.stallAt = some (s.ticks + 12) ∧
        (s.atTick (s.ticks + 12)).noted 0x030E [.w4 cause] ∈ t.sup.trace) ∧
      ∀ f : Fld, R.FB_STATUS_STALLED.apart 0 f 0 = true → eventReg (f.addr 0) = false → t.on f = s.on f := by
  have hsame : (s.atTick (s.ticks + 12)).on R.FB_STATUS_STALLED = s.on R.FB_STATUS_STALLED := rfl
  cases hst : s.on R.FB_STATUS_STALLED with
  | true =>
    rw [State.stallNow_stalled cause (hsame.trans hst)]
    exact ⟨hst, rfl, rfl, rfl, fun h => Bool.noConfusion h, fun _ _ _ => rfl⟩
  | false =>
    rw [State.stallNow_new cause (hsame.trans hst)]
    have hquiet := (s.atTick (s.ticks + 12)).stalling.quiet_emit 0x030E [.w4 cause]
    refine ⟨?_, State.emit_tiles _ _ _, State.emit_pos _ _ _, ?_, fun _ => ⟨?_, ?_⟩, fun f h1 he => ?_⟩
    · rw [hquiet.on _ (by decide)]
      exact State.stalling_on _
    · exact hquiet.outcome
    · rw [State.emit_fab]
      exact congrArg some s.ticks_nextTick
    · exact State.noted_emit (s.atTick (s.ticks + 12)).stalling _ _
    · rw [hquiet.on f he]
      exact State.on_wr_other _ R.FB_STATUS_STALLED f 1 (by decide) h1

/-- A FAULT flag at the root stalls the wafer with cause 1 (R207, R208). -/
theorem State.faultFlag_leaves (s : State) :
    s.faultFlag.on R.FB_TRUMP_FLAGS_FAULT = true ∧ s.faultFlag.on R.FB_STATUS_STALLED = true ∧
      s.faultFlag.hand.outcome = s.hand.outcome ∧ s.faultFlag.pos = s.pos ∧
      (s.on R.FB_STATUS_STALLED = false → s.faultFlag.fab.stallAt = some (s.ticks + 12) ∧
        (s.atTick (s.ticks + 12)).noted 0x030E [.w4 1] ∈ s.faultFlag.sup.trace) := by
  have hfault : (s.wr R.FB_TRUMP_FLAGS_FAULT 1).on R.FB_TRUMP_FLAGS_FAULT = true := State.on_wr_same _ _ 1 (by decide)
  have hstall : (s.wr R.FB_TRUMP_FLAGS_FAULT 1).on R.FB_STATUS_STALLED = s.on R.FB_STATUS_STALLED :=
    State.on_wr_other _ _ _ 1 (by decide) (by decide)
  unfold State.faultFlag
  dsimp only
  split
  next hon =>
    refine ⟨hfault, hon, rfl, rfl, fun hoff => ?_⟩
    rw [hstall, hoff] at hon
    cases hon
  · obtain ⟨hon, _, hpos, houtcome, hnew, hrest⟩ := (s.wr R.FB_TRUMP_FLAGS_FAULT 1).stall_leaves 1
    refine ⟨(hrest _ (by decide) (by decide)).trans hfault, hon, houtcome, hpos, fun hoff => ?_⟩
    exact hnew (hstall.trans hoff)

/-! ### STOP (R210) -/

/-- Settles what STOP does to a hand (R32, R210, R328): nothing where none runs. -/
theorem State.outcome_misdeal (s : State) (cause : Nat) :
    (s.hand.running.isSome = true → s.hand.outcome = none → s.hand.sweep = false → s.hand.contributed = false →
        (s.misdeal cause).hand.outcome = some (0x47, cause)) ∧
      (s.hand.running.isSome = true → s.hand.outcome = none → s.hand.sweep = true → (s.misdeal cause).hand.outcome = some (0x48, 0)) ∧
      (s.hand.running = none → (s.misdeal cause).hand.outcome = s.hand.outcome) := by
  have hopen : s.hand.running.isSome = true → s.hand.outcome = none → (s.hand.running.isNone || s.hand.outcome.isSome) = false := by
    intro hrun hout
    rw [hout, Option.isNone_eq_false_iff.mpr hrun]
    rfl
  unfold State.misdeal
  refine ⟨fun hrun hout hsweep hcontr => ?_, fun hrun hout hsweep => ?_, fun hrun => ?_⟩
  · rw [hopen hrun hout, hsweep, hcontr]
    rfl
  · rw [hopen hrun hout, hsweep]
    rfl
  · rw [hrun]
    rfl

/-! ### START (R148, R180, R209, R327) -/

/-- Whether a START makes the counts of the hand return to 0 (R327). -/
def State.countsAnew (s : State) : Bool := !s.hand.sweep || s.recovering

/-- The schedule begins in every tile and router. -/
def State.begun (s : State) : State :=
  { s with
    tiles := s.tiles.mapVals Tile.reset (Tile.start s.countsAnew)
    fab := { s.fab with started := true, slipped := if s.countsAnew then [] else s.fab.slipped } }

/-- The state in which the units run on after START. -/
def State.startSet (s : State) : State := if s.countsAnew then s.begun.each startZero State.zeroFld else s.begun

theorem State.startNow_eq (s : State) : s.startNow = s.startSet.advanceAll := rfl

theorem State.zeroFld_eq (s : State) (f : Fld) : ∃ r, s.zeroFld f = { s with regs := r } := by
  unfold State.zeroFld
  refine State.each_keeps_mem (P := fun u => ∃ r, u = { s with regs := r }) (fun u i _ hu => ?_) ⟨s.regs, rfl⟩
  obtain ⟨r, rfl⟩ := hu
  exact ⟨_, rfl⟩

theorem State.startSet_eq (s : State) : ∃ r, s.startSet = { s.begun with regs := r } := by
  unfold State.startSet
  split
  · refine State.each_keeps_mem (P := fun u => ∃ r, u = { s.begun with regs := r }) (fun u f _ hu => ?_) ⟨s.begun.regs, rfl⟩
    obtain ⟨r, rfl⟩ := hu
    exact State.zeroFld_eq _ f
  · exact ⟨s.begun.regs, rfl⟩

theorem State.tile_startSet (s : State) (n : Nat) : s.startSet.tile n = (s.tile n).start s.countsAnew := by
  obtain ⟨r, hr⟩ := s.startSet_eq
  rw [hr]
  refine Map.get_mapVals s.tiles Tile.reset (Tile.start s.countsAnew) n ?_
  cases s.countsAnew
  · rfl
  · rfl

theorem Tile.start_idle {x : Tile} (counts : Bool) (side : Bool) (h : (x.ctx side).idle) : ((x.start counts).ctx side).idle := by
  cases side
  · show (if x.prim.running then { x.prim with bc := 0 } else x.prim : Ctx).idle
    split
    · exact h
    · exact h
  · exact h

theorem State.startSet_calm {s : State} (h : s.allCalm) : s.startSet.allCalm := by
  refine State.allIdle.allCalm (fun n side => ?_) ?_
  · rw [s.tile_startSet n]
    exact Tile.start_idle _ side (h.allIdle n side)
  · obtain ⟨r, hr⟩ := s.startSet_eq
    rw [hr]
    exact h.freezing

/-- Whether all registers of one field lie below or above all those of another. -/
def Fld.clearOf (f g : Fld) : Bool := decide (f.addr f.count < g.addr 0) || decide (g.addr g.count < f.addr 0)

theorem Fld.addr_ne {f g : Fld} (h : f.clearOf g = true) {i j : Nat} (hi : i < f.count) (hj : j < g.count) : f.addr i ≠ g.addr j := by
  have hmono : ∀ (e : Fld) (k : Nat), k < e.count → e.addr 0 ≤ e.addr k ∧ e.addr k ≤ e.addr e.count := fun e k hk =>
    ⟨Nat.add_le_add_left (Nat.mul_le_mul_left _ (Nat.zero_le k)) _, Nat.add_le_add_left (Nat.mul_le_mul_left _ hk.le) _⟩
  have hf := hmono f i hi
  have hg := hmono g j hj
  unfold Fld.clearOf at h
  simp only [Bool.or_eq_true, decide_eq_true_eq] at h
  omega

/-- The fields that START clears lie in places of their own, each register of an array in one of its own. -/
theorem startZero_apart : ∀ f ∈ startZero, f.lsb + f.width ≤ 32 ∧ (f.count = 1 ∨ 0 < f.stride) := by decide

/-- A register that is 0, or is written 0, reads 0 after a list of such writes. -/
theorem State.each_setI_zero (f g : Fld) (j : Nat) (l : List Nat) (hg : g.lsb + g.width ≤ 32)
    (h : ∀ i ∈ l, f = g ∧ i = j ∨ f.addr i ≠ g.addr j) (hf : f.lsb + f.width ≤ 32) (s : State) (hs : s.getI g j = 0 ∨ f = g ∧ j ∈ l) :
    (s.each l (fun u i => u.setI f i 0)).getI g j = 0 := by
  induction l generalizing s with
  | nil => exact hs.resolve_right fun hn => List.not_mem_nil hn.2
  | cons i l ih =>
    refine ih (fun k hk => h k (List.mem_cons_of_mem _ hk)) _ ?_
    obtain ⟨rfl, rfl⟩ | hne := h i List.mem_cons_self
    · exact .inl ((s.getI_setI_same f i 0 hf).trans (Nat.zero_mod _))
    · have hkeep : (s.setI f i 0).getI g j = s.getI g j := by
        refine s.getI_setI_other f g i j 0 hf ?_
        unfold Fld.apart
        rw [bne_iff_ne.mpr hne]
        rfl
      rw [hkeep]
      obtain hs | ⟨rfl, hj⟩ := hs
      · exact .inl hs
      · exact .inr ⟨rfl, (List.mem_cons.mp hj).resolve_left fun he => hne (he ▸ rfl)⟩

theorem Fld.addr_inj {f : Fld} (h : f.count = 1 ∨ 0 < f.stride) {i j : Nat} (hi : i < f.count) (hj : j < f.count) (he : f.addr i = f.addr j) :
    i = j := by
  obtain h | h := h
  · omega
  · exact Nat.eq_of_mul_eq_mul_left h (Nat.add_left_cancel he)

/-- A count of the hand reads 0 after START has cleared the counts. -/
theorem State.startZero_reads (s : State) {g : Fld} (hg : g ∈ startZero) (hclear : ∀ f ∈ startZero, f = g ∨ f.clearOf g = true) {j : Nat}
    (hj : j < g.count) : (s.each startZero State.zeroFld).getI g j = 0 := by
  obtain ⟨hwidth, hplace⟩ := startZero_apart g hg
  have hgen : ∀ l : List Fld, (∀ f ∈ l, f ∈ startZero) → ∀ u : State, u.getI g j = 0 ∨ g ∈ l → (u.each l State.zeroFld).getI g j = 0 := by
    intro l
    induction l with
    | nil => intro _ u hu; exact hu.resolve_right List.not_mem_nil
    | cons f l ih =>
      intro hl u hu
      have hf := hl f List.mem_cons_self
      refine ih (fun e he => hl e (List.mem_cons_of_mem _ he)) _ ?_
      have hone : f = g ∨ u.getI g j = 0 → (u.zeroFld f).getI g j = 0 := by
        intro hu
        refine State.each_setI_zero f g j _ hwidth (fun i hi => ?_) (startZero_apart f hf).1 u ?_
        · have hi := List.mem_range.mp hi
          obtain rfl | hc := hclear f hf
          · by_cases hij : i = j
            · exact .inl ⟨rfl, hij⟩
            · exact .inr fun he => hij (Fld.addr_inj hplace hi hj he)
          · exact .inr (Fld.addr_ne hc hi hj)
        · obtain rfl | hu := hu
          · exact .inr ⟨rfl, List.mem_range.mpr hj⟩
          · exact .inl hu
      obtain hu | hu := hu
      · exact .inl (hone (.inr hu))
      · obtain rfl | hu := List.mem_cons.mp hu
        · exact .inl (hone (.inl rfl))
        · exact .inr hu
  exact hgen _ (fun _ h => h) s (.inr hg)

theorem State.startSet_counts {s : State} (hc : s.countsAnew = true) :
    (∀ n, (s.startSet.tile n).slip = 0) ∧ s.startSet.rd R.FB_STALL_BEATS_BEATS = 0 ∧
      (∀ f, f < 48 → s.startSet.getI R.FB_FSLIP_SLIPS f = 0) ∧ s.startSet.on R.PT_STATUS_ALL_SEALED = false := by
  have heq : s.startSet = s.begun.each startZero State.zeroFld := if_pos hc
  refine ⟨fun n => ?_, ?_, fun f hf => ?_, ?_⟩
  · rw [s.tile_startSet, hc]
    rfl
  · rw [heq]
    exact State.startZero_reads _ (by decide) (by decide) (by decide)
  · rw [heq]
    exact State.startZero_reads _ (by decide) (by decide) hf
  · have hrd : s.startSet.rd R.PT_STATUS_ALL_SEALED = 0 := by
      rw [heq]
      exact State.startZero_reads _ (by decide) (by decide) (by decide)
    unfold State.on
    rw [hrd]
    rfl

theorem exec_start (p : TrumpPkt) (s : State) : exec (.start p) s =
    .next (s.hop p.hop 0xB (fun u => if (u.atTick p.arg).startable then (u.atTick p.arg).startNow else u.atTick p.arg)) := rfl

/-- Whether a schedule is set up (R209, R342). -/
theorem State.startable_iff (s : State) : s.startable = true ↔
    s.hand.running.isSome = true ∧ s.fab.started = false ∧ s.hand.outcome = none ∧ (s.recovering = true → s.hand.sweep = true) := by
  unfold State.startable
  simp only [Bool.and_eq_true, Bool.not_eq_true', Option.isNone_iff_eq_none, and_assoc, ← Bool.not_eq_true, not_and, not_not]

/-! ### The root's command register (R213, R214) -/

section
variable {s : State} {who : Agent} (hmay : s.mayTrump who = true) (v : W32)
include hmay

theorem exec_cmdFreeze {g : Hop} (hg : goodHop g 1) :
    exec (.cmdFreeze who v g) s = .next (s.freezeAt (s.rd64 R.FB_FREEZE_AT_LO_F_LO R.FB_FREEZE_AT_HI_F_HI)) :=
  congrArg Host.Outcome.next ((if_pos hmay).trans (s.hop_good hg rfl _))
theorem exec_cmdStep : exec (.cmdStep who v) s = .next (s.stepBy (v.toNat / 65536)) := congrArg Host.Outcome.next (if_pos hmay)
theorem exec_cmdThaw : exec (.cmdThaw who v) s = .next (s.atTick (s.ticks + 12)).thawNow := congrArg Host.Outcome.next (if_pos hmay)
theorem exec_cmdStall : exec (.cmdStall who v) s = .next ((s.atTick (s.ticks + 12)).stallNow 2) := congrArg Host.Outcome.next (if_pos hmay)
theorem exec_cmdUnstall : exec (.cmdUnstall who v) s = .next (s.atTick (s.ticks + 12)).unstallNow := congrArg Host.Outcome.next (if_pos hmay)
theorem exec_cmdStop (hwho : who = .supervisor) : exec (.cmdStop who v) s = .next (s.stopFor 7) := by
  subst hwho
  exact congrArg Host.Outcome.next (if_pos (by rw [hmay]; rfl))

end

/-- Of any other agent a write of FB_TRUMP_CMD changes nothing (R213). -/
theorem exec_cmd_ignored {s : State} {who : Agent} (hno : s.mayTrump who = false) (v : W32) :
    (∀ g, exec (.cmdFreeze who v g) s = .next s) ∧ exec (.cmdStep who v) s = .next s ∧ exec (.cmdThaw who v) s = .next s ∧
      exec (.cmdStall who v) s = .next s ∧ exec (.cmdUnstall who v) s = .next s ∧ exec (.cmdStop who v) s = .next s := by
  have hnot : ¬ s.mayTrump who = true := by rw [hno]; decide
  have hstop : ¬ ((who == .supervisor) && s.mayTrump who) = true := by rw [hno, Bool.and_false]; decide
  exact ⟨fun g => congrArg Host.Outcome.next (if_neg hnot), congrArg Host.Outcome.next (if_neg hnot), congrArg Host.Outcome.next (if_neg hnot),
    congrArg Host.Outcome.next (if_neg hnot), congrArg Host.Outcome.next (if_neg hnot), congrArg Host.Outcome.next (if_neg hstop)⟩

theorem exec_stop (p : TrumpPkt) (s : State) : exec (.stop p) s = .next (s.hop p.hop 9 (fun u => u.stopFor p.arg)) := rfl

/-- A packet with too many parity errors, or of a reserved kind, is TRUMP_FAULT (R200, R201). -/
theorem State.hop_bad (s : State) {h : Hop} (hb : 3 < h.perr ∨ kindReserved h.kind = true) (kind : BitVec 4) (run : State → State) :
    s.hop h kind run = s.trumpFault h.node :=
  if_pos (by simpa using hb)

/-! ### O19 -/

/-- Settles O19: each command of the root as its packet, the flags by their registers, STOP and START by what they leave. -/
theorem trumpCommands : Obligations.TrumpCommands := by
  unfold Obligations.TrumpCommands
  refine ⟨fun s who v => ⟨fun hmay => ⟨fun h g hh hg => ?_, fun h hh => ?_, fun h hh => ?_, fun h hh => ?_, fun h hh => ?_,
      fun h hh hwho => ?_⟩, fun hno => exec_cmd_ignored hno v, fun hwho => ?_⟩,
    fun s n f h => ⟨fun hh hf => ?_, fun hh hf => ?_, fun hbad hfatal c hc => ?_⟩,
    fun s cause h hh => ?_, fun s tick h hh => ⟨fun hable => ?_, fun hable => ?_⟩⟩
  · exact ⟨_, exec_cmdFreeze hmay v hg, congrArg Host.Outcome.next (s.hop_good hh rfl _)⟩
  · exact ⟨_, exec_cmdStep hmay v, congrArg Host.Outcome.next (s.hop_good hh rfl _)⟩
  · exact ⟨_, exec_cmdThaw hmay v, congrArg Host.Outcome.next (s.hop_good hh rfl _)⟩
  · obtain ⟨hon, htiles, _, _, hnew, _⟩ := s.stall_leaves 2
    exact ⟨_, exec_cmdStall hmay v, congrArg Host.Outcome.next (s.hop_good hh rfl _), hon, fun hoff => (hnew hoff).1, htiles⟩
  · exact ⟨_, exec_cmdUnstall hmay v, congrArg Host.Outcome.next (s.hop_good hh rfl _)⟩
  · exact ⟨_, exec_cmdStop hmay v hwho, congrArg Host.Outcome.next (s.hop_good hh rfl _)⟩
  · refine congrArg Host.Outcome.next (if_neg ?_)
    rw [beq_false_of_ne hwho, Bool.false_and]
    decide
  · obtain ⟨htile, hother⟩ := s.tile_flagged n f
    obtain ⟨r, hr⟩ := s.flagged_eq n f
    refine ⟨s.flagged n f, ?_, htile, hother, s.nonfin_flagged n f, s.renege_flagged n f, s.on_flagged_other n f _ (by decide) (by decide), ?_, ?_⟩
    · rw [exec_flag, s.hop_good hh rfl, hf]
      rfl
    · rw [hr]
      rfl
    · rw [hr]
      rfl
  · obtain ⟨htile, hother⟩ := s.tile_flagged n f
    obtain ⟨r, hr⟩ := s.flagged_eq n f
    obtain ⟨hfault, hstall, houtcome, hpos, hnew⟩ := (s.flagged n f).faultFlag_leaves
    have htiles : ∀ m, (s.flagged n f).faultFlag.tile m = (s.flagged n f).tile m := State.tile_of_tiles (State.tiles_faultFlag _)
    refine ⟨(s.flagged n f).faultFlag, ?_, ?_, fun m hm => ?_, hfault, hstall, ?_, fun hoff => ?_, ?_⟩
    · rw [exec_flag, s.hop_good hh rfl, hf]
      rfl
    · rw [htiles]
      exact htile
    · rw [htiles]
      exact hother m hm
    · rw [houtcome, hr]
      rfl
    · have hnew := hnew ((s.on_flagged_other n f _ (by decide) (by decide)).trans hoff)
      rw [hr] at hnew ⊢
      exact hnew
    · rw [hpos, hr]
      rfl
  · refine ⟨s.trumpFault h.node, ?_, State.trumpFault_leaves hfatal h.node⟩
    simp only [List.mem_cons, List.not_mem_nil, or_false] at hc
    obtain rfl | rfl | rfl | rfl | rfl | rfl | rfl | rfl | rfl | rfl := hc <;>
      exact congrArg Host.Outcome.next (s.hop_bad hbad _ _)
  · have hstop := s.stopped_stopWafer.misdeal cause
    obtain ⟨hplay, hsweep, hnone⟩ := s.stopWafer.outcome_misdeal cause
    rw [s.hand_stopWafer] at hplay hsweep hnone
    refine ⟨s.stopFor cause, ?_, fun n => ?_, fun k => ?_, hstop.tricks, hstop.started, hstop.freezing, hstop.frozen, hstop.stalled,
      hplay, hsweep, hnone⟩
    · rw [exec_stop, s.hop_good hh rfl]
    · rw [show (s.stopFor cause).tile n = ((s.stopFor cause).tile n).stop from (hstop.tile n).symm]
      exact ⟨rfl, rfl, rfl, rfl, rfl, ⟨rfl, rfl, rfl, rfl, rfl, rfl, rfl⟩, ⟨rfl, rfl, rfl, rfl, rfl, rfl, rfl⟩⟩
    · rw [show (s.stopFor cause).posn k = ((s.stopFor cause).posn k).stop from (hstop.posn k).symm]
      exact ⟨rfl, rfl, rfl, rfl⟩
  · obtain ⟨r, hr⟩ := (s.atTick tick).startSet_eq
    have htile : ∀ n, (s.atTick tick).startSet.tile n = (s.tile n).start (s.atTick tick).countsAnew := (s.atTick tick).tile_startSet
    refine ⟨(s.atTick tick).startSet, ?_, ?_, fun n hrun => ?_, fun n => ?_, fun hanew => ?_, ?_, ?_, fun hcalm => ?_⟩
    · rw [exec_start, s.hop_good hh rfl, ← State.startNow_eq]
      exact congrArg Host.Outcome.next (if_pos ((s.atTick tick).startable_iff.mpr hable))
    · rw [hr]
      rfl
    · rw [htile]
      exact if_pos hrun
    · rw [htile]
      exact ⟨rfl, rfl, rfl⟩
    · refine State.startSet_counts ?_
      unfold State.countsAnew
      obtain hanew | hanew := hanew
      · rw [show (s.atTick tick).hand.sweep = false from hanew]
        rfl
      · rw [show (s.atTick tick).recovering = true from hanew, Bool.or_true]
    · rw [hr]
      rfl
    · rw [hr]
      rfl
    · exact State.advanceAll_calm (State.startSet_calm (hcalm.atTick tick))
  · rw [exec_start, s.hop_good hh rfl]
    exact congrArg Host.Outcome.next (if_neg fun hc => hable ((s.atTick tick).startable_iff.mp hc))

end Sys2Proof.Machine

/-! PROOF. Flits that arrive, are refused, or cross a seam (O16). -/

namespace Sys2Proof.Machine

/-! ### A change of one router -/

/-- A change of one tile's router. -/
def State.onRouter (s : State) (n : Nat) (f : Router → Router) : State := s.onTile n (fun x => { x with router := f x.router })

theorem State.router_onRouter_same (s : State) (n : Nat) (f : Router → Router) :
    ((s.onRouter n f).tile n).router = f (s.tile n).router := by
  unfold State.onRouter
  rw [State.tile_onTile_same]

theorem State.tile_onRouter_other (s : State) {n m : Nat} (h : m ≠ n) (f : Router → Router) : (s.onRouter n f).tile m = s.tile m :=
  State.tile_onTile_other _ _ _ _ h

/-- What a change leaves of a router, it leaves of every router. -/
theorem State.router_onRouter_keeps {β : Type} (p : Router → β) (s : State) (n : Nat) (f : Router → Router)
    (h : ∀ r, p (f r) = p r) (m : Nat) : p ((s.onRouter n f).tile m).router = p (s.tile m).router := by
  by_cases hm : m = n
  · rw [hm, State.router_onRouter_same, h]
  · rw [State.tile_onRouter_other _ hm]

/-- A change of a router leaves the rest of every tile. -/
theorem State.tile_onRouter (s : State) (n : Nat) (f : Router → Router) (m : Nat) :
    (s.onRouter n f).tile m = { s.tile m with router := ((s.onRouter n f).tile m).router } := by
  by_cases hm : m = n
  · rw [hm, State.router_onRouter_same]
    exact State.tile_onTile_same _ _ _
  · rw [State.tile_onRouter_other _ hm]

/-- A change of tiles alone that leaves their memories and primary contexts. -/
structure State.Moves (s t : State) : Prop where
  rest : t = { s with tiles := t.tiles, fab := { s.fab with edgeIn := t.fab.edgeIn, edgeOut := t.fab.edgeOut } }
  sram : ∀ m, (t.tile m).sram = (s.tile m).sram
  prim : ∀ m, (t.tile m).prim = (s.tile m).prim

theorem State.Moves.refl (s : State) : s.Moves s := ⟨rfl, fun _ => rfl, fun _ => rfl⟩

theorem State.Moves.trans {s t u : State} (h : s.Moves t) (g : t.Moves u) : s.Moves u :=
  ⟨by rw [g.rest, h.rest], fun m => (g.sram m).trans (h.sram m), fun m => (g.prim m).trans (h.prim m)⟩

theorem State.moves_onRouter (s : State) (n : Nat) (f : Router → Router) : s.Moves (s.onRouter n f) :=
  ⟨rfl, fun m => by rw [State.tile_onRouter], fun m => by rw [State.tile_onRouter]⟩

theorem State.moves_edgeOut (s : State) (l : Map (List Flit)) : s.Moves { s with fab := { s.fab with edgeOut := l } } :=
  ⟨rfl, fun _ => rfl, fun _ => rfl⟩

/-! ### Ports and what feeds them (R171, R172) -/

/-- A port of a router, or of the near controller at an edge. -/
def isPort (n port : Nat) : Prop := port < 4 ∨ (port < 8 ∧ (edgeAt n (port - 4)).isSome = true)

/-- What a tile's router has of flits on their way out. -/
def State.flightOf (s : State) (e : Nat × Nat) : List Flit := (s.tile e.1).router.flight.get e.2 []

theorem State.onWay_fed (s : State) {n port : Nat} {side : Bool} {e : Nat × Nat} (h : feeder n port side = some e) :
    s.onWay n port side = s.flightOf e := by
  unfold State.onWay
  rw [h]
  rfl

theorem State.onWay_edge (s : State) {n port : Nat} {side : Bool} {q : Nat} (h : feeder n port side = none) (hq : edgeAt n (port % 4) = some q) :
    s.onWay n port side = s.fab.edgeIn.get (2 * q + b2n side) [] := by
  unfold State.onWay
  rw [h, hq]

theorem State.onWay_none (s : State) {n port : Nat} {side : Bool} (h : feeder n port side = none) (hq : edgeAt n (port % 4) = none) :
    s.onWay n port side = [] := by
  unfold State.onWay
  rw [h, hq]

/-- The oldest flit of an output is no longer on its way. -/
def Router.flown (r : Router) (k : Nat) : Router := { r with flight := r.flight.put k ((r.flight.get k []).drop 1) [] }

theorem State.landed_fed (s : State) {n port : Nat} {side : Bool} {e : Nat × Nat} (h : feeder n port side = some e) :
    s.landed n port side = s.onRouter e.1 (fun r => r.flown e.2) := by
  unfold State.landed
  rw [h]
  rfl

theorem State.landed_edge (s : State) {n port : Nat} {side : Bool} {q : Nat} (h : feeder n port side = none) (hq : edgeAt n (port % 4) = some q) :
    s.landed n port side = { s with fab := { s.fab with
      edgeIn := s.fab.edgeIn.put (2 * q + b2n side) ((s.fab.edgeIn.get (2 * q + b2n side) []).drop 1) [] } } := by
  unfold State.landed
  rw [h, hq]

theorem State.landed_none (s : State) {n port : Nat} {side : Bool} (h : feeder n port side = none) (hq : edgeAt n (port % 4) = none) :
    s.landed n port side = s := by
  unfold State.landed
  rw [h, hq]

/-- What is on its way to a port lies in flights and edge lanes alone. -/
theorem State.onWay_congr {s t : State} (hf : ∀ e, t.flightOf e = s.flightOf e) (he : t.fab.edgeIn = s.fab.edgeIn) (n port : Nat) (side : Bool) :
    t.onWay n port side = s.onWay n port side := by
  cases hfeed : feeder n port side with
  | some e => rw [t.onWay_fed hfeed, s.onWay_fed hfeed, hf]
  | none => cases hq : edgeAt n (port % 4) with
    | some q => rw [t.onWay_edge hfeed hq, s.onWay_edge hfeed hq, he]
    | none => rw [t.onWay_none hfeed hq, s.onWay_none hfeed hq]

theorem State.flightOf_onRouter (s : State) (n : Nat) (f : Router → Router) (h : ∀ r, (f r).flight = r.flight) (e : Nat × Nat) :
    (s.onRouter n f).flightOf e = s.flightOf e :=
  congrArg (fun l : Map (List Flit) => l.get e.2 []) (State.router_onRouter_keeps Router.flight s n f h e.1)

theorem State.flightOf_flown (s : State) (e : Nat × Nat) : (s.onRouter e.1 (fun r => r.flown e.2)).flightOf e = (s.flightOf e).drop 1 := by
  unfold State.flightOf
  rw [State.router_onRouter_same]
  exact Map.get_put_same _ _ _ _

/-- The oldest flit is no longer on its way; no lane of a router or of the edge has changed. -/
theorem State.landed_leaves (s : State) (n port : Nat) (side : Bool) :
    s.Moves (s.landed n port side) ∧ (s.landed n port side).onWay n port side = (s.onWay n port side).drop 1 ∧
      (s.landed n port side).fab.edgeOut = s.fab.edgeOut ∧
      ∀ m, ((s.landed n port side).tile m).router.lanes = (s.tile m).router.lanes := by
  cases hfeed : feeder n port side with
  | some e =>
    rw [State.onWay_fed _ hfeed, s.onWay_fed hfeed, s.landed_fed hfeed]
    exact ⟨s.moves_onRouter _ _, s.flightOf_flown e, rfl, State.router_onRouter_keeps Router.lanes s e.1 _ (fun _ => rfl)⟩
  | none => cases hq : edgeAt n (port % 4) with
    | some q =>
      rw [State.onWay_edge _ hfeed hq, s.onWay_edge hfeed hq, s.landed_edge hfeed hq]
      exact ⟨⟨rfl, fun _ => rfl, fun _ => rfl⟩, Map.get_put_same _ _ _ _, rfl, fun _ => rfl⟩
    | none =>
      rw [s.landed_none hfeed hq, s.onWay_none hfeed hq]
      exact ⟨State.Moves.refl s, rfl, rfl, fun _ => rfl⟩

/-! ### A flit that enters (R171) -/

theorem State.laneAt_router (s : State) {n port : Nat} (h : port < 4) (side : Bool) :
    s.laneAt n port side = (s.tile n).router.lane (laneIn port side) := if_pos h

theorem State.laneAt_edge (s : State) {n port q : Nat} (h : ¬ port < 4) (hq : edgeAt n (port - 4) = some q) (side : Bool) :
    s.laneAt n port side = s.fab.edgeOut.get (2 * q + b2n side) [] := by
  unfold State.laneAt
  rw [if_neg h, hq]

/-- The lane at a port is one of its router, or of the edge. -/
theorem State.laneAt_congr {s t : State} {n : Nat} (hl : (t.tile n).router.lanes = (s.tile n).router.lanes)
    (he : t.fab.edgeOut = s.fab.edgeOut) (port : Nat) (side : Bool) : t.laneAt n port side = s.laneAt n port side := by
  unfold State.laneAt Router.lane
  rw [hl, he]

theorem State.laneAt_onRouter (s : State) (n : Nat) (f : Router → Router) (h : ∀ r, (f r).lanes = r.lanes) (m port : Nat) (side : Bool) :
    (s.onRouter n f).laneAt m port side = s.laneAt m port side :=
  State.laneAt_congr (State.router_onRouter_keeps Router.lanes s n f h m) rfl port side

theorem State.onWay_onRouter (s : State) (n : Nat) (f : Router → Router) (h : ∀ r, (f r).flight = r.flight) (m port : Nat) (side : Bool) :
    (s.onRouter n f).onWay m port side = s.onWay m port side :=
  State.onWay_congr (s.flightOf_onRouter n f h) rfl m port side

theorem State.laneAt_emit (s : State) (c : Nat) (l : List Arg) (n port : Nat) (side : Bool) :
    (s.emit c l).laneAt n port side = s.laneAt n port side :=
  State.laneAt_congr (by rw [State.tile_emit]) (by rw [State.emit_fab]) port side

theorem State.onWay_emit (s : State) (c : Nat) (l : List Arg) (n port : Nat) (side : Bool) :
    (s.emit c l).onWay n port side = s.onWay n port side :=
  State.onWay_congr (fun e => by rw [State.flightOf, State.flightOf, State.tile_emit]) (by rw [State.emit_fab]) n port side

theorem Router.lane_push (r : Router) (k : Nat) (l : List Flit) : (r.push k l).lane k = r.lane k ++ l := Map.get_put_same _ _ _ _

/-- The receiver of a port has refused nothing since. -/
def Router.accepts (k : Nat) (r : Router) : Router := { r with refused := r.refused.put k 0 0 }

theorem Router.refused_accepts (k : Nat) (r : Router) : (r.accepts k).refused.get k 0 = 0 := Map.get_put_same r.refused k 0 0

/-- The oldest flit has left its way, and its receiver accepts it. -/
def State.accepted (s : State) (n port : Nat) (side : Bool) : State :=
  (s.landed n port side).onRouter n (Router.accepts (2 * port + b2n side))

theorem State.enter_router (s : State) {n port : Nat} (h : port < 4) (side : Bool) (f : Flit) : s.enter n port side f =
    (s.accepted n port side).onRouter n (fun r => r.push (laneIn port side) [f]) := if_pos h

theorem State.enter_edge (s : State) {n port q : Nat} (h : ¬ port < 4) (hq : edgeAt n (port - 4) = some q) (side : Bool) (f : Flit) :
    s.enter n port side f = { s.accepted n port side with fab := { (s.accepted n port side).fab with
      edgeOut := (s.accepted n port side).fab.edgeOut.put (2 * q + b2n side)
        ((s.accepted n port side).fab.edgeOut.get (2 * q + b2n side) [] ++ [f]) [] } } := by
  unfold State.enter
  dsimp only
  rw [if_neg h, hq]
  rfl

theorem State.accepted_leaves (s : State) (n port : Nat) (side : Bool) :
    s.Moves (s.accepted n port side) ∧ (s.accepted n port side).onWay n port side = (s.onWay n port side).drop 1 ∧
      (s.accepted n port side).laneAt n port side = s.laneAt n port side ∧
      ((s.accepted n port side).tile n).router.refused.get (2 * port + b2n side) 0 = 0 := by
  obtain ⟨hmoves, hway, hout, hlanes⟩ := s.landed_leaves n port side
  unfold State.accepted
  refine ⟨hmoves.trans (State.moves_onRouter _ _ _), ?_, ?_, ?_⟩
  · rw [State.onWay_onRouter _ n (Router.accepts _) (fun _ => rfl), hway]
  · rw [State.laneAt_onRouter _ n (Router.accepts _) (fun _ => rfl)]
    exact State.laneAt_congr (hlanes n) hout port side
  · rw [State.router_onRouter_same, Router.refused_accepts]

/-- A flit that enters is behind what the lane has, and the next is the oldest on its way (R171). -/
theorem State.enter_leaves (s : State) {n port : Nat} (hp : isPort n port) (side : Bool) (f : Flit) :
    s.Moves (s.enter n port side f) ∧ (s.enter n port side f).laneAt n port side = s.laneAt n port side ++ [f] ∧
      (s.enter n port side f).onWay n port side = (s.onWay n port side).drop 1 ∧
      ((s.enter n port side f).tile n).router.refused.get (2 * port + b2n side) 0 = 0 := by
  obtain ⟨hmoves, hway, hlane, hrefused⟩ := s.accepted_leaves n port side
  by_cases hlt : port < 4
  · rw [s.enter_router hlt]
    refine ⟨hmoves.trans (State.moves_onRouter _ _ _), ?_, ?_, ?_⟩
    · rw [State.laneAt_router _ hlt, State.router_onRouter_same, Router.lane_push, ← hlane, State.laneAt_router _ hlt]
    · rw [State.onWay_onRouter _ n (fun r => r.push (laneIn port side) [f]) (fun _ => rfl), hway]
    · rw [State.router_onRouter_same]
      exact hrefused
  · obtain ⟨q, hq⟩ := Option.isSome_iff_exists.mp (hp.resolve_left hlt).2
    rw [s.enter_edge hlt hq]
    refine ⟨hmoves.trans (State.moves_edgeOut _ _), ?_, ?_, hrefused⟩
    · rw [State.laneAt_edge _ hlt hq, ← hlane, State.laneAt_edge _ hlt hq]
      exact Map.get_put_same _ _ _ _
    · rw [← hway]
      exact State.onWay_congr (fun _ => rfl) rfl n port side

/-! ### A flit that is refused (R172, R173) -/

/-- A refusal is a retry of the port's link, and the count of those in a row is set (R173, R190). -/
def Router.counts (port k c : Nat) (r : Router) : Router :=
  { r with retries := r.retries.put port (r.retries.get port 0 + 1) 0, refused := r.refused.put k c 0 }

theorem Router.retries_counts (port k c : Nat) (r : Router) : (r.counts port k c).retries.get port 0 = r.retries.get port 0 + 1 :=
  Map.get_put_same r.retries port (r.retries.get port 0 + 1) 0

theorem Router.refused_counts (port k c : Nat) (r : Router) : (r.counts port k c).refused.get k 0 = c := Map.get_put_same r.refused k c 0

/-- A receiver awaits the resend of an output (R172). -/
def Router.awaits (k : Nat) (r : Router) : Router := { r with resend := setIns r.resend k }

/-- A refusal is counted at its port. -/
def State.counted (s : State) (n port : Nat) (side : Bool) : State :=
  s.onRouter n (Router.counts port (2 * port + b2n side) ((s.tile n).router.refused.get (2 * port + b2n side) 0 + 1))

/-- A refusal that is counted, with the resend that it awaits. -/
def State.refuses (s : State) (n port : Nat) (side : Bool) : State :=
  (s.counted n port side).onRouter (resendKey n port side).1 (Router.awaits (resendKey n port side).2)

theorem State.crcError_retries (s : State) {n port : Nat} {side : Bool} (f : Flit) (hr : s.on R.FB_CTRL_RETRY_EN = true)
    (hn : (s.tile n).router.refused.get (2 * port + b2n side) 0 < 2) : s.crcError n port side f = s.refuses n port side := by
  unfold State.crcError
  dsimp only
  rw [hr, decide_eq_true (by omega)]
  rfl

/-- A state whose flit is delivered poisoned, its link to die at the boundary, before LINK_POISON. -/
def State.poisons (s : State) (n port : Nat) (side : Bool) (f : Flit) : State :=
  { s.enter n port side { f with poison := true } with fab := { (s.enter n port side { f with poison := true }).fab with
    dead := (s.enter n port side { f with poison := true }).fab.dead ++ [(portLink n port, 2)] } }

theorem State.crcError_poisons (s : State) {n port : Nat} {side : Bool} (f : Flit)
    (h : s.on R.FB_CTRL_RETRY_EN = false ∨ 2 ≤ (s.tile n).router.refused.get (2 * port + b2n side) 0) :
    ∃ u, (u = s ∨ u = s.counted n port side) ∧ s.crcError n port side f = (u.poisons n port side f).emit 0x0305 [.w4 (portLink n port)] := by
  have hno : ¬ (s.on R.FB_CTRL_RETRY_EN && decide ((s.tile n).router.refused.get (2 * port + b2n side) 0 + 1 < 3)) = true := by
    rw [Bool.and_eq_true, decide_eq_true_eq]
    rintro ⟨hr, hlt⟩
    obtain h | h := h
    · rw [h] at hr
      cases hr
    · omega
  refine ⟨if s.on R.FB_CTRL_RETRY_EN then s.counted n port side else s, ?_, ?_⟩
  · split
    · exact .inr rfl
    · exact .inl rfl
  · unfold State.crcError
    dsimp only
    rw [if_neg hno]
    rfl

theorem State.counted_leaves (s : State) (n port : Nat) (side : Bool) :
    s.Moves (s.counted n port side) ∧ (s.counted n port side).laneAt n port side = s.laneAt n port side ∧
      (s.counted n port side).onWay n port side = s.onWay n port side ∧
      ((s.counted n port side).tile n).router.retries.get port 0 = (s.tile n).router.retries.get port 0 + 1 ∧
      ((s.counted n port side).tile n).router.refused.get (2 * port + b2n side) 0 = (s.tile n).router.refused.get (2 * port + b2n side) 0 + 1 := by
  unfold State.counted
  refine ⟨s.moves_onRouter _ _, s.laneAt_onRouter n (Router.counts _ _ _) (fun _ => rfl) n port side,
    s.onWay_onRouter n (Router.counts _ _ _) (fun _ => rfl) n port side, ?_, ?_⟩
  · rw [State.router_onRouter_same, Router.retries_counts]
  · rw [State.router_onRouter_same, Router.refused_counts]

theorem State.refuses_leaves (s : State) (n port : Nat) (side : Bool) :
    s.Moves (s.refuses n port side) ∧ (s.refuses n port side).laneAt n port side = s.laneAt n port side ∧
      (s.refuses n port side).onWay n port side = s.onWay n port side ∧
      ((s.refuses n port side).tile n).router.retries.get port 0 = (s.tile n).router.retries.get port 0 + 1 ∧
      ((s.refuses n port side).tile n).router.refused.get (2 * port + b2n side) 0 = (s.tile n).router.refused.get (2 * port + b2n side) 0 + 1 ∧
      ((s.refuses n port side).tile (resendKey n port side).1).router.resend.contains (resendKey n port side).2 = true := by
  obtain ⟨hmoves, hlane, hway, hretries, hrefused⟩ := s.counted_leaves n port side
  unfold State.refuses
  refine ⟨hmoves.trans (State.moves_onRouter _ _ _), ?_, ?_, ?_, ?_, ?_⟩
  · rw [State.laneAt_onRouter _ _ (Router.awaits _) (fun _ => rfl), hlane]
  · rw [State.onWay_onRouter _ _ (Router.awaits _) (fun _ => rfl), hway]
  · rw [State.router_onRouter_keeps Router.retries _ _ (Router.awaits _) (fun _ => rfl), hretries]
  · rw [State.router_onRouter_keeps Router.refused _ _ (Router.awaits _) (fun _ => rfl), hrefused]
  · rw [State.router_onRouter_same]
    refine (contains_setIns _ _ _).trans ?_
    rw [decide_eq_true rfl]
    rfl

/-! ### The oldest flit on its way (R171, R172) -/

/-- Whether nothing may enter at a port: its lane is full, or its receiver awaits a resend. -/
def State.shut (s : State) (n port : Nat) (side : Bool) : Prop :=
  laneDepth n (port % 4) side ≤ (s.laneAt n port side).length ∨
    (s.tile (resendKey n port side).1).router.resend.contains (resendKey n port side).2 = true

theorem State.flitIn_nothing {s : State} {n port : Nat} {side : Bool} {err : BitVec 528} (h : s.onWay n port side = [] ∨ s.shut n port side) :
    s.flitIn n port side err = s := by
  unfold State.flitIn
  dsimp only
  cases hway : s.onWay n port side with
  | nil => rfl
  | cons f rest =>
    obtain h | h := h
    · rw [h] at hway
      cases hway
    · refine if_pos ?_
      rw [Bool.or_eq_true, decide_eq_true_eq]
      exact h

theorem State.flitIn_comes {s : State} {n port : Nat} {side : Bool} (err : BitVec 528) {f : Flit} {rest : List Flit}
    (hway : s.onWay n port side = f :: rest) (h : ¬ s.shut n port side) : s.flitIn n port side err =
      if (hitFlit f err).crc = crc16 (flitBytes (hitFlit f err)) then s.enter n port side (hitFlit f err)
      else s.crcError n port side (hitFlit f err) := by
  unfold State.flitIn
  dsimp only
  rw [hway]
  refine if_neg ?_
  rw [Bool.or_eq_true, decide_eq_true_eq]
  exact h

theorem exec_flitReceive (n port : Nat) (side : Bool) (err : BitVec 528) (s : State) :
    exec (.flitReceive n port side err) s = .next ((s.flitIn n port side err).pumpEdge n) := rfl

theorem exec_flitReceive_good {s : State} {n port : Nat} {side : Bool} {err : BitVec 528} {f : Flit} {rest : List Flit}
    (hway : s.onWay n port side = f :: rest) (h : ¬ s.shut n port side) (hcrc : (hitFlit f err).crc = crc16 (flitBytes (hitFlit f err))) :
    exec (.flitReceive n port side err) s = .next ((s.enter n port side (hitFlit f err)).pumpEdge n) := by
  rw [exec_flitReceive, State.flitIn_comes err hway h, if_pos hcrc]

theorem exec_flitReceive_bad {s : State} {n port : Nat} {side : Bool} {err : BitVec 528} {f : Flit} {rest : List Flit}
    (hway : s.onWay n port side = f :: rest) (h : ¬ s.shut n port side) (hcrc : (hitFlit f err).crc ≠ crc16 (flitBytes (hitFlit f err))) :
    exec (.flitReceive n port side err) s = .next ((s.crcError n port side (hitFlit f err)).pumpEdge n) := by
  rw [exec_flitReceive, State.flitIn_comes err hway h, if_neg hcrc]

/-- A poisoned delivery, of a state that differs only by a refusal that was counted, with its LINK_POISON (R173). -/
theorem State.poisons_leaves {s u : State} (hu : s.Moves u) {n port : Nat} (hp : isPort n port) (side : Bool) (f : Flit)
    (hlane : u.laneAt n port side = s.laneAt n port side) (hway : u.onWay n port side = s.onWay n port side) :
    ∃ t, t = (u.poisons n port side f).emit 0x0305 [.w4 (portLink n port)] ∧
      t.laneAt n port side = s.laneAt n port side ++ [{ f with poison := true }] ∧
      t.onWay n port side = (s.onWay n port side).drop 1 ∧ t.fab.dead = s.fab.dead ++ [(portLink n port, 2)] ∧
      s.noted 0x0305 [.w4 (portLink n port)] ∈ t.sup.trace := by
  obtain ⟨hmoves, hlane', hway', _⟩ := u.enter_leaves hp side { f with poison := true }
  have hrest := (hu.trans hmoves).rest
  refine ⟨_, rfl, ?_, ?_, ?_, ?_⟩
  · rw [State.laneAt_emit, ← hlane, ← hlane']
    rfl
  · rw [State.onWay_emit, ← hway, ← hway']
    rfl
  · rw [State.emit_fab]
    show (u.enter n port side { f with poison := true }).fab.dead ++ _ = _
    rw [hrest]
  · have hnoted : (u.poisons n port side f).noted 0x0305 [.w4 (portLink n port)] = s.noted 0x0305 [.w4 (portLink n port)] := by
      show (u.enter n port side { f with poison := true }).noted 0x0305 [.w4 (portLink n port)] = _
      rw [hrest]
      rfl
    rw [← hnoted]
    exact State.noted_emit _ _ _

/-! ### The sender's side (R172) -/

/-- A sender resends an output from the refused flit onward, out of those that it keeps. -/
def Router.resends (k : Nat) (r : Router) : Router :=
  { r with
    resend := r.resend.filter (· != k)
    flight := if (r.flight.get k []).length ≤ (r.sent.get k []).length then
        r.flight.put k ((r.sent.get k []).drop ((r.sent.get k []).length - (r.flight.get k []).length)) []
      else r.flight }

theorem Router.resend_resends (k : Nat) (r : Router) (e : Nat) :
    (r.resends k).resend.contains e = (decide (e ≠ k) && r.resend.contains e) := by
  refine Bool.eq_iff_iff.mpr ?_
  rw [Bool.and_eq_true, decide_eq_true_eq, List.contains_iff_mem, List.contains_iff_mem, and_comm]
  unfold Router.resends
  rw [List.mem_filter, bne_iff_ne]

theorem Router.flight_resends (k : Nat) (r : Router) (e : Nat) : (r.resends k).flight.get e [] =
    if e = k ∧ (r.flight.get k []).length ≤ (r.sent.get k []).length then
      (r.sent.get k []).drop ((r.sent.get k []).length - (r.flight.get k []).length)
    else r.flight.get e [] := by
  unfold Router.resends
  dsimp only
  by_cases hle : (r.flight.get k []).length ≤ (r.sent.get k []).length
  · rw [if_pos hle]
    by_cases he : e = k
    · rw [if_pos ⟨he, hle⟩, he]
      exact Map.get_put_same _ _ _ _
    · rw [if_neg (fun h => he h.1)]
      exact Map.get_put_other _ _ _ _ _ _ he
  · rw [if_neg hle, if_neg (fun h => hle h.2)]

/-- The near controller's ports are numbered from 4. -/
theorem port_of_near (port : Nat) (near : Bool) : port + 4 * b2n near = if near then port + 4 else port := by
  cases near <;> rfl

theorem exec_flitRefusal (n port : Nat) (side near : Bool) (s : State) :
    exec (.flitRefusal n port side near) s = .next (s.onRouter (resendKey n (if near then port + 4 else port) side).1
      (Router.resends (resendKey n (if near then port + 4 else port) side).2)) := by
  rw [← port_of_near]
  rfl

/-- A link that is to die at the boundary because its handshake timed out (R186). -/
def State.seamDead (s : State) (link : Nat) : State := { s with fab := { s.fab with dead := s.fab.dead ++ [(link, 3)] } }

theorem exec_seamTimeout (link : Nat) (s : State) :
    exec (.seamTimeout link) s = .next (((s.seamDead link).emit 0x0307 [.w4 link]).misdeal 7) := rfl

/-- Settles O16: what a port does with the oldest flit on its way is said per case (nothing, enter, refuse, poison), each
with what it leaves; the sender's resend and the seam's timeout are one change each. -/
theorem flitReceive : Obligations.FlitReceive := by
  unfold Obligations.FlitReceive
  refine ⟨fun s n port side err hp => ⟨fun h => ?_, fun f rest hway hopen => ⟨fun hcrc => ?_, fun hcrc hr hn => ?_, fun hcrc h => ?_⟩⟩,
    fun s n port side near => ?_, fun s link => ?_⟩
  · rw [exec_flitReceive, State.flitIn_nothing h]
  · obtain ⟨hmoves, hlane, hon, hrefused⟩ := s.enter_leaves hp side (hitFlit f err)
    rw [hway] at hon
    have hrest := hmoves.rest
    exact ⟨_, exec_flitReceive_good hway hopen hcrc, hlane, hon, hrefused, fun m => ⟨hmoves.sram m, hmoves.prim m⟩,
      by rw [hrest], by rw [hrest], by rw [hrest]⟩
  · obtain ⟨hmoves, hlane, hon, hretries, hrefused, hresend⟩ := s.refuses_leaves n port side
    have hrest := hmoves.rest
    refine ⟨_, ?_, hretries, hrefused, hresend, hlane, hon, by rw [hrest], by rw [hrest], by rw [hrest]⟩
    rw [exec_flitReceive_bad hway hopen hcrc, State.crcError_retries s _ hr hn]
  · obtain ⟨u, hu, hcrcError⟩ := s.crcError_poisons (hitFlit f err) h
    obtain ⟨hmoves, hlane, hon, _⟩ := s.counted_leaves n port side
    have hleaves : s.Moves u ∧ u.laneAt n port side = s.laneAt n port side ∧ u.onWay n port side = s.onWay n port side := by
      obtain rfl | rfl := hu
      · exact ⟨State.Moves.refl _, rfl, rfl⟩
      · exact ⟨hmoves, hlane, hon⟩
    obtain ⟨hmoves, hlane, hon⟩ := hleaves
    obtain ⟨t, ht, hlaneT, honT, hdead, hnoted⟩ := State.poisons_leaves hmoves hp side (hitFlit f err) hlane hon
    rw [hway] at honT
    refine ⟨t, ?_, hlaneT, honT, hdead, hnoted⟩
    rw [exec_flitReceive_bad hway hopen hcrc, hcrcError, ht]
  · refine ⟨_, exec_flitRefusal n port side near s, ⟨rfl, fun m hm => State.tile_onRouter_other _ hm _⟩, ?_, ?_, ?_⟩
    · rw [State.tile_onRouter, State.router_onRouter_same]
      rfl
    · rw [State.router_onRouter_same]
      exact Router.resend_resends _ _
    · rw [State.router_onRouter_same]
      exact Router.flight_resends _ _
  · exact ⟨_, _, exec_seamTimeout link s, rfl, State.said_emit_of _ _ rfl⟩

end Sys2Proof.Machine

/-! PROOF. The route entries of a scheduled router, the first part of O17. -/

namespace Sys2Proof.Machine

/-! ### A beat of a router whose tile is calm (R86, R149) -/

/-- Only the fields of the wafer have clocks. -/
theorem State.field_of_on {s : State} {f : Nat} (h : s.fieldOn f = true) : f < 48 := by
  by_contra hf
  have hlo : s.rd R.CK_EN_FIELD_LO_EN < 2 ^ 32 := s.getI_lt R.CK_EN_FIELD_LO_EN 0
  have hhi : s.rd R.CK_EN_FIELD_HI_EN < 2 ^ 16 := s.getI_lt R.CK_EN_FIELD_HI_EN 0
  have hlt : s.rd64 R.CK_EN_FIELD_LO_EN R.CK_EN_FIELD_HI_EN < 2 ^ f := by
    have hpow : 2 ^ 48 ≤ 2 ^ f := Nat.pow_le_pow_right (by decide) (not_lt.mp hf)
    unfold State.rd64
    omega
  have hclear : bitOf (s.rd64 R.CK_EN_FIELD_LO_EN R.CK_EN_FIELD_HI_EN) f = false := by
    unfold bitOf
    rw [Nat.div_eq_of_lt hlt]
    rfl
  unfold State.fieldOn at h
  rw [hclear] at h
  cases h

/-- With an idle primary context nothing is held, and no beat of the router is a slip. -/
theorem State.heldSlip_calm {s : State} {n : Nat} (h : s.calm n) (hcorr : (s.tile n).corr.length ≤ 1) : s.heldSlip n = s := by
  have hdue : (s.ctx (siteOf n false)).due = [] := by
    show (s.tile n).prim.due = []
    unfold Ctx.due
    rw [Ctx.turns_idle _ h.1]
    rfl
  refine if_neg ?_
  rw [hdue, decide_eq_false (by omega)]
  simp

theorem exec_routerEntry (n : Nat) (s : State) :
    exec (.routerEntry n) s = .next ((((s.heldSlip n).routerBeat n).advance n).pumpEdge n) := rfl

/-- After a beat that leaves the units of its tile idle, only the dealers at the edge ports go on. -/
theorem exec_routerEntry_settles {s t : State} {n : Nat} (h : s.calm n) (hcorr : (s.tile n).corr.length ≤ 1) (ht : s.routerBeat n = t)
    (hsettles : s.Settles t n) : exec (.routerEntry n) s = .next (t.pumpEdge n) := by
  rw [exec_routerEntry, State.heldSlip_calm h hcorr, ht, t.advance_rests n (t.rests_of_calm n (hsettles.calm h))]

theorem State.routerBeat_nothing {s : State} {n : Nat}
    (h : s.rmode n = .idle ∨ s.rmode n = .hole ∨ s.fieldOn (tileField n) = false ∨ s.on R.FB_STATUS_STALLED = true) : s.routerBeat n = s := by
  unfold State.routerBeat
  dsimp only
  split
  · rfl
  · next hgo =>
    rw [Bool.or_eq_true, Bool.not_eq_true'] at hgo
    obtain h | h | h | h := h
    · rw [h]
    · rw [h]
    · exact absurd (.inl h) hgo
    · exact absurd (.inr h) hgo

theorem State.routerBeat_scheduled {s : State} {n : Nat} (hfield : s.fieldOn (tileField n) = true) (hstall : s.on R.FB_STATUS_STALLED = false)
    (hmode : s.rmode n = .scheduled) (hstarted : s.fab.started = true) (hend : (s.tile n).router.rb < s.endBeat)
    (hbefore : s.before (s.tile n).router.rb = true) : s.routerBeat n = s.scheduled n := by
  unfold State.routerBeat
  dsimp only
  rw [hfield, hstall, hmode, hstarted, hbefore, decide_eq_false (by omega)]
  rfl

/-! ### What an entry does to its router (R175 to R177) -/

/-- The flits that an output has been given: on their way, or in the tile's own lane. -/
def Router.out (r : Router) (o : Nat) : List Flit := if o < 4 then r.flight.get (2 * o) [] else r.lane (laneOut (o - 4) false)

/-- An input gives its head. -/
def Router.gives (r : Router) (i : Nat) : Router := r.setLane (laneIn i false) ((r.lane (laneIn i false)).drop 1)

/-- An output takes a flit (R172). -/
def Router.takes (r : Router) (o : Nat) (f : Flit) : Router :=
  if o < 4 then { r with
    sent := r.sent.put (2 * o) ((r.sent.get (2 * o) [] ++ [f]).drop ((r.sent.get (2 * o) []).length + 1 - 8)) []
    flight := r.flight.put (2 * o) (r.flight.get (2 * o) [] ++ [f]) [] }
  else r.push (laneOut (o - 4) false) [f]

/-- An output takes the head of a lane, if there is one. -/
def Router.takesHead (l : List Flit) (r : Router) (o : Nat) : Router :=
  match l.head? with
  | some f => r.takes o f
  | none => r

theorem Router.lane_setLane (r : Router) (k j : Nat) (l : List Flit) : (r.setLane k l).lane j = if j = k then l else r.lane j := by
  split
  · next h =>
    rw [h]
    exact Map.get_put_same _ _ _ _
  · next h => exact Map.get_put_other _ _ _ _ _ _ h

theorem laneIn_inj {i j : Nat} : laneIn i false = laneIn j false ↔ i = j := by
  unfold laneIn
  omega

theorem laneIn_ne_laneOut {i : Nat} (h : i < 5) (o : Nat) : laneIn i false ≠ laneOut o false := by
  unfold laneIn laneOut
  omega

theorem Router.lane_gives (r : Router) (i j : Nat) :
    (r.gives i).lane (laneIn j false) = if j = i then (r.lane (laneIn j false)).drop 1 else r.lane (laneIn j false) := by
  rw [Router.gives, Router.lane_setLane]
  by_cases h : j = i
  · rw [h, if_pos rfl, if_pos rfl]
  · rw [if_neg h, if_neg (fun hl => h (laneIn_inj.mp hl))]

theorem Router.out_gives (r : Router) {i : Nat} (h : i < 5) (o : Nat) : (r.gives i).out o = r.out o := by
  unfold Router.out
  rw [Router.gives, Router.lane_setLane, if_neg (laneIn_ne_laneOut h _).symm]
  rfl

theorem Router.out_takes (r : Router) (o : Nat) (f : Flit) : (r.takes o f).out o = r.out o ++ [f] := by
  unfold Router.out Router.takes
  by_cases h : o < 4
  · rw [if_pos h, if_pos h, if_pos h]
    exact Map.get_put_same _ _ _ _
  · rw [if_neg h, if_neg h, if_neg h, Router.lane_push]

theorem Router.out_takes_other (r : Router) {o p : Nat} (h : p ≠ o) (f : Flit) : (r.takes o f).out p = r.out p := by
  unfold Router.out Router.takes
  by_cases ho : o < 4
  · rw [if_pos ho]
    by_cases hp : p < 4
    · rw [if_pos hp, if_pos hp]
      exact Map.get_put_other _ _ _ _ _ _ (by omega)
    · rw [if_neg hp, if_neg hp]
      rfl
  · rw [if_neg ho]
    by_cases hp : p < 4
    · rw [if_pos hp, if_pos hp]
      rfl
    · rw [if_neg hp, if_neg hp, Router.push, Router.lane_setLane, if_neg]
      unfold laneOut
      omega

theorem Router.lane_takes (r : Router) (o : Nat) (f : Flit) {i : Nat} (h : i < 5) :
    (r.takes o f).lane (laneIn i false) = r.lane (laneIn i false) := by
  unfold Router.takes
  split
  · rfl
  · rw [Router.push, Router.lane_setLane, if_neg (laneIn_ne_laneOut h _)]

theorem Router.out_takesHead (l : List Flit) (r : Router) (o p : Nat) :
    (r.takesHead l o).out p = r.out p ++ if p = o then l.head?.toList else [] := by
  unfold Router.takesHead
  by_cases h : p = o
  · subst h
    rw [if_pos rfl]
    cases l.head? with
    | some f => exact r.out_takes p f
    | none => exact (List.append_nil _).symm
  · rw [if_neg h, List.append_nil]
    cases l.head? with
    | some f => exact r.out_takes_other h f
    | none => rfl

theorem Router.lane_takesHead (l : List Flit) (r : Router) (o : Nat) {i : Nat} (h : i < 5) :
    (r.takesHead l o).lane (laneIn i false) = r.lane (laneIn i false) := by
  unfold Router.takesHead
  cases l.head? with
  | some f => exact r.lane_takes o f h
  | none => rfl

theorem Router.rb_takesHead (l : List Flit) (r : Router) (o : Nat) : (r.takesHead l o).rb = r.rb := by
  unfold Router.takesHead
  cases l.head? with
  | some f =>
    dsimp only
    unfold Router.takes
    split <;> rfl
  | none => rfl

/-- Inputs that are named once each give their heads. -/
theorem Router.lane_foldl_gives {l : List Nat} (hl : l.Nodup) (r : Router) (j : Nat) : (l.foldl Router.gives r).lane (laneIn j false) =
    if j ∈ l then (r.lane (laneIn j false)).drop 1 else r.lane (laneIn j false) := by
  induction l generalizing r with
  | nil => rfl
  | cons i l ih =>
    obtain ⟨hi, hl⟩ := List.nodup_cons.mp hl
    rw [List.foldl_cons, ih hl, Router.lane_gives]
    by_cases hj : j = i
    · subst hj
      rw [if_neg hi, if_pos rfl, if_pos List.mem_cons_self]
    · rw [if_neg hj]
      simp only [List.mem_cons, hj, false_or]

theorem Router.foldl_gives_leaves (l : List Nat) (h : ∀ i ∈ l, i < 5) (r : Router) :
    (∀ o, (l.foldl Router.gives r).out o = r.out o) ∧ (l.foldl Router.gives r).rb = r.rb := by
  induction l generalizing r with
  | nil => exact ⟨fun _ => rfl, rfl⟩
  | cons i l ih =>
    obtain ⟨hout, hrb⟩ := ih (fun j hj => h j (List.mem_cons_of_mem _ hj)) (r.gives i)
    exact ⟨fun o => (hout o).trans (r.out_gives (h i List.mem_cons_self) o), hrb⟩

/-- The moves of an entry from lanes `heads`: each output takes the head of its input's. -/
def Router.fed (heads : Nat → List Flit) (ms : List (Nat × Nat)) (r : Router) : Router :=
  ms.foldl (fun r m => r.takesHead (heads m.1) m.2) r

theorem Router.out_fed (heads : Nat → List Flit) (src : Nat → Nat) {os : List Nat} (h : os.Nodup) (r : Router) (p : Nat) :
    (r.fed heads (os.map (fun o => (src o, o)))).out p = r.out p ++ if p ∈ os then (heads (src p)).head?.toList else [] := by
  induction os generalizing r with
  | nil => exact (List.append_nil _).symm
  | cons o os ih =>
    obtain ⟨ho, hos⟩ := List.nodup_cons.mp h
    refine (ih hos (r.takesHead (heads (src o)) o)).trans ?_
    rw [Router.out_takesHead, List.append_assoc]
    by_cases hp : p = o
    · subst hp
      rw [if_neg ho, if_pos rfl, if_pos List.mem_cons_self, List.append_nil]
    · simp only [List.mem_cons, hp, false_or, if_false, List.nil_append]

theorem Router.fed_leaves (heads : Nat → List Flit) (ms : List (Nat × Nat)) (r : Router) :
    (∀ i, i < 5 → (r.fed heads ms).lane (laneIn i false) = r.lane (laneIn i false)) ∧ (r.fed heads ms).rb = r.rb := by
  induction ms generalizing r with
  | nil => exact ⟨fun _ _ => rfl, rfl⟩
  | cons m ms ih =>
    obtain ⟨hlane, hrb⟩ := ih (r.takesHead (heads m.1) m.2)
    exact ⟨fun i hi => (hlane i hi).trans (r.lane_takesHead _ _ hi), hrb.trans (r.rb_takesHead _ _)⟩

/-- The primary moves of an entry: an input that several outputs share gives one flit (R176). -/
def Router.moved (ms : List (Nat × Nat)) (r : Router) : Router :=
  ((ms.map (·.1)).eraseDups.foldl Router.gives r).fed (fun i => r.lane (laneIn i false)) ms

/-! ### A tile whose router alone has changed -/

/-- Nothing but the router of a tile has changed, to `r`. -/
structure State.Routed (s t : State) (n : Nat) (r : Router) : Prop where
  rest : t = { s with tiles := t.tiles }
  other : ∀ m, m ≠ n → t.tile m = s.tile m
  tile : t.tile n = { s.tile n with router := r }

theorem State.Routed.refl (s : State) (n : Nat) : s.Routed s n (s.tile n).router := ⟨rfl, fun _ _ => rfl, rfl⟩

theorem State.Routed.trans {s t u : State} {n : Nat} {q r : Router} (h : s.Routed t n q) (g : t.Routed u n r) : s.Routed u n r :=
  ⟨by rw [g.rest, h.rest], fun m hm => (g.other m hm).trans (h.other m hm), by rw [g.tile, h.tile]⟩

theorem State.Routed.router {s t : State} {n : Nat} {r : Router} (h : s.Routed t n r) : (t.tile n).router = r := by rw [h.tile]

theorem State.routed_onRouter (s : State) (n : Nat) (f : Router → Router) : s.Routed (s.onRouter n f) n (f (s.tile n).router) :=
  ⟨rfl, fun _ hm => State.tile_onRouter_other s hm f, by rw [State.tile_onRouter, State.router_onRouter_same]⟩

theorem State.Routed.onRouter {s t : State} {n : Nat} {r : Router} (h : s.Routed t n r) (f : Router → Router) :
    s.Routed (t.onRouter n f) n (f r) := by
  have hrouted := h.trans (t.routed_onRouter n f)
  rw [h.router] at hrouted
  exact hrouted

theorem State.Routed.settles {s t : State} {n : Nat} {r : Router} (h : s.Routed t n r) : s.Settles t n := by
  refine State.settles_of_ctx n (fun d => ?_) (by rw [h.rest])
  rw [h.tile]
  cases d <;> rfl

theorem State.routed_each {α : Type} {n : Nat} {f : State → α → State} {g : Router → α → Router}
    (hf : ∀ (s t : State) r a, s.Routed t n r → s.Routed (f t a) n (g r a)) (l : List α) {s t : State} {r : Router} (h : s.Routed t n r) :
    s.Routed (t.each l f) n (l.foldl g r) := by
  induction l generalizing t r with
  | nil => exact h
  | cons a l ih => exact ih (hf s t r a h)

theorem State.moveOut_eq (s : State) (n o : Nat) (f : Flit) : s.moveOut n o false f = s.onRouter n (fun r => r.takes o f) := by
  unfold State.moveOut State.onRouter Router.takes
  dsimp only
  split <;> rfl

theorem State.routed_moves (s : State) (n : Nat) (ms : List (Nat × Nat)) : s.Routed (s.moves n false ms) n ((s.tile n).router.moved ms) := by
  unfold State.moves
  dsimp only
  refine State.routed_each (g := fun r m => r.takesHead _ m.2) (fun t u r m h => ?_) ms
    (State.routed_each (fun _ _ r i h => h.onRouter (fun r => r.gives i)) _ (State.Routed.refl s n))
  dsimp only
  unfold Router.takesHead
  cases ((s.tile n).router.lane (laneIn m.1 false)).head? with
  | none => exact h
  | some f =>
    dsimp only
    rw [State.moveOut_eq]
    exact h.onRouter _

/-! ### An entry that runs, and one that holds (R177, R187) -/

/-- The primary moves that an entry names: an input and the output that it feeds. -/
def namedMoves (e : Nat) : List (Nat × Nat) := (outsOf e false).map (fun o => (srcOf e o - 1, o))

theorem mem_outsOf {e o : Nat} : o ∈ outsOf e false ↔ o < 7 ∧ srcOf e o ≠ 0 ∧ sideOf e o = false := by
  unfold outsOf
  rw [List.mem_filter, List.mem_range, Bool.and_eq_true, bne_iff_ne, beq_iff_eq]

theorem nodup_outsOf (e : Nat) : (outsOf e false).Nodup := List.nodup_range.filter _

theorem nodup_eraseDups (l : List Nat) : l.eraseDups.Nodup := by
  match l with
  | [] => exact List.nodup_nil
  | a :: l =>
    rw [List.eraseDups_cons, List.nodup_cons, List.mem_eraseDups, List.mem_filter]
    refine ⟨fun h => ?_, nodup_eraseDups _⟩
    simp at h
termination_by l.length
decreasing_by exact Nat.lt_succ_of_le (List.length_filter_le _ _)

theorem mem_inputs {e i : Nat} : i ∈ ((namedMoves e).map (·.1)).eraseDups ↔ (namedMoves e).any (fun m => m.1 == i) = true := by
  rw [List.mem_eraseDups, List.mem_map, List.any_eq_true]
  simp only [beq_iff_eq]

/-- Every input that an entry names is one of the router's. -/
theorem inputs_lt {e : Nat} (h : ∀ o, o < 7 → srcOf e o ≤ 5) : ∀ i ∈ ((namedMoves e).map (·.1)).eraseDups, i < 5 := by
  intro i hi
  rw [List.mem_eraseDups, namedMoves, List.map_map, List.mem_map] at hi
  obtain ⟨o, ho, rfl⟩ := hi
  obtain ⟨hlt, hsrc, _⟩ := mem_outsOf.mp ho
  have hle := h o hlt
  show srcOf e o - 1 < 5
  omega

/-- What the moves of an entry do to the lanes and the outputs of its router. -/
theorem Router.moved_leaves {e : Nat} (h : ∀ o, o < 7 → srcOf e o ≤ 5) (r : Router) :
    (∀ i, i < 5 → (r.moved (namedMoves e)).lane (laneIn i false) =
      if (namedMoves e).any (fun m => m.1 == i) then (r.lane (laneIn i false)).drop 1 else r.lane (laneIn i false)) ∧
    (∀ o, o < 7 → (r.moved (namedMoves e)).out o = r.out o ++
      if srcOf e o ≠ 0 ∧ sideOf e o = false then (r.lane (laneIn (srcOf e o - 1) false)).head?.toList else []) ∧
    (r.moved (namedMoves e)).rb = r.rb := by
  obtain ⟨hout, hrb⟩ := Router.foldl_gives_leaves _ (inputs_lt h) r
  obtain ⟨hlane', hrb'⟩ := Router.fed_leaves (fun i => r.lane (laneIn i false)) (namedMoves e)
    (((namedMoves e).map (·.1)).eraseDups.foldl Router.gives r)
  refine ⟨fun i hi => ?_, fun o ho => ?_, hrb'.trans hrb⟩
  · refine (hlane' i hi).trans ?_
    rw [Router.lane_foldl_gives (nodup_eraseDups _)]
    simp only [mem_inputs]
  · refine (Router.out_fed _ (fun o => srcOf e o - 1) (nodup_outsOf e) _ o).trans ?_
    rw [hout]
    simp only [mem_outsOf, ho, true_and]

/-- A router at its beat, with the PHASE switches that are due (R180). -/
def State.atDue (s : State) (n : Nat) : State := s.onRouter n Router.due

/-- Whether every primary input that the entry at a beat names holds a flit, and every primary output has room. -/
def State.canRun (s : State) (n : Nat) : Bool :=
  (namedMoves (s.tile n).router.due.entry).all (fun m =>
    !((s.tile n).router.due.lane (laneIn m.1 false)).isEmpty && (s.atDue n).room n m.2 false)

theorem State.router_atDue (s : State) (n : Nat) : ((s.atDue n).tile n).router = (s.tile n).router.due := State.router_onRouter_same _ _ _

/-- RB steps. -/
def State.stepped (s : State) (n : Nat) : State := s.onRouter n (fun r => { r with rb := r.rb + 1 })

/-- The stages of a scheduled beat. -/
theorem State.scheduled_eq {s : State} {n : Nat} (hprim : (s.tile n).prim.running = false ∨ (s.tile n).router.rb ≤ (s.tile n).prim.tc.toNat) :
    s.scheduled n =
      if s.canRun n = true then
        ((((s.atDue n).moves n false (namedMoves (s.tile n).router.due.entry)).moves n true
          (((s.atDue n).moves n false (namedMoves (s.tile n).router.due.entry)).sideMoves n (s.tile n).router.due.entry)).stepped n)
      else match (s.atDue n).absentPort n (s.tile n).router.due.entry with
        | some p => ((s.atDue n).emit 0x0308 [.w4 n, .w4 p]).tileStop n
        | none => ((s.atDue n).each ((s.atDue n).lateDealers n (s.tile n).router.due.entry)
            (fun s k => s.bumpI R.DL_PLATE_BEATS k 1)).routerSlip n 1 := by
  have hprim' : ¬ (((s.atDue n).tile n).prim.running && decide (((s.atDue n).tile n).prim.tc.toNat < ((s.atDue n).tile n).router.rb)) = true := by
    rw [State.router_atDue, State.atDue, State.tile_onRouter, Bool.and_eq_true, decide_eq_true_eq]
    rintro ⟨hrun, hlt⟩
    obtain h | h := hprim
    · exact absurd (hrun.symm.trans h) (by decide)
    · exact absurd h (not_le.mpr hlt)
  rw [← State.router_atDue]
  unfold State.scheduled
  dsimp only
  refine (if_neg hprim').trans ?_
  unfold State.canRun
  rw [← State.router_atDue]
  rfl

theorem State.settles_routerSlip (s : State) {n : Nat} (hf : tileField n < 48) (k : Nat) : s.Settles (s.routerSlip n k) n := by
  have hslips := (s.routed_onRouter n (fun r => { r with slips := r.slips + k })).settles
  refine hslips.trans ?_
  obtain ⟨htiles, _, _, _, hfreezing, _⟩ := (s.onRouter n (fun r => { r with slips := r.slips + k })).fieldSlip_frame (tileField n)
    ((s.tile n).beats + (s.tile n).router.rb + (s.tile n).router.slips) k hf
  exact State.settles_of_tiles n htiles hfreezing

theorem State.settles_dealers (s : State) (n : Nat) (l : List Nat) :
    s.Settles (s.each l (fun s k => s.bumpI R.DL_PLATE_BEATS k 1)) n :=
  State.settles_each n _ (fun t k => (State.settles_of_tiles n rfl rfl : t.Settles (t.bumpI R.DL_PLATE_BEATS k 1) n)) l s

section
variable {s : State} {n : Nat} (hcalm : s.calm n) (hcorr : (s.tile n).corr.length ≤ 1) (hbeat : s.routerBeat n = s.scheduled n)
  (hprim : (s.tile n).prim.running = false ∨ (s.tile n).router.rb ≤ (s.tile n).prim.tc.toNat)
include hcalm hcorr hbeat hprim

/-- An entry without side moves that runs (R175 to R177). -/
theorem exec_routerEntry_runs (hcan : s.canRun n = true) (hside : outsOf (s.tile n).router.due.entry true = []) :
    ∃ t, exec (.routerEntry n) s = .next (t.pumpEdge n) ∧ s.Routed t n
      { (s.tile n).router.due.moved (namedMoves (s.tile n).router.due.entry) with
        rb := ((s.tile n).router.due.moved (namedMoves (s.tile n).router.due.entry)).rb + 1 } := by
  have hmoves := (s.atDue n).routed_moves n (namedMoves (s.tile n).router.due.entry)
  rw [State.router_atDue] at hmoves
  have hrouted := ((s.routed_onRouter n Router.due).trans hmoves).onRouter (fun r => { r with rb := r.rb + 1 })
  have hside' : ∀ t : State, t.sideMoves n (s.tile n).router.due.entry = [] := by
    intro t
    unfold State.sideMoves
    rw [hside]
    rfl
  refine ⟨_, exec_routerEntry_settles hcalm hcorr ?_ hrouted.settles, hrouted⟩
  rw [hbeat, State.scheduled_eq hprim, if_pos hcan, hside']
  rfl

/-- An entry that waits: a slip of the router, and a beat of DL_PLATE per dealer that it waits for (R177, R240). -/
theorem exec_routerEntry_waits (hfield : s.fieldOn (tileField n) = true) (hcan : s.canRun n = false)
    (habsent : (s.atDue n).absentPort n (s.tile n).router.due.entry = none) : exec (.routerEntry n) s =
      .next ((((s.atDue n).each ((s.atDue n).lateDealers n (s.tile n).router.due.entry)
        (fun s k => s.bumpI R.DL_PLATE_BEATS k 1)).routerSlip n 1).pumpEdge n) := by
  have hdealers := (s.atDue n).settles_dealers n ((s.atDue n).lateDealers n (s.tile n).router.due.entry)
  have hslip := State.settles_routerSlip ((s.atDue n).each ((s.atDue n).lateDealers n (s.tile n).router.due.entry)
    (fun s k => s.bumpI R.DL_PLATE_BEATS k 1)) (State.field_of_on hfield) 1
  refine exec_routerEntry_settles hcalm hcorr ?_ (((s.routed_onRouter n Router.due).settles.trans hdealers).trans hslip)
  rw [hbeat, State.scheduled_eq hprim, if_neg (by rw [hcan]; decide), habsent]

/-- An entry that holds at an absent port: the absent-port fault (R187). -/
theorem exec_routerEntry_absent {p : Nat} (hcan : s.canRun n = false)
    (habsent : (s.atDue n).absentPort n (s.tile n).router.due.entry = some p) :
    exec (.routerEntry n) s = .next ((((s.atDue n).emit 0x0308 [.w4 n, .w4 p]).tileStop n).pumpEdge n) := by
  refine exec_routerEntry_settles hcalm hcorr ?_ (((s.routed_onRouter n Router.due).settles.trans
    (State.settles_emit _ n _ _)).trans (State.settles_tileStop _ n))
  rw [hbeat, State.scheduled_eq hprim, if_neg (by rw [hcan]; decide), habsent]

end

/-- The flits of a router's outputs: on their way, or in the tile's own lanes. -/
theorem Router.out_way (r : Router) {o : Nat} (h : o < 4) : r.out o = r.flight.get (2 * o) [] := if_pos h

theorem Router.out_own (r : Router) {o : Nat} (h : 4 ≤ o) : r.out o = r.lane (laneOut (o - 4) false) := if_neg (not_lt.mpr h)

end Sys2Proof.Machine

/-! PROOF. The neighbour test, and with it the statement about routers (O17). -/

namespace Sys2Proof.Machine

/-! ### The map that the test makes (R192 to R195) -/

/-- Whether the test judges a tile: its field has power and is neither folded nor lost. -/
def State.ntLive (s : State) (n : Nat) : Bool := !s.fieldOff (tileField n) && bitOf (s.rd64 R.PW_RAIL_LO_ON R.PW_RAIL_HI_ON) (tileField n)

/-- The tiles that the test makes worse. -/
def State.ntNews (s : State) (r : NtIn) : List Nat :=
  (allTiles.filter (fun n => s.ntLive n && s.ntBad r n)).filter
    (fun n => decide (stateRank (s.fab.dmap.tiles.get n 0) < stateRank (ntVerdict r n)))

/-- The links that the test marks dead. -/
def State.ntLinks (s : State) (r : NtIn) : List Nat :=
  s.ntDead r (fun n => (allTiles.filter (fun n => s.ntLive n && s.ntBad r n)).contains n || s.tileState n == 1 || s.tileState n == 2)

/-- A map that has gained what a verdict says of tiles, and dead links. -/
def DefectMap.gains (d : DefectMap) (news : List Nat) (verdict : Nat → Byte) (links : List Nat) : DefectMap :=
  { d with tiles := news.foldl (fun m n => m.put n (verdict n) 0) d.tiles, linkDead := links.foldl setIns d.linkDead }

/-- The map that the test makes. -/
def State.ntMap (s : State) (r : NtIn) : DefectMap := s.fab.dmap.gains (s.ntNews r) (ntVerdict r) (s.ntLinks r)

theorem State.mem_ntNews {s : State} {r : NtIn} {n : Nat} : n ∈ s.ntNews r ↔ n < 1152 ∧
    (s.fieldOff (tileField n) = false ∧ bitOf (s.rd64 R.PW_RAIL_LO_ON R.PW_RAIL_HI_ON) (tileField n) = true) ∧ s.ntBad r n = true ∧
      stateRank (s.fab.dmap.tiles.get n 0) < stateRank (ntVerdict r n) := by
  unfold State.ntNews State.ntLive allTiles
  rw [List.mem_filter, List.mem_filter, List.mem_range, Bool.and_eq_true, Bool.and_eq_true, Bool.not_eq_true', decide_eq_true_eq]
  tauto

theorem get_foldl_put (v : Nat → Byte) (l : List Nat) (m : Map Byte) (n : Nat) :
    (l.foldl (fun m t => m.put t (v t) 0) m).get n 0 = if n ∈ l then v n else m.get n 0 := by
  induction l generalizing m with
  | nil => rfl
  | cons t l ih =>
    rw [List.foldl_cons, ih]
    by_cases hn : n = t
    · subst hn
      rw [if_pos List.mem_cons_self, Map.get_put_same]
      exact ite_self _
    · rw [Map.get_put_other _ _ _ _ _ _ hn]
      simp only [List.mem_cons, hn, false_or]

theorem contains_foldl_setIns {d : List Nat} {x : Nat} (h : d.contains x = true) (l : List Nat) : (l.foldl setIns d).contains x = true := by
  induction l generalizing d with
  | nil => exact h
  | cons k l ih => exact ih (by rw [contains_setIns, h, Bool.or_true])

theorem DefectMap.tiles_gains (d : DefectMap) (news : List Nat) (verdict : Nat → Byte) (links : List Nat) (n : Nat) :
    (d.gains news verdict links).tiles.get n 0 = if n ∈ news then verdict n else d.tiles.get n 0 := get_foldl_put verdict news d.tiles n

theorem DefectMap.linkDead_gains (d : DefectMap) (news : List Nat) (verdict : Nat → Byte) (links : List Nat) {l : Nat}
    (h : d.linkDead.contains l = true) : (d.gains news verdict links).linkDead.contains l = true := contains_foldl_setIns h links

theorem DefectMap.lost_gains (d : DefectMap) (news : List Nat) (verdict : Nat → Byte) (links : List Nat) :
    (d.gains news verdict links).lost = d.lost := rfl

/-- A tile that the test finds bad is what the verdict says unless the map has it as bad already, and no link comes back. -/
theorem State.ntMap_leaves (s : State) (r : NtIn) :
    (∀ n, n < 1152 → (s.ntMap r).tiles.get n 0 =
      if (s.fieldOff (tileField n) = false ∧ bitOf (s.rd64 R.PW_RAIL_LO_ON R.PW_RAIL_HI_ON) (tileField n) = true) ∧ s.ntBad r n = true ∧
        stateRank (s.fab.dmap.tiles.get n 0) < stateRank (ntVerdict r n)
      then ntVerdict r n else s.fab.dmap.tiles.get n 0) ∧
    ∀ l, s.linkDead l = true → (s.ntMap r).linkDead.contains l = true := by
  refine ⟨fun n hn => ?_, fun l hl => ?_⟩
  · rw [State.ntMap, DefectMap.tiles_gains]
    simp only [State.mem_ntNews, hn, true_and]
  · rw [State.ntMap]
    exact DefectMap.linkDead_gains _ _ _ _ hl

/-! ### The stages of the test's end (R191, R194, R196) -/

/-- The fabric and the number of the hand are as before. -/
def State.SameFab (s t : State) : Prop := t.fab = s.fab ∧ t.hand.hand = s.hand.hand

theorem State.SameFab.trans {s t u : State} (h : s.SameFab t) (g : t.SameFab u) : s.SameFab u := ⟨g.1.trans h.1, g.2.trans h.2⟩

theorem State.Quiet.sameFab {s t : State} (h : s.Quiet t) : s.SameFab t :=
  ⟨h.fab, (by have := congrArg (fun u : State => u.hand.hand) h.still; exact this)⟩

theorem State.sameFab_each {α : Type} {f : State → α → State} (h : ∀ (s : State) a, s.SameFab (f s a)) (l : List α) (s : State) :
    s.SameFab (s.each l f) := by
  induction l generalizing s with
  | nil => exact ⟨rfl, rfl⟩
  | cons a l ih => exact (h s a).trans (ih (f s a))

/-- The map record and the working copy are written. -/
def State.dmapKept (s : State) : State := (s.nearWr s.lowPos (bandOff + 0x40000) s.dmapBytes).ledger 0x0003 s.dmapBytes

theorem State.sameFab_dmapKept (s : State) : s.SameFab s.dmapKept :=
  ((s.nearWr s.lowPos (bandOff + 0x40000) s.dmapBytes).quiet_ledger 0x0003 s.dmapBytes).sameFab

/-- A state whose map is `d`, of the next generation. -/
def State.withMap (s : State) (d : DefectMap) : State :=
  { s with fab := { s.fab with dmap := { d with generation := s.fab.dmap.generation + 1 } } }

theorem State.dmapSet_eq (s : State) (d : DefectMap) : s.dmapSet d =
    ((s.withMap d).dmapKept.wr R.FB_STATUS_GOOD_TILES (s.withMap d).dmapKept.goodTiles).emit 0x0312
      [.w8 (s.fab.dmap.generation + 1).toNat] := rfl

theorem State.sameFab_wr (s : State) (f : Fld) (v : Nat) : s.SameFab (s.wr f v) := ⟨rfl, rfl⟩

theorem State.sameFab_dmapSet (s : State) (d : DefectMap) : (s.withMap d).SameFab (s.dmapSet d) := by
  rw [State.dmapSet_eq]
  exact ((s.withMap d).sameFab_dmapKept.trans (State.sameFab_wr _ _ _)).trans (State.quiet_emit _ _ _).sameFab

/-- The test's links and map, before its tiles are told. -/
def State.ntMapped (s : State) (r : NtIn) : State :=
  if s.ntMap r = s.fab.dmap then (s.each (s.ntLinks r) (fun s l => s.emit 0x0306 [.w4 l, .w4 5])).dmapKept
  else (s.each (s.ntLinks r) (fun s l => s.emit 0x0306 [.w4 l, .w4 5])).dmapSet (s.ntMap r)

/-- The test's tiles are told, and the geometry table follows the map. -/
def State.ntTold (s : State) (r : NtIn) : State :=
  (((s.ntMapped r).each (s.ntNews r) (fun s t => s.emit 0x0302 [.w4 t, .w4 (ntVerdict r t).toNat])).geomBuild).goodLow s.goodTiles

/-- The registers show that the test is over. -/
def State.ntShown (s : State) : State :=
  (((s.wr R.FB_CTRL_NT_START 0).wr R.FB_STATUS_NT_BUSY 0).wr R.FB_STATUS_NT_DONE 1).wr R.FB_STATUS_GOOD_TILES s.goodTiles

theorem State.neighbourTest_eq (s : State) (r : NtIn) :
    s.neighbourTest r = (s.ntTold r).ntShown.emit 0x0301 [.w4 (s.ntTold r).ntShown.goodTiles] := rfl

/-- The map is `d` of some generation; no test begins or ends, and the hand has its number. -/
structure State.Mapped (s t : State) (d : DefectMap) : Prop where
  tiles : t.fab.dmap.tiles = d.tiles
  links : t.fab.dmap.linkDead = d.linkDead
  lost : t.fab.dmap.lost = d.lost
  nt : t.fab.nt = s.fab.nt
  hand : t.hand.hand = s.hand.hand

theorem State.Mapped.trans {s t u : State} {d : DefectMap} (h : s.Mapped t d) (g : t.SameFab u) : s.Mapped u d := by
  obtain ⟨hfab, hhand⟩ := g
  exact ⟨by rw [hfab, h.tiles], by rw [hfab, h.links], by rw [hfab, h.lost], by rw [hfab, h.nt], hhand.trans h.hand⟩

theorem State.SameFab.mapped_withMap {s u : State} (h : s.SameFab u) (d : DefectMap) : s.Mapped (u.withMap d) d :=
  ⟨rfl, rfl, rfl, by rw [← h.1]; rfl, h.2⟩

theorem State.SameFab.mapped {s u : State} (h : s.SameFab u) : s.Mapped u s.fab.dmap :=
  State.Mapped.trans ⟨rfl, rfl, rfl, rfl, rfl⟩ h

theorem State.sameFab_ntShown (s : State) : s.SameFab s.ntShown := by
  unfold State.ntShown
  exact (((s.sameFab_wr _ _).trans (State.sameFab_wr _ _ _)).trans (State.sameFab_wr _ _ _)).trans (State.sameFab_wr _ _ _)

theorem State.mapped_ntMapped (s : State) (r : NtIn) : s.Mapped (s.ntMapped r) (s.ntMap r) := by
  have hlinks : s.SameFab (s.each (s.ntLinks r) (fun s l => s.emit 0x0306 [.w4 l, .w4 5])) :=
    State.sameFab_each (fun s l => (s.quiet_emit 0x0306 [.w4 l, .w4 5]).sameFab) _ s
  unfold State.ntMapped
  generalize s.each (s.ntLinks r) _ = u at hlinks
  split
  · next hsame =>
    rw [hsame]
    exact (hlinks.trans u.sameFab_dmapKept).mapped
  · exact (hlinks.mapped_withMap (s.ntMap r)).trans (u.sameFab_dmapSet (s.ntMap r))

theorem State.sameFab_goodLow (s : State) (before : Nat) : s.SameFab (s.goodLow before) := by
  unfold State.goodLow
  split
  · exact (s.quiet_emit _ _).sameFab
  · exact ⟨rfl, rfl⟩

theorem State.sameFab_geomBuild (s : State) : s.SameFab s.geomBuild := by
  have hnear : s.SameFab (s.nearWr s.lowPos bandOff s.geomBytes) := ⟨rfl, rfl⟩
  exact hnear.trans (State.quiet_emit _ _ _).sameFab

theorem State.mapped_neighbourTest (s : State) (r : NtIn) : s.Mapped (s.neighbourTest r) (s.ntMap r) := by
  have htold := State.sameFab_each (f := fun s t => s.emit 0x0302 [.w4 t, .w4 (ntVerdict r t).toNat])
    (fun s t => (s.quiet_emit 0x0302 [.w4 t, .w4 (ntVerdict r t).toNat]).sameFab) (s.ntNews r) (s.ntMapped r)
  have hgeom := (htold.trans (State.sameFab_geomBuild _)).trans (State.sameFab_goodLow _ s.goodTiles)
  rw [State.neighbourTest_eq]
  exact ((s.mapped_ntMapped r).trans hgeom).trans ((State.sameFab_ntShown _).trans (State.quiet_emit _ _ _).sameFab)

theorem State.ntShown_on (s : State) : s.ntShown.on R.FB_STATUS_NT_DONE = true ∧ s.ntShown.on R.FB_STATUS_NT_BUSY = false ∧
    s.ntShown.on R.FB_CTRL_NT_START = false := by
  unfold State.ntShown
  refine ⟨?_, ?_, ?_⟩
  · rw [State.on_wr_other _ R.FB_STATUS_GOOD_TILES R.FB_STATUS_NT_DONE _ (by decide) (by decide)]
    exact State.on_wr_same _ R.FB_STATUS_NT_DONE 1 (by decide)
  · rw [State.on_wr_other _ R.FB_STATUS_GOOD_TILES R.FB_STATUS_NT_BUSY _ (by decide) (by decide),
      State.on_wr_other _ R.FB_STATUS_NT_DONE R.FB_STATUS_NT_BUSY _ (by decide) (by decide)]
    exact State.on_wr_same _ R.FB_STATUS_NT_BUSY 0 (by decide)
  · rw [State.on_wr_other _ R.FB_STATUS_GOOD_TILES R.FB_CTRL_NT_START _ (by decide) (by decide),
      State.on_wr_other _ R.FB_STATUS_NT_DONE R.FB_CTRL_NT_START _ (by decide) (by decide),
      State.on_wr_other _ R.FB_STATUS_NT_BUSY R.FB_CTRL_NT_START _ (by decide) (by decide)]
    exact State.on_wr_same _ R.FB_CTRL_NT_START 0 (by decide)

/-! ### What the test has judged -/

/-- What holds of a state once the test has judged the tiles of another. -/
def State.ntJudged (s : State) (r : NtIn) (t : State) : Prop :=
  (∀ n, n < 1152 → t.fab.dmap.tiles.get n 0 =
    if (s.fieldOff (tileField n) = false ∧ bitOf (s.rd64 R.PW_RAIL_LO_ON R.PW_RAIL_HI_ON) (tileField n) = true) ∧ s.ntBad r n = true ∧
      stateRank (s.fab.dmap.tiles.get n 0) < stateRank (ntVerdict r n)
    then ntVerdict r n else s.fab.dmap.tiles.get n 0) ∧
  (∀ l, s.linkDead l = true → t.linkDead l = true) ∧ t.fab.dmap.lost = s.fab.dmap.lost ∧
  t.on R.FB_STATUS_NT_DONE = true ∧ t.on R.FB_STATUS_NT_BUSY = false ∧ t.on R.FB_CTRL_NT_START = false ∧ t.hand.hand = s.hand.hand

theorem State.ntJudged_neighbourTest (s : State) (r : NtIn) : s.ntJudged r (s.neighbourTest r) := by
  have hmap := s.mapped_neighbourTest r
  obtain ⟨htiles, hlinks⟩ := s.ntMap_leaves r
  obtain ⟨hdone, hbusy, hstart⟩ := (s.ntTold r).ntShown_on
  have hq := (s.ntTold r).ntShown.quiet_emit 0x0301 [.w4 (s.ntTold r).ntShown.goodTiles]
  rw [← State.neighbourTest_eq] at hq
  refine ⟨fun n hn => ?_, fun l hl => ?_, ?_, ?_, ?_, ?_, hmap.hand⟩
  · rw [hmap.tiles]
    exact htiles n hn
  · unfold State.linkDead
    rw [hmap.links]
    exact hlinks l hl
  · rw [hmap.lost, State.ntMap, DefectMap.lost_gains]
  · rw [hq.on _ (by decide), hdone]
  · rw [hq.on _ (by decide), hbusy]
  · rw [hq.on _ (by decide), hstart]

/-- What the test reads of a state is the same in both: the fields and positions that take part, and the map. -/
structure State.SameTest (s t : State) : Prop where
  off : ∀ f, t.fieldOff f = s.fieldOff f
  rails : t.rd64 R.PW_RAIL_LO_ON R.PW_RAIL_HI_ON = s.rd64 R.PW_RAIL_LO_ON R.PW_RAIL_HI_ON
  svc : ∀ k, t.inSvc k = s.inSvc k
  map : t.fab.dmap = s.fab.dmap
  hand : t.hand.hand = s.hand.hand

theorem State.SameTest.ntBad {s t : State} (h : s.SameTest t) (r : NtIn) (n : Nat) : t.ntBad r n = s.ntBad r n := by
  have habstains : ∀ d, t.abstains r n d = s.abstains r n d := by
    intro d
    unfold State.abstains
    simp only [h.off, h.rails, h.svc]
  unfold State.ntBad State.failers
  simp only [habstains]

theorem State.SameTest.judged {s t u : State} {r : NtIn} (h : s.SameTest t) (hu : t.ntJudged r u) : s.ntJudged r u := by
  obtain ⟨htiles, hlinks, hlost, hdone, hbusy, hstart, hhand⟩ := hu
  refine ⟨fun n hn => ?_, fun l hl => hlinks l ?_, hlost.trans (by rw [h.map]), hdone, hbusy, hstart, hhand.trans h.hand⟩
  · rw [htiles n hn, h.off, h.rails, h.ntBad, h.map]
  · unfold State.linkDead
    rw [h.map]
    exact hl

/-! ### NT_START (R191, R214, R544) -/

/-- The test has begun (R191). -/
def State.ntBegun (s : State) (r : NtIn) : State :=
  (({ s with fab := { s.fab with nt := some (r, s.ticks) } } : State).wr R.FB_CTRL_NT_START 1).wr R.FB_STATUS_NT_BUSY 1

/-- The 20 s of a test that has just begun are over, and no test is under way. -/
def State.ntPassed (s : State) (r : NtIn) : State :=
  { s.ntBegun r with ticks := max s.ticks (s.ticks + ntTicks), fab := { s.fab with nt := none } }

/-- Whether NT_START may begin the test (R191, R214). -/
def State.mayTest (s : State) (who : Agent) : Prop :=
  s.mayWrite who R.FB_CTRL_NT_START.off = true ∧ s.hand.running = none ∧ s.hand.waiting = none ∧ s.fab.nt = none

theorem State.mayTest_iff {s : State} {who : Agent} : (s.mayWrite who R.FB_CTRL_NT_START.off && s.hand.running.isNone &&
    s.hand.waiting.isNone && s.fab.nt.isNone) = true ↔ s.mayTest who := by
  rw [Bool.and_eq_true, Bool.and_eq_true, Bool.and_eq_true, Option.isNone_iff_eq_none, Option.isNone_iff_eq_none,
    Option.isNone_iff_eq_none, and_assoc, and_assoc]
  rfl

theorem exec_ntStart_ignored {s : State} {who : Agent} (h : ¬ s.mayTest who) (r : NtIn) : exec (.ntStart who r) s = .next s :=
  congrArg Host.Outcome.next (if_neg (fun hm => h (State.mayTest_iff.mp hm)))

theorem exec_ntStart {s : State} {who : Agent} (h : s.mayTest who) (r : NtIn) : exec (.ntStart who r) s =
    .next (if s.rd R.HI_STATUS_STAGE = 3 then (s.ntBegun r).ntWait else s.ntBegun r) :=
  congrArg Host.Outcome.next (if_pos (State.mayTest_iff.mpr h))

theorem State.ntBegun_rd (s : State) (r : NtIn) (f : Fld) (h1 : R.FB_CTRL_NT_START.apart 0 f 0 = true) (h2 : R.FB_STATUS_NT_BUSY.apart 0 f 0 = true) :
    (s.ntBegun r).rd f = s.rd f := by
  unfold State.ntBegun
  rw [State.rd_wr_other _ R.FB_STATUS_NT_BUSY f _ (by decide) h2, State.rd_wr_other _ R.FB_CTRL_NT_START f _ (by decide) h1]
  rfl

theorem State.ntBegun_on (s : State) (r : NtIn) : (s.ntBegun r).on R.FB_STATUS_NT_BUSY = true ∧ (s.ntBegun r).on R.FB_CTRL_NT_START = true := by
  unfold State.ntBegun
  refine ⟨State.on_wr_same _ R.FB_STATUS_NT_BUSY 1 (by decide), ?_⟩
  rw [State.on_wr_other _ R.FB_STATUS_NT_BUSY R.FB_CTRL_NT_START _ (by decide) (by decide)]
  exact State.on_wr_same _ R.FB_CTRL_NT_START 1 (by decide)

/-- At stage 3 of start-up the next stage waits for the test's end (R544). -/
theorem State.ntWait_ntBegun {s : State} (h : s.rd R.HI_STATUS_STAGE = 3) (r : NtIn) :
    (s.ntBegun r).ntWait = ((s.ntPassed r).neighbourTest r).wr R.HI_STATUS_STAGE 4 := by
  have hstage : (s.ntBegun r).rd R.HI_STATUS_STAGE = 3 := (s.ntBegun_rd r _ (by decide) (by decide)).trans h
  exact if_pos hstage

theorem State.sameTest_ntPassed (s : State) (r : NtIn) : s.SameTest (s.ntPassed r) := by
  have hrd : ∀ f : Fld, R.FB_CTRL_NT_START.apart 0 f 0 = true → R.FB_STATUS_NT_BUSY.apart 0 f 0 = true →
      (s.ntPassed r).rd f = s.rd f := fun f h1 h2 => s.ntBegun_rd r f h1 h2
  refine ⟨fun f => ?_, ?_, fun k => ?_, rfl, rfl⟩
  · unfold State.fieldOff State.folded State.lost State.rd64
    rw [hrd _ (by decide) (by decide), hrd _ (by decide) (by decide), hrd _ (by decide) (by decide), hrd _ (by decide) (by decide)]
  · unfold State.rd64
    rw [hrd _ (by decide) (by decide), hrd _ (by decide) (by decide)]
  · unfold State.inSvc State.rd64
    rw [hrd _ (by decide) (by decide), hrd _ (by decide) (by decide)]

/-- The next stage changes nothing that the test has judged. -/
theorem State.ntJudged_wr_stage {s t : State} {r : NtIn} (h : s.ntJudged r t) : s.ntJudged r (t.wr R.HI_STATUS_STAGE 4) := by
  obtain ⟨htiles, hlinks, hlost, hdone, hbusy, hstart, hhand⟩ := h
  refine ⟨htiles, hlinks, hlost, ?_, ?_, ?_, hhand⟩
  · rw [State.on_wr_other _ R.HI_STATUS_STAGE R.FB_STATUS_NT_DONE _ (by decide) (by decide), hdone]
  · rw [State.on_wr_other _ R.HI_STATUS_STAGE R.FB_STATUS_NT_BUSY _ (by decide) (by decide), hbusy]
  · rw [State.on_wr_other _ R.HI_STATUS_STAGE R.FB_CTRL_NT_START _ (by decide) (by decide), hstart]

/-- The test that NT_START begins at stage 3 of start-up. -/
theorem exec_ntStart_stage {s : State} {who : Agent} (h : s.mayTest who) (r : NtIn) (hstage : s.rd R.HI_STATUS_STAGE = 3) :
    ∃ t, exec (.ntStart who r) s = .next t ∧ s.ntJudged r t ∧ t.fab.nt = none ∧ t.rd R.HI_STATUS_STAGE = 4 := by
  refine ⟨((s.ntPassed r).neighbourTest r).wr R.HI_STATUS_STAGE 4, ?_, ?_, ?_, State.rd_wr_same _ R.HI_STATUS_STAGE 4 (by decide)⟩
  · rw [exec_ntStart h, if_pos hstage, State.ntWait_ntBegun hstage]
  · exact State.ntJudged_wr_stage ((s.sameTest_ntPassed r).judged (State.ntJudged_neighbourTest _ r))
  · show ((s.ntPassed r).neighbourTest r).fab.nt = none
    rw [((s.ntPassed r).mapped_neighbourTest r).nt]
    rfl

/-- The test that NT_START begins otherwise shows as NT_BUSY (R191). -/
theorem exec_ntStart_begins {s : State} {who : Agent} (h : s.mayTest who) (r : NtIn) (hstage : s.rd R.HI_STATUS_STAGE ≠ 3) :
    exec (.ntStart who r) s = .next (s.ntBegun r) := by
  rw [exec_ntStart h, if_neg hstage]

/-! ### The statement -/

/-- Settles O17: a scheduled beat is the moves of the router alone (`moved_leaves`), a slip or the absent-port fault, each of which leaves the tile
at rest; the neighbour test is followed through its stages by the map that it makes. -/
theorem routerAndNeighbour : Obligations.RouterAndNeighbour := by
  unfold Obligations.RouterAndNeighbour
  refine ⟨fun s n hcalm hcorr => ⟨fun h => ?_, fun hfield hstall hmode hstarted hend hbefore => ?_⟩,
    fun s who r => ⟨fun hmay hstage => ?_, fun hmay hstage => ?_, s.ntJudged_neighbourTest r, fun hmay => ?_⟩⟩
  · exact exec_routerEntry_settles hcalm hcorr (State.routerBeat_nothing h) (State.Settles.refl s n)
  · have hbeat := State.routerBeat_scheduled hfield hstall hmode hstarted hend hbefore
    intro r e u prim can head hprim
    refine ⟨fun hcan hsrc hside => ?_, fun hcan habsent => ?_, fun p hcan habsent => ?_⟩
    · obtain ⟨t, ht, hrouted⟩ := exec_routerEntry_runs hcalm hcorr hbeat hprim hcan hside
      obtain ⟨hlane, hout, hrb⟩ := Router.moved_leaves hsrc (s.tile n).router.due
      refine ⟨t, ht, ?_, fun i hi => ?_, fun o h4 h7 => ?_, fun o h4 => ?_, ?_, ?_, ?_, ?_, ?_, hrouted.other⟩
      · rw [hrouted.router, hrb]
      · rw [hrouted.router]
        exact hlane i hi
      · rw [hrouted.router, ← Router.out_own _ h4, ← Router.out_own _ h4]
        exact hout o h7
      · rw [hrouted.router, ← Router.out_way _ h4, ← Router.out_way _ h4]
        exact hout o (by omega)
      · rw [hrouted.tile]
      · rw [hrouted.tile]
      · rw [hrouted.rest]
      · rw [hrouted.rest]
      · rw [hrouted.rest]
    · exact exec_routerEntry_waits hcalm hcorr hbeat hprim hfield hcan habsent
    · exact exec_routerEntry_absent hcalm hcorr hbeat hprim hcan habsent
  · obtain ⟨hbusy, hstart⟩ := s.ntBegun_on r
    exact ⟨_, exec_ntStart_begins hmay r hstage, rfl, hbusy, hstart, rfl, rfl, rfl⟩
  · exact exec_ntStart_stage hmay r hstage
  · exact exec_ntStart_ignored hmay r

end Sys2Proof.Machine
